-- ==== Sys2Proof/Word.lean ====
section
/-! DEFINITION. The byte and word types of the node (R10, R11): every multi-byte integer is sent least significant byte
first and a signed integer is in two's complement. Only the types and plain names stand here; the byte-order, packing and
CRC helpers are in Sys2Proof/Machine/Bits.lean. -/

namespace Sys2Proof

/-- One byte of a frame, a store or a memory. -/
abbrev Byte := BitVec 8

/-- A 16-bit payload field. -/
abbrev Half := BitVec 16

/-- A 32-bit payload field or register. -/
abbrev Word := BitVec 32

end Sys2Proof
end

