-- ==== Sys2Proof/Syntax.lean ====
section
/-! DEFINITION. The commands of the block: one constructor of `Instr` per row of spec/opcode_table.json. A row that is an
opcode carries its sender's part of the frame (`Req`) and its payload fields in payload order; a row that is an event of the
hardware or of the world outside carries `dt`, the nanoseconds since the command before it, and what the hardware measured or
received. A row without `dt` happens at a boundary of chain time (CONTROL_TICK moves chain time to it). -/

namespace Sys2Proof

/-- Who sends a frame: host port A (0xF0), host port B (0xF1), the service port (0xF8) (Table 4.1). -/
inductive Sender where
  | hostA | hostB | svc
  deriving DecidableEq, Repr

/-- The part of a request frame that is not payload: its sender, whether it carries a tag that passed (R219), whether it was
sent to the broadcast address, its SEQ and SWEEP fields and its HOP on arrival. -/
structure Req where
  sender : Sender
  auth : Bool
  bcast : Bool
  seq : Nat
  sweep : Nat
  hop : Nat
  deriving DecidableEq, Repr

/-- A ring port (CA or CB). -/
inductive PortId where
  | ca | cb
  deriving DecidableEq, Repr

/-- Where frames enter and leave: a ring port or the service port. -/
inductive Lane where
  | ca | cb | svc
  deriving DecidableEq, Repr

/-- How a received frame ended: with its final CRC byte, with ABORT (R98), or with a TURN trailer after it (R99 to R101). -/
inductive Ending where
  | done
  | abort
  | turned (trailer : List Byte)
  deriving DecidableEq, Repr

/-- Why a port declares loss of lock (R105). -/
inductive LossCause where
  | silence | violations | linkDown
  deriving DecidableEq, Repr

/-- An electrical finding on a fan channel with what its detector sees (Table 11.5): the mean output or FAN_V current in mA; whether the
output is at its peak limit, and its voltage in 10 mV; for how many ns it has been so; TJ in 0.1 °C. -/
inductive FanElec where
  | overcurrent (ma ns : Nat)
  | short (limit : Bool) (v ns : Nat)
  | shoot
  | overtemp (tj : Int)
  deriving DecidableEq, Repr

/-- What a driver channel's detectors of Table 10.2 see: HS monitor and LS sense in mA (in a pair the PS sense of the leg that conducts
low), whether an HS is on, for how many ns it has been so, the voltage of the reservoir that feeds a RISE (10 mV), and the energy drawn
through HS_V since the phase began (µJ). -/
structure Sense where
  hs : Nat
  ls : Nat
  hsOn : Bool
  ns : Nat
  vRes : Nat
  hsv : Nat
  deriving DecidableEq, Repr

/-- What is measured of an actuation whose RELEASE ends: V_m (10 mV) and I_m (mA) where they were taken; t_a, V_a, t_b, V_b (0.1 µs, 10 mV)
of a RISE that the release cut off; the reservoir voltage at the end of such a RISE (10 mV); the energy through HS_V of a DWELL that it
cut off (µJ); the reservoir voltage now. -/
structure Released where
  vm : Option (Nat × Nat)
  points : Option (Nat × Nat × Nat × Nat)
  vCut : Nat
  hsv : Nat
  vRes : Nat
  deriving DecidableEq, Repr

/-- A quantity that the hardware measures and the node latches at a control tick (Table 1.6, R22). Voltages are in 10 mV,
currents in mA (loop outputs: µA), temperatures in 0.1 °C, energies in µJ since the reading before. -/
inductive Meas where
  | vsPower (v : Nat)
  | vsLogic (v : Nat)
  | drvCurrent (n : Fin 32) (ma : Nat)
  | drvReservoir (n : Fin 32) (v : Nat)
  | drvHoldEnergy (n : Fin 32) (uj : Nat)
  | drvReturned (n : Fin 32) (uj : Nat)
  | drvTj (n : Fin 32) (t : Int)
  | chargeBus (v : Nat)
  | fanOutput (n : Fin 12) (ma : Nat) (v : Nat) (uj : Nat)
  | fanTj (n : Fin 12) (t : Int)
  | loopOutput (n : Fin 8) (ua : Nat) (v : Nat)
  | frontEndEnergy (uj : Nat)
  | supplyEnergy (uj : Nat)
  | releaseAckBad (bad : Bool)
  | stbyUp (up : Bool)
  | journalLag (ticks : Nat)
  deriving DecidableEq, Repr

/-- The commands: one constructor per row of the table of operations and events. -/
inductive Instr where
  /-- VS_LOGIC_POWER_UP (R72): VS_LOGIC rises above 10.3 V and the cold power-up sequence of Table 2.24 starts. -/
  | vsLogicPowerUp (dt : Nat)
  /-- SPORE_SAMPLE (R39): The SPORE strap is sampled from 2 ms to 12 ms after reset release, and the node enters spore mode if it stays high. -/
  | sporeSample (dt : Nat) (high : Bool)
  /-- SM_START (R659): SM self-tests, loads its configuration, latches and counts, starts TOa and TOb, and sets the permit to OFF or LOCKED. -/
  | smStart (dt : Nat) (selfOk : Bool)
  /-- RING_READY (R94): The bypass opens, the port engines lock, and the node takes its pinned address or 0x00. -/
  | ringReady (dt : Nat) (lockA : Bool) (lockB : Bool)
  /-- CTRL_RUNNING (R74): CTRL runs on the active core, loads the stored configuration, and starts HOST_TIMEOUT. -/
  | ctrlRunning (dt : Nat)
  /-- VS_LOGIC_POWER_DOWN (R77): VS_LOGIC falls below 9.8 V; the permit opens, drivers release, and the power-down sequence runs. -/
  | vsLogicPowerDown (dt : Nat)
  /-- VS_LOGIC_RECOVER_IN_POWER_DOWN (R78): VS_LOGIC recovers during power-down; the sequence completes and a cold power-up follows with CAUSE 0x2. -/
  | vsLogicRecoverInPowerDown (dt : Nat)
  /-- VS_POWER_UNDERVOLTAGE (R55): VS_POWER falls below 9.5 V; the output stage opens the permit and turns every power output off in hardware. -/
  | vsPowerUndervoltage (dt : Nat)
  /-- VS_POWER_OVERVOLTAGE (R55): VS_POWER rises above 33.5 V; the output stage opens the permit and turns every power output off in hardware. -/
  | vsPowerOvervoltage (dt : Nat)
  /-- VS_POWER_RESTORED (R56): VS_POWER has been back in range for 100 ms; fans and loops resume, drivers stay released. -/
  | vsPowerRestored (dt : Nat)
  /-- PD_ON_TIMEOUT (R61): A requested domain is not on within 1 ms; it is kept off, PD_FAULT is set and its channels become unavailable. -/
  | pdOnTimeout (dt : Nat) (pd : Nat)
  /-- DOMAIN_OFF_AFTER_RELEASE (R60): Once a channel's release or ramp-down completes, its driver or fan domain is turned off. -/
  | domainOffAfterRelease (dt : Nat) (pd : Nat)
  /-- CLK_FAULT (R29): The clock monitor trips; the permit opens and drivers release in hardware, and a full reset is scheduled. -/
  | clkFault (dt : Nat)
  /-- FULL_RESET (R192): The full reset that is due 1 ms after a RESET or SPORE_ENTER reply, a spore commit or a clock fault is performed. -/
  | fullReset (dt : Nat)
  /-- AVS_ADJUST (R30): The supply controller trims the core supply by one 5 mV step from the replica monitors. -/
  | avsAdjust (dt : Nat) (up : Bool)
  /-- MOSS_SHUTDOWN (R68): After the moss log entry, the domains go off in stages and the node reaches moss state. -/
  | mossShutdown (dt : Nat)
  /-- WAKE_SYMBOL_RX (R71): A wake symbol at ring port CA or CB wakes the node from moss state. -/
  | wakeSymbolRx (dt : Nat) (port : PortId)
  /-- DI00_WAKE (R71): DI00 crosses its threshold in the set direction for 1 ms and wakes the node. -/
  | di00Wake (dt : Nat) (rising : Bool)
  /-- SVC_WAKE (R71): A transition on the service-port pair wakes the node. -/
  | svcWake (dt : Nat)
  /-- CONTROL_TICK (R22): At each 1 ms boundary the staged outputs go live, inputs latch, a merge window opens and the tick task runs. -/
  | controlTick (meas : List Meas)
  /-- TICK_COMMIT (R23): The active core writes SYS.TICK_STAT.COMMIT to mark staging complete for the tick. -/
  | tickCommit (dt : Nat)
  /-- CORE_WATCHDOG_FAIL (R24): After 20 consecutive ticks without COMMIT, the node declares a control-core watchdog failure to SM. -/
  | coreWatchdogFail (dt : Nat)
  /-- STBY_WRITE_DROPPED (R13): A standby-core write to an output staging register is dropped and STBY_WR is set. -/
  | stbyWriteDropped (dt : Nat)
  /-- PROCESS_TICK (R521): At each 100 ms boundary the programmes, loops, fan tables and parcel tracking are evaluated. -/
  | processTick
  /-- SNAPSHOT_PUBLISH (R313): At each 10 ms boundary the node publishes a snapshot into the oldest history slot. -/
  | snapshotPublish
  /-- MARK_RECEIVE (R116): A MARK arrives and is judged, forwarded and used to set chain time. -/
  | markReceive (dt : Nat) (port : PortId) (mark : List Byte) (cyc : Nat)
  /-- MARK_SOURCE_TIMEOUT (R118): No primary MARK arrives within 1 ms of the boundary, so the other source's MARK is used. -/
  | markSourceTimeout (dt : Nat)
  /-- MARK_HOLDOVER (R26): No time mark for 100 ms; the trim is held and HOLDOVER is set. -/
  | markHoldover (dt : Nat)
  /-- CT_SATURATE (R127): Chain time reaches its maximum and is held there with CT_SAT set. -/
  | ctSaturate (dt : Nat)
  /-- FRAME_RECEIVE (R155): A frame arrives whole on a ring port or the service port and runs the check order of Table 4.4. -/
  | frameReceive (dt : Nat) (lane : Lane) (body : List Byte) (hop : Nat) (ending : Ending)
  /-- REPLY_SEND (R103): A ready reply or turned frame is sent into a gap of at least four IDLEs, and any held frame follows it. -/
  | replySend (dt : Nat) (lane : Lane)
  /-- KEPT_FRAME_RELEASE (R107): A sent frame stops being kept 40 µs after its last symbol. -/
  | keptFrameRelease (dt : Nat) (port : PortId)
  /-- LINK_ID_SEND (R87): Each port sends a LINK_ID once per millisecond between frames. -/
  | linkIdSend (dt : Nat) (port : PortId)
  /-- LINK_ID_RECEIVE (R89): A LINK_ID from the partner is received and its PE_REQ is applied. -/
  | linkIdReceive (dt : Nat) (port : PortId) (bytes : List Byte)
  /-- EQ_ADAPT (R88): The receiver adapts its equaliser by up to one step per millisecond. -/
  | eqAdapt (dt : Nat) (port : PortId) (best : Nat) (eye : Nat) (pe : Nat)
  /-- MARGIN_LOW_DETECT (R90): EYE has been below 32 for 1 s and MARGIN_LOW is set. -/
  | marginLowDetect (dt : Nat) (port : PortId)
  /-- RANGE_REQUEST_SEND (R91): A port sends a RANGE request every 100 ms and after each relock. -/
  | rangeRequestSend (dt : Nat) (port : PortId)
  /-- RANGE_RECEIVE (R92): A RANGE request is answered, or an answer updates SEG_DLY, LEN_M and LONG. -/
  | rangeReceive (dt : Nat) (port : PortId) (bytes : List Byte) (elapsed : Nat)
  /-- LOSS_OF_LOCK (R105): A port declares loss of lock on silence, code violations or LINK_DOWN. -/
  | lossOfLock (dt : Nat) (port : PortId) (cause : LossCause) (ns : Nat) (n : Nat)
  /-- RELOCK (R112): A port relocks after a valid signal returns to its RX pair. -/
  | relock (dt : Nat) (port : PortId)
  /-- TURNAROUND_EXIT (R111): A port that has held lock for 10 ms, or 1 s after repeated losses, and has ranged leaves turnaround. -/
  | turnaroundExit (dt : Nat) (port : PortId)
  /-- RATE_SEARCH_SWITCH (R129): An unlocked port alternates its rate every 100 ms until it locks, and then stores the rate. -/
  | rateSearchSwitch (dt : Nat) (port : PortId)
  /-- RING_RATE_SWITCH (R130): Both ports switch rate 2 ms after the named boundary and relock. -/
  | ringRateSwitch (dt : Nat)
  /-- WAKE_SYMBOL_SEND (R131): A port sends an 8 µs wake symbol into the next gap between frames. -/
  | wakeSymbolSend (dt : Nat) (port : PortId)
  /-- WAKE_SEEN (R131): An awake port receives a wake symbol, keeps lock and sets WAKE_SEEN. -/
  | wakeSeen (dt : Nat) (port : PortId)
  /-- RING_STATUS (R138): The command returns the ring, link and chain-time registers. -/
  | ringStatus (q : Req)
  /-- CAST_ON (R134): The command assigns position-derived addresses and clears CT_VALID. -/
  | castOn (q : Req) (base : Byte) (mode : Byte)
  /-- ADDR_ASSIGN (R138): The command sets the address, and optionally the pin, of the node with the matching serial. -/
  | addrAssign (q : Req) (serial : BitVec 64) (addr : Byte) (pin : Byte)
  /-- ADDR_PIN (R138): The command pins or unpins the node's address. -/
  | addrPin (q : Req) (pin : Byte)
  /-- BIND_OFF (R141): The command removes the node from the ring through the moss sequence, optionally unpinning it. -/
  | bindOff (q : Req) (unpin : Byte)
  /-- RING_RATE (R139): The command schedules a ring rate change at boundary BIDX. -/
  | ringRate (q : Req) (rate : Byte) (bidx : Word)
  /-- WAKE_SEND (R131): The command asks a port to send a wake symbol. -/
  | wakeSend (q : Req) (portN : Byte)
  /-- SWEEP_RESUME (R144): The command returns the status record of boundary BIDX from the history, to complete a cut sweep. -/
  | sweepResume (q : Req) (bidx : Word)
  /-- SWEEP (R172): The broadcast returns the stored 32-byte status record for boundary BIDX. -/
  | sweep (q : Req) (bidx : Word)
  /-- NEEDLE_TAKE (R179): The command grants the needle and optionally sets HOST_TIMEOUT. -/
  | needleTake (q : Req) (flags : Byte) (timeout : Half)
  /-- NEEDLE_GIVE_RELEASE (R182): The holder releases the needle so that no one holds it. -/
  | needleGiveRelease (q : Req)
  /-- NEEDLE_GIVE_LICHEN (R563): The holder hands the needle to lichen mode now. -/
  | needleGiveLichen (q : Req)
  /-- POLL_RESULT (R167): The command returns the outcome of a pending operation by ticket. -/
  | pollResult (q : Req) (ticket : Half)
  /-- RESULT_EXPIRE (R167): The kept outcome of a finished pending operation expires after its retention time. -/
  | resultExpire (dt : Nat) (ticket : Nat)
  /-- MOSS_ENTER (R66): The command checks the state and starts moss entry. -/
  | mossEnter (q : Req)
  /-- IDENTIFY (R190): The command returns the serial, hardware and image versions. -/
  | identify (q : Req)
  /-- STATUS_READ (R174): The command returns the status record taken at the most recent tick. -/
  | statusRead (q : Req)
  /-- RESET (R192): The command accepts a full reset of the node 1 ms after the reply. -/
  | reset (q : Req) (kind : Byte)
  /-- HOST_TIMEOUT_EXPIRE (R182): HOST_TIMEOUT passes with no qualifying event and lichen mode takes the needle at the boundary. -/
  | hostTimeoutExpire
  /-- CFG_READ (R197): The command returns one configuration item, running or stored. -/
  | cfgRead (q : Req) (source : Byte) (cls : Byte) (index : Half)
  /-- CFG_WRITE (R198): The command writes one configuration item through its owning opcode's checks. -/
  | cfgWrite (q : Req) (cls : Byte) (pad : Byte) (index : Half) (item : List Byte)
  /-- CFG_SAVE (R199): The command captures the running configuration and replies ACCEPTED_PENDING. -/
  | cfgSave (q : Req) (mode : Byte)
  /-- CFG_SAVE_DONE (R200): The stored set is written to the inactive copy and read back, and the outcome is ready. -/
  | cfgSaveDone (dt : Nat) (readOk : Bool)
  /-- SESSION_OPEN (R214): The command derives session keys and creates a pending session with PROOF. -/
  | sessionOpen (q : Req) (slot : Byte) (nonceH : List Byte)
  /-- SESSION_CLOSE (R237): The command ends the sender's open session after its reply. -/
  | sessionClose (q : Req)
  /-- KEY_LOAD_PLAIN (R203): FORM 0 loads a key in clear while the node is OPEN. -/
  | keyLoadPlain (q : Req) (slot : Byte) (keyver : Half) (key : List Byte)
  /-- KEY_LOAD_WRAPPED (R205): FORM 1 loads a key wrapped under the session's K_WRAP. -/
  | keyLoadWrapped (q : Req) (slot : Byte) (keyver : Half) (wrapped : List Byte)
  /-- KEY_LOAD_ERASE (R208): FORM 2 erases a key slot, and the node returns to OPEN when every slot is empty. -/
  | keyLoadErase (q : Req) (slot : Byte) (keyver : Half)
  /-- SESSION_STATUS (R236): The command returns the protection level, key versions and session states. -/
  | sessionStatus (q : Req)
  /-- PENDING_SESSION_EXPIRE (R216): A pending session not promoted within 10 s ends. -/
  | pendingSessionExpire (dt : Nat) (sender : Sender)
  /-- SCAN_START (R265): A group starts a scan, either free-running or at a PERIOD boundary. -/
  | scanStart (dt : Nat) (group : Fin 4)
  /-- CHECK_SLOT_END (R263): A check-slot conversion of reference against zero completes. -/
  | checkSlotEnd (dt : Nat) (group : Fin 4) (zero : Int) (ref : Int)
  /-- CONVERSION_END (R269): A channel conversion completes and its result record is formed and moved. -/
  | conversionEnd (dt : Nat) (ch : Fin 64) (raw : Int) (clamp : Option Bool)
  /-- CJ_SAMPLE_END (R842): The auxiliary converter completes a sample of both cold-junction sensors. -/
  | cjSampleEnd (dt : Nat) (pairN : Fin 4) (a : Int) (b : Int)
  /-- OVD_TRIP (R275): The overload comparator sees the input beyond ±105 % of full scale. -/
  | ovdTrip (dt : Nat) (ch : Fin 64) (positive : Bool)
  /-- OVD_CLEAR (R276): The input returns within ±105 % and the recovery delay starts. -/
  | ovdClear (dt : Nat) (ch : Fin 64)
  /-- CH_CONFIG (R289): The command configures one measurement channel. -/
  | chConfig (q : Req) (item : List Byte)
  /-- CH_STATUS (R288): The command returns channel state, CJ temperatures and scan times. -/
  | chStatus (q : Req) (chN : Byte) (count : Byte)
  /-- SCAN_CONFIG (R266): The command sets a group's scan mode and PERIOD. -/
  | scanConfig (q : Req) (group : Byte) (mode : Byte) (period : Byte)
  /-- TABLE_READ (R309): The command returns a table image. -/
  | tableRead (q : Req) (table : Byte)
  /-- TABLE_WRITE (R310): The command stores a user table image. -/
  | tableWrite (q : Req) (table : Byte) (image : List Byte)
  /-- TABLE_ERASE (R311): The command erases a user table. -/
  | tableErase (q : Req) (table : Byte)
  /-- READ_RESULTS (R320): The command returns VALUE, FLAGS and CSEQ of channels from one snapshot. -/
  | readResults (q : Req) (bidx : Word) (chN : Byte) (count : Byte)
  /-- READ_RESULTS_FULL (R320): The command returns whole records with STAMP_HI from one snapshot. -/
  | readResultsFull (q : Req) (bidx : Word) (chN : Byte) (count : Byte)
  /-- LOOP_CONFIG (R342): The command configures a loop output. -/
  | loopConfig (q : Req) (item : List Byte)
  /-- LOOP_SET_SET (R344): The command sets a MANUAL output's current. -/
  | loopSetSet (q : Req) (lo : Byte) (current : Half)
  /-- LOOP_SET_CLOSE (R334): The command holds a HEAT output at CLOSE_UA. -/
  | loopSetClose (q : Req) (lo : Byte) (current : Half)
  /-- LOOP_SET_RESUME (R335): The command releases a closed output back to its mode target. -/
  | loopSetResume (q : Req) (lo : Byte) (current : Half)
  /-- LOOP_STATUS (R341): The command returns loop-output status entries. -/
  | loopStatus (q : Req) (lo : Byte) (count : Byte)
  /-- LOOP_OPEN_DETECT (R336): The open-loop condition has held for 20 ms and OPEN is set. -/
  | loopOpenDetect (dt : Nat) (lo : Fin 8)
  /-- LOOP_SHORT_DETECT (R336): The short condition has held for 100 ms and SHORT is set. -/
  | loopShortDetect (dt : Nat) (lo : Fin 8)
  /-- LOOP_DEV_DETECT (R336): The current deviation has held for 100 ms and DEV is set. -/
  | loopDevDetect (dt : Nat) (lo : Fin 8)
  /-- PROBE_CYCLE_START (R351): A probe cycle starts START_OFS after each PERIOD multiple. -/
  | probeCycleStart (dt : Nat)
  /-- PROBE_MEASURE_END (R358): A port measurement ends, moisture is derived, and the next enabled port starts. -/
  | probeMeasureEnd (dt : Nat) (cL : Int) (gL : Int) (cM : Int) (gM : Int) (cH : Int) (gH : Int) (guardBad : Bool)
  /-- PROBE_READ_SNAPSHOT (R376): MODE 0 returns probe records from one snapshot. -/
  | probeReadSnapshot (q : Req) (bidx : Word) (portN : Byte) (count : Byte)
  /-- PROBE_READ_CONFIG (R376): MODE 1 returns the cycle settings and the port entries. -/
  | probeReadConfig (q : Req) (portN : Byte) (count : Byte)
  /-- PROBE_READ_CROP (R378): MODE 2 returns a crop image. -/
  | probeReadCrop (q : Req) (cslot : Byte)
  /-- PROBE_CONFIG_PORT (R370): KIND 0x01 configures a probe port. -/
  | probeConfigPort (q : Req) (portN : Byte) (en : Byte) (tch : Byte) (crop : Byte) (c0 : Half)
  /-- PROBE_CONFIG_CROP (R377): KIND 0x02 writes a crop set. -/
  | probeConfigCrop (q : Req) (cslot : Byte) (image : List Byte)
  /-- PROBE_CONFIG_CROP_ERASE (R378): KIND 0x03 erases a crop set. -/
  | probeConfigCropErase (q : Req) (cslot : Byte)
  /-- PROBE_CONFIG_CYCLE (R353): KIND 0x04 sets the probe cycle PERIOD and START_OFS. -/
  | probeConfigCycle (q : Req) (period : Byte) (startOfs : Half)
  /-- PROBE_CAL_AIR (R365): The command schedules an air zero at the port's next measurement. -/
  | probeCalAir (q : Req) (portN : Byte)
  /-- PROBE_CAL_SAMPLE (R367): The command adds an oven sample point. -/
  | probeCalSample (q : Req) (portN : Byte) (mOven : Word) (mRec : Word) (calgen : Byte)
  /-- PROBE_CAL_APPLY (R368): The command fits GAIN and OFS from the sample points. -/
  | probeCalApply (q : Req) (portN : Byte)
  /-- PROBE_CAL_RESET (R376): The command resets GAIN to 10,000 and OFS to 0 and discards the points. -/
  | probeCalReset (q : Req) (portN : Byte)
  /-- PROBE_CAL_DISCARD (R376): The command discards the sample points. -/
  | probeCalDiscard (q : Req) (portN : Byte)
  /-- DRV_CMD_ON (R400): The command runs the fiddlehead and then holds the channel until release. -/
  | drvCmdOn (q : Req) (chN : Byte) (arg : Half) (mask : Word)
  /-- DRV_CMD_PULSE (R403): The command runs the fiddlehead and hold, with a release ARG ms after application. -/
  | drvCmdPulse (q : Req) (chN : Byte) (arg : Half) (mask : Word)
  /-- DRV_CMD_RELEASE (R402): The command starts RELEASE on the channel. -/
  | drvCmdRelease (q : Req) (chN : Byte) (arg : Half) (mask : Word)
  /-- DRV_CMD_SET_I (R408): The command sets a proportional current target. -/
  | drvCmdSetI (q : Req) (chN : Byte) (arg : Half) (mask : Word)
  /-- DRV_CMD_LATCH_A (R415): The command runs a pair fiddlehead in direction A and then releases. -/
  | drvCmdLatchA (q : Req) (chN : Byte) (arg : Half) (mask : Word)
  /-- DRV_CMD_LATCH_B (R415): The command runs a pair fiddlehead in direction B and then releases. -/
  | drvCmdLatchB (q : Req) (chN : Byte) (arg : Half) (mask : Word)
  /-- DRV_CMD_RELEASE_MASK (R397): The command releases every channel named in MASK. -/
  | drvCmdReleaseMask (q : Req) (chN : Byte) (arg : Half) (mask : Word)
  /-- DRV_PROFILE (R395): The command writes a channel's profile. -/
  | drvProfile (q : Req) (item : List Byte)
  /-- DRV_STATUS (R429): The command returns driver status entries and the budget trailer. -/
  | drvStatus (q : Req) (chN : Byte) (count : Byte)
  /-- DRV_ENERGY (R429): The command returns driver energy entries. -/
  | drvEnergy (q : Req) (chN : Byte) (count : Byte)
  /-- DRV_PAIR (R417): PAIR 1 pairs channels 2j and 2j+1 as an H-bridge. -/
  | drvPair (q : Req) (chN : Byte)
  /-- DRV_UNPAIR (R417): PAIR 0 unpairs an idle pair. -/
  | drvUnpair (q : Req) (chN : Byte)
  /-- DRV_BUDGET (R418): The command sets the aggregate hold budget. -/
  | drvBudget (q : Req) (budget : Half)
  /-- RISE_PEAK_REACHED (R384): The current reaches I_PEAK in RISE and the channel moves to DWELL. -/
  | risePeakReached (dt : Nat) (ch : Fin 32) (points : Option (Nat × Nat × Nat × Nat)) (vRes : Nat)
  /-- T_BOOST_MAX_EXPIRE (R387): T_BOOST_MAX expires before I_PEAK and the channel moves to DWELL. -/
  | tBoostMaxExpire (dt : Nat) (ch : Fin 32) (iHs : Nat) (iLs : Nat) (points : Option (Nat × Nat × Nat × Nat)) (vRes : Nat)
  /-- DWELL_END (R386): T_PEAK has run, pull-in is judged and DECAY starts. -/
  | dwellEnd (dt : Nat) (ch : Fin 32) (held : Bool) (energy : Nat)
  /-- DECAY_END (R384): The current falls to I_HOLD and HOLD starts. -/
  | decayEnd (dt : Nat) (ch : Fin 32)
  /-- PULSE_END (R403): A PULSE duration ends and the channel releases. -/
  | pulseEnd (dt : Nat) (ch : Fin 32)
  /-- T_HOLD_MAX_EXPIRE (R403): T_HOLD_MAX expires; the channel releases and HOLD_TO is set. -/
  | tHoldMaxExpire (dt : Nat) (ch : Fin 32)
  /-- RELEASE_END (R405): The current falls below 10 mA, the channel is IDLE, and the fit and energy are updated. -/
  | releaseEnd (dt : Nat) (ch : Fin 32) (x : Released)
  /-- PAIR_REVERSE_RISE (R401): After a reversal, both legs have decayed below 10 mA and RISE starts in the new direction. -/
  | pairReverseRise (dt : Nat) (ch : Fin 32)
  /-- RESERVOIR_CHARGED (R389): A reservoir reaches V_TGT and the converter moves to the next. -/
  | reservoirCharged (dt : Nat) (ch : Fin 32) (vRes : Nat)
  /-- BOOST_ORDER_REVIEW (R390): Every 500 µs the charging order of the reservoirs is reviewed. -/
  | boostOrderReview (dt : Nat)
  /-- OFF_STATE_SAMPLE (R433): Each millisecond V_DH and V_DL are sampled and classified, and a finding is made after 10 equal samples. -/
  | offStateSample (dt : Nat) (ch : Fin 32) (vDh : Nat) (vDl : Nat)
  /-- DRV_SHORT_SUP_DETECT (R437): A short to supply is detected, the switches turn off and the channel enters FAULT. -/
  | drvShortSupDetect (dt : Nat) (ch : Fin 32) (x : Sense)
  /-- DRV_SHORT_LOAD_DETECT (R437): A short across the load is detected, the switches turn off and the channel enters FAULT. -/
  | drvShortLoadDetect (dt : Nat) (ch : Fin 32) (x : Sense)
  /-- DRV_SHORT_GND_DETECT (R437): A short or leak to ground is detected, the switches turn off and the channel enters FAULT. -/
  | drvShortGndDetect (dt : Nat) (ch : Fin 32) (x : Sense)
  /-- DRV_OPEN_DETECT (R439): No current or lost current is detected; the channel releases and enters FAULT OPEN. -/
  | drvOpenDetect (dt : Nat) (ch : Fin 32) (ma : Nat) (ns : Nat) (full : Bool)
  /-- BOOST_WAIT_READY (R443): V_RES reaches 0.9 × V_TGT during WAIT and RISE starts. -/
  | boostWaitReady (dt : Nat) (ch : Fin 32) (vRes : Nat)
  /-- T_BOOST_WAIT_EXPIRE (R443): T_BOOST_WAIT runs out during WAIT and RISE starts. -/
  | tBoostWaitExpire (dt : Nat) (ch : Fin 32)
  /-- DRV_OVERTEMP (R448): The switch TJ reaches 170 °C; the channel releases and enters FAULT OVERTEMP. -/
  | drvOvertemp (dt : Nat) (ch : Fin 32) (tj : Int)
  /-- DRV_OVERTEMP_RECOVER (R449): TJ falls to 140 °C and the channel returns to IDLE. -/
  | drvOvertempRecover (dt : Nat) (ch : Fin 32) (tj : Int)
  /-- LEG_CONFLICT_DETECT (R451): A contradictory leg command turns both legs off for the chop period; three in a row give FAULT. -/
  | legConflictDetect (dt : Nat) (ch : Fin 32)
  /-- DRV_RETRY_TIMER (R457): RETRY_T runs out after a fault and the channel retries under RETRY_MODE. -/
  | drvRetryTimer (dt : Nat) (ch : Fin 32)
  /-- DRV_RETRY_RESTORE (R460): An hour without fault restores RETRY_LEFT to RETRY_MAX. -/
  | drvRetryRestore (dt : Nat) (ch : Fin 32)
  /-- DRV_DIAG_CONFIG (R470): KIND 0x01 sets a channel's off-state, retry and pull-in settings. -/
  | drvDiagConfig (q : Req) (chN : Byte) (offEn : Byte) (retryMode : Byte) (retryMax : Byte) (retryT : Byte) (pfLimit : Byte)
  /-- DRV_DIAG_DIRECT (R471): KIND 0x02 drives the named switches directly for DUR in a test session. -/
  | drvDiagDirect (q : Req) (chN : Byte) (sw : Byte) (dur : Byte)
  /-- DIRECT_DRIVE_END (R471): DUR ends, the switches turn off and the channel returns to IDLE. -/
  | directDriveEnd (dt : Nat) (ch : Fin 32) (peak : Nat)
  /-- DRV_FAULT_CLEAR (R463): The command takes the named channels out of FAULT, clears flags and restores retries. -/
  | drvFaultClear (q : Req) (mask : Word) (flags : Byte)
  /-- FAN_TARGET_FORM (R479): Every millisecond each fan's effective target is formed and DUTY_OUT ramps towards it. -/
  | fanTargetForm (dt : Nat)
  /-- FAN_SPIN_UP_END (R490): T_SPIN ends; the channel runs, or stalls if RUN_OK is 0. -/
  | fanSpinUpEnd (dt : Nat) (ch : Fin 12)
  /-- FAN_STALL_DETECT (R491): RUN_OK has been 0 for STALL_T; the channel stops and waits to retry or enters FAULT. -/
  | fanStallDetect (dt : Nat) (ch : Fin 12)
  /-- FAN_RETRY_TIMER (R493): RETRY_INT has run; RETRY_LEFT falls and the channel starts again. -/
  | fanRetryTimer (dt : Nat) (ch : Fin 12)
  /-- FAN_RETRY_RESTORE (R494): An hour in RUNNING restores RETRY_LEFT. -/
  | fanRetryRestore (dt : Nat) (ch : Fin 12)
  /-- FAN_ELECTRICAL_FAULT (R496): An overcurrent, short, shoot or overtemperature finding stops the channel in FAULT. -/
  | fanElectricalFault (dt : Nat) (ch : Fin 12) (what : FanElec)
  /-- FAN_OVERTEMP_RECOVER (R497): TJ falls to 140 °C and the fan leaves FAULT OVERTEMP. -/
  | fanOvertempRecover (dt : Nat) (ch : Fin 12) (tj : Int)
  /-- FAN_FAILOVER_EXIT (R503): All members have run healthy for FO_HOLD and the group leaves failover. -/
  | fanFailoverExit (dt : Nat) (group : Fin 4)
  /-- AIR_OK_UPDATE (R506): Every millisecond AIR_OK is computed per group and passed to SM. -/
  | airOkUpdate (dt : Nat)
  /-- SHOOT_BLOCK_DETECT (R453): A shoot-through pattern on a fan half-bridge is blocked for the period and SHOOT_BLOCK is set. -/
  | shootBlockDetect (dt : Nat) (ch : Fin 12)
  /-- FAN_CMD_SET (R478): The command sets a MANUAL fan's target. -/
  | fanCmdSet (q : Req) (chN : Byte) (arg : Half) (mask : Half)
  /-- FAN_CMD_FAILOVER (R504): The command raises the named fans to their failover duty. -/
  | fanCmdFailover (q : Req) (chN : Byte) (arg : Half) (mask : Half)
  /-- FAN_CMD_RESUME (R504): The command ends a commanded failover on the named fans. -/
  | fanCmdResume (q : Req) (chN : Byte) (arg : Half) (mask : Half)
  /-- FAN_CONFIG (R513): The command configures a fan channel. -/
  | fanConfig (q : Req) (item : List Byte)
  /-- FAN_TABLE (R487): The command stores a fan temperature table. -/
  | fanTable (q : Req) (tnum : Byte) (image : List Byte)
  /-- FAN_GROUP (R500): The command defines or dissolves a fan group. -/
  | fanGroup (q : Req) (group : Byte) (members : Half) (nAir : Byte) (foDuty : Half) (foHold : Byte) (pad : Byte)
  /-- FAN_STATUS (R512): The command returns fan status entries and group flags. -/
  | fanStatus (q : Req) (chN : Byte) (count : Byte)
  /-- FAN_RETRY (R497): The command takes fans out of FAULT, clears flags and restores retries. -/
  | fanRetry (q : Req) (mask : Half) (flags : Byte)
  /-- PROG_LOAD (R556): The command loads the programme kind and its items. -/
  | progLoad (q : Req) (prog : Byte) (count : Byte) (items : List Byte)
  /-- PROG_START_START (R557): MODE START starts the loaded programme. -/
  | progStartStart (q : Req)
  /-- PROG_START_RESUME (R524): MODE RESUME resumes a programme from HOLD or HEAT_LOCK. -/
  | progStartResume (q : Req)
  /-- PROG_STOP_ORDERLY (R558): MODE ORDERLY sends the programme to COOLDOWN or DONE. -/
  | progStopOrderly (q : Req)
  /-- PROG_STOP_HOLD (R558): MODE HOLD puts the programme in HOLD with HCAUSE HOST. -/
  | progStopHold (q : Req)
  /-- PROG_STOP_ABORT (R558): MODE ABORT moves the programme to ABORTED. -/
  | progStopAbort (q : Req)
  /-- PROG_STATUS_SUMMARY (R555): MODE 0 returns the programme status block. -/
  | progStatusSummary (q : Req)
  /-- PROG_STATUS_PARCELS (R555): MODE 1 returns parcel-table entries. -/
  | progStatusParcels (q : Req) (first : Byte) (count : Byte)
  /-- PROG_SET (R556): The command changes programme items. -/
  | progSet (q : Req) (count : Byte) (items : List Byte)
  /-- DISCHARGE_STROKE (R531): The stroke interval elapses and both discharge gates pulse together. -/
  | dischargeStroke (dt : Nat)
  /-- PARCEL_STORE (R533): Every 60 s the parcel table and KDRY are stored. -/
  | parcelStore (dt : Nat)
  /-- AERATION_DECISION (R534): Once per minute the aeration or drying fans are started or stopped. -/
  | aerationDecision (dt : Nat)
  /-- CONV_CMD_START (R537): The command starts the conveyor stages from downstream up to Kk. -/
  | convCmdStart (q : Req) (arg : Byte)
  /-- CONV_CMD_STOP_UPSTREAM (R538): The command stops the line upstream-first. -/
  | convCmdStopUpstream (q : Req) (arg : Byte)
  /-- CONV_CMD_STOP_NOW (R542): The command stops every stage at once. -/
  | convCmdStopNow (q : Req) (arg : Byte)
  /-- CONV_CMD_RESET (R542): The command clears stage faults. -/
  | convCmdReset (q : Req) (arg : Byte)
  /-- CONV_CONFIG_STAGE (R542): KIND 0x01 configures a conveyor stage. -/
  | convConfigStage (q : Req) (item : List Byte)
  /-- CONV_CONFIG_LINE (R542): KIND 0x02 configures the conveyor line. -/
  | convConfigLine (q : Req) (item : List Byte)
  /-- STAGE_START_DELAY (R537): T_START has run after the lower stage showed motion, and the next stage starts. -/
  | stageStartDelay (dt : Nat) (stage : Fin 8)
  /-- STAGE_CLEAR_DELAY (R538): T_CLEAR has run after the stage above stopped, and the next stage stops. -/
  | stageClearDelay (dt : Nat) (stage : Fin 8)
  /-- STAGE_PROVE_TIMEOUT (R539): A stage shows no motion for T_PROVE and has a MOTION fault. -/
  | stageProveTimeout (dt : Nat) (stage : Fin 8)
  /-- DI_FILTER_CHANGE (R622): A digital input holds a new level for 3 ms and its filtered state changes. -/
  | diFilterChange (dt : Nat) (di : Fin 16) (level : Bool) (ns : Nat)
  /-- STITCH_WRITE (R559): The command stores stitch entries. -/
  | stitchWrite (q : Req) (first : Byte) (count : Byte) (entries : List Byte)
  /-- STITCH_CLEAR (R555): The command clears stitch entries. -/
  | stitchClear (q : Req) (first : Byte) (count : Half)
  /-- STITCH_STATUS (R555): The command returns stitch entries and their states. -/
  | stitchStatus (q : Req) (first : Byte) (count : Byte)
  /-- STITCH_EXECUTE (R546): A pending entry falls due and its action is carried out or refused. -/
  | stitchExecute (dt : Nat)
  /-- ENERGY_READ (R554): MODE 0 returns the energy figures of the sender's window. -/
  | energyRead (q : Req)
  /-- ENERGY_READ_RESTART (R554): MODE 1 returns the figures and restarts the window. -/
  | energyReadRestart (q : Req)
  /-- LICHEN_CONFIG (R579): The command stores the lichen configuration. -/
  | lichenConfig (q : Req) (item : List Byte)
  /-- LICHEN_HEAT_EXPIRE (R574): SM's unattended heat timer runs out and SM removes the permit. -/
  | lichenHeatExpire (dt : Nat)
  /-- THERM_SAMPLE (R586): Every millisecond TS0 to TS6 are sampled and THERM_MAX is recomputed. -/
  | thermSample (dt : Nat) (t : Vector Int 7)
  /-- TS7_PERIOD_TIMER (R588): TS7_PERIOD elapses and a TS7 sample starts. -/
  | ts7PeriodTimer (dt : Nat)
  /-- TS7_SAMPLE_END (R590): A TS7 sample completes, 2 ms after its start. -/
  | ts7SampleEnd (dt : Nat) (t : Int)
  /-- TS7_STALE (R589): A TS7 sample stops being fresh 10 s after its conversion. -/
  | ts7Stale (dt : Nat)
  /-- THERMAL_SHUTDOWN (R598): A sensor comparator trips at 150 °C; outputs shut down in hardware and SM is signalled. -/
  | thermalShutdown (dt : Nat)
  /-- SHUTDOWN_EXIT (R602): All sensors have been valid and below 135 °C for 10 s, and the node leaves shutdown. -/
  | shutdownExit (dt : Nat)
  /-- THERM_READ (R605): The command returns the thermal state. -/
  | thermRead (q : Req) (flags : Byte)
  /-- THERM_READ_SAMPLE (R588): THERM_READ with SAMPLE also starts a TS7 sample. -/
  | thermReadSample (q : Req) (flags : Byte)
  /-- THERM_CONFIG (R607): The command sets T_START and TS7_PERIOD. -/
  | thermConfig (q : Req) (tStart : Byte) (ts7Period : Half) (pad : Byte)
  /-- SM_CYCLE (R636): Each SM cycle samples the safety inputs and decides to grant or remove the permit. -/
  | smCycle (dt : Nat) (levels : BitVec 8) (hpA : Nat) (hpB : Nat)
  /-- TEST_OUTPUT_PULSE (R616): TOa or TOb drops to 0 V for 500 µs and the input is sampled within the pulse. -/
  | testOutputPulse (dt : Nat) (ofB : Bool) (own : BitVec 4) (other : BitVec 4)
  /-- SI_DISCREPANCY (R620): The two channels of an input differ for longer than SI_DISC and SI_DIAG is set. -/
  | siDiscrepancy (dt : Nat) (input : Fin 4)
  /-- HP_TEST_PULSE (R623): A permit output is switched off for 300 µs and its readback is sampled. -/
  | hpTestPulse (dt : Nat) (ofB : Bool) (v : Nat)
  /-- HP_OPEN_DETECT (R626): A permit output draws under 5 mA for 100 ms and HP.OPEN is set. -/
  | hpOpenDetect (dt : Nat) (ofB : Bool) (ua ns : Nat)
  /-- AIRFLOW_LOSS (R632): Airflow has been unproven for AIR_FILT and SM removes the permit. -/
  | airflowLoss (dt : Nat)
  /-- AIR_OK_DISAGREE (R633): The AIR_OK line disagrees with fan status for 100 ms and CONFIG is latched. -/
  | airOkDisagree (dt : Nat) (group : Fin 4)
  /-- FLAME_OFF_TIMEOUT (R634): Flame is still present FLAME_OFF_T after a removal and FLAME is latched. -/
  | flameOffTimeout (dt : Nat)
  /-- FLAME_PROVE_TIMEOUT (R635): No flame within FLAME_T of a grant, and SM removes the permit. -/
  | flameProveTimeout (dt : Nat)
  /-- SM_LOCKSTEP_MISMATCH (R612): An SM lockstep mismatch opens the permit in hardware and sets SM_SELF. -/
  | smLockstepMismatch (dt : Nat)
  /-- SM_ECC_ERROR (R612): An uncorrectable SM memory error opens the permit in hardware and sets SM_SELF. -/
  | smEccError (dt : Nat)
  /-- SM_WATCHDOG_MISS (R613): An early or late SM watchdog service opens the permit in hardware and sets SM_SELF. -/
  | smWatchdogMiss (dt ns : Nat)
  /-- HP_B_ENABLE_STATIC (R614): HP_B's enable stops toggling and HP_B turns off within 1 ms. -/
  | hpBEnableStatic (dt : Nat)
  /-- SCRC_RECHECK (R643): Every 50 ms the safety configuration CRC is rechecked and CONFIG is latched on failure. -/
  | scrcRecheck (dt : Nat) (good : Bool)
  /-- SAFE_STATUS (R652): The command returns the safety registers. -/
  | safeStatus (q : Req)
  /-- PERMIT_REQUEST (R656): The command arms the heat permit. -/
  | permitRequest (q : Req)
  /-- PERMIT_DROP (R183): The safe-direction command removes the heat permit. -/
  | permitDrop (q : Req)
  /-- SAFE_CONFIG_WRITE (R653): KIND 0x01 checks a safety configuration image and holds it pending. -/
  | safeConfigWrite (q : Req) (image : List Byte)
  /-- SAFE_CONFIG_CONFIRM (R654): KIND 0x02 makes the pending image active. -/
  | safeConfigConfirm (q : Req) (scrc : Word)
  /-- SAFE_CONFIG_EXPIRE (R653): A pending safety image expires after 60 s. -/
  | safeConfigExpire (dt : Nat)
  /-- SAFE_CONFIG_READ (R652): The command returns the active or pending safety image. -/
  | safeConfigRead (q : Req) (which : Byte)
  /-- PROOF_TEST_PERMIT (R649): KIND 0x01 tests the two permit outputs and the dynamic enable. -/
  | proofTestPermit (q : Req)
  /-- PROOF_TEST_RELEASE (R650): KIND 0x02 tests the release line and the emergency-stop lines. -/
  | proofTestRelease (q : Req)
  /-- PROOF_TEST_REPORT (R652): KIND 0x03 returns the proof-test and demand record. -/
  | proofTestReport (q : Req)
  /-- PROOF_TEST_DONE (R649): A running proof test completes with its result. -/
  | proofTestDone (dt : Nat) (pass : Bool) (fstep : Byte) (detail : Byte)
  /-- SAFE_RESET (R646): The command clears each named latch whose reset condition holds. -/
  | safeReset (q : Req) (mask : Word)
  /-- PT_AGE_DAY (R651): Each day PT_AGE increments, and PT_DUE sets from day 365. -/
  | ptAgeDay (dt : Nat)
  /-- TEST_OPEN (R662): The command opens a test session. -/
  | testOpen (q : Req) (flags : Byte) (timeout : Half)
  /-- INJECT (R672): The command starts a fault injection in a slot. -/
  | inject (q : Req) (injId : Half) (tgt : Byte) (arg : Half) (dur : Half)
  /-- INJECT_CLEAR (R665): The command clears one injection slot or all of them. -/
  | injectClear (q : Req) (slot : Byte)
  /-- TEST_CLOSE (R664): The command closes the test session. -/
  | testClose (q : Req)
  /-- INJECT_EXPIRE (R668): An injection with DUR ends by itself. -/
  | injectExpire (dt : Nat) (slot : Fin 8)
  /-- TEST_TIMEOUT (R664): TIMEOUT passes without an owner order and the session ends. -/
  | testTimeout (dt : Nat)
  /-- FLAG_CLEAR (R676): The command writes MASK to a register's W1C flags. -/
  | flagClear (q : Req) (addr : Word) (mask : Word)
  /-- LOG_READ (R681): The command returns field-log entries and advances the read mark. -/
  | logRead (q : Req) (first : Word) (count : Byte)
  /-- LOG_INFO (R847): The command returns the log positions and loss counts. -/
  | logInfo (q : Req)
  /-- COUNTERS_READ (R687): The command returns lifetime counters. -/
  | countersRead (q : Req)
  /-- LOG_ENTRY_WRITE (R679): The log unit writes a queued entry at index ENO mod 2,048. -/
  | logEntryWrite (dt : Nat) (torn : Bool)
  /-- MEM_READ (R696): The command reads a span of the address space. -/
  | memRead (q : Req) (addr : Word) (len : Half)
  /-- MEM_WRITE (R699): The command writes the host buffer area or permitted registers at the boundary. -/
  | memWrite (q : Req) (addr : Word) (bytes : List Byte)
  /-- REGISTER_WRITE (R693): A write to a register without a row of its own clears W1C flags or sets RW fields. -/
  | registerWrite (dt : Nat) (addr : Nat) (value : Word) (strobes : BitVec 4)
  /-- RB_RD_WRITE (R719): A write of SE.RBn_RD advances RD and lowers FILL. -/
  | rbRdWrite (dt : Nat) (rb : Fin 4) (value : Word)
  /-- CT_LO_READ (R691): A read of RING.CT_LO latches RING.CT_HI. -/
  | ctLoRead (dt : Nat)
  /-- SC_CONFIG_DESCRIPTOR (R727): KIND 0x01 writes a descriptor slot. -/
  | scConfigDescriptor (q : Req) (slot : Byte) (desc : List Byte)
  /-- SC_CONFIG_TIMER (R716): KIND 0x02 configures a stream timer. -/
  | scConfigTimer (q : Req) (tmr : Byte) (period : Word) (phase : Word)
  /-- SC_CONFIG_RING (R712): KIND 0x03 configures a ring buffer. -/
  | scConfigRing (q : Req) (rb : Byte) (base : Word) (size : Word) (hi : Word) (lo : Word)
  /-- SC_CONFIG_CHANNEL (R728): KIND 0x04 assigns a host channel's first descriptor. -/
  | scConfigChannel (q : Req) (chN : Byte) (first : Byte)
  /-- SC_START_ARM (R729): MODE ARM puts a channel in ARMED. -/
  | scStartArm (q : Req) (chN : Byte)
  /-- SC_START_RUN_NOW (R729): MODE RUN_NOW starts the chain once as a soft trigger. -/
  | scStartRunNow (q : Req) (chN : Byte)
  /-- SC_START_RESUME (R724): MODE RESUME repeats the failed burst of a halted chain. -/
  | scStartResume (q : Req) (chN : Byte)
  /-- SC_START_RESTART (R724): MODE RESTART begins a halted chain again from its first descriptor. -/
  | scStartRestart (q : Req) (chN : Byte)
  /-- SC_STOP_CHAIN_END (R726): MODE 0x01 lets the running chain complete and then stops the channel. -/
  | scStopChainEnd (q : Req) (chN : Byte)
  /-- SC_STOP_BURST_END (R730): MODE 0x02 stops the chain at the end of its burst, without commit. -/
  | scStopBurstEnd (q : Req) (chN : Byte)
  /-- SC_STATUS (R726): The command returns stream channel and ring status. -/
  | scStatus (q : Req) (chN : Byte) (count : Byte)
  /-- STREAM_TIMER_FIRE (R716): A stream timer fires at its chain-time instant. -/
  | streamTimerFire (dt : Nat) (tmr : Fin 4)
  /-- DESCRIPTOR_DONE (R721): A descriptor's read-back completes and the next descriptor starts or the chain ends. -/
  | descriptorDone (dt : Nat) (ch : Fin 16)
  /-- BURST_BUS_ERROR (R723): A fabric error on a beat starts a burst retry, or halts the channel with ECODE 1. -/
  | burstBusError (dt : Nat) (ch : Fin 16) (offset : Nat) (addr : Nat)
  /-- BURST_RETRY (R723): The failed burst is repeated 1 µs after the error. -/
  | burstRetry (dt : Nat) (ch : Fin 16)
  /-- SNAP_DEADLINE (R710): SNAP reads not ended 20 µs after the trigger halt the chain with ECODE 3. -/
  | snapDeadline (dt : Nat) (ch : Fin 16)
  /-- UPDATE_BEGIN (R748): The command checks a skein header and starts a transfer under a ticket. -/
  | updateBegin (q : Req) (payload : List Byte)
  /-- UPDATE_BEGIN_CHECKED (R749): Signature, epoch, version and compatibility checks end, and the bank erase starts or the begin fails. -/
  | updateBeginChecked (dt : Nat)
  /-- FLASH_ERASE_DONE (R749): The bank erase and blank check end, and the transfer is RECEIVING or fails. -/
  | flashEraseDone (dt : Nat) (blankOk : Bool)
  /-- UPDATE_BLOCK (R753): The command takes a payload block, a repeat, or taints the transfer. -/
  | updateBlock (q : Req) (payload : List Byte)
  /-- PROGRAM_COMPLETE (R755): Queued words are programmed and read back, or the transfer is tainted with PROG_FAIL. -/
  | programComplete (dt : Nat) (words : Nat) (readOk : Bool)
  /-- UPDATE_VERIFY (R758): The command starts hashing the target bank. -/
  | updateVerify (q : Req) (tid : Half)
  /-- VERIFY_DONE (R759): The hash ends and the bank is VERIFIED, or the transfer is tainted. -/
  | verifyDone (dt : Nat)
  /-- UPDATE_COMMIT (R760): The command commits a verified image for activation. -/
  | updateCommit (q : Req) (tid : Half)
  /-- UPDATE_ABORT (R762): The command ends the transfer. -/
  | updateAbort (q : Req) (tid : Half)
  /-- UPDATE_STATUS (R763): The command returns the transfer state. -/
  | updateStatus (q : Req)
  /-- HANDOVER_BOOT_DONE (R773): The standby core has checked its bank and SRAM and accepted SNAPVER, or refuses it. -/
  | handoverBootDone (dt : Nat) (accepted : Bool) (pages : Nat)
  /-- HANDOVER_BOOT_TIMEOUT (R773): The standby core is not running 400 ms after application and the activation is abandoned. -/
  | handoverBootTimeout (dt : Nat)
  /-- CATCHUP_TIMEOUT (R775): Catch-up is not reached within 2,000 ms and the activation is abandoned. -/
  | catchupTimeout (dt : Nat)
  /-- SELF_CHECK_REPORT (R780): The new CTRL reports its self-check as passed or failed. -/
  | selfCheckReport (dt : Nat) (pass : Bool)
  /-- TRIAL_WINDOW_END (R784): The 10 s trial window ends without fallback; TRIAL clears and the outcome is RESULT 0. -/
  | trialWindowEnd (dt : Nat)
  /-- SM_RESTART_DONE (R787): SM runs again on the new SAFE, the E-stop path is released and the trial starts. -/
  | smRestartDone (dt : Nat) (testOk : Bool)
  /-- PORT_RELOAD (R790): After 1 ms of LINK_DOWN, both port engines reload from the new bank. -/
  | portReload (dt : Nat)
  /-- PORT_LOCK_TIMEOUT (R780): A port engine does not lock within 100 ms of reload and PORT falls back. -/
  | portLockTimeout (dt : Nat)
  /-- IMAGE_INFO (R803): The command returns the bank directory and protocol versions. -/
  | imageInfo (q : Req)
  /-- HANDOVER_STATUS (R803): The command returns the activation phase and result. -/
  | handoverStatus (q : Req)
  /-- SPORE_ENTER (R804): The command accepts a reset into spore mode. -/
  | sporeEnter (q : Req) (key : Half)
  /-- TACH_EDGE (R484): A falling TACH edge on F6–F11 passes the filter, is time-stamped and advances REV_CNT every PPR edges. -/
  | tachEdge (dt : Nat) (ch : Fin 12)
  /-- DOMAIN_ON_REACHED (R61): A requested power domain reaches its on state and its PD_ON bit is set. -/
  | domainOnReached (dt : Nat) (pd : Nat)
  /-- SRAM_ECC_ERROR (R780): An uncorrectable ECC error occurs in the active core's private SRAM area, which in a trial window forces fallback with FB_CAUSE 0x05. -/
  | sramEccError (dt : Nat)
  /-- ESTOP_PATH_OPEN (R788): SI0a or SI0b opens while the hardware path of a SAFE activation is active, and every driver channel is de-energised within 2 µs. -/
  | estopPathOpen (dt : Nat)
  deriving DecidableEq, Repr

end Sys2Proof
end

