-- ==== Sys2Proof/Config.lean ====
section
/-! DEFINITION. The values that the spec leaves open, as opaque constants without a body (log entries 1 to 4, 6, 52, 56, 136 and 142): nothing can be
proved of a particular value, so what is proved of the model holds for every one of them. -/

namespace Sys2Proof.Config

/-- Free values in the order in which they are drawn (log entry 1). -/
opaque freeValue : Nat → Nat

/-- The unit serial set at manufacture (R190); the spec gives no value (log entry 2). -/
opaque serial : BitVec 64

/-- Constants that the CAL image with this hash holds (log entry 3): item number to value. -/
opaque calItem : List Byte → Nat → Int

/-- The public key that KEYID selects, held in ROM (R740): the two coordinates of its point (log entry 142). -/
opaque updateKey : Nat → Nat × Nat

/-- The CAL image with this hash passes its check (R254, R793). -/
opaque calGood : List Byte → Bool

/-- The contents of the ROM (log entry 4) and of image flash whose bytes the spec does not give (log entries 4 and 103). -/
opaque freeByte : Nat → Byte

/-- IMG_HASH of a delivered image (log entry 52): place of its type. -/
opaque factoryHash : Nat → List Byte

/-- What the node's E(T_CJ) differs by from the reference function of IEC 60584-1, in nV before it is held to the 0.5 µV of R255: table,
temperature in 0.001 °C (log entry 6). -/
opaque coldEmf : Nat → Int → Int

/-- A step up of SYS.CLK_STAT.TRIM makes the core clock faster; the spec gives the size of a step and not its sign (log entry 56). -/
opaque trimUpFaster : Bool

/-- Where in each 10 ms the pulses of TOa fall, in ns (R616); the spec gives no origin (log entry 136). -/
opaque testPhaseNs : Nat

end Sys2Proof.Config
end

