-- ==== Sys2Proof/Machine/Bits.lean ====
section
/-! DEFINITION. Byte order, bit fields and checks shared by every chapter: R10 (least significant byte first), R11 (two's
complement), Table 4.3 (CRC-32), R837 (CRC-8). -/

namespace Sys2Proof.Machine

/-- `n` bytes of the number `v`, least significant first (R10). -/
def leBytes : Nat → Nat → List Byte
  | 0, _ => []
  | n + 1, v => BitVec.ofNat 8 v :: leBytes n (v / 256)

/-- The number that a byte string spells, least significant byte first (R10). -/
def leNat : List Byte → Nat
  | [] => 0
  | b :: r => b.toNat + 256 * leNat r

/-- The two's complement code of `x` in `w` bits (R11). -/
def twos (w : Nat) (x : Int) : Nat := (x % (2 ^ w : Nat)).toNat

/-- The integer that a `w`-bit two's complement code stands for (R11). -/
def signed (w : Nat) (v : Nat) : Int :=
  if v < 2 ^ (w - 1) then (v : Int) else (v : Int) - (2 ^ w : Nat)

/-- `n` bytes of the two's complement code of `x`. -/
def leInt (n : Nat) (x : Int) : List Byte := leBytes n (twos (8 * n) x)

/-- Bytes `o` to `o + n - 1` of `p` as a number; bytes beyond the end count as 0. -/
def fieldAt (p : List Byte) (o n : Nat) : Nat := leNat ((p.drop o).take n)

/-- Bytes `o` to `o + n - 1` of `p` as a signed integer. -/
def sfieldAt (p : List Byte) (o n : Nat) : Int := signed (8 * n) (fieldAt p o n)

/-- A register or record word from its fields, given as (width, value), lowest field first. -/
def pack : List (Nat × Nat) → Nat
  | [] => 0
  | (w, v) :: r => v % 2 ^ w + 2 ^ w * pack r

/-- 1 for a set flag, 0 for a clear one. -/
def bit (b : Bool) : Nat := if b then 1 else 0

/-- Bit `i` of `v`. -/
def bitOf (v i : Nat) : Bool := Nat.testBit v i

/-- Bits `hi` to `lo` of `v`. -/
def bitsOf (v lo w : Nat) : Nat := v / 2 ^ lo % 2 ^ w

/-- `x` kept within `lo` and `hi`. -/
def clampI (lo hi x : Int) : Int := max lo (min hi x)

/-- `x` kept at or below `m` (a saturating counter or field). -/
def satTo (m x : Nat) : Nat := min m x

/-- Floor of `a / b` for a positive `b`. -/
def floorDiv (a : Int) (b : Nat) : Int := a / (b : Int)

/-- `a / b` rounded to the nearest integer, halves away from zero. -/
def roundDiv (a : Int) (b : Nat) : Int :=
  if a < 0 then -((2 * -a + b) / (2 * b : Nat) : Int) else (2 * a + b) / (2 * b : Nat)

/-- `a / b` truncated towards zero. -/
def truncDiv (a : Int) (b : Nat) : Int := Int.tdiv a b

/-- The mask whose bit `i` is `f i`, for `i` below `n`. -/
def maskOf : Nat → (Nat → Bool) → Nat
  | 0, _ => 0
  | n + 1, f => maskOf n f + (if f n then 2 ^ n else 0)

/-- The positions of the 1 bits of `m` below `n`, lowest first. -/
def bitList (n m : Nat) : List Nat := (List.range n).filter (fun i => Nat.testBit m i)

/-- One bit step of the CRC-32 of Table 4.3 (reflected polynomial 0xEDB8_8320). -/
def crc32Bit (c : Nat) : Nat :=
  if c % 2 = 1 then (c / 2) ^^^ 0xEDB88320 else c / 2

/-- One byte of the CRC-32 of Table 4.3. -/
def crc32Byte (c : Nat) (b : Byte) : Nat :=
  let x := c ^^^ b.toNat
  crc32Bit (crc32Bit (crc32Bit (crc32Bit (crc32Bit (crc32Bit (crc32Bit (crc32Bit x)))))))

/-- The CRC-32 of Table 4.3: reflected, initial value and final XOR 0xFFFF_FFFF. -/
def crc32 (p : List Byte) : Nat := (p.foldl crc32Byte 0xFFFFFFFF) ^^^ 0xFFFFFFFF

/-- One bit step of the CRC-8 of R837. -/
def crc8Bit (c : Nat) : Nat :=
  if c ≥ 128 then ((2 * c) % 256) ^^^ 7 else 2 * c

/-- The CRC-8 of R837: polynomial 0x07, initial value 0, no final XOR, not reflected. -/
def crc8 (p : List Byte) : Nat :=
  p.foldl (fun c b =>
    let x := c ^^^ b.toNat
    crc8Bit (crc8Bit (crc8Bit (crc8Bit (crc8Bit (crc8Bit (crc8Bit (crc8Bit x)))))))) 0

/-- The XOR check of TURN, LINK_ID and RANGE (R837). -/
def xor8 (p : List Byte) : Nat := p.foldl (fun c b => c ^^^ b.toNat) 0

/-- Every byte of a list is zero. -/
def allZero (p : List Byte) : Bool := p.all (fun b => b == 0)

/-- The element at `i` replaced by `f` of it. -/
def vmod {α : Type} {n : Nat} (v : Vector α n) (i : Fin n) (f : α → α) : Vector α n := v.set i (f v[i])

/-- The number `i` as an index below `n`, where it is one. -/
def idx? (n i : Nat) : Option (Fin n) := if h : i < n then some ⟨i, h⟩ else none

/-- `lo ≤ x ≤ hi`. -/
def inR (lo x hi : Nat) : Bool := lo ≤ x && x ≤ hi

/-- The indices from `first` on, `count` of them, below `n`. -/
def span (n first count : Nat) : List (Fin n) := (List.finRange n).filter fun i => first ≤ i.val && i.val < first + count

end Sys2Proof.Machine
end

