-- ==== Sys2Proof/Machine/State.lean ====
section
/-! DEFINITION. The state of one Gatia-64 node as plain data: every register, queue, buffer, counter, mode and pin that the
spec gives it, chapter by chapter, with the state right after reset; the outcomes' reason types. Field docstrings name the
register and the rule; INVENTORY.md lists every field with its reset value. -/

namespace Sys2Proof.Machine

/-- Why a command's meaning can end in a fault. -/
inductive Fault where
  /-- Kept for a command to which the spec gives no effect at all; no meaning of this model raises it (safe). -/
  | noEffect
  deriving DecidableEq, Repr

/-- Why a command can be refused. -/
inductive Refusal where
  /-- The command has no meaning yet; raised only by an arm of Dispatch.lean (safe). -/
  | notModelled (mnemonic : String)
  deriving DecidableEq, Repr

/-- A W1C flag and the saturating 8-bit event count beside it (R673 to R675). -/
structure Flag where
  set : Bool := false
  cnt : Nat := 0
  deriving DecidableEq, Repr

/-! ### Chapters 1 and 3: clock, chain time, ticks -/

/-- One source's MARK of a boundary: where it places the boundary (upNs), the core clock count at its arrival, ADLY + SEG_DLY in ns. -/
structure MarkSeen where
  place : Int
  cyc : Nat
  dly : Nat
  deriving DecidableEq, Repr

/-- What a node has heard of one 10 ms boundary's MARKs (R118, R119). -/
structure MarkBoundary where
  time : Nat := 0                 -- TIME, µs
  first : Int := 0                -- the boundary as the first valid MARK of that TIME places it, upNs
  a : Option MarkSeen := none     -- host port A's MARK
  b : Option MarkSeen := none
  decided : Bool := false
  deriving DecidableEq, Repr

/-- The last valid MARK of a source, whether it was used or not (R119). -/
structure MarkHeard where
  time : Nat                      -- TIME, µs
  place : Int                     -- where it places that boundary, upNs
  upNs : Nat                      -- its arrival
  deriving DecidableEq, Repr

/-- A MARK that was taken: the start of a frequency measurement (R846). -/
structure MarkTaken where
  cyc : Nat
  dly : Nat
  time : Nat
  upNs : Nat
  deriving DecidableEq, Repr

/-- Time: the core clock's own count and chain time with its correction (RING.CT_*, R116 to R127). -/
structure Clock where
  upNs : Nat := 0                 -- ns since the last start, on the core clock
  ctNs : Nat := 0                 -- chain time, ns
  slew : Int := 0                 -- correction still to be slewed, ns (R120)
  ctHi : Nat := 0                 -- RING.CT_HI as latched (R145)
  ctValid : Bool := false
  src : Nat := 0                  -- CT_STAT.SRC
  step : Flag := {}
  markDiff : Flag := {}
  ctSat : Bool := false
  lastErr : Int := 0              -- CT_STAT.LAST_ERR, 10 ns per step, int8
  primary : Nat := 0              -- CT_CFG.PRIMARY
  lastUsed : Option Nat := none   -- upNs at the last MARK used (R121, R123)
  lastMark : Nat := 0             -- upNs at the last valid MARK received, or at ring-ready (R26)
  lastCorr : Nat := 0             -- |e| of the last correction, ns (R121)
  judgedBad : Option Bool := none -- |e| > 100 µs at the last judged boundary (R120)
  bnd : Option MarkBoundary := none
  heardA : Option MarkHeard := none
  heardB : Option MarkHeard := none
  taken : Option MarkTaken := none
  lastTick : Option Nat := none   -- chain time / 1 ms of the last control tick
  lastProc : Option Nat := none   -- chain time / 100 ms of the last process tick
  deriving DecidableEq, Repr

/-- System registers of chapter 1 (Tables 1.9 to 1.12) and the reset in waiting. -/
structure Sys where
  active : Nat := 0               -- CORE_ROLE.ACTIVE
  stbyUp : Bool := false
  stbyWr : Flag := {}
  commit : Bool := false          -- COMMIT written in this tick
  tickOpen : Bool := false        -- CTRL ran when the present tick began
  overrun : Flag := {}
  missRun : Nat := 0
  holdover : Bool := false
  clkFault : Flag := {}
  trim : Nat := 0x800
  trimUp : Option Nat := none     -- upNs of the last move of TRIM (R25, R846)
  held : Bool := false            -- the present boundary's staged orders were held: no COMMIT (R23), or a switch (R778)
  procHeld : Bool := false        -- a process tick fell in a tick without COMMIT; its work waits for the next committed tick (R23)
  vcore : Nat := 0x28
  avsLimit : Flag := {}
  lastAvs : Option Nat := none    -- upNs of the last AVS step (R30)
  resetDue : Option (Nat × Nat) := none   -- upNs at which a full reset is due, and its CAUSE (R29, R192)
  deriving DecidableEq, Repr

/-! ### Chapter 2: supplies, domains, start and stop -/

/-- The stage of Tables 2.22, 2.24 to 2.26 that the node is in. -/
inductive Stage where
  | off          -- VS_LOGIC below its rising threshold
  | boot         -- power-up or wake sequence, before ring-ready
  | ringReady    -- ring-ready, CTRL not yet running
  | running      -- CTRL running
  | powerDown    -- the sequence of Table 2.26
  | moss         -- moss state
  | spore        -- spore mode (the ROM recovery loader)
  deriving DecidableEq, Repr

/-- Supplies, domains, wake and start (Tables 2.13 to 2.26). -/
structure Power where
  stage : Stage := .off
  wakeBoot : Bool := false        -- the sequence running is the wake column of Table 2.24
  downUp : Nat := 0               -- upNs at the start of the power-down sequence (R77)
  smUp : Bool := false            -- SM runs SAFE
  bypassOpen : Bool := false
  vlOk : Bool := false
  vpOk : Bool := false
  vpUv : Flag := {}
  vpOv : Flag := {}
  vpUp : Nat := 0                 -- upNs at which the outputs last came back under R56
  vsPower : Nat := 0              -- supply readings, 10 mV (Table 4.5)
  vsLogic : Nat := 0
  pdReq : BitVec 68 := 0          -- PD_REQ0..2
  pdOn : BitVec 68 := 0           -- PD_ON0..2
  pdDead : BitVec 68 := 0         -- kept off after a failure, channels unavailable (R61)
  pdOff : BitVec 68 := 0          -- off wanted once the release or ramp-down completes (R60)
  pdReqUp : Vector (Option Nat) 68 := Vector.replicate 68 none   -- upNs at which each domain was asked to come on, while the attempt runs (R61)
  ioVpOn : Bool := false          -- the VS_POWER-fed part of PD67 is on: HP_A, HP_B, IN_V (R62)
  ioVpDead : Bool := false        -- it failed to come on
  ioVpUp : Option Nat := none     -- upNs at which it was asked to come on, while the attempt runs
  pdFaultId : Nat := 0
  pdFault : Flag := {}
  wakeCfg : Nat := 7              -- WAKE_CFG [3:0]
  wakeSrc : Vector Flag 4 := Vector.replicate 4 {}
  rstCause : Nat := 1
  mossAt : Option Nat := none     -- chain time µs of the boundary of Table 2.22
  mossWake : Nat := 0             -- wake events captured during entry (R69), bits as WAKE_SRC
  deriving DecidableEq, Repr

/-! ### Chapter 3: the ring -/

/-- A frame waiting to be sent by a port (R103), or kept after sending (R107). -/
structure TxFrame where
  body : List Byte                -- as it arrived, or as the node built it
  turn : List Byte := []          -- KIND, ADDR, POS, REASON, CHK, empty for a frame not turned
  startNs : Nat := 0              -- upNs of its first symbol
  atNs : Nat := 0                 -- upNs of its last symbol
  abort : Bool := false           -- ended with ABORT in place of EOF (R97, R98, R102)
  deriving DecidableEq, Repr

/-- A LINK_ID as received (R87). -/
structure LinkId where
  type : Nat
  addr : Nat
  lcfg : Nat
  deriving DecidableEq, Repr

/-- One ring port: RING.Px_LINK, Px_EQ, Px_DLY, Px_ERR, Px_CNT and its link engine. -/
structure Port where
  lock : Bool := false
  turn : Bool := false
  lol : Flag := {}
  peerDown : Flag := {}
  long : Flag := {}
  marginLow : Flag := {}
  wakeSeen : Flag := {}
  eq : Nat := 0
  eye : Nat := 0
  lenM : Nat := 0
  segDly : Nat := 0
  codeErr : Nat := 0
  crcErr : Nat := 0
  drop : Nat := 0
  turned : Nat := 0
  peReq : Nat := 2                -- the code this port asks for (R88)
  peReqUp : Option Nat := none    -- upNs of the last change of PE_REQ (R88)
  eqUp : Option Nat := none       -- upNs of the last EQ step
  linkId : Option LinkId := none  -- last valid LINK_ID of the partner
  linkSent : Option LinkId := none -- LINK_ID this port sent last
  linkUp : Option Nat := none     -- upNs at which it was sent
  eyeLow : Option Nat := none     -- upNs since which EYE is below 32 (R90)
  eyeDone : Bool := false         -- MARGIN_LOW has been set for that spell
  rtt : List Nat := []            -- last eight one-way delays doubled, newest first (R92)
  rangeUp : Option Nat := none    -- upNs of the last RANGE request sent (R91)
  rangeReply : Option Nat := none -- RTURN of the RANGE answer sent last
  rangeSent : List Byte := []     -- data bytes of the RANGE sent last (R86, R837)
  rangeOnce : Bool := false       -- the RANGE that follows a relock has not gone out yet (R91)
  ranged : Bool := false          -- a RANGE exchange completed since the relock (R111)
  lockUp : Option Nat := none     -- upNs since which lock is held with no code violation
  losses : List Nat := []         -- upNs of the losses of the last 10 s (R111)
  cause : Nat := 4                -- REASON cause of the turnaround (R108)
  kept : List TxFrame := []       -- frames sent and still kept (R107)
  ownQ : List TxFrame := []       -- turned frames waiting for a gap (R103)
  held : List TxFrame := []       -- the 2 KiB insertion buffer (R103, R104)
  txEnd : Nat := 0                -- upNs at which its transmitter is free
  linkDown : Bool := false        -- LINK_DOWN sent in place of IDLE (R106)
  wakeDue : Bool := false         -- a wake symbol waits for a gap (R131)
  wakeSent : Nat := 0             -- wake symbols sent
  mark : List Byte := []          -- data bytes of the MARK forwarded last out of this port
  rate : Nat := 0                 -- rate this port runs at (0 full, 1 reduced)
  rateUp : Nat := 0               -- upNs at which that rate was set
  lastTx : List Byte := []        -- frame body sent last
  lastAbort : Bool := false       -- that frame ended with ABORT (R97, R98, R102)
  everLocked : Bool := false      -- it has locked since the bypass opened (R108, R129)
  deriving DecidableEq, Repr

/-- The ring block (Tables 3.4 to 3.11) and the stored ring items. -/
structure Ring where
  addr : Nat := 0
  pinned : Bool := false
  pos : Nat := 0
  rate : Nat := 0                 -- RING.ADDR.RATE, stored (R128)
  pinStore : Option Nat := none   -- pinned address in the ferroelectric store
  rateDue : Option (Nat × Nat) := none   -- RING_RATE in waiting: chain time µs of the switch, rate (R130)
  ca : Port := {}
  cb : Port := {}
  deriving DecidableEq, Repr

/-! ### Chapter 4: frames, needle, merge -/

/-- Holder of the needle (NDL_STAT.HOLDER). -/
inductive Holder where
  | none | hostA | hostB | svc | lichen
  deriving DecidableEq, Repr

/-- Status codes of Table 4.7. -/
inductive Status where
  | ok | acceptedPending | badOpcode | badLength | badParam | badState | noNeedle | superseded | busy
  | authFail | counterStale | rekeyRequired | notErased | rangeFault | busError
  | versionRollback | bindingMismatch | signatureFail | incompatible | tainted
  | safetyLocked | heatActive | throttled | late
  deriving DecidableEq, Repr

/-- A reply waiting in its sender's queue (R152, R164). -/
structure Reply where
  opc : Nat
  mem : Bool := false
  seq : Nat := 0
  sweep : Nat := 0
  payload : List Byte             -- status byte, then data
  sess : Option Nat := none       -- id of the session that tags it
  zero : Bool := false            -- zero form (R224)
  retx : Bool := false
  trunc : Bool := false
  unsync : Bool := false
  endOpen : Bool := false         -- the sender's open session ends once it is sent (SESSION_CLOSE)
  endSlot : Option Nat := none    -- sessions on this slot end once it is sent (R207)
  resetAfter : Option Nat := none -- a full reset with this CAUSE 1 ms after it is sent (R192, R804)
  mossAfter : Bool := false       -- moss entry runs from its final CRC byte (R68)
  win : Bool := false             -- it answers the entry of its SEQ in the sender's window
  deriving DecidableEq, Repr

/-- One entry of a sequence window (R156 to R161). -/
structure WinEntry where
  seq : Nat
  crc : Nat
  pending : Bool := true          -- the reply has not been sent yet
  reply : Option Reply := none    -- none: only the status byte is kept
  status : Nat := 0
  deriving DecidableEq, Repr

/-- What a merged order may act on (R183, R186 and the opcode tables). -/
inductive Target where
  | permit | drv (n : Nat) | fan (n : Nat) | loop (n : Nat) | line | prog
  | item (cls ix : Nat) | stored | table (n : Nat) | keySlot (n : Nat) | node | word (a : Nat)
  | session | inject (id tgt : Nat) | slot (n : Nat) | block (o : Nat) | scDesc (n : Nat) | scTimer (n : Nat)
  | scRing (n : Nat) | scChan (n : Nat) | probe (n : Nat) | crop (n : Nat) | fanTable (n : Nat)
  | stitch (n : Nat) | safety | latch (n : Nat) | transfer | budget
  deriving DecidableEq, Repr

/-- One session (R214 to R230). -/
structure Session where
  id : Nat
  slot : Nat
  kReq : List Byte
  kRep : List Byte
  kWrap : List Byte
  rxLast : Nat := 0
  txLast : Nat := 0
  rekeyDue : Bool := false
  nonce : Nat := 0                -- NONCE_CNT in its NN: names the SESSION_OPEN reply it waits for
  replied : Bool := false         -- that reply has been sent (R216)
  bornUp : Nat := 0               -- upNs at which it was sent
  deriving DecidableEq, Repr

/-- A request as the checks of Table 4.4 passed it on. -/
structure Order where
  q : Req
  mem : Bool
  opc : Nat
  payload : List Byte
  up : Nat := 0                   -- upNs of its final CRC byte
  sess : Option Nat := none
  crc : Nat := 0                  -- CRC-32 and MCTR of its frame, for the window it enters once answered (R156, R220)
  mctr : Nat := 0
  deriving DecidableEq, Repr

/-- An order that the merge has judged and staged: the targets on which it stands, whether it was judged to take effect, the ticket
of its reply (0 for none), and the count of free values drawn when it was judged. -/
structure Staged where
  o : Order
  keep : List Target
  good : Bool
  ticket : Nat := 0
  free : Nat := 0
  carrier : Option Session := none -- the session that carried it (R205, R207)
  deriving DecidableEq, Repr

/-- A pending operation or its kept outcome (R165 to R167). -/
structure PendOp where
  ticket : Nat
  opc : Nat
  sender : Sender
  auth : Bool
  est : Nat
  outcome : Option (Status × List Byte) := none
  doneUp : Nat := 0               -- upNs at which it finished
  deriving DecidableEq, Repr

/-- Frame, needle and merge state (Tables 4.13 and 4.14; R156 to R192). -/
structure Frames where
  holder : Holder := .none
  lost : Flag := {}
  hostTo : Nat := 20              -- NDL_CFG.HOST_TO, 100 ms, stored
  ndlAuth : Bool := false         -- AUTH_STAT.NDL_AUTH
  eventUp : Nat := 0              -- upNs of CTRL running, of the last NEEDLE_GIVE or of the holder's NEEDLE_TAKE (R182, R581)
  validUp : Vector Nat 3 := Vector.replicate 3 0   -- upNs of each sender's last valid request (R182)
  validWas : Vector Nat 3 := Vector.replicate 3 0  -- upNs of the last one before that instant
  orderSess : Option Nat := none  -- session of the order under judgement; none: the sender's open session
  orderCarrier : Option Session := none -- that session as it was when a staged order was judged (R207)
  crcUp : Option Nat := none      -- upNs of the final CRC byte of the order under judgement; none: now
  srcErr : Nat := 0
  lenErr : Nat := 0
  seqConflict : Nat := 0
  qfull : Nat := 0
  retxCnt : Nat := 0
  supersededCnt : Nat := 0
  noNeedleCnt : Nat := 0
  win : Vector (List WinEntry) 3 := Vector.replicate 3 []    -- newest first, at most 1,024 each
  replies : Vector (List Reply) 3 := Vector.replicate 3 []   -- oldest first, at most eight each
  nextTicket : Nat := 1
  pend : List PendOp := []
  applyUs : Option Nat := none    -- chain time µs of the boundary at which the order under judgement is applied; none: now
  window : List Order := []       -- frames of the open merge window, in order of their final CRC bytes
  staged : List Staged := []      -- judged orders, not yet live
  svcTx : List Byte := []         -- frame body sent last at the service port
  statusRec : List Byte := []     -- status record taken at the most recent control tick (R174)
  deriving DecidableEq, Repr

/-! ### Chapter 5: keys and sessions -/

/-- Key slots, sessions and authentication events (Tables 5.1, 5.6, 5.7). -/
structure Auth where
  keyVer : Vector Nat 3 := Vector.replicate 3 0       -- 0x0000: empty slot
  key : Vector (List Byte) 3 := Vector.replicate 3 []
  nonceCnt : Nat := 0
  openS : Vector (Option Session) 3 := Vector.replicate 3 none
  pendS : Vector (Option Session) 3 := Vector.replicate 3 none
  nextId : Nat := 0
  tagFail : Flag := {}
  stale : Flag := {}
  missing : Flag := {}
  zone : Flag := {}
  rate : Flag := {}
  rateIv : Nat := 0               -- 10 ms interval of the counts below (R225)
  rateCnt : Vector Nat 3 := Vector.replicate 3 0
  failUp : Option Nat := none     -- upNs of the last TAG_FAIL log entry (R240)
  failSince : Nat := 0            -- tag failures since that entry
  opened : List Nat := []         -- upNs of the SESSION_OPENs answered OK in the last second (R684)
  deriving DecidableEq, Repr

/-! ### Chapter 6: measurement channels -/

/-- A channel's configuration (CH_CONFIG, FE.CH_CFGn and CH_CFG2n). -/
structure ChCfg where
  typ : Nat := 0
  wires : Nat := 0
  gain : Nat := 0                 -- gain code
  attOut : Bool := false
  conv : Nat := 0
  burn : Nat := 0
  iexc : Nat := 0
  settle : Nat := 0x0A
  cjMode : Nat := 0
  cjCh : Nat := 0
  table : Nat := 0xFF
  safety : Bool := false
  deriving DecidableEq, Repr

/-- A group's scan configuration (SCAN_CONFIG, FE.SCAN_CFGg). -/
structure ScanCfg where
  mode : Nat := 0
  period : Nat := 0
  deriving DecidableEq, Repr

/-- A result record (Table 6.7) with its whole stamp; STALE of R270 is added at publication. -/
structure ChRec where
  value : Int := 0
  raw : Int := 0
  gain : Nat := 0
  ovrHi : Bool := false
  ovrLo : Bool := false
  burnout : Bool := false
  linClamp : Bool := false
  settleExt : Bool := false
  stale : Bool := false
  cjFault : Bool := false
  safety : Bool := false
  injected : Bool := false
  cseq : Nat := 0
  stamp : Nat := 0
  deriving DecidableEq, Repr

/-- A measurement channel at work. -/
structure Chan where
  cfg : ChCfg := {}               -- the configuration in effect (R292)
  rcd : ChRec := {}
  fresh : Bool := false           -- a conversion has completed under that configuration (R843)
  changed : Bool := false         -- a changed configuration has been accepted and is not in effect yet (R292)
  past : List (Int × ChRec) := [] -- the newest records with the chain time µs at which each ended, newest first (R313, R325)
  cseq : Nat := 0
  hold : Option Bool := none      -- the clamp direction held by R276 (true: positive)
  posRun : Nat := 0               -- consecutive positive clamps (R280)
  burnout : Bool := false
  ovdOut : Bool := false          -- OVD sees the input beyond ±105 %
  ovdUp : Option Nat := none      -- upNs at which it last saw it
  rawA : Int := 0                 -- the primary's own conversion, kept for its partner's (R250)
  clampA : Option Bool := none
  midA : Int := 0                 -- chain time µs of its midpoint
  extA : Bool := false
  hasA : Bool := false
  okA : Bool := true              -- it began at least 2 ms after OVD last saw the input out of range (R276)
  ovr : Flag := {}
  burn : Flag := {}
  deriving DecidableEq, Repr

/-- A converter group at work (FE.GRP_STATg). -/
structure Group where
  cfg : ScanCfg := {}             -- the configuration in effect
  scanning : Bool := false        -- RUN
  inScan : Bool := false          -- a scan has started and not ended
  ended : Int := 0                -- chain time µs at which the last scan started
  cjDue : Bool := false           -- the auxiliary converter is to sample the connector's CJ sensors (R842)
  cjSeen : Bool := false          -- it has done so since the group started scanning
  checkDone : Bool := false       -- the check slot of this scan has ended
  lastCh : Option Nat := none     -- channel of the last slot of this scan
  clamped : Bool := false         -- the last slot was clamped (R273)
  missed : Bool := false          -- a PERIOD boundary passed during the scan (R267)
  scanSlip : Flag := {}
  checkFail : Flag := {}
  checkRun : Nat := 0             -- consecutive failed check slots (R631)
  deriving DecidableEq, Repr

/-- A cold-junction sensor (FE.CJn). -/
structure Cj where
  temp : Option Int := none       -- 0.01 °C, none while invalid
  faulty : Bool := false          -- its last reading lay outside the range of R257
  flt : Flag := {}
  deriving DecidableEq, Repr

/-- The front end. -/
structure FrontEnd where
  ch : Vector Chan 64 := Vector.replicate 64 {}
  grp : Vector Group 4 := Vector.replicate 4 {}
  cj : Vector Cj 8 := Vector.replicate 8 {}
  calOk : Bool := true            -- the CAL image passed its check (R254)
  calHash : List Byte := []       -- IMG_HASH of the CAL image whose constants are in use (R793)
  calWas : Option (Nat × List Byte × Bool) := none   -- the last switch: chain time µs, and what was in use before it
  deriving DecidableEq, Repr

/-! ### Chapter 7: tables, snapshots, loop outputs -/

/-- User tables 8 to 31 (R307, R312). An empty table is an empty image. -/
structure Tables where
  stored : Vector (List Byte) 24 := Vector.replicate 24 []   -- as written (R304)
  eff : Vector (List Byte) 24 := Vector.replicate 24 []      -- in effect for conversions (R312)
  due : Vector (Option Nat) 24 := Vector.replicate 24 none   -- chain time µs at which `stored` takes effect
  gen : Nat := 0                                             -- TBLGEN
  deriving DecidableEq, Repr

/-- One published snapshot: its slot's 2,048 bytes (Table 7.6) and what the records' stamps need beyond them. -/
structure Snap where
  slot : Nat
  bidx : Nat
  btime : Nat
  image : List Byte
  stampHi : List Nat
  deriving DecidableEq, Repr

/-- The snapshot history (R313 to R318, Table 7.11). -/
structure Snaps where
  hist : List Snap := []          -- newest first, at most eight
  pubNo : Nat := 0
  nextSlot : Nat := 0
  lastBidx : Option Nat := none   -- boundary (chain time / 10 ms, not reduced) published last since start or clear
  deriving DecidableEq, Repr

/-- A loop output's configuration (LOOP_CONFIG). -/
structure LoopCfg where
  mode : Nat := 0
  src : Nat := 0
  faultDown : Bool := false
  heat : Bool := false
  clampFault : Bool := false
  val4 : Int := 0
  val20 : Int := 0
  closeUa : Nat := 0
  ramp : Nat := 0
  deriving DecidableEq, Repr

/-- A spell of a diagnostic condition: since when it holds, and whether its flag has been set for it (R336). -/
structure Spell where
  since : Option Nat := none
  done : Bool := false
  deriving DecidableEq, Repr

/-- A loop output at work (LOOP.STATn, MEASn, CNTn). -/
structure LoopOut where
  now : Nat := 0                  -- commanded current on its ramp, µA
  final : Nat := 0                -- final target, µA
  atFault : Bool := false         -- held at its fault level
  closed : Bool := false          -- held at CLOSE_UA (R332 to R334)
  permitHold : Bool := false      -- the hold comes from a permit removal (R333)
  want : Option Nat := none       -- target of MAP, SET or the process firmware, µA; none: the fault level (R326, R338)
  wantClose : Bool := false       -- the process firmware closes its actuator (R527)
  read : Nat := 0                 -- measured current, µA
  vterm : Nat := 0                -- terminal voltage, 10 mV
  opn : Flag := {}
  short : Flag := {}
  dev : Flag := {}
  faultLvl : Flag := {}
  sOpen : Spell := {}
  sShort : Spell := {}
  sDev : Spell := {}
  deriving DecidableEq, Repr


/-! ### Chapter 8: dielectric probes -/

/-- A probe port's stored settings, strays and calibration (R364 to R370), and the measurement at work. -/
structure ProbePort where
  en : Bool := false
  tch : Nat := 0
  crop : Nat := 0
  c0 : Nat := 0                   -- fF
  cStray : Vector Int 3 := Vector.replicate 3 0   -- L, M, H, fF
  gStray : Vector Int 3 := Vector.replicate 3 0   -- L, M, H, nS
  gain : Int := 10000
  ofs : Int := 0
  pts : List (Int × Int) := []    -- (M_REC, M_OVEN), newest first, at most eight
  calgen : Nat := 0
  started : Option Int := none    -- chain time µs of the port start of the measurement under way (R351)
  tVal : Int := 0                 -- VALUE of the record chosen at the start (R356)
  tBad : Bool := true             -- that record does not serve (Table 8.4, TEMP_INVALID)
  cropIm : List Byte := []        -- crop image in force at the start (R363)
  airNow : Bool := false          -- the measurement under way serves the pending AIR operation (R365)
  rcd : List Byte := []           -- record of Table 8.5 without STALE, empty while none completed
  ready : Int := 0                -- chain time µs at which it is ready (start + 32 ms)
  ended : Int := 0                -- chain time µs at which its measurement ended (start + 31 ms)
  older : List Byte := []         -- the record before it, published while the newest is not ready (R354)
  olderEnded : Int := 0           -- chain time µs at which its measurement ended
  pseq : Nat := 0
  fOpen : Bool := false
  fShort : Bool := false
  fGuard : Bool := false
  fRange : Bool := false
  airTicket : Option Nat := none  -- ticket of a pending AIR operation (R365)
  evOpen : Flag := {}
  evShort : Flag := {}
  evGuard : Flag := {}
  evRange : Flag := {}
  deriving DecidableEq, Repr

/-- The dielectric block (Tables 8.7 and 8.8). -/
structure Probes where
  port : Vector ProbePort 8 := Vector.replicate 8 {}
  crop : Vector (List Byte) 8 := Vector.replicate 8 []   -- crop images, empty: no crop set (R362)
  period : Nat := 2               -- stored PERIOD code
  startOfs : Nat := 0             -- stored, ms
  cycPeriod : Nat := 2            -- DIE.CYC, the settings in force (R381)
  cycOfs : Nat := 0
  run : Bool := false
  act : Nat := 0                  -- PORT_ACT
  actUs : Int := 0                -- chain time µs of the port start under way
  deriving DecidableEq, Repr

/-! ### Chapters 9 and 10: inductive drivers and their diagnostics -/

/-- A driver profile (Table 9.4) without its CH byte. -/
structure Profile where
  mode : Nat := 0
  heat : Bool := false
  adapt : Bool := true
  bnrStart : Bool := false
  relmode : Nat := 0
  iPeak : Nat := 40
  decayMode : Nat := 0
  iHold : Nat := 32
  iFloor : Nat := 16
  tGoal : Nat := 500
  tBoostMax : Nat := 1000
  tPeak : Nat := 1000
  vFloor : Nat := 28
  vCeil : Nat := 60
  chop : Nat := 20
  tBoostWait : Nat := 20
  tHoldMax : Nat := 0
  ditherF : Nat := 0
  ditherA : Nat := 0
  propSlew : Nat := 0
  propMax : Nat := 3000
  deriving DecidableEq, Repr

/-- A channel's diagnostic settings (DRV.DG_CFGn, R470). -/
structure DiagCfg where
  offEn : Bool := false
  retryMode : Nat := 0
  retryMax : Nat := 0
  retryT : Nat := 0x1E
  pfLimit : Nat := 3
  deriving DecidableEq, Repr

/-- Phases of Table 9.2. -/
inductive Phase where
  | idle | rise | dwell | decay | hold | release | prop | wait | fault | unavailable
  deriving DecidableEq, Repr

/-- The actions that set a current (Table 9.5): the energising ones and SET_I. -/
inductive Action where
  | on
  | pulse (ms : Nat)
  | setI (ma : Nat)
  | latchA
  | latchB
  deriving DecidableEq, Repr

/-- Fault codes of DRV.DG_STATn.FCODE (Table 10.6). -/
inductive FCode where
  | none | open_ | shortGnd | shortSup | shortLoad | offShortGnd | offShortSup | overtemp | pullin | legConflict
  deriving DecidableEq, Repr

/-- Results of an off-state sample (Table 10.1). -/
inductive OffFind where
  | shortSup | shortGnd | open_ | healthy | leak
  deriving DecidableEq, Repr

/-- A valid coil fit (R405): R in Ω and τ in ms, both times 2^32. -/
structure Fit where
  r : Nat
  tau : Nat
  deriving DecidableEq, Repr

/-- The actuation under way or ended last on a channel (R386, R400, R404, R423). On a pair it stands on the even channel. -/
structure Actuation where
  applied : Nat := 0              -- upNs of application (R403)
  dirB : Bool := false            -- direction B of a pair (R415)
  reverse : Bool := false         -- both legs decay before RISE in the new direction (R401)
  restarted : Bool := false
  fromLow : Bool := true          -- RISE started below 10 mA (R404)
  pulseEnd : Option Nat := none   -- upNs
  riseUp : Nat := 0               -- upNs of the start of RISE
  waitUp : Nat := 0               -- upNs from which T_BOOST_WAIT counts
  waitEnd : Nat := 0              -- upNs at which T_BOOST_WAIT runs out (R443)
  peak : Bool := false            -- I_PEAK was reached in RISE
  points : Option (Nat × Nat × Nat × Nat) := none   -- t_a, V_a, t_b, V_b: 0.1 µs and 10 mV
  cut : Bool := false             -- RISE or DWELL ended early (R386)
  cutRise : Bool := false         -- a RELEASE ended RISE: its end gives the reservoir's part of E_PULL (R423)
  cutDwell : Bool := false        -- a RELEASE ended DWELL: its end gives the HS_V part of E_PULL
  vmOk : Bool := false            -- HOLD or DWELL lasted long enough for V_m and I_m (R404)
  ePull : Nat := 0                -- µJ
  vStart : Nat := 0               -- reservoir voltage at the start of RISE, 10 mV
  deriving DecidableEq, Repr

/-- One driver channel: DRV.CH_*, DRV.DG_* and its sequencer. -/
structure Driver where
  phase : Phase := .idle
  phaseUp : Nat := 0              -- upNs of its start
  act : Actuation := {}
  relFast : Bool := false         -- the release under way is FAST whatever RELMODE says (R388)
  relRegen : Bool := false        -- it is a REGEN release
  toFault : FCode := .none        -- FAULT that follows the release under way (R439, R440, R448)
  target : Nat := 0               -- SET_I target, mA
  propNow : Nat := 0              -- slewed setpoint, µA (R408)
  iMeas : Nat := 0                -- mA
  vRes : Nat := 0                 -- 10 mV
  vTgt : Nat := 0                 -- 10 mV

  tRise : Nat := 0                -- 10 µs
  fit : Option Fit := none
  pullinFail : Flag := {}
  goalMiss : Flag := {}
  fitReject : Flag := {}
  boostNr : Flag := {}
  holdTo : Flag := {}
  heatRel : Flag := {}
  lastRestarted : Bool := false
  restartCnt : Nat := 0
  actCnt : Nat := 0
  eLast : Nat := 0                -- mJ × 1,000
  ePast : List Nat := []          -- E_PULL of the last 16 counted actuations, newest first (R425)
  eHold : Nat := 0                -- µJ
  eRet : Nat := 0                 -- µJ
  tOnNs : Nat := 0                -- ns spent in PHASE 1 to 6 before the present phase
  bleedUp : Option Nat := none    -- upNs at which its domain went off, until the bleed resistor has done its work (R392)
  deriving DecidableEq, Repr

/-- The diagnostic part of a driver channel (DRV.DG_STATn to DG_TJn). -/
structure Diag where
  fcode : FCode := .none
  open_ : Flag := {}
  shortGnd : Flag := {}
  shortSup : Flag := {}
  shortLoad : Flag := {}
  offOpen : Flag := {}
  offLeak : Flag := {}
  overtemp : Flag := {}
  legConflict : Flag := {}
  retryLeft : Nat := 0
  pfRun : Nat := 0
  vDh : Nat := 0                  -- 10 mV
  vDl : Nat := 0
  tj : Int := 0                   -- 0.1 °C
  offFrom : Nat := 0              -- upNs of the last change of OFF_EN or MODE (R432)
  offSince : Option Nat := none   -- upNs since which the conditions of R432 hold, as the last sample saw them
  offLast : OffFind := .healthy
  offRun : Nat := 0               -- samples of the run, saturating at 10
  retryAt : Option Nat := none    -- upNs at which RETRY_T has run (R457)
  checking : Bool := false        -- the off-state check of a retry runs (R459)
  redo : Bool := false            -- that retry applies the action again (RETRY_MODE 2)
  again : Option Action := none   -- last energising action or SET_I, for RETRY_MODE 2
  cleanUp : Option Nat := none    -- upNs since which the hour of R460 runs
  legRun : Nat := 0               -- consecutive chop periods with LEG_CONFLICT
  legUp : Nat := 0                -- upNs of the last of them
  direct : Option (Nat × Nat) := none   -- direct drive: upNs of its end, switches (R471)
  peakI : Nat := 0                -- PEAK of the direct drive, mA
  deriving DecidableEq, Repr

/-- The driver block (Tables 9.9 to 9.12). -/
structure Drivers where
  ch : Vector Driver 32 := Vector.replicate 32 {}
  dg : Vector Diag 32 := Vector.replicate 32 {}
  vbus : Nat := 0                 -- 10 mV
  chgOn : Bool := false
  chgCh : Nat := 0
  boostOn : Bool := true          -- stopped by R55 and R599
  k : Nat := 255                  -- k × 255, rounded
  kNum : Nat := 1                 -- k as a fraction (R419)
  kDen : Nat := 1
  overNow : Bool := false         -- F exceeds B_EFF
  overEvt : Flag := {}
  deriving DecidableEq, Repr

/-! ### Chapter 11: fans -/

/-- A fan channel's configuration (Table 11.7) without its CH byte. -/
structure FanCfg where
  mode : Nat := 0
  senseEn : Bool := true
  ppr : Nat := 2
  dmin : Nat := 200
  dmax : Nat := 1000
  dfloor : Nat := 0
  ramp : Nat := 100
  stallRpm : Nat := 500
  stallT : Nat := 20
  tSpin : Nat := 10
  retryInt : Nat := 30
  retryMax : Nat := 3
  table : Nat := 0xFF
  src : Vector Nat 4 := Vector.replicate 4 0xFF
  iMin : Nat := 0
  iLock : Nat := 0
  deriving DecidableEq, Repr

/-- A fan group's configuration (FAN_GROUP); no members: no group. -/
structure FanGrpCfg where
  members : Nat := 0
  nAir : Nat := 0
  foDuty : Nat := 0
  foHold : Nat := 0
  deriving DecidableEq, Repr

/-- States of Table 11.4. -/
inductive FanState where
  | off | stopped | spinUp | running | retryWait | fault | unavailable
  deriving DecidableEq, Repr

/-- Fan fault codes (Tables 11.5 and 11.8). -/
inductive FanFault where
  | none | stall | overcurrent | short | shoot | overtemp
  deriving DecidableEq, Repr

/-- One fan channel at work (Table 11.10). -/
structure Fan where
  state : FanState := .off
  before : Option FanState := none   -- state held before a loss of the output stage (R509, R601)
  manual : Nat := 0               -- MANUAL target
  table : Nat := 0                -- TABLE target
  proc : Nat := 0                 -- PROCESS target
  lichen : Option Nat := none     -- lichen mode target (R570)
  tref : Option Int := none       -- m°C (R488)
  target : Nat := 0               -- effective target
  duty : Nat := 0                 -- DUTY_OUT × 1,000 (R480)
  ending : Bool := false          -- ramps down to stop (R480, R511)
  thrCapped : Bool := false
  foCmd : Bool := false
  runOk : Bool := false
  speed : Nat := 0
  edges : List Nat := []          -- upNs of the edges of the last 500 ms, newest first
  lastEdge : Option Nat := none
  revEdge : Nat := 0              -- edges counted towards the next revolution
  revCnt : Nat := 0
  iOut : Nat := 0                 -- mA
  vOut : Nat := 0                 -- 10 mV
  eOut : Nat := 0                 -- µJ, shown in J
  tj : Int := 0                   -- 0.1 °C
  stateUp : Nat := 0              -- upNs at which it entered its state
  lowUp : Option Nat := none      -- upNs since which RUN_OK reads 0 in RUNNING
  okUp : Option Nat := none       -- upNs since which it is RUNNING with RUN_OK 1 (R503)
  stallUp : Nat := 0              -- upNs of the stall
  fcode : FanFault := .none
  retryLeft : Nat := 0
  stall : Flag := {}
  shootBlock : Flag := {}
  overcurrent : Flag := {}
  short : Flag := {}
  overtemp : Flag := {}
  srcFault : Flag := {}
  shootRun : Nat := 0             -- consecutive PWM periods with SHOOT_BLOCK
  shootUp : Nat := 0              -- upNs of the last of them
  deriving DecidableEq, Repr

/-- One fan group at work (FAN.GRP_STATg). -/
structure FanGrp where
  failover : Bool := false
  airOk : Bool := false
  foEvt : Flag := {}
  deriving DecidableEq, Repr

/-- The fan block. -/
structure Fans where
  ch : Vector Fan 12 := Vector.replicate 12 {}
  grp : Vector FanGrp 4 := Vector.replicate 4 {}
  tbl : Vector (List Byte) 8 := Vector.replicate 8 []   -- fan-table images, empty: none (R487)
  lastForm : Option Nat := none   -- upNs / 1 ms of the last target formation
  deriving DecidableEq, Repr

/-! ### Chapter 12: programme, conveyor, stitch list, energy -/

/-- Programme states (Table 12.2). -/
inductive PState where
  | idle | start | run | hold | heatLock | cooldown | fill | unload | done | aborted
  deriving DecidableEq, Repr

/-- One grain parcel (Table 12.4 and R528 to R530). EXPO is kept in m°C × 0.1 s × 12, so that each tick adds an integer. -/
structure Parcel where
  mIn : Int := 0                  -- % × 1,000
  expo : Nat := 0
  tEntry : Nat := 0               -- µs
  mEst : Bool := false
  deriving DecidableEq, Repr

/-- A PROG_START or PROG_STOP that waits for the next process tick (R521). -/
inductive ProgReq where
  | start | resume | orderly | hold | abort | lichenCool
  deriving DecidableEq, Repr

/-- The programme at work. Item values are listed by ID; an item not listed has its default. -/
structure Prog where
  kind : Nat := 0                 -- Table 12.1; 0: none loaded
  items : List (Nat × Int) := []  -- stored items that differ from their defaults, IDs strictly rising
  state : PState := .idle
  hcause : Nat := 0
  heldFrom : PState := .idle
  reqs : List ProgReq := []       -- oldest first
  stateUp : Nat := 0              -- upNs of entry to the present state
  holdEvt : Flag := {}
  lostPermit : Option Bool := none -- a permit removal not yet seen by the process tick; true: lichen policy
  sp : Option Int := none         -- m°C × 600 in force, so that a tick's ramp is PL_RAMP
  ePrev : Option Int := none      -- m°C × 600
  pv : Option Int := none         -- m°C
  u : Nat := 0                    -- 0.1 %
  q : Nat := 0                    -- Q in force, m³/h × 600,000
  qRamp : Nat := 0                -- Q as R531 moves it, before the rule of half DIS_QMIN
  disPaused : Bool := false
  pauseUp : Option Nat := none
  accrued : Nat := 0              -- discharged volume since the last exit, L × 1,000 × 21,600 (exact at Q × 0.1 s)
  strokeUp : Nat := 0             -- upNs of the last stroke
  seen : Vector Nat 8 := Vector.replicate 8 0x10000   -- PSEQ of each port's newest record published
  parcels : List Parcel := []     -- parcel 0 first
  kdry : Nat := 40000
  mDisLast : Option Int := none
  inSum : Int × Nat := (0, 0)     -- DP_IN MOIST published since the previous entry: sum and count
  outSum : Int × Nat := (0, 0)    -- DP_OUT MOIST since the previous exit
  mEntry : Option Int := none     -- mean MOIST at entry to RUN (BATCH, BIN_DRY; Table 12.8)
  wRem : Int := 0                 -- g removed since start, × 10^6
  restored : Bool := false
  storeParcels : List Parcel := []   -- in the ferroelectric store (R533)
  storeKdry : Nat := 40000
  storeUp : Nat := 0
  fansOn : Bool := false          -- aeration decision in force (R534, R535)
  aerUp : Option Nat := none      -- upNs of the last start or stop
  aerLast : Option Nat := none    -- upNs of the last decision in this stay in RUN
  pinFault : Bool := false
  dryUp : Option Nat := none      -- upNs since which DP_BIN is at or below DRY_M_TGT
  deriving DecidableEq, Repr

/-- A conveyor stage's configuration (Table 12.5). -/
structure StageCfg where
  en : Bool := false
  out : Nat := 0
  proveDi : Nat := 0
  proveMin : Nat := 0
  plugDi : Nat := 0
  proveLow : Bool := false
  plugLow : Bool := false
  tStart : Nat := 0
  tProve : Nat := 0
  tClear : Nat := 0
  deriving DecidableEq, Repr

/-- The conveyor line's configuration (CONV_CONFIG KIND 0x02). -/
structure LineCfg where
  lvlDi : Vector Nat 4 := Vector.replicate 4 0
  lvlPol : Nat := 0
  contLichen : Bool := false
  deriving DecidableEq, Repr

/-- Faults of a conveyor stage (R539). -/
inductive StageFault where
  | motion | plug | drive
  deriving DecidableEq, Repr

/-- One conveyor stage at work. -/
structure ConvStage where
  running : Bool := false
  startUp : Nat := 0              -- upNs of its start
  moved : Bool := false           -- it has shown motion since its start
  movedUp : Nat := 0              -- upNs of its first motion since the start (R537)
  stillUp : Option Nat := none    -- upNs since which it shows no motion
  edgeUp : Option Nat := none     -- upNs of its last active edge
  stopUp : Nat := 0               -- upNs of its stop
  drvFault : Bool := false        -- its output stood in FAULT at the last tick
  fault : Option StageFault := none
  deriving DecidableEq, Repr

/-- Line states (CONV_STAT.LSTATE). -/
inductive LState where
  | idle | starting | running | stopping | faultStop
  deriving DecidableEq, Repr

/-- The conveyor line at work. -/
structure Conveyor where
  stage : Vector ConvStage 8 := Vector.replicate 8 {}
  lstate : LState := .idle
  goal : Nat := 0                 -- most upstream stage to run (R537)
  faultEvt : Flag := {}
  deriving DecidableEq, Repr

/-- States of a stitch entry (STITCH_STATUS). -/
inductive StitchState where
  | empty | pending | done | skipped | refused | cancelled
  deriving DecidableEq, Repr

/-- One stitch entry (Table 12.6) with its state. -/
structure Stitch where
  time : Nat := 0
  kind : Nat := 0
  tgt : Nat := 0
  arg : Nat := 0
  lateRun : Bool := false
  repeat_ : Bool := false
  lateMax : Nat := 0
  period : Nat := 0
  state : StitchState := .empty
  exec : Nat := 0
  deriving DecidableEq, Repr

/-- The stitch list (R545 to R553, Table 12.12). -/
structure Stitches where
  e : Vector Stitch 256 := Vector.replicate 256 {}
  skip : Flag := {}
  refuse : Flag := {}
  cancel : Flag := {}
  lateRunCnt : Nat := 0
  deriving DecidableEq, Repr

/-- Running totals of the energy figures (Table 12.8), since CTRL running. -/
structure Meters where
  actE : Nat := 0                 -- µJ of E_PULL
  actN : Nat := 0
  convE : Nat := 0                -- µJ drawn by PD00 to PD11
  convN : Nat := 0
  elecE : Nat := 0                -- µJ from VS_LOGIC and VS_POWER
  thermE : Int := 0               -- J × 36,000
  wRem : Int := 0                 -- as Prog.wRem
  deriving DecidableEq, Repr

/-- Metering windows of the three senders: totals and chain time µs at their starts (R554). -/
structure Energy where
  now : Meters := {}
  win : Vector Meters 3 := Vector.replicate 3 {}
  winStart : Vector Nat 3 := Vector.replicate 3 0
  winUp : Vector Nat 3 := Vector.replicate 3 0
  deriving DecidableEq, Repr

/-! ### Chapters 13 and 14: lichen mode, thermal management -/

/-- The lichen configuration (Table 13.3). -/
structure LichenCfg where
  progAuto : Bool := false
  fanAct : Vector Nat 12 := Vector.replicate 12 0
  lduty : Nat := 1000
  loFault : Nat := 0
  drvRel : Nat := 0
  deriving DecidableEq, Repr

/-- Lichen mode (Table 13.2). -/
structure Lichen where
  cfg : LichenCfg := {}
  active : Bool := false
  cause : Nat := 0
  entry : Flag := {}
  heatEnd : Flag := {}
  startUp : Nat := 0              -- upNs of the present or last entry
  dur : Nat := 0                  -- s, of a period that has ended
  actsDue : Nat := 0              -- entry actions stand ahead of the open window (1) or of the staged orders (2)
  deriving DecidableEq, Repr

/-- One of TS0 to TS7 (R586 to R589). -/
structure Sensor where
  samples : List Int := []        -- valid samples, newest first, at most 16, 0.1 °C
  invalid : Bool := false
  badRun : Nat := 0
  goodRun : Nat := 0
  hotRun : Nat := 0               -- consecutive samples at or above 150 °C (R598)
  deriving DecidableEq, Repr

/-- The thermal configuration (THERM_CONFIG). -/
structure ThermCfg where
  tStart : Nat := 120
  ts7Period : Nat := 0
  deriving DecidableEq, Repr

/-- The thermal block (Tables 14.5 and 14.6). -/
structure Therm where
  ts : Vector Sensor 7 := Vector.replicate 7 {}
  ts7 : Option Int := none        -- last valid TS7 sample
  ts7Up : Nat := 0                -- upNs of the end of its conversion
  ts7Fresh : Bool := false
  ts7Inv : Bool := false          -- TS7 is invalid (R587)
  ts7Bad : Nat := 0               -- consecutive invalid samples of TS7
  ts7Good : Nat := 0              -- consecutive valid ones
  ts7Start : Option Nat := none   -- upNs of the start of a running sample
  ts7Timer : Nat := 0             -- upNs from which TS7_PERIOD counts
  step : Nat := 0
  stepUp : Nat := 0               -- upNs of the last change of s
  shut : Bool := false
  coolUp : Option Nat := none     -- upNs since which TS0 to TS6 are valid and below 135 °C (R602)
  max : Option Int := none        -- THERM_MAX
  hotId : Nat := 0
  peak : Option Int := none
  stepUps : Nat := 0
  throtNs : Nat := 0              -- time with s above 0 in spells that have ended
  throtUp : Option Nat := none    -- upNs at which the present spell began
  cfg : ThermCfg := {}            -- THERM.CFG, in force
  evStepUp : Flag := {}
  evShut : Flag := {}
  evTs : Flag := {}
  evAmb : Flag := {}
  deriving DecidableEq, Repr

/-! ### Chapter 15: functional safety -/

/-- The safety configuration image (Table 15.10). -/
structure SafeCfg where
  heatEn : Bool := false
  unattEn : Bool := false
  estopFans : Bool := true
  patternD : Bool := false
  siEn : Nat := 0
  siOssd : Nat := 0
  siFilt : Nat := 3
  siDisc : Nat := 50
  airSrc : Nat := 0
  airGrp : Nat := 0
  airFilt : Nat := 500
  airProve : Nat := 10
  hlA : Nat := 0xFF
  hlB : Nat := 0xFF
  hlT : Int := 1200
  hlXtol : Nat := 20
  flameOffT : Nat := 50
  flameT : Nat := 0
  heatMax : Nat := 0
  heatDrv : Nat := 0
  heatLo : Nat := 0
  sver : Nat := 0
  deriving DecidableEq, Repr

/-- One channel, a or b, of a safety input (R617). Levels: true is closed. -/
structure SiChan where
  fresh : Bool := true            -- not sampled since SM's start
  raw : Bool := false             -- last plain sample
  rawUp : Nat := 0                -- upNs since which the raw level holds
  filt : Bool := false
  noPulse : Nat := 0              -- consecutive own pulses with no low level (R618)
  cross : Bool := false           -- it showed the pulse of the other test output
  okPulses : Nat := 0             -- consecutive own pulses shown
  deriving DecidableEq, Repr

/-- One safety input (R616 to R621). -/
structure SafeIn where
  a : SiChan := {}
  b : SiChan := {}
  demand : Bool := false
  diag : Bool := false
  diffUp : Option Nat := none     -- upNs since which the filtered channels differ
  demandUp : Nat := 0             -- chain time µs of entry to demand
  demandAt : Nat := 0             -- T_DEMAND
  deriving DecidableEq, Repr

/-- States of the heat permit. -/
inductive Permit where
  | off | armed | on | locked
  deriving DecidableEq, Repr

/-- One high-limit channel in SM's own path (R628 to R631). -/
structure HighLim where
  t : Option Int := none          -- T_SM, 0.001 °C
  invalid : Bool := true          -- the record is invalid under R629 or R631
  xRun : Nat := 0                 -- consecutive conversions beyond HL_XTOL
  passRun : Nat := 0              -- consecutive conversions that passed R630
  deriving DecidableEq, Repr

/-- A proof test under way (R649, R650). -/
structure Proof where
  ticket : Nat
  kind : Nat
  startUp : Nat
  deriving DecidableEq, Repr

/-- The safety monitor (Tables 15.14 and 15.15). -/
structure Safe where
  cfg : SafeCfg := {}
  cfgOk : Bool := true            -- the active configuration passes its SCRC (R643)
  cfgAct : Bool := false          -- a configuration has been confirmed
  pendCfg : Option (SafeCfg × Nat) := none   -- image checked, upNs of WRITE
  permit : Permit := .off
  lastReason : Nat := 0
  lastT : Nat := 0                -- chain time µs of the last grant or removal
  latch : Vector Flag 14 := Vector.replicate 14 {}
  removeCnt : Nat := 0
  si : Vector SafeIn 4 := Vector.replicate 4 {}
  ctrlReq : Bool := false
  airOk : Bool := false           -- airflow proven
  airUp : Option Nat := none      -- upNs since which it is proven
  noAirUp : Option Nat := none    -- upNs since which it is not
  airXUp : Vector (Option Nat) 4 := Vector.replicate 4 none -- upNs since which line and status disagree (R633)
  grantUp : Nat := 0              -- upNs of the last grant
  flamed : Bool := false          -- SI2 has entered demand since the grant
  removedUp : Option Nat := none  -- upNs of the last removal, until FLAME_OFF_T has been judged
  hl : Vector HighLim 2 := Vector.replicate 2 {}
  chkRun : Vector Nat 2 := Vector.replicate 2 0   -- consecutive passed check slots of each high-limit group
  aCmd : Bool := false
  bCmd : Bool := false
  aRb : Bool := false
  bRb : Bool := false
  hpOpen : Bool := false
  offBad : Nat := 0               -- consecutive off-state samples that fail R625
  offGood : Nat := 0              -- consecutive ones that pass
  lichenTmr : Option Nat := none  -- upNs at which SM's heat timer runs out (R572)
  estopLines : Bool := false      -- the lines of R639 are active
  relBad : Bool := false          -- a release acknowledgement was missing at the last removal (R644)
  p7Since : Bool := false         -- P7 has passed since REL_DIAG was set
  proof : Option Proof := none
  ptDay : Nat := 0                -- PT_AGE
  ptPass : Vector (Nat × Nat) 2 := Vector.replicate 2 (0, 0xFF)  -- T and RESULT of the last KIND 0x01 and 0x02, 0xFF: none yet
  ptOk : Vector Bool 2 := Vector.replicate 2 false  -- passed since PT_AGE last restarted
  dayUp : Nat := 0                -- upNs of the last whole day counted
  flame : Bool := false           -- SAFE.STAT.FLAME
  clockDue : Option Bool := none  -- a clock fault to be recorded after its reset (Table 15.7); true: the permit was on
  deriving DecidableEq, Repr
/-! ### Chapter 16: injection, field log, lifetime counters -/

/-- One injection slot: INJ.SLOTn and INJ.DTn with what the injection is doing (R668 to R671). -/
structure InjSlot where
  id : Nat := 0
  tgt : Nat := 0
  arg : Nat := 0
  dur : Nat := 0                  -- ms, 0 without end
  act : Bool := false
  det : Bool := false
  dt : Nat := 0xFFFFFFFF
  startUp : Nat := 0
  used : Nat := 0                 -- frames that a frame-CRC injection has failed so far
  deriving DecidableEq, Repr

/-- The test session and its injections (Table 16.7). -/
structure Inject where
  isOpen : Bool := false
  safety : Bool := false
  owner : Sender := .hostA
  timeout : Nat := 0              -- s
  lastUp : Nat := 0               -- upNs of the owner's last TEST_OPEN, INJECT or INJECT_CLEAR
  det : Flag := {}
  slots : Vector InjSlot 8 := Vector.replicate 8 {}
  deriving DecidableEq, Repr

/-- A field-log entry (Table 16.3) without its COMMIT word; `good` says whether that word matches. -/
structure LogEntry where
  eno : Nat := 0
  time : Nat := 0
  tfl : Nat := 0
  orig : Nat := 1
  cls : Nat
  code : Nat
  data : List Byte := []
  good : Bool := true
  deriving DecidableEq, Repr

/-- The field log (R679 to R682, R845, Table 16.8). -/
structure Log where
  eno : Nat := 0                  -- ENO the next entry takes, modulo 2^32
  entries : List LogEntry := []   -- newest first, at most 2,048
  queue : List LogEntry := []     -- handed to the log unit, oldest first
  accepted : Nat := 0             -- entries accepted in this 100 ms interval
  readMark : Option Nat := none
  overwrites : Nat := 0
  lostUnread : Nat := 0
  dropped : Nat := 0
  discarded : Nat := 0
  ovr : Flag := {}
  drop : Flag := {}
  deriving DecidableEq, Repr

/-- Lifetime counters (COUNTERS_READ, R687). -/
structure Counters where
  lifeUs : Nat := 0
  heatUs : Nat := 0
  starts : Nat := 0
  moss : Nat := 0
  handovers : Nat := 0
  deriving DecidableEq, Repr

/-! ### Chapter 17: memory and stream engine -/

/-- A stream timer (SC_CONFIG KIND 0x02, Table 17.14). -/
structure ScTimer where
  period : Nat := 0
  phase : Nat := 0
  deriving DecidableEq, Repr

/-- The configured part of a ring buffer (SC_CONFIG KIND 0x03). -/
structure RbCfg where
  base : Nat := 0
  size : Nat := 0
  hi : Nat := 0
  lo : Nat := 0
  deriving DecidableEq, Repr

/-- The moving part of a ring buffer (Table 17.15). -/
structure Rb where
  wr : Nat := 0
  rd : Nat := 0
  fill : Nat := 0
  hiEvt : Flag := {}
  loEvt : Flag := {}
  ovf : Flag := {}
  deriving DecidableEq, Repr

/-- States of a stream channel (Table 17.11). -/
inductive ScState where
  | idle | armed | run | halt | stopping
  deriving DecidableEq, Repr

/-- A stream channel: CH_STAT, CH_CNT, CH_EADDR and the chain it runs (R713 to R730). -/
structure ScChan where
  state : ScState := .idle
  cur : Nat := 0
  doneEvt : Flag := {}
  err : Flag := {}
  trigMiss : Flag := {}
  skip : Flag := {}
  ecode : Nat := 0
  eaddr : Nat := 0
  offset : Nat := 0               -- bytes of the current descriptor moved so far
  retries : Nat := 0              -- attempts of the failing burst so far
  failUp : Option Nat := none     -- upNs of the error of the burst that waits for its retry
  wrPend : Vector Nat 4 := Vector.replicate 4 0   -- bytes written to each ring, not yet committed
  rdPend : Vector Nat 4 := Vector.replicate 4 0   -- bytes read from each ring, not yet committed
  snapSlot : Option Nat := none   -- slot chosen for the chain (R710)
  snapBidx : Nat := 0             -- boundary that slot held at the trigger
  trigUp : Nat := 0               -- upNs of the trigger
  deriving DecidableEq, Repr

/-- The stream engine's moving state; the configured items are in `RunCfg`. -/
structure Stream where
  ch : Vector ScChan 16 := Vector.replicate 16 {}
  rb : Vector Rb 4 := Vector.replicate 4 {}
  tmrLast : Vector (Option Nat) 4 := Vector.replicate 4 none  -- chain time µs of each timer's last instant
  deriving DecidableEq, Repr


/-! ### Chapters 18 and 19: images, update transfer, activation, spore mode -/

/-- Image types (Table 18.1). -/
inductive ImgType where
  | ctrl | safe | port | cal
  deriving DecidableEq, Repr

/-- Bank states (Table 18.2). -/
inductive BankState where
  | empty | transfer | verified | committed | inService | resident
  deriving DecidableEq, Repr

/-- One bank's directory entry (R736). Bank 2t + b is bank b of type t. -/
structure Bank where
  state : BankState := .empty
  version : Nat := 0
  epoch : Nat := 0
  imgLen : Nat := 0
  imgHash : List Byte := []
  erases : Nat := 0
  trial : Bool := false
  hashOk : Bool := false          -- hash passed at the last start
  factory : Bool := false         -- its bytes are not given: the image the unit was delivered with, or flash left in an unknown state
  minver : Vector Nat 4 := Vector.replicate 4 0   -- COMPAT of the image (Table 18.4)
  proto : Nat := 0
  protoMin : Nat := 0
  protoMax : Nat := 0
  deriving DecidableEq, Repr

/-- The bank of a delivered image: in service, with the version, MINVER and protocol fields of Tables 0.1 and 19.4. -/
def Bank.delivered (version len : Nat) (minver : Vector Nat 4) (proto lo hi : Nat) : Bank :=
  { state := .inService, version := version, imgLen := len, hashOk := true, factory := true, minver := minver,
    proto := proto, protoMin := lo, protoMax := hi }

/-- The image directory as delivered: bank 0 of each pair in service, bank 1 empty. -/
def Bank.factoryDir : Vector Bank 8 :=
  #v[Bank.delivered 0x03040000 1572864 #v[0, 0x02010000, 0x01050000, 0] 6 5 6, {},
     Bank.delivered 0x02010000 262144 #v[0x03030000, 0, 0, 0] 0 0 0, {},
     Bank.delivered 0x01060000 131072 #v[0x03040000, 0, 0, 0] 4 3 4, {},
     Bank.delivered 0x01000000 65536 #v[0, 0, 0, 0] 0 0 0, {}]

/-- Transfer states (Table 18.6). -/
inductive XferState where
  | idle | erasing | receiving | verifying | verified | committed | tainted
  deriving DecidableEq, Repr

/-- A skein header's fields (Table 18.3). -/
structure Skein where
  typ : ImgType := .ctrl
  delta : Bool := false
  downgrade : Bool := false
  epoch : Nat := 0
  version : Nat := 0
  srcVer : Nat := 0
  imgLen : Nat := 0
  payLen : Nat := 0
  imgHash : List Byte := []
  srcHash : List Byte := []
  minver : Vector Nat 4 := Vector.replicate 4 0
  proto : Nat := 0
  protoMin : Nat := 0
  protoMax : Nat := 0
  deriving DecidableEq, Repr

/-- The delta applier's place in its stream (R742 to R745). -/
structure Delta where
  hold : List Byte := []          -- bytes of an operation that is not complete
  ended : Bool := false           -- END has been read
  outLen : Nat := 0               -- image bytes produced
  tail : List Byte := []          -- produced bytes short of a whole word
  deriving DecidableEq, Repr

/-- The update transfer (Table 18.11, R746 to R763). -/
structure Update where
  state : XferState := .idle
  hdr : Skein := {}
  header : List Byte := []        -- the 256 bytes as received
  reason : Nat := 0
  tid : Nat := 0
  tidCnt : Nat := 0               -- last TID taken, in the ferroelectric store (R752)
  ticket : Nat := 0               -- operation pending, or 0
  bank : Nat := 0                 -- 0 or 1
  checked : Bool := false         -- steps 6 to 10 have passed
  abortDue : Bool := false        -- UPDATE_ABORT waits for running work to end
  ledger : List (Nat × Nat) := [] -- intervals (start, end exclusive), rising, apart
  buf : List Byte := []           -- the last 8,192 payload bytes of a DELTA, oldest first
  delta : Delta := {}
  queue : List (Nat × List Byte) := []  -- words queued for programming: flash address and bytes, oldest first
  outLen : Nat := 0               -- bytes programmed and read back
  taint : Flag := {}
  vfail : Flag := {}
  repeatCnt : Nat := 0
  dir : Vector Bank 8 := Bank.factoryDir
  fused : Nat := 0                -- fused epoch
  deriving DecidableEq, Repr

/-- Activation phases (Table 19.2). -/
inductive HoPhase where
  | none | boot | snapshot | catchup | switch | trial | fallback
  deriving DecidableEq, Repr

/-- Activation and spore state (Table 19.8). -/
structure Handover where
  phase : HoPhase := .none
  typ : Option ImgType := none    -- type of the present or last activation
  tid : Nat := 0
  ticket : Nat := 0
  result : Nat := 0
  fbCause : Nat := 0              -- of the present or last activation
  lastFb : Nat := 0               -- HO_STAT.FB_CAUSE: of the last fallback
  phaseUp : Nat := 0              -- upNs at which the phase began
  applied : Nat := 0              -- upNs of application
  pages : Nat := 0                -- pages passed
  pageMax : Nat := 0              -- pages of this snapshot, at most 48
  lag : Nat := 0
  ticks : Nat := 0                -- boundaries since catch-up that were no process-tick boundary (R777)
  passed : Bool := false          -- self-check passed
  overruns : Nat := 0             -- OVERRUN events in the trial window
  fbDue : Option Nat := none      -- FB_CAUSE of a fallback to be made at the next boundary (R781)
  switched : Bool := false        -- the merge of the switch tick waits for the incoming core (R778)
  safePath : Bool := false        -- the hardware path of R787 acts
  safeTrip : Bool := false        -- SI0a or SI0b opened while it acted (R788)
  calDue : Bool := false          -- the CAL switch waits for its 10 ms boundary (R793)
  fallback : Flag := {}
  abandon : Flag := {}
  spore : Nat := 0                -- SPR_STAT.CAUSE
  deriving DecidableEq, Repr

/-! ### The configuration sets of Table 4.15 -/

/-- The running configuration: every running item of Table 4.15, plus the settings stored with it. -/
structure RunCfg where
  chan : Vector ChCfg 64 := Vector.replicate 64 {}
  scan : Vector ScanCfg 4 := Vector.replicate 4 {}
  prof : Vector Profile 32 := Vector.replicate 32 {}
  pair : Vector Bool 16 := Vector.replicate 16 false
  budget : Nat := 24000
  diag : Vector DiagCfg 32 := Vector.replicate 32 {}
  loop : Vector LoopCfg 8 := Vector.replicate 8 {}
  fan : Vector FanCfg 12 := Vector.replicate 12 {}
  fgrp : Vector FanGrpCfg 4 := Vector.replicate 4 {}
  stage : Vector StageCfg 8 := Vector.replicate 8 {}
  line : LineCfg := {}
  therm : ThermCfg := {}
  desc : Vector (List Byte) 48 := Vector.replicate 48 (List.replicate 32 0)   -- slots 16 to 63
  tmr : Vector ScTimer 4 := Vector.replicate 4 {}
  rb : Vector RbCfg 4 := Vector.replicate 4 {}
  first : Vector Nat 8 := Vector.replicate 8 0xFF   -- host channels 8 to 15
  firstSet : Vector Bool 8 := Vector.replicate 8 false -- FIRST has been configured (R197)
  deriving DecidableEq, Repr

/-- The factory configuration of a fan channel (Table 11.7). -/
def FanCfg.factory (n : Nat) : FanCfg :=
  if n < 6 then { ppr := 0, stallRpm := 0, iLock := 5000 } else {}

/-- The factory configuration (R831 and the chapters' factory values). -/
def RunCfg.factory : RunCfg :=
  { fan := Vector.ofFn (fun i : Fin 12 => FanCfg.factory i.val) }

/-- One of the two copies of the stored set (R200). -/
structure CfgCopy where
  gen : Nat := 0
  valid : Bool := true
  set : RunCfg := RunCfg.factory
  deriving DecidableEq, Repr

/-- The stored configuration and a save under way (R199, R200). -/
structure CfgStore where
  copy : Vector CfgCopy 2 := Vector.replicate 2 {}
  saves : Nat := 0
  fault : Bool := false           -- neither copy was valid at the last start
  saving : Option (Nat × RunCfg) := none   -- ticket and the set captured
  capture : Option Nat := none    -- ticket of a save whose capture is due at the end of this boundary's orders
  deriving DecidableEq, Repr

/-- The filtered digital inputs (R622). -/
structure Dio where
  di : BitVec 16 := 0
  deriving DecidableEq, Repr

/-! ### The whole node -/

/-- The state of the node, and the commands that wait, first in first out. -/
structure State where
  clk : Clock := {}
  sys : Sys := {}
  pow : Power := {}
  ring : Ring := {}
  frm : Frames := {}
  auth : Auth := {}
  run : RunCfg := RunCfg.factory
  cfgs : CfgStore := {}
  fe : FrontEnd := {}
  tab : Tables := {}
  snap : Snaps := {}
  loop : Vector LoopOut 8 := Vector.replicate 8 {}
  die : Probes := {}
  drv : Drivers := {}
  fan : Fans := {}
  prog : Prog := {}
  conv : Conveyor := {}
  stitch : Stitches := {}
  energy : Energy := {}
  lich : Lichen := {}
  therm : Therm := {}
  safe : Safe := {}
  inj : Inject := {}
  log : Log := {}
  cnt : Counters := {}
  se : Stream := {}
  upd : Update := {}
  ho : Handover := {}
  dio : Dio := {}
  mem : List Host.Cell := []      -- host buffer area and image flash (Sys2Proof/Machine/Memory.lean)
  free : Nat := 0                 -- free values drawn so far (log entry 1); the model's own field
  pending : List Instr := []
  deriving DecidableEq, Repr

/-- The node as delivered (R831) with both supplies absent: every register at the value the spec gives for reset, memory with
nothing listed, nothing waiting. -/
def State.reset : State := {}

end Sys2Proof.Machine
end

