-- ==== Sys2Proof/Machine/Ops.lean ====
section
/-! DEFINITION. The operations over the state that every chapter uses: updates of one part, time, flags, free values, the field
log, the injection slots, tickets and replies. -/

namespace Sys2Proof.Machine

/-! ### Updates of one part -/

/-- `s` with its `clk` part changed by `f`. -/
def State.mClk (s : State) (f : Clock → Clock) : State := { s with clk := f s.clk }

/-- `s` with its `sys` part changed by `f`. -/
def State.mSys (s : State) (f : Sys → Sys) : State := { s with sys := f s.sys }

/-- `s` with its `pow` part changed by `f`. -/
def State.mPow (s : State) (f : Power → Power) : State := { s with pow := f s.pow }

/-- `s` with its `ring` part changed by `f`. -/
def State.mRing (s : State) (f : Ring → Ring) : State := { s with ring := f s.ring }

/-- `s` with its `frm` part changed by `f`. -/
def State.mFrm (s : State) (f : Frames → Frames) : State := { s with frm := f s.frm }

/-- `s` with its `auth` part changed by `f`. -/
def State.mAuth (s : State) (f : Auth → Auth) : State := { s with auth := f s.auth }

/-- `s` with its `run` part changed by `f`. -/
def State.mRun (s : State) (f : RunCfg → RunCfg) : State := { s with run := f s.run }

/-- `s` with its `cfgs` part changed by `f`. -/
def State.mCfgs (s : State) (f : CfgStore → CfgStore) : State := { s with cfgs := f s.cfgs }

/-- `s` with its `fe` part changed by `f`. -/
def State.mFe (s : State) (f : FrontEnd → FrontEnd) : State := { s with fe := f s.fe }

/-- `s` with its `tab` part changed by `f`. -/
def State.mTab (s : State) (f : Tables → Tables) : State := { s with tab := f s.tab }

/-- `s` with its `snap` part changed by `f`. -/
def State.mSnap (s : State) (f : Snaps → Snaps) : State := { s with snap := f s.snap }

/-- `s` with its `loop` part changed by `f`. -/
def State.mLoop (s : State) (f : Vector LoopOut 8 → Vector LoopOut 8) : State := { s with loop := f s.loop }

/-- `s` with its `die` part changed by `f`. -/
def State.mDie (s : State) (f : Probes → Probes) : State := { s with die := f s.die }

/-- `s` with its `drv` part changed by `f`. -/
def State.mDrv (s : State) (f : Drivers → Drivers) : State := { s with drv := f s.drv }

/-- `s` with its `fan` part changed by `f`. -/
def State.mFan (s : State) (f : Fans → Fans) : State := { s with fan := f s.fan }

/-- `s` with its `prog` part changed by `f`. -/
def State.mProg (s : State) (f : Prog → Prog) : State := { s with prog := f s.prog }

/-- `s` with its `conv` part changed by `f`. -/
def State.mConv (s : State) (f : Conveyor → Conveyor) : State := { s with conv := f s.conv }

/-- `s` with its `stitch` part changed by `f`. -/
def State.mStitch (s : State) (f : Stitches → Stitches) : State := { s with stitch := f s.stitch }

/-- `s` with its `energy` part changed by `f`. -/
def State.mEnergy (s : State) (f : Energy → Energy) : State := { s with energy := f s.energy }

/-- `s` with its `lich` part changed by `f`. -/
def State.mLich (s : State) (f : Lichen → Lichen) : State := { s with lich := f s.lich }

/-- `s` with its `therm` part changed by `f`. -/
def State.mTherm (s : State) (f : Therm → Therm) : State := { s with therm := f s.therm }

/-- `s` with its `safe` part changed by `f`. -/
def State.mSafe (s : State) (f : Safe → Safe) : State := { s with safe := f s.safe }

/-- `s` with its `inj` part changed by `f`. -/
def State.mInj (s : State) (f : Inject → Inject) : State := { s with inj := f s.inj }

/-- `s` with its `log` part changed by `f`. -/
def State.mLog (s : State) (f : Log → Log) : State := { s with log := f s.log }

/-- `s` with its `cnt` part changed by `f`. -/
def State.mCnt (s : State) (f : Counters → Counters) : State := { s with cnt := f s.cnt }

/-- `s` with its `se` part changed by `f`. -/
def State.mSe (s : State) (f : Stream → Stream) : State := { s with se := f s.se }

/-- `s` with its `upd` part changed by `f`. -/
def State.mUpd (s : State) (f : Update → Update) : State := { s with upd := f s.upd }

/-- `s` with its `ho` part changed by `f`. -/
def State.mHo (s : State) (f : Handover → Handover) : State := { s with ho := f s.ho }

/-- `s` with its `dio` part changed by `f`. -/
def State.mDio (s : State) (f : Dio → Dio) : State := { s with dio := f s.dio }

/-- `s` with its `mem` part changed by `f`. -/
def State.mMem (s : State) (f : List Host.Cell → List Host.Cell) : State := { s with mem := f s.mem }

/-- Driver channel `n` changed by `f`. -/
def State.mDrvCh (s : State) (n : Fin 32) (f : Driver → Driver) : State :=
  s.mDrv fun d => { d with ch := vmod d.ch n f }

/-- The diagnostic part of driver channel `n` changed by `f`. -/
def State.mDiag (s : State) (n : Fin 32) (f : Diag → Diag) : State :=
  s.mDrv fun d => { d with dg := vmod d.dg n f }

/-- Fan channel `n` changed by `f`. -/
def State.mFanCh (s : State) (n : Fin 12) (f : Fan → Fan) : State :=
  s.mFan fun d => { d with ch := vmod d.ch n f }

/-- Fan group `g` changed by `f`. -/
def State.mFanGrp (s : State) (g : Fin 4) (f : FanGrp → FanGrp) : State :=
  s.mFan fun d => { d with grp := vmod d.grp g f }

/-- Loop output `n` changed by `f`. -/
def State.mLo (s : State) (n : Fin 8) (f : LoopOut → LoopOut) : State := s.mLoop fun v => vmod v n f

/-- Measurement channel `n` changed by `f`. -/
def State.mCh (s : State) (n : Fin 64) (f : Chan → Chan) : State :=
  s.mFe fun d => { d with ch := vmod d.ch n f }

/-- Converter group `g` changed by `f`. -/
def State.mGrp (s : State) (g : Fin 4) (f : Group → Group) : State :=
  s.mFe fun d => { d with grp := vmod d.grp g f }

/-- Probe port `n` changed by `f`. -/
def State.mPort (s : State) (n : Fin 8) (f : ProbePort → ProbePort) : State :=
  s.mDie fun d => { d with port := vmod d.port n f }

/-- `f` carried out for each element of a list in turn. -/
def State.each {α : Type} (s : State) (l : List α) (f : State → α → State) : State := l.foldl f s

/-! ### Time -/

/-- Chain time in µs. -/
def State.ctUs (s : State) : Nat := s.clk.ctNs / 1000

/-- The last value of chain time (R127), in µs. -/
def ctMax : Nat := 2 ^ 48 - 1

/-- `ns` nanoseconds pass: the core clock counts them, and chain time runs with them, slewed by at most 10 µs per 10 ms while a
correction is left (R120), until it is held at its last value (R127). -/
def Clock.advance (c : Clock) (ns : Nat) : Clock :=
  let lim : Int := (ns / 1000 : Nat)
  let part := clampI (-lim) lim c.slew
  let ct := ((c.ctNs : Int) + ns + part).toNat
  if ctMax * 1000 ≤ ct then { c with upNs := c.upNs + ns, ctNs := ctMax * 1000, slew := c.slew - part }
  else { c with upNs := c.upNs + ns, ctNs := ct, slew := c.slew - part }

/-- `ns` nanoseconds pass. -/
def State.advance (s : State) (ns : Nat) : State := s.mClk fun c => c.advance ns

/-- The nanoseconds from `t` to now on the core clock. -/
def State.since (s : State) (t : Nat) : Nat := s.clk.upNs - t

/-- The last 10 ms boundary before chain time `ns`: a node that starts or steps there publishes none that has gone by (R317, R840). -/
def lastBoundary (ns : Nat) : Nat := (ns - 1) / 10000000

/-- `ms` milliseconds in ns. -/
def ms (n : Nat) : Nat := n * 1000000

/-- `n` seconds in ns. -/
def sec (n : Nat) : Nat := n * 1000000000

/-- A span that began at `t`, where it began, has lasted `ns`. -/
def State.lasted (s : State) (t : Option Nat) (ns : Nat) : Bool :=
  match t with
  | some u => decide (ns ≤ s.since u)
  | none => false

/-! ### Flags (R673 to R675) -/

/-- A hardware setting of the flag: it reads 1 and its count rises, to at most 0xFF. -/
def Flag.raise (f : Flag) : Flag := { set := true, cnt := satTo 0xFF (f.cnt + 1) }

/-- The flag raised where `b` holds. -/
def Flag.raiseIf (f : Flag) (b : Bool) : Flag := if b then f.raise else f

/-- A write of 1 to the flag where `b` holds: it reads 0 and its count stays. -/
def Flag.clearIf (f : Flag) (b : Bool) : Flag := if b then { f with set := false } else f

/-- The 16-bit saturating counters. -/
def inc16 (n : Nat) : Nat := satTo 0xFFFF (n + 1)

/-- The 8-bit saturating counters. -/
def inc8 (n : Nat) : Nat := satTo 0xFF (n + 1)

/-- The 32-bit saturating counters. -/
def inc32 (n : Nat) : Nat := satTo 0xFFFFFFFF (n + 1)

/-! ### Free values (log entry 1) -/

/-- The next free value, of `w` bits. -/
def State.freeNat (s : State) (w : Nat) : Nat := Config.freeValue s.free % 2 ^ w

/-- The state after a free value was drawn. -/
def State.drew (s : State) : State := { s with free := s.free + 1 }

/-! ### Codes -/

/-- SRC of a sender (Table 4.1). -/
def senderCode : Sender → Nat
  | .hostA => 0xF0
  | .hostB => 0xF1
  | .svc => 0xF8

/-- The holder that a sender is. -/
def senderHolder : Sender → Holder
  | .hostA => .hostA
  | .hostB => .hostB
  | .svc => .svc

/-- Place of a sender in the tables kept per sender. -/
def senderIx : Sender → Fin 3
  | .hostA => 0
  | .hostB => 1
  | .svc => 2

/-- HOLDER codes (Table 4.13). -/
def holderCode : Holder → Nat
  | .none => 0x00
  | .hostA => 0xF0
  | .hostB => 0xF1
  | .svc => 0xF8
  | .lichen => 0xFC

/-- Status codes of Table 4.7. -/
def statusCode : Status → Nat
  | .ok => 0x00
  | .acceptedPending => 0x01
  | .badOpcode => 0x10
  | .badLength => 0x11
  | .badParam => 0x12
  | .badState => 0x13
  | .noNeedle => 0x14
  | .superseded => 0x15
  | .busy => 0x16
  | .authFail => 0x20
  | .counterStale => 0x21
  | .rekeyRequired => 0x22
  | .notErased => 0x30
  | .rangeFault => 0x31
  | .busError => 0x32
  | .versionRollback => 0x40
  | .bindingMismatch => 0x41
  | .signatureFail => 0x42
  | .incompatible => 0x43
  | .tainted => 0x44
  | .safetyLocked => 0x50
  | .heatActive => 0x51
  | .throttled => 0x60
  | .late => 0x61

/-! ### What several chapters ask of the state -/

/-- The node is awake: its stage is neither off, moss nor power-down. -/
def State.awake (s : State) : Bool :=
  match s.pow.stage with
  | .boot | .ringReady | .running | .spore => true
  | _ => false

/-- CTRL runs. -/
def State.ctrlRuns (s : State) : Bool := s.pow.stage == .running

/-- The heat permit is on. -/
def State.permitOn (s : State) : Bool := s.safe.permit == .on

/-- SI0 is in demand or the latch ESTOP is set (R640), or the hardware path of R787 has seen SI0 open (R788). -/
def State.estopHeld (s : State) : Bool :=
  (s.safe.latch[0]).set || (bitOf s.safe.cfg.siEn 0 && ((s.safe.si[0]).demand || (s.safe.si[0]).diag)) || s.ho.safeTrip

/-- VS_POWER serves the outputs: within Table 2.13 (R55, R56). -/
def State.vpOk (s : State) : Bool := s.pow.vpOk

/-- The clock monitor has tripped and its reset is due (R29). -/
def State.clockDown (s : State) : Bool := s.safe.clockDue.isSome && s.sys.resetDue.isSome

/-- The power outputs are held off by VS_POWER (R55) or by thermal shutdown (R599). -/
def State.outputsOff (s : State) : Bool := !s.pow.vpOk || s.therm.shut

/-- A session's ALIGNED bit (R121). -/
def State.aligned (s : State) : Bool :=
  s.clk.lastCorr ≤ 1000 &&
    match s.clk.lastUsed with
    | some u => decide (s.since u ≤ ms 20)
    | none => false

/-- The bank of image type `t` that is in service: 2t or 2t + 1 (R735). -/
def State.bankOf (s : State) (t : Nat) : Option (Fin 8) :=
  (List.finRange 8).find? (fun i => i.val / 2 == t && (s.upd.dir[i]).state == .inService)

/-- A handover's PHASE 1 to 4 (R199). -/
def State.inHandover (s : State) : Bool :=
  match s.ho.phase with
  | .boot | .snapshot | .catchup | .switch => true
  | _ => false

/-- An activation or its trial window is in progress (R771). -/
def State.activating (s : State) : Bool := s.ho.phase != .none

/-- The activation that keeps the permit from being granted: a CTRL handover up to the end of SWITCH, a SAFE activation up to the end
of its trial window (R772). -/
def State.hoBlocks (s : State) : Bool :=
  match s.ho.typ with
  | some .ctrl => s.inHandover
  | some .safe => s.activating
  | _ => false

/-- Domain `d` is on. -/
def State.domOn (s : State) (d : Nat) : Bool := s.pow.pdOn.getLsbD d

/-- Domain `d` is kept off after a failure (R61). -/
def State.domDead (s : State) (d : Nat) : Bool := s.pow.pdDead.getLsbD d

/-- The protection level is GUARDED (R202). -/
def State.guarded (s : State) : Bool := s.auth.keyVer.toList.any (fun v => v != 0)

/-! ### Field log and injections (R668 to R671, R678 to R682) -/

/-- An entry handed to the log unit. -/
def State.logAs (s : State) (orig cls code : Nat) (inj : Bool) (data : List Byte) : State :=
  s.mLog fun l => { l with queue := l.queue ++ [{ time := s.ctUs, tfl := pack [(1, bit s.clk.ctValid), (1, bit s.aligned), (1, bit inj)],
                                                  orig := orig, cls := cls, code := code, data := data }] }

/-- An entry of the active core (ORIG 0x01; in spore mode 0x05, R806). -/
def State.logE (s : State) (cls code : Nat) (data : List Byte) : State :=
  s.logAs (if s.pow.stage == .spore then 5 else 1) cls code false data

/-- Injection `id` acts on `tgt`. -/
def State.injOn (s : State) (id tgt : Nat) : Bool :=
  s.inj.isOpen && s.inj.slots.toList.any (fun x => x.act && x.id == id && x.tgt == tgt)

/-- ARG of injection `id` on `tgt`. -/
def State.injArg (s : State) (id tgt : Nat) : Nat :=
  match s.inj.slots.toList.find? (fun x => x.act && x.id == id && x.tgt == tgt) with
  | some x => x.arg
  | none => 0

/-- The slot on which the detector `id` on `tgt` fires for the first time (R671). -/
def State.firing (s : State) (id tgt : Nat) : Option (Fin 8) :=
  (List.finRange 8).find? (fun i =>
    let x := s.inj.slots[i]
    x.act && x.id == id && x.tgt == tgt && !x.det)

/-- The detector of `id` on `tgt` has fired: where an injection acts on it, DET and DT are recorded and an entry is logged
(R671). `latch` is the latch bit that it set, 0xFF none. -/
def State.detected (s : State) (id tgt : Nat) (latch : Nat) : State :=
  if s.inj.isOpen then
    match s.firing id tgt with
    | none => s
    | some i =>
      let dt := satTo 0xFFFFFFFE (s.since (s.inj.slots[i]).startUp / 1000)
      let s := s.mInj fun x =>
        { x with slots := vmod x.slots i (fun y => { y with det := true, dt := dt }), det := x.det.raise }
      s.logAs (if id / 0x100 == 9 then 2 else 3) 0x0A 0x04 true
        ([BitVec.ofNat 8 i.val] ++ leBytes 2 id ++ leBytes 1 tgt ++ leBytes 4 dt ++ leBytes 1 latch)
  else s

/-- An entry of a hardware block (ORIG 0x03) about a detector that injection `id` on `tgt` may drive (R670). -/
def State.logHw (s : State) (id tgt cls code : Nat) (data : List Byte) : State :=
  s.logAs 3 cls code (s.injOn id tgt) data

/-- An entry of SM (ORIG 0x02). -/
def State.logSm (s : State) (code : Nat) (inj : Bool) (data : List Byte) : State := s.logAs 2 0x09 code inj data

/-! ### Results, tickets, replies -/

/-- What an order did: its status, its reply payload after the status byte, and the state after it. -/
structure Res where
  status : Status
  data : List Byte
  s : State
  unsync : Bool := false          -- the reply carries FLG.UNSYNC
  silent : Bool := false          -- no reply is sent (ADDR_ASSIGN naming another node)

/-- An order that changes nothing and gets `st`. -/
def Res.bad (st : Status) (s : State) : Res := { status := st, data := [], s := s }

/-- An order that is executed. -/
def Res.ok (data : List Byte) (s : State) : Res := { status := .ok, data := data, s := s }

/-- The ticket after `t` (R165). -/
def nextTicketAfter (t : Nat) : Nat := if t ≥ 0xFFFF then 1 else t + 1

/-- Operations still pending (R166). -/
def State.pendingOps (s : State) : Nat := (s.frm.pend.filter (fun p => p.outcome.isNone)).length

/-- A new ticket for opcode `opc` of `q`, with EST `est`; BUSY while four operations are pending (R165, R166). `f` gets the ticket
and the state that holds it. -/
def State.withTicket (s : State) (q : Req) (opc est : Nat) (f : Nat → State → State) : Res :=
  if s.pendingOps ≥ 4 then .bad .busy s
  else
    let t := s.frm.nextTicket
    let s' := s.mFrm fun x => { x with nextTicket := nextTicketAfter t,
                                       pend := x.pend ++ [{ ticket := t, opc := opc, sender := q.sender, auth := q.auth, est := est }] }
    { status := .acceptedPending, data := leBytes 2 t ++ leBytes 2 est, s := f t s' }

/-- The pending operation `t` ends with `st` and `data` (R167). -/
def State.finish (s : State) (t : Nat) (st : Status) (data : List Byte) : State :=
  s.mFrm fun x => { x with pend := x.pend.map fun p =>
    if p.ticket == t && p.outcome.isNone then { p with outcome := some (st, data), doneUp := s.clk.upNs } else p }

/-- A reply queued for its sender (R152, R164). -/
def State.pushReply (s : State) (who : Sender) (r : Reply) : State :=
  s.mFrm fun x => { x with replies := vmod x.replies (senderIx who) (fun l => l ++ [r]) }

end Sys2Proof.Machine
end

