-- ==== Sys2Proof/Machine/Serve.lean ====
section
/-! DEFINITION. An order of a host as the node serves it: what each opcode says of itself (Tables 4.11, 4.12 and 5.3), the checks
that stand before an opcode's own (R73, R154, R168, R177 to R185, R231, R233, R800), and the reply. -/

namespace Sys2Proof.Machine

/-- What authentication an opcode needs at GUARDED (Table 5.3). -/
inductive Prot where
  /-- Not required. -/
  | free
  /-- Required. -/
  | tagged
  /-- Required, save as a broadcast on the ring from the needle's authenticated holder (R233). -/
  | tagOrHolder
  deriving DecidableEq, Repr

/-- An opcode with its payload read. `needle`: it goes through the merge (R177). `targets`: what it acts on, each with whether the
order is safe-direction there (Table 4.6). `run`: its own checks and its effect on the targets that `keep` admits. -/
structure Op where
  opc : Nat
  mem : Bool := false
  needle : Bool := false
  anyHolder : State → Bool := fun _ => false   -- merged, and judged by the opcode itself whoever sends it (R138, R179, R191)
  prot : Prot := .free
  bcast : Bool := false
  pends : Bool := false           -- it replies ACCEPTED_PENDING where it is accepted (Table 4.4 step 11)
  lenOk : Bool := true            -- the payload length matches the opcode (Table 4.4 step 12)
  targets : State → List (Target × Bool) := fun _ => []
  run : Req → (Target → Bool) → State → Res

/-- Every target of the order is one on which it is safe-direction (R185). -/
def Op.allSafe (o : Op) (s : State) : Bool :=
  let t := o.targets s
  !t.isEmpty && t.all (fun x => x.2)

/-- The opcode is served before CTRL runs: one of groups 0x0_ and 0x1_ of the control page (R73), KEY_LOAD excepted (R209). -/
def Op.early (o : Op) : Bool := !o.mem && o.opc < 0x20 && o.opc != 0x0B

/-- The opcodes served in spore mode (Table 19.6). -/
def Op.inSpore (o : Op) : Bool :=
  if o.mem then [0x00, 0x10, 0x11, 0x12, 0x13, 0x14, 0x15, 0x16, 0x17, 0x20, 0x21, 0x22].contains o.opc
  else [0x00, 0x07, 0x09, 0x0A, 0x12, 0x0C, 0x0D, 0x0E, 0x10, 0x11, 0x14].contains o.opc

/-- The node answers frames: from ring-ready on, and in spore mode. -/
def State.answers (s : State) : Bool :=
  match s.pow.stage with
  | .ringReady | .running | .spore => true
  | _ => false

/-- Authentication missing where Table 5.3 and R233 require it. -/
def Op.lacksTag (o : Op) (q : Req) (s : State) : Bool :=
  s.guarded && !q.auth &&
    match o.prot with
    | .free => false
    | .tagged => !o.allSafe s
    | .tagOrHolder =>
      !(q.bcast && q.sender != .svc && s.frm.holder == senderHolder q.sender && s.frm.ndlAuth)

/-- The sender may have this order executed: it holds the needle, the order is safe-direction on every target, or the opcode judges
the holder itself (R177 to R185). -/
def Op.mayRun (o : Op) (q : Req) (s : State) : Bool :=
  !o.needle || o.anyHolder s || s.frm.holder == senderHolder q.sender || o.allSafe s

/-- Steps 9 and 10 of Table 4.4. -/
def Op.barred (o : Op) (q : Req) (s : State) : Option Res :=
  if q.bcast && !o.bcast then some (.bad .badOpcode s)
  else if o.lacksTag q s then some (.bad .authFail (s.mAuth fun a => { a with missing := a.missing.raise }))
  else none

/-- Steps 11 and 12 of Table 4.4, the reply queue apart, and what Table 19.6 leaves unserved. -/
def Op.unready (o : Op) (s : State) : Option Res :=
  if s.pow.stage == .ringReady && !o.early then some (.bad .busy s)
  else if s.pow.stage == .spore && !o.inSpore then some (.bad .badState s)
  else if o.pends && 4 ≤ s.pendingOps then some (.bad .busy s)
  else if !o.lenOk then some (.bad .badLength s)
  else none

/-- Steps 9 to 12 of Table 4.4; none: the order goes on to step 13. -/
def Op.screen (o : Op) (q : Req) (s : State) : Option Res := (o.barred q s).or (o.unready s)

/-- The order judged and carried out alone, at its place in the merge: steps 9 to 13 of Table 4.4 and R185. -/
def Op.judge (o : Op) (q : Req) (keep : Target → Bool) (s : State) : Res :=
  match o.screen q s with
  | some r => r
  | none => if o.mayRun q s then o.run q keep s else .bad .noNeedle s

/-- The reply counters of Table 4.14. -/
def State.countReply (s : State) (st : Status) : State :=
  match st with
  | .noNeedle => s.mFrm fun x => { x with noNeedleCnt := inc8 x.noNeedleCnt }
  | .superseded => s.mFrm fun x => { x with supersededCnt := inc8 x.supersededCnt }
  | _ => s

/-- The id of the session that carries a tagged request: its sender's open session. -/
def State.sessionOf (s : State) (q : Req) : Option Nat :=
  if q.auth then (s.auth.openS[senderIx q.sender]).map (fun x => x.id) else none

/-- The reply to `q` under opcode `opc` (R152, R153). -/
def replyOf (mem : Bool) (opc : Nat) (q : Req) (sess : Option Nat) (st : Status) (data : List Byte) : Reply :=
  { opc := opc, mem := mem, seq := q.seq, sweep := q.sweep,
    payload := BitVec.ofNat 8 (statusCode st) :: data, sess := sess }

/-- What an opcode's reply brings with it once it is sent: a reset (R192, R804, R801), moss entry (R68), the end of sessions
(R207, R237), the note that flash was read during a change (R697). -/
def decorate (o : Op) (st : Status) (s : State) (data : List Byte) (r : Reply) : Reply :=
  if st == .ok then
    if !o.mem && o.opc == 0x14 then { r with resetAfter := some 5 }
    else if o.mem && o.opc == 0x18 then { r with resetAfter := some 6 }
    else if !o.mem && (o.opc == 0x0F || o.opc == 0x04) then { r with mossAfter := true }
    else if !o.mem && o.opc == 0x0A then { r with endOpen := true }
    else if !o.mem && o.opc == 0x0B then { r with endSlot := some (data.headD 0).toNat }
    else r
  else if st == .acceptedPending && o.mem && o.opc == 0x13 && s.pow.stage == .spore then { r with resetAfter := some 7 }
  else r

/-- A valid request: a qualifying event while its sender holds the needle (R182). -/
def State.noteValid (s : State) (who : Sender) : State :=
  s.mFrm fun x =>
    { x with validWas := vmod x.validWas (senderIx who) fun w => if x.validUp[senderIx who] < s.clk.upNs then x.validUp[senderIx who] else w,
             validUp := vmod x.validUp (senderIx who) fun _ => s.clk.upNs }

/-- The sender's reply queue is full (R168). -/
def State.queueFull (s : State) (who : Sender) : Bool := 8 ≤ (s.frm.replies[senderIx who]).length

/-- A request discarded because its sender's reply queue is full (R168). -/
def State.countFull (s : State) : State := s.mFrm fun x => { x with qfull := inc8 x.qfull }

/-- The order served alone: steps 9 and 10 of Table 4.4, discarded at step 11 while the sender's reply queue is full (R168; log entry 105),
else judged, its reply queued. Before ring-ready and in moss state nothing is received. -/
def Op.serve (o : Op) (q : Req) (s : State) : State :=
  if !s.answers then s
  else
    let s := s.noteValid q.sender
    if s.queueFull q.sender then (((o.barred q s).map fun r => r.s).getD s).countFull else
    let sess := s.sessionOf q
    let r := o.judge q (fun _ => true) s
    if r.silent then r.s else
    (r.s.countReply r.status).pushReply q.sender
      (decorate o r.status s r.data { replyOf o.mem o.opc q sess r.status r.data with unsync := r.unsync })

/-- An opcode that is only read, from any sender (R178). -/
def Op.read (opc : Nat) (run : Req → State → Res) : Op := { opc := opc, run := fun q _ s => run q s }

/-- An opcode that is only read, and needs authentication at GUARDED (Table 5.3). -/
def Op.readTagged (opc : Nat) (run : Req → State → Res) : Op := { opc := opc, prot := .tagged, run := fun q _ s => run q s }

/-- An opcode of the control page that goes through the merge and acts on `t`. -/
def Op.order (opc : Nat) (t : Target) (run : Req → State → Res) : Op :=
  { opc := opc, needle := true, prot := .tagged, targets := fun _ => [(t, false)], run := fun q _ s => run q s }

/-- An opcode of the control page that goes through the merge, acts on `t`, and has a payload of its own length. -/
def Op.orderLen (opc : Nat) (t : Target) (lenOk : Bool) (run : Req → State → Res) : Op :=
  { opc := opc, needle := true, prot := .tagged, lenOk := lenOk, targets := fun _ => [(t, false)], run := fun q _ s => run q s }

/-- An opcode of the memory page that goes through the merge and acts on `t`. -/
def Op.orderMem (opc : Nat) (t : Target) (run : Req → State → Res) : Op :=
  { opc := opc, mem := true, needle := true, prot := .tagged, targets := fun _ => [(t, false)], run := fun q _ s => run q s }

/-- An opcode of the memory page that is only read, from any sender. -/
def Op.readMem (opc : Nat) (run : Req → State → Res) : Op := { opc := opc, mem := true, run := fun q _ s => run q s }

end Sys2Proof.Machine
end

