-- ==== Sys2Proof/Machine/Stream.lean ====
section
/-! DEFINITION. The stream engine: descriptors, chains, triggers, timers, ring commits, the opcodes SC_CONFIG, SC_START, SC_STOP and
SC_STATUS, and its registers (R705 to R733). The moving of bytes is in StreamRun.lean. -/

namespace Sys2Proof.Machine

/-! ### Descriptors (Tables 17.9 and 17.10) -/

/-- SRC, DST and LEN of a descriptor. -/
def dSrc (d : List Byte) : Nat := fieldAt d 0 4
def dDst (d : List Byte) : Nat := fieldAt d 4 4
def dLen (d : List Byte) : Nat := fieldAt d 8 4

/-- XCTL of a descriptor and its fields SMODE, DMODE, SRB, DRB and BURST. -/
def dXctl (d : List Byte) : Nat := fieldAt d 12 2
def dSmode (d : List Byte) : Nat := bitsOf (dXctl d) 0 2
def dDmode (d : List Byte) : Nat := bitsOf (dXctl d) 2 2
def dSrb (d : List Byte) : Fin 4 := ⟨bitsOf (dXctl d) 4 2, Nat.mod_lt _ (by decide)⟩
def dDrb (d : List Byte) : Fin 4 := ⟨bitsOf (dXctl d) 6 2, Nat.mod_lt _ (by decide)⟩
def dBurst (d : List Byte) : Nat := bitsOf (dXctl d) 8 4

/-- PR, TRIG, NEXT and DFLAGS of a descriptor. -/
def dPr (d : List Byte) : Nat := fieldAt d 14 1
def dRetry (d : List Byte) : Nat := bitsOf (dPr d) 2 3
def dTrig (d : List Byte) : Nat := fieldAt d 15 1
def dNext (d : List Byte) : Nat := fieldAt d 16 1
def dRearm (d : List Byte) : Bool := bitOf (fieldAt d 17 1) 0

/-- DCRC holds the CRC-32 of bytes 0 to 27 (R722). -/
def dCrcOk (d : List Byte) : Bool := d.length == 32 && fieldAt d 28 4 == crc32 (d.take 28)

/-- TRIG codes of Table 17.9, 0x00 among them. -/
def trigOk (t : Nat) : Bool := t ≤ 1 || inR 0x10 t 0x13 || inR 0x20 t 0x23 || inR 0x30 t 0x33 || inR 0x40 t 0x4F

/-- An address in a peripheral block. -/
def isPeriph (a : Nat) : Bool := 0x40000000 ≤ a && a < 0x400B0000

/-- Codes and ranges of a descriptor (R707 to R710); R709's alignment is judged here, before any span (log entry 101). -/
def dOk (d : List Byte) : Bool :=
  d.length == 32 && inR 1 (dLen d) 65536 && dDmode d != 3 && bitsOf (dXctl d) 12 4 == 0 && bitsOf (dPr d) 0 2 != 3 && dPr d < 32 &&
    trigOk (dTrig d) && (inR 16 (dNext d) 63 || dNext d == 0xFF) && fieldAt d 17 1 < 2 && allZero ((d.drop 18).take 10) && dCrcOk d &&
    (match dSmode d with
      | 1 => dSrc d % 4 == 0 && dLen d % 4 == 0
      | 2 => dSrc d == 0
      | 3 => dSrc d < 0x800 && dLen d ≤ 2048
      | _ => !isPeriph (dSrc d) || (dSrc d % 4 == 0 && dLen d % 4 == 0)) &&
    (match dDmode d with
      | 1 => dDst d % 4 == 0 && dLen d % 4 == 0
      | 2 => dDst d == 0
      | _ => true)

/-! ### The address map (Table 17.1) -/

/-- The regions of Table 17.1: base and the address after the end. -/
def regions : List (Nat × Nat) :=
  [(0, 0x20000), (0x10000000, 0x10080000), (0x20000000, 0x20040000), (0x30000000, 0x30400000), (0x40000000, 0x400B0000),
   (0x50000000, 0x50004000)]

/-- An address in the snapshot window. -/
def isWindow (a : Nat) : Bool := 0x50000000 ≤ a && a < 0x50004000

/-- `n` bytes from `a` on may be read: inside one region, in the snapshot window inside one slot, and outside the protected part of the
ferroelectric store (step 3 of R695, R690). -/
def mayRead (a n : Nat) : Bool :=
  regions.any (fun r => r.1 ≤ a && a + n ≤ r.2) && !(0x20000000 ≤ a && a < 0x20040000 && 0x2003F000 < a + n) &&
    (!isWindow a || a % 0x800 + n ≤ 0x800)

/-- `n` bytes from `a` on lie in the host buffer area. -/
def inHostBuf (a n : Nat) : Bool := 0x10070000 ≤ a && a + n ≤ 0x10080000

/-- The source span of a descriptor (R706). -/
def dSrcOk (d : List Byte) : Bool :=
  match dSmode d with
  | 2 => true
  | 3 => dSrc d + dLen d ≤ 0x800
  | m => mayRead (dSrc d) (if m == 1 then 4 else dLen d)

/-- The destination span of a descriptor (R706). -/
def dDstOk (d : List Byte) : Bool :=
  match dDmode d with
  | 2 => true
  | m => inHostBuf (dDst d) (if m == 1 then 4 else dLen d)

/-! ### Chains (R728) -/

/-- Descriptor slot `k` (16 to 63); zeros where `k` is none. -/
def RunCfg.slot (r : RunCfg) (k : Nat) : List Byte :=
  match idx? 48 (k - 16) with
  | some i => if 16 ≤ k then r.desc[i] else []
  | none => []

/-- The slots met by following NEXT from `k`, each once, while fuel lasts. -/
def RunCfg.reach (r : RunCfg) : Nat → Nat → List Nat → List Nat
  | 0, _, seen => seen
  | n + 1, k, seen =>
    if !(inR 16 k 63) || seen.contains k then seen else r.reach n (dNext (r.slot k)) (seen ++ [k])

/-- The slots of the chain of host channel `n`. -/
def RunCfg.chain (r : RunCfg) (n : Fin 8) : List Nat := r.reach 48 (r.first[n]) []

/-- The descriptors of the chain of host channel `n`. -/
def RunCfg.descs (r : RunCfg) (n : Fin 8) : List (List Byte) := (r.chain n).map r.slot

/-- The chain of host channel `n` is well formed: every slot configured, it ends with 0xFF, its first descriptor alone has a trigger,
and no slot belongs to another channel's chain (R728). -/
def RunCfg.wellFormed (r : RunCfg) (n : Fin 8) : Bool :=
  let c := r.descs n
  (match c with
    | [] => false
    | d :: rest => dTrig d != 0 && rest.all (fun x => dTrig x == 0)) &&
  c.all (fun d => dLen d != 0) && ((c.getLast?.map dNext) == some 0xFF) &&
  (List.finRange 8).all fun m => m == n || !((r.chain m).any (r.chain n).contains)

/-- A configured chain uses ring `b`, as its source. -/
def RunCfg.readsRing (r : RunCfg) (b : Fin 4) : Bool :=
  (List.finRange 8).any fun n => (r.descs n).any fun d => dSmode d == 2 && dSrb d == b

/-- A configured chain uses ring `b`, as its source or destination. -/
def RunCfg.usesRing (r : RunCfg) (b : Fin 4) : Bool :=
  r.readsRing b || (List.finRange 8).any fun n => (r.descs n).any fun d => dDmode d == 2 && dDrb d == b

/-- Two rings overlap. -/
def RbCfg.overlaps (x y : RbCfg) : Bool := x.base < y.base + y.size && y.base < x.base + x.size

/-- What R710 and R712 ask of the whole configuration: no chain reads more than 2,048 bytes of its slot, and a ring in use overlaps
no other. -/
def RunCfg.streamOk (r : RunCfg) : Bool :=
  (List.finRange 8).all (fun n => (((r.descs n).filter fun d => dSmode d == 3).map dLen).sum ≤ 2048) &&
  (List.finRange 4).all (fun b => (List.finRange 4).all fun c => b == c || !r.usesRing b || !(r.rb[b]).overlaps (r.rb[c]))

/-! ### Updates of one part -/

/-- The place of host channel `n` among the sixteen. -/
def hostChan (n : Fin 8) : Fin 16 := ⟨n.val + 8, by omega⟩

/-- Channel `n` changed by `f`. -/
def State.mSc (s : State) (n : Fin 16) (f : ScChan → ScChan) : State := s.mSe fun e => { e with ch := vmod e.ch n f }

/-- Ring `b` changed by `f`. -/
def State.mRb (s : State) (b : Fin 4) (f : Rb → Rb) : State := s.mSe fun e => { e with rb := vmod e.rb b f }

/-- State of host channel `n`. -/
def State.scOf (s : State) (n : Fin 8) : ScChan := s.se.ch[hostChan n]

/-- A chain of channel `n` is under way. -/
def ScChan.underWay (c : ScChan) : Bool :=
  match c.state with
  | .run | .stopping => true
  | _ => false

/-- Codes of Table 17.11. -/
def ScState.code : ScState → Nat
  | .idle => 0
  | .armed => 1
  | .run => 2
  | .halt => 3
  | .stopping => 4

/-- The channel halts with ECODE `e` (R722 to R724). -/
def State.scHalt (s : State) (n : Fin 8) (e : Nat) : State :=
  s.mSc (hostChan n) fun c => { c with state := .halt, ecode := e, err := c.err.raise, failUp := none }

/-- What follows the end of a chain that ended DONE or skipped (R725). -/
def State.scRest (s : State) (n : Fin 8) : State :=
  let rearm := match s.run.descs n with
    | d :: _ => dRearm d
    | [] => false
  s.mSc (hostChan n) fun c => { c with state := if c.state != .stopping && rearm then .armed else .idle, failUp := none }

/-- A descriptor begins: its DCRC is checked (R722). -/
def State.scEnter (s : State) (n : Fin 8) (slot : Nat) : State :=
  let s := s.mSc (hostChan n) fun c => { c with cur := slot, offset := 0, retries := 0, failUp := none }
  if dCrcOk (s.run.slot slot) then s else s.scHalt n 2

/-- Bytes that the chain of channel `n` writes into ring `b` (R713). -/
def RunCfg.ringNeed (r : RunCfg) (n : Fin 8) (b : Fin 4) : Nat :=
  (((r.descs n).filter fun d => dDmode d == 2 && dDrb d == b).map dLen).sum

/-- The rings that lack space for the chain of channel `n` (R713). -/
def State.ringsShort (s : State) (n : Fin 8) : List (Fin 4) :=
  (List.finRange 4).filter fun b => (s.run.rb[b]).size - (s.se.rb[b]).fill < s.run.ringNeed n b

/-- The chain of channel `n` starts (R710, R713, R718). -/
def State.scBegin (s : State) (n : Fin 8) : State :=
  match s.ringsShort n with
  | [] =>
    let head := s.snap.hist.head?
    let s := s.mSc (hostChan n) fun c =>
      { c with state := .run, ecode := 0, trigUp := s.clk.upNs, wrPend := Vector.replicate 4 0, rdPend := Vector.replicate 4 0,
               snapSlot := some ((head.map fun x => x.slot).getD 0), snapBidx := (head.map fun x => x.bidx).getD 0 }
    s.scEnter n (s.run.first[n])
  | short =>
    let s := s.each short fun s b => s.mRb b fun r => { r with ovf := r.ovf.raise }
    (s.mSc (hostChan n) fun c => { c with skip := c.skip.raise }).scRest n

/-- Trigger `t` reaches every host channel whose first descriptor names it: an armed one starts, a running one counts TRIG_MISS
(R718). -/
def State.scTrigger (s : State) (t : Nat) : State :=
  s.each (List.finRange 8) fun s n =>
    match s.run.descs n with
    | d :: _ =>
      if dTrig d != t then s
      else match (s.scOf n).state with
        | .armed => s.scBegin n
        | .run => s.mSc (hostChan n) fun c => { c with trigMiss := c.trigMiss.raise }
        | _ => s
    | [] => s

/-- A chain of the node's own channel `k` (0 to 7) ends DONE: its flag, and its completion trigger (R718, R725). -/
def State.scDone (s : State) (k : Fin 8) : State :=
  (s.mSc ⟨k.val, by omega⟩ fun c => { c with doneEvt := c.doneEvt.raise }).scTrigger (0x40 + k.val)

/-- FILL of ring `b` becomes `f`: the watermark events (R715). -/
def State.setFill (s : State) (b : Fin 4) (f : Nat) : State :=
  let c := s.run.rb[b]
  let old := (s.se.rb[b]).fill
  let hi := old < c.hi && c.hi ≤ f
  let lo := c.lo < old && f ≤ c.lo
  let s := s.mRb b fun r => { r with fill := f, hiEvt := r.hiEvt.raiseIf hi, loEvt := r.loEvt.raiseIf lo }
  let s := if hi then s.scTrigger (0x20 + b.val) else s
  if lo then s.scTrigger (0x30 + b.val) else s

/-- Ring `b` takes `w` bytes written and `r` bytes read (R714). FILL after a chain that read more than the ring held is a free value
(log entry 57). -/
def State.ringCommit (s : State) (b : Fin 4) (w r : Nat) : State :=
  let size := (s.run.rb[b]).size
  if size == 0 || (w == 0 && r == 0) then s
  else
    let x := s.se.rb[b]
    let bad := x.fill + w < r
    let f := if bad then s.freeNat 32 % (size + 1) else x.fill + w - r
    let s := if bad then s.drew else s
    (s.mRb b fun y => { y with wr := (y.wr + w) % size, rd := (y.rd + r) % size }).setFill b f

/-- The chain of channel `n` ends with every descriptor DONE (R714, R725). -/
def State.scFinish (s : State) (n : Fin 8) : State :=
  let c := s.scOf n
  let s := (s.mSc (hostChan n) fun c => { c with doneEvt := c.doneEvt.raise }).scRest n
  let s := s.each (List.finRange 4) fun s b => s.ringCommit b c.wrPend[b] c.rdPend[b]
  s.scTrigger (0x48 + n.val)

/-! ### Timers (R716, R717) -/

/-- The latest instant of timer `t` at or before chain time `us`. -/
def ScTimer.instant (t : ScTimer) (us : Nat) : Option Nat :=
  if t.period == 0 || us < t.phase then none else some (us - (us - t.phase) % t.period)

/-- After a jump of chain time to `us`, each timer's next instant is the first later one (R717). -/
def State.timersJump (s : State) (us : Nat) : State :=
  s.mSe fun e => { e with tmrLast := Vector.ofFn fun t : Fin 4 => (s.run.tmr[t]).instant us }

/-- Timer `t` fires, within 1 µs of its instant (R716). -/
def State.timerFire (s : State) (t : Fin 4) : State :=
  match (s.run.tmr[t]).instant s.ctUs with
  | some i =>
    if s.ctUs ≤ i + 1 && s.se.tmrLast[t] != some i then
      (s.mSe fun e => { e with tmrLast := vmod e.tmrLast t fun _ => some i }).scTrigger (0x10 + t.val)
    else s
  | none => s

/-! ### SC_CONFIG (R726, R727) -/

/-- A channel of which a chain stands in ARMED, RUN, HALT or STOPPING. -/
def State.scBusy (s : State) (n : Fin 8) : Bool := (s.scOf n).state != .idle

/-- A busy channel's chain satisfies `p`. -/
def State.busyChain (s : State) (p : Fin 8 → Bool) : Bool := (List.finRange 8).any fun n => s.scBusy n && p n

/-- SC_CONFIG KIND 0x01: a descriptor slot. -/
def scDescriptor (b : List Byte) (s : State) : Res :=
  let k := fieldAt b 1 1
  let d := b.drop 2
  if !(inR 16 k 63 && dOk d) then .bad .badParam s
  else match idx? 48 (k - 16) with
    | none => .bad .badParam s
    | some i =>
      let r := { s.run with desc := vmod s.run.desc i fun _ => d }
      if !r.streamOk then .bad .badParam s
      else if !(dSrcOk d && dDstOk d) then .bad .rangeFault s
      else if s.busyChain fun n => (s.run.chain n).contains k then .bad .badState s
      else .ok b (s.mRun fun _ => r)

/-- SC_CONFIG KIND 0x02: a timer. -/
def scTimer (b : List Byte) (s : State) : Res :=
  let per := fieldAt b 2 4
  let ph := fieldAt b 6 4
  match idx? 4 (fieldAt b 1 1) with
  | none => .bad .badParam s
  | some t =>
    if !(inR 100 per 60000000 && ph < per) then .bad .badParam s
    else if s.busyChain fun n => (s.run.descs n).any fun d => dTrig d == 0x10 + t.val then .bad .badState s
    else .ok b ((s.mRun fun r => { r with tmr := vmod r.tmr t fun _ => { period := per, phase := ph } }).mSe fun e =>
      { e with tmrLast := vmod e.tmrLast t fun _ => none })

/-- Ring `b` gets another base or size: what its offsets and FILL then are is not stated (log entry 58). A ring configured for the
first time starts at 0. -/
def State.ringMoved (s : State) (b : Fin 4) (old : RbCfg) (size : Nat) : State :=
  if old.size == 0 then s
  else
    let rd := s.freeNat 32 % size
    let s := s.drew
    let f := s.freeNat 32 % (size + 1)
    s.drew.mRb b fun r => { r with rd := rd, fill := f, wr := (rd + f) % size }

/-- SC_CONFIG KIND 0x03: a ring. -/
def scRing (b : List Byte) (s : State) : Res :=
  let c : RbCfg := { base := fieldAt b 2 4, size := fieldAt b 6 4, hi := fieldAt b 10 4, lo := fieldAt b 14 4 }
  match idx? 4 (fieldAt b 1 1) with
  | none => .bad .badParam s
  | some k =>
    let r := { s.run with rb := vmod s.run.rb k fun _ => c }
    if !(c.base % 4 == 0 && inR 64 c.size 65536 && c.size % 4 == 0 && inR 1 c.hi c.size && c.lo < c.size && r.streamOk) then .bad .badParam s
    else if !inHostBuf c.base c.size then .bad .rangeFault s
    else if s.busyChain fun n => (s.run.descs n).any fun d => (dSmode d == 2 && dSrb d == k) || (dDmode d == 2 && dDrb d == k) then
      .bad .badState s
    else
      let old := s.run.rb[k]
      let s := s.mRun fun _ => r
      .ok b (if old.base == c.base && old.size == c.size then s else s.ringMoved k old c.size)

/-- SC_CONFIG KIND 0x04: a host channel's first descriptor. -/
def scChannel (b : List Byte) (s : State) : Res :=
  let ch := fieldAt b 1 1
  let f := fieldAt b 2 1
  if !(8 ≤ ch && (inR 16 f 63 || f == 0xFF)) then .bad .badParam s
  else match idx? 8 (ch - 8) with
    | none => .bad .badParam s
    | some n =>
      let r := { s.run with first := vmod s.run.first n fun _ => f, firstSet := vmod s.run.firstSet n fun _ => true }
      if !r.streamOk then .bad .badParam s
      else if s.scBusy n then .bad .badState s
      else .ok b (s.mRun fun _ => r)

/-- SC_CONFIG, its whole payload given. -/
def scConfig (b : List Byte) : Op :=
  let kind := fieldAt b 0 1
  let i := fieldAt b 1 1
  { opc := 0x02, mem := true, needle := true, prot := .tagged,
    lenOk := match kind with
      | 1 => b.length == 34
      | 2 => b.length == 10
      | 3 => b.length == 18
      | 4 => b.length == 3
      | _ => !b.isEmpty,
    targets := fun _ => match kind with
      | 1 => [(.scDesc i, false)]
      | 2 => [(.scTimer i, false)]
      | 3 => [(.scRing i, false)]
      | 4 => [(.scChan i, false)]
      | _ => [],
    run := fun _ _ s => match kind with
      | 1 => scDescriptor b s
      | 2 => scTimer b s
      | 3 => scRing b s
      | 4 => scChannel b s
      | _ => .bad .badParam s }

/-! ### SC_START, SC_STOP, SC_STATUS (R728 to R730) -/

/-- The slot chosen for the chain of `n` still holds the boundary it held (R724). -/
def State.slotHeld (s : State) (n : Fin 8) : Bool :=
  let c := s.scOf n
  s.snap.hist.any fun x => some x.slot == c.snapSlot && x.bidx == c.snapBidx

/-- SNAP descriptors from slot `k` on in the chain of `n`. -/
def State.snapLeft (s : State) (n : Fin 8) (k : Nat) : Bool :=
  (((s.run.chain n).dropWhile fun x => x != k).map s.run.slot).any fun d => dSmode d == 3

/-- A halted chain goes on with its failed burst (R724); the 20 µs of R710 count from the resumption (log entry 59). -/
def State.scResume (s : State) (n : Fin 8) : State :=
  let c := s.scOf n
  if s.snapLeft n c.cur && !s.slotHeld n then s.scHalt n 3
  else
    let s := s.mSc (hostChan n) fun c => { c with state := .run, ecode := 0, retries := 0, trigUp := s.clk.upNs }
    if c.ecode == 2 then s.scEnter n c.cur else s

/-- SC_START. -/
def scStart (ch mode : Nat) : Op :=
  Op.orderMem 0x03 (.scChan ch) fun _ s =>
      if !(8 ≤ ch && inR 1 mode 4) then .bad .badParam s
      else match idx? 8 (ch - 8) with
        | none => .bad .badParam s
        | some n =>
          let st := (s.scOf n).state
          let done := fun (s' : State) => Res.ok (leBytes 1 ch ++ leBytes 1 (s'.scOf n).state.code) s'
          match mode with
          | 1 =>
            if st == .idle && s.run.wellFormed n then done (s.mSc (hostChan n) fun c => { c with state := .armed })
            else .bad .badState s
          | 2 => if (st == .idle || st == .armed) && s.run.wellFormed n then done (s.scBegin n) else .bad .badState s
          | 3 => if st == .halt then done (s.scResume n) else .bad .badState s
          | _ => if st == .halt then done (s.scBegin n) else .bad .badState s

/-- SE.CHn_STAT. -/
def State.regScStat (s : State) (n : Fin 16) : Nat :=
  let c := s.se.ch[n]
  pack [(3, c.state.code), (1, 0), (6, c.cur), (6, 0), (1, bit c.doneEvt.set), (1, bit c.err.set), (1, bit c.trigMiss.set),
        (1, bit c.skip.set), (4, c.ecode)]

/-- SE.CHn_CNT. -/
def State.regScCnt (s : State) (n : Fin 16) : Nat :=
  let c := s.se.ch[n]
  pack [(8, c.doneEvt.cnt), (8, c.err.cnt), (8, c.trigMiss.cnt), (8, c.skip.cnt)]

/-- SE.RBb_STAT. -/
def State.regRbStat (s : State) (b : Fin 4) : Nat :=
  let r := s.se.rb[b]
  pack [(1, bit r.hiEvt.set), (1, bit r.loEvt.set), (1, bit r.ovf.set), (1, bit (s.run.readsRing b)), (4, 0),
        (8, r.hiEvt.cnt), (8, r.loEvt.cnt), (8, r.ovf.cnt)]

/-- SC_STATUS. -/
def scStatus (ch count : Nat) : Op :=
  Op.readMem 0x05 fun _ s =>
    if !(ch ≤ 15 && inR 1 count 16 && ch + count ≤ 16) then .bad .badParam s
    else .ok
      ((span 16 ch count).flatMap (fun n =>
          let c := s.se.ch[n]
          leBytes 1 n.val ++ leBytes 1 c.state.code ++ leBytes 1 c.cur ++ leBytes 1 c.ecode ++ leBytes 4 (s.regScCnt n) ++ leBytes 4 c.eaddr) ++
        (List.finRange 4).flatMap fun b =>
          let r := s.se.rb[b]
          leBytes 4 r.wr ++ leBytes 4 r.rd ++ leBytes 4 r.fill ++ leBytes 4 (s.regRbStat b)) s

/-! ### Registers (Tables 17.13 to 17.15) -/

/-- A register of ring `b` at offset `o` of its place. -/
def State.regRb (s : State) (b : Fin 4) (o : Nat) : Nat :=
  let c := s.run.rb[b]
  let r := s.se.rb[b]
  match o with
  | 0x00 => c.base
  | 0x04 => c.size
  | 0x08 => r.wr
  | 0x0C => r.rd
  | 0x10 => r.fill
  | 0x14 => c.hi
  | 0x18 => c.lo
  | _ => s.regRbStat b

/-- A register of the stream-engine block at offset `o`. The node does not lay down the contents of DS0 to DS15; they are not read
here (Bus.lean). -/
def State.regSe (s : State) (o : Nat) : Nat :=
  if o < 0x100 then
    let n : Fin 16 := ⟨o / 16 % 16, Nat.mod_lt _ (by decide)⟩
    match o % 16 with
    | 0 => s.regScStat n
    | 4 => s.regScCnt n
    | 8 => (s.se.ch[n]).eaddr
    | _ => 0
  else if o < 0x120 then
    let t := s.run.tmr[(⟨o / 8 % 4, Nat.mod_lt _ (by decide)⟩ : Fin 4)]
    if o % 8 == 0 then t.period else t.phase
  else if inR 0x200 o 0x27F then s.regRb ⟨o / 32 % 4, Nat.mod_lt _ (by decide)⟩ (o % 32)
  else if inR 0x1200 o 0x17FF then fieldAt (s.run.slot ((o - 0x1000) / 32)) (o % 32) 4
  else 0

/-! ### The commands -/

/-- SC_CONFIG KIND 0x01. -/
def execScConfigDescriptor (q : Req) (slot : Byte) (desc : List Byte) (s : State) : Host.Outcome State Fault Refusal :=
  .next ((scConfig (1 :: slot :: desc)).serve q s)

/-- SC_CONFIG KIND 0x02. -/
def execScConfigTimer (q : Req) (tmr : Byte) (period phase : Word) (s : State) : Host.Outcome State Fault Refusal :=
  .next ((scConfig ([2, tmr] ++ leBytes 4 period.toNat ++ leBytes 4 phase.toNat)).serve q s)

/-- SC_CONFIG KIND 0x03. -/
def execScConfigRing (q : Req) (rb : Byte) (base size hi lo : Word) (s : State) : Host.Outcome State Fault Refusal :=
  .next ((scConfig ([3, rb] ++ leBytes 4 base.toNat ++ leBytes 4 size.toNat ++ leBytes 4 hi.toNat ++ leBytes 4 lo.toNat)).serve q s)

/-- SC_CONFIG KIND 0x04. -/
def execScConfigChannel (q : Req) (chN first : Byte) (s : State) : Host.Outcome State Fault Refusal :=
  .next ((scConfig [4, chN, first]).serve q s)

/-- SC_START ARM. -/
def execScStartArm (q : Req) (chN : Byte) (s : State) : Host.Outcome State Fault Refusal := .next ((scStart chN.toNat 1).serve q s)

/-- SC_START RUN_NOW. -/
def execScStartRunNow (q : Req) (chN : Byte) (s : State) : Host.Outcome State Fault Refusal := .next ((scStart chN.toNat 2).serve q s)

/-- SC_START RESUME. -/
def execScStartResume (q : Req) (chN : Byte) (s : State) : Host.Outcome State Fault Refusal := .next ((scStart chN.toNat 3).serve q s)

/-- SC_START RESTART. -/
def execScStartRestart (q : Req) (chN : Byte) (s : State) : Host.Outcome State Fault Refusal := .next ((scStart chN.toNat 4).serve q s)

/-- SC_STATUS. -/
def execScStatus (q : Req) (chN count : Byte) (s : State) : Host.Outcome State Fault Refusal :=
  .next ((scStatus chN.toNat count.toNat).serve q s)

/-- A stream timer fires. -/
def execStreamTimerFire (dt : Nat) (t : Fin 4) (s : State) : Host.Outcome State Fault Refusal := .next ((s.advance dt).timerFire t)

end Sys2Proof.Machine
end

