-- ==== Sys2Proof/Machine/FieldLog.lean ====
section
/-! DEFINITION. The field log and the lifetime counters (R678 to R687, R844 to R847). -/

namespace Sys2Proof.Machine

/-! ### Entries (Table 16.3) -/

/-- Bytes 0 to 27 of an entry. -/
def LogEntry.body (x : LogEntry) : List Byte :=
  leBytes 4 x.eno ++ leBytes 6 x.time ++ leBytes 1 x.tfl ++ leBytes 1 x.orig ++ leBytes 1 x.cls ++ leBytes 1 x.code ++
    (x.data ++ List.replicate 14 0).take 14

/-- The 32 bytes of an entry; one whose writing was cut has a COMMIT that does not match (log entry 47). -/
def LogEntry.toBytes (x : LogEntry) : List Byte :=
  let c := crc32 x.body
  x.body ++ leBytes 4 (if x.good then c else c ^^^ 0xFFFFFFFF)

/-- `a` lies later than `b`, modulo 2^32 (R685). -/
def later (a b : Nat) : Bool :=
  let d := (a % 2 ^ 32 + 2 ^ 32 - b % 2 ^ 32) % 2 ^ 32
  0 < d && d < 2 ^ 31

/-- The entry lies after the read mark (R680, R681). -/
def Log.unread (l : Log) (x : LogEntry) : Bool :=
  match l.readMark with
  | some m => later x.eno m
  | none => true

/-- An entry written at index ENO mod 2,048 (R679, R680). A place whose entry was cut counts as no overwriting (log entry 47). -/
def Log.write (l : Log) (x : LogEntry) (good : Bool) : Log :=
  let e := { x with eno := l.eno, good := good }
  let old := if l.entries.length < 2048 then none else l.entries.getLast?
  let l := { l with entries := (e :: l.entries).take 2048, eno := (l.eno + 1) % 2 ^ 32, accepted := l.accepted + 1 }
  match old with
  | some o =>
    if o.good then
      let l := { l with overwrites := inc32 l.overwrites }
      if l.unread o then { l with lostUnread := inc32 l.lostUnread, ovr := l.ovr.raise } else l
    else l
  | none => l

/-- The log unit takes its oldest entry: it is written, or dropped beyond 10 in the interval unless CLASS is 0x09 (R682). -/
def Log.take (l : Log) (torn : Bool) : Log :=
  match l.queue with
  | [] => l
  | x :: rest =>
    let l := { l with queue := rest }
    if l.accepted < 10 || x.cls == 9 then l.write x (!torn)
    else { l with dropped := inc32 l.dropped, drop := l.drop.raise }

/-- Entries that the log holds. -/
def Log.held (l : Log) : List LogEntry := l.entries.filter fun x => x.good

/-- NEWEST, OLDEST (R847). -/
def Log.newest (l : Log) : Nat :=
  match l.held with
  | x :: _ => x.eno
  | [] => (l.eno + 2 ^ 32 - 1) % 2 ^ 32

/-- OLDEST. -/
def Log.oldest (l : Log) : Nat :=
  match l.held.getLast? with
  | some x => x.eno
  | none => l.eno

/-- Entries whose COMMIT does not match are discarded and counted at a start (R79, R845); the number at this start. -/
def Log.discard (l : Log) : Log × Nat :=
  let bad := l.entries.length - l.held.length
  ({ l with entries := l.held, discarded := satTo 0xFFFF (l.discarded + bad) }, bad)

/-! ### Opcodes -/

/-- The entries that LOG_READ returns, oldest first. -/
def Log.read (l : Log) (from_ count : Nat) : List LogEntry :=
  if from_ == 0xFFFFFFFF then (l.held.take count).reverse
  else ((l.held.reverse.filter fun x => !later from_ x.eno)).take count

/-- The read mark after an authenticated LOG_READ that returned `es` (R681). -/
def Log.marked (l : Log) (es : List LogEntry) : Log :=
  match es.getLast? with
  | some x =>
    let fresh := match l.readMark with
      | some m => later x.eno m
      | none => true
    if fresh then { l with readMark := some x.eno } else l
  | none => l

/-- LOG_READ (R681, R687, R847). -/
def logRead (from_ count : Nat) : Op :=
  { opc := 0x20, mem := true, prot := .tagged,
    run := fun q _ s =>
      let l := s.log
      if !inR 1 count 31 || (from_ != 0xFFFFFFFF && (l.held.isEmpty || later from_ l.newest)) then .bad .badParam s
      else
        let es := l.read from_ count
        let first := match es with
          | x :: _ => x.eno
          | [] => l.oldest
        let gap := from_ != 0xFFFFFFFF && later l.oldest from_
        .ok (leBytes 4 first ++ leBytes 1 es.length ++ leBytes 1 (bit gap) ++ es.flatMap LogEntry.toBytes)
          (if q.auth then s.mLog fun x => x.marked es else s) }

/-- LOG_INFO. -/
def logInfo : Op :=
  Op.readMem 0x21 fun _ s =>
    let l := s.log
    .ok (leBytes 4 l.newest ++ leBytes 4 l.oldest ++ leBytes 2 l.held.length ++ leBytes 4 (l.readMark.getD 0xFFFFFFFF) ++
      leBytes 4 l.overwrites ++ leBytes 4 l.lostUnread ++ leBytes 4 l.dropped ++ leBytes 2 l.discarded) s

/-- Whole hours of a time in µs. -/
def hours (us : Nat) : Nat := satTo 0xFFFFFFFF (us / 3600000000)

/-- Time awake since manufacture, in µs. -/
def State.lifeUs (s : State) : Nat := s.cnt.lifeUs + s.clk.upNs / 1000

/-- Time with the permit ON since manufacture, in µs. -/
def State.heatUs (s : State) : Nat := s.cnt.heatUs + if s.permitOn then s.since s.safe.grantUp / 1000 else 0

/-- COUNTERS_READ. -/
def countersRead : Op :=
  Op.readMem 0x22 fun _ s =>
    .ok (leBytes 4 (satTo 0xFFFFFFFF (s.clk.upNs / sec 1)) ++ leBytes 4 (hours s.lifeUs) ++ leBytes 4 (hours s.heatUs) ++
      leBytes 4 s.cnt.starts ++ leBytes 4 s.cnt.moss ++ leBytes 4 s.cnt.handovers ++ leBytes 4 s.log.eno) s

/-- SYS.LOG_STAT (Table 16.8). -/
def State.regLog (s : State) : Nat :=
  let l := s.log
  pack [(11, (l.eno + 2047) % 2048), (1, 0), (1, bit l.ovr.set), (1, bit l.drop.set), (2, 0), (8, l.ovr.cnt), (8, l.drop.cnt)]

/-- A byte of the log's place in the store, 32 bytes an entry; a place that never held an entry reads 0x00 (R844). -/
def State.logByte (s : State) (o : Nat) : Byte :=
  match s.log.entries.find? (fun x => x.eno % 2048 == o / 32) with
  | some x => x.toBytes.getD (o % 32) 0
  | none => 0

/-! ### The commands -/

/-- LOG_READ. -/
def execLogRead (q : Req) (first : Word) (count : Byte) (s : State) : Host.Outcome State Fault Refusal :=
  .next ((logRead first.toNat count.toNat).serve q s)

/-- LOG_INFO. -/
def execLogInfo (q : Req) (s : State) : Host.Outcome State Fault Refusal := .next (logInfo.serve q s)

/-- COUNTERS_READ. -/
def execCountersRead (q : Req) (s : State) : Host.Outcome State Fault Refusal := .next (countersRead.serve q s)

/-- The log unit writes one entry or drops it (R679 to R682); `torn`: power failed while it was written (R79). -/
def execLogEntryWrite (dt : Nat) (torn : Bool) (s : State) : Host.Outcome State Fault Refusal :=
  let s := s.advance dt
  let s' := s.mLog fun l => l.take torn
  .next (if s.log.queue.isEmpty then s' else s'.scDone 6)

end Sys2Proof.Machine
end

