-- ==== Sys2Proof/Machine/Owners.lean ====
section
/-! DEFINITION. The programme's items (Table 12.10) and which user owns an output (R543, R544). -/

namespace Sys2Proof.Machine

/-- How an item's VALUE is read: a signed number with its range, a channel number (0xFF: unused), up to four packed numbers below a
bound (0xFF: unused), or a digital input and a polarity (0xFF: unused). -/
inductive ItemForm where
  | num (lo hi : Int)
  | chan
  | packed (below : Nat)
  | input
  deriving DecidableEq, Repr

/-- One row of Table 12.10. -/
structure ItemRow where
  id : Nat
  form : ItemForm
  dflt : Int
  live : Bool

/-- Rows 0x01xx and 0x02xx of Table 12.10. -/
def itemRows1 : List ItemRow :=
  [⟨0x0100, .num 0 0xFFF, 0, false⟩, ⟨0x0101, .num 0 1000, 1000, true⟩, ⟨0x0102, .chan, 0xFF, false⟩,
   ⟨0x0103, .num (-40000) 60000, 10000, true⟩, ⟨0x0104, .num 10 600, 60, false⟩, ⟨0x0105, .num 0 2, 0, false⟩,
   ⟨0x0106, .chan, 0xFF, false⟩, ⟨0x0107, .num 10000 120000, 36000, false⟩, ⟨0x0108, .num 0 20000000, 0, true⟩,
   ⟨0x0200, .num 0 2, 0, false⟩, ⟨0x0201, .num 0 31, 0, false⟩, ⟨0x0202, .packed 64, 0xFFFFFFFF, false⟩,
   ⟨0x0203, .num 1 4, 2, false⟩, ⟨0x0204, .num 20000 250000, 80000, true⟩, ⟨0x0205, .num 0 20000, 5000, true⟩,
   ⟨0x0206, .num 0 100000, 2000, true⟩, ⟨0x0207, .num 1000 3600000, 60000, true⟩, ⟨0x0208, .num 0 100000, 10000, true⟩,
   ⟨0x0209, .num 0 100000, 100000, true⟩, ⟨0x020A, .num 0 3000000, 100000, false⟩, ⟨0x020B, .num 0 3000000, 1000000, false⟩]

/-- Rows 0x03xx of Table 12.10. -/
def itemRows2 : List ItemRow :=
  [⟨0x0300, .num 0 2, 0, false⟩, ⟨0x0301, .packed 32, 0xFFFFFFFF, false⟩, ⟨0x0302, .num 0 500000, 1000, true⟩,
   ⟨0x0303, .num 100 500000, 30000, true⟩, ⟨0x0304, .num 0 100000, 0, true⟩, ⟨0x0305, .num 100 1000000, 25000, false⟩,
   ⟨0x0306, .num 50 5000, 500, false⟩, ⟨0x0307, .packed 16, 0xFFFFFFFF, false⟩, ⟨0x0308, .num 10 3600, 600, true⟩,
   ⟨0x0309, .num 100 1000000, 20000, false⟩, ⟨0x030A, .num 8 64, 32, false⟩, ⟨0x030B, .num 300000 900000, 750000, false⟩,
   ⟨0x030C, .num 5000 40000, 14500, true⟩, ⟨0x030D, .num 1000 500000, 40000, true⟩, ⟨0x030E, .num 1000 500000, 10000, false⟩,
   ⟨0x030F, .num 1000 500000, 150000, false⟩, ⟨0x0310, .num 0 1000, 100, true⟩, ⟨0x0311, .num 0 5000, 500, true⟩,
   ⟨0x0312, .packed 64, 0xFFFFFFFF, false⟩, ⟨0x0313, .num 0 0xFF, 0, false⟩, ⟨0x0314, .num 0 0xFF, 0, false⟩,
   ⟨0x0315, .num 0 100000, 10000, true⟩]

/-- Rows 0x04xx and 0x05xx of Table 12.10. -/
def itemRows3 : List ItemRow :=
  [⟨0x0400, .packed 64, 0xFFFFFFFF, false⟩, ⟨0x0401, .chan, 0xFF, false⟩, ⟨0x0402, .num 10000 100000, 75000, true⟩,
   ⟨0x0403, .num 0 20000, 5000, true⟩, ⟨0x0404, .num 0 30000, 5000, true⟩, ⟨0x0405, .num 0 30000, 2000, true⟩,
   ⟨0x0406, .num (-40000) 20000, -5000, true⟩, ⟨0x0407, .num 1 240, 30, true⟩, ⟨0x0408, .num 0 0xFF, 0, false⟩,
   ⟨0x0409, .num 5000 40000, 14000, true⟩, ⟨0x040A, .num 0 30000, 5000, true⟩, ⟨0x040B, .num 1 1440, 120, true⟩,
   ⟨0x0500, .input, 0xFFFFFFFF, false⟩, ⟨0x0501, .input, 0xFFFFFFFF, false⟩, ⟨0x0502, .num 10 2880, 480, true⟩,
   ⟨0x0503, .num 0 1, 0, true⟩, ⟨0x0504, .num 1 240, 60, true⟩]

/-- Table 12.10. -/
def itemRows : List ItemRow := itemRows1 ++ itemRows2 ++ itemRows3

/-- The row of item `id`. -/
def itemRow (id : Nat) : Option ItemRow := itemRows.find? (fun r => r.id == id)

/-- An item's value: as stored, or its default. -/
def itemOf (items : List (Nat × Int)) (id : Nat) : Int :=
  match items.find? (fun x => x.1 == id) with
  | some x => x.2
  | none =>
    match itemRow id with
    | some r => r.dflt
    | none => 0

/-- Item `id` of the loaded programme. -/
def State.item (s : State) (id : Nat) : Int := itemOf s.prog.items id

/-- Item `id` as a natural number. -/
def State.itemN (s : State) (id : Nat) : Nat := (s.item id).toNat

/-- Byte `k` of a packed item. -/
def State.itemByte (s : State) (id k : Nat) : Nat := bitsOf (s.itemN id) (8 * k) 8

/-- The numbers that a packed item names, lowest byte first. -/
def State.itemList (s : State) (id : Nat) : List Nat :=
  ((List.range 4).map (fun k => s.itemByte id k)).filter (fun x => x != 0xFF)

/-- The programme is under way: a kind is loaded and its state is not IDLE, DONE or ABORTED. It then owns its outputs (log
entry 8). -/
def State.progOn (s : State) : Bool :=
  s.prog.kind != 0 &&
    match s.prog.state with
    | .idle | .done | .aborted => false
    | _ => true

/-- The loaded programme is heating: BATCH or CONTINUOUS with PL_ACT not 0. -/
def State.heating (s : State) : Bool := (s.prog.kind == 1 || s.prog.kind == 2) && s.item 0x0200 != 0

/-- Discharge is used: BATCH or CONTINUOUS with DIS_KIND not 0. -/
def State.discharges (s : State) : Bool := (s.prog.kind == 1 || s.prog.kind == 2) && s.item 0x0300 != 0

/-- The items of the loaded programme name driver channel `n`. -/
def State.progNamesDrv (s : State) (n : Nat) : Bool :=
  (s.heating && s.item 0x0200 == 1 && s.itemN 0x0201 == n) ||
    (s.discharges && s.item 0x0300 == 2 && (s.itemByte 0x0301 0 == n || s.itemByte 0x0301 1 == n))

/-- The items of the loaded programme name loop output `n`. -/
def State.progNamesLoop (s : State) (n : Nat) : Bool :=
  (s.heating && s.item 0x0200 == 2 && s.itemN 0x0201 == n) ||
    (s.discharges && s.item 0x0300 == 1 && s.itemByte 0x0301 0 == n)

/-- The items of the loaded programme name fan channel `n`. -/
def State.progNamesFan (s : State) (n : Nat) : Bool := s.prog.kind != 0 && bitOf (s.itemN 0x0100) n

/-- An enabled conveyor stage drives driver channel `n`. -/
def State.lineOwnsDrv (s : State) (n : Nat) : Bool := s.run.stage.toList.any (fun k => k.en && k.out == n)

/-- The programme or the conveyor line owns driver channel `n` (R544). -/
def State.drvOwned (s : State) (n : Nat) : Bool := (s.progOn && s.progNamesDrv n) || s.lineOwnsDrv n

/-- The programme owns loop output `n`. -/
def State.loopOwned (s : State) (n : Nat) : Bool := s.progOn && s.progNamesLoop n

/-- The programme owns fan channel `n`. -/
def State.fanOwned (s : State) (n : Nat) : Bool := s.progOn && s.progNamesFan n

/-- A pending stitch entry of the kinds `k` admits names target `n`. -/
def State.stitchOwns (s : State) (k : Nat → Bool) (n : Nat) : Bool :=
  s.stitch.e.toList.any (fun x => x.state == .pending && k x.kind && x.tgt == n)

/-- Driver kinds of Table 12.7. -/
def isDrvKind (k : Nat) : Bool := 1 ≤ k && k ≤ 6

/-- A pending stitch entry names driver channel `n`. -/
def State.stitchOwnsDrv (s : State) (n : Nat) : Bool := s.stitchOwns isDrvKind n

/-- A pending stitch entry names fan channel `n`. -/
def State.stitchOwnsFan (s : State) (n : Nat) : Bool := s.stitchOwns (fun k => k == 0x10) n

/-- A pending stitch entry names loop output `n`. -/
def State.stitchOwnsLoop (s : State) (n : Nat) : Bool := s.stitchOwns (fun k => k == 0x20) n

/-- A safe-direction order stood on an output of the programme: it will enter HOLD with HCAUSE HOST (R544). -/
def State.holdByHost (s : State) : State := s.mProg fun p => { p with reqs := p.reqs ++ [.hold] }

/-- Whether a stitch entry's kind is cancelled by a safe-direction order on its target (R549). -/
def cancelledKind (k : Nat) : Bool := k == 1 || k == 2 || k == 4 || k == 5 || k == 6 || k == 0x20

/-- Every pending entry that `p` admits is cancelled, with the flag CANCEL set where there is one (R549). -/
def State.stitchCancel (s : State) (p : Stitch → Bool) : State :=
  let hit : Stitch → Bool := fun x => x.state == .pending && cancelledKind x.kind && p x
  if s.stitch.e.toList.any hit then
    s.mStitch fun t => { t with e := t.e.map (fun x => if hit x then { x with state := .cancelled } else x), cancel := t.cancel.raise }
  else s

end Sys2Proof.Machine
end

