-- ==== Sys2Proof/Machine/Real.lean ====
section
/-! DEFINITION. Logarithm and exponential in fixed point, for the coil fit of R405: numbers times 2^32, worked at 2^64 (log entry 7). -/

namespace Sys2Proof.Machine

/-- One in the outer fixed point. -/
def fxOne : Nat := 2 ^ 32

/-- One in the inner fixed point. -/
def fxInner : Nat := 2 ^ 64

/-- ln 2 times 2^64. -/
def ln2Inner : Nat := 12786308645202655660

/-- Halvings of `x` (times 2^64) until it is below 2, with their number. -/
def halveDown : Nat → Nat → Nat → Nat × Nat
  | 0, x, k => (x, k)
  | f + 1, x, k => if x ≥ 2 * fxInner then halveDown f (x / 2) (k + 1) else (x, k)

/-- The series of 2 · artanh y, `y` times 2^64, from the term of odd exponent `i`. -/
def artanhSum : Nat → Nat → Nat → Nat → Nat
  | 0, _, _, _ => 0
  | f + 1, p, y2, i => p / i + artanhSum f (p * y2 / fxInner) y2 (i + 2)

/-- ln of a number at or above 1, given and answered times 2^64. -/
def lnInner (x : Nat) : Nat :=
  let (m, k) := halveDown 64 x 0
  let y := (m - fxInner) * fxInner / (m + fxInner)
  2 * artanhSum 24 y (y * y / fxInner) 1 + k * ln2Inner

/-- −ln (1 − p/q) times 2^32, for p < q. -/
def negLnOneMinus (p q : Nat) : Nat := lnInner (q * fxInner / (q - p)) / fxOne

/-- The series of exp (−f), `f` times 2^64 and below 1: even and odd parts from term `i`. -/
def expSum : Nat → Nat → Nat → Nat → Int
  | 0, _, _, _ => 0
  | n + 1, t, f, i => (t : Int) - expSum n (t * f / fxInner / i) f (i + 1)

/-- exp (−z), `z` and the result times 2^32. -/
def expNeg (z : Nat) : Nat :=
  let zi := z * fxOne
  let k := zi / ln2Inner
  let f := zi % ln2Inner
  if k ≥ 64 then 0 else (expSum 28 fxInner f 1).toNat / fxOne / 2 ^ k

end Sys2Proof.Machine
end

