-- ==== Sys2Proof/Machine/Drivers.lean ====
section
/-! DEFINITION. The inductive drivers of chapter 9: profiles, the phases of Table 9.2, commands and restarts, adaptive boost, the
hold budget, energy metering, the boost converter and the driver opcodes. -/

namespace Sys2Proof.Machine

/-! ### Profiles (Table 9.4) -/

/-- The 32-byte image of a profile of channel `n`. -/
def Profile.toBytes (n : Nat) (p : Profile) : List Byte :=
  leBytes 1 n ++ leBytes 1 p.mode ++ leBytes 1 (pack [(1, bit p.heat), (1, bit p.adapt), (1, bit p.bnrStart)]) ++
    leBytes 1 p.relmode ++ leBytes 1 p.iPeak ++ leBytes 1 p.decayMode ++ leBytes 2 p.iHold ++ leBytes 2 p.iFloor ++
    leBytes 2 p.tGoal ++ leBytes 2 p.tBoostMax ++ leBytes 2 p.tPeak ++ leBytes 1 p.vFloor ++ leBytes 1 p.vCeil ++
    leBytes 1 p.chop ++ leBytes 1 p.tBoostWait ++ leBytes 2 p.tHoldMax ++ leBytes 1 p.ditherF ++ leBytes 1 p.ditherA ++
    leBytes 2 p.propSlew ++ leBytes 2 p.propMax ++ leBytes 4 0

/-- The fields of a profile image. -/
def Profile.ofBytes (b : List Byte) : Profile :=
  let fl := fieldAt b 2 1
  { mode := fieldAt b 1 1, heat := bitOf fl 0, adapt := bitOf fl 1, bnrStart := bitOf fl 2, relmode := fieldAt b 3 1,
    iPeak := fieldAt b 4 1, decayMode := fieldAt b 5 1, iHold := fieldAt b 6 2, iFloor := fieldAt b 8 2, tGoal := fieldAt b 10 2,
    tBoostMax := fieldAt b 12 2, tPeak := fieldAt b 14 2, vFloor := fieldAt b 16 1, vCeil := fieldAt b 17 1, chop := fieldAt b 18 1,
    tBoostWait := fieldAt b 19 1, tHoldMax := fieldAt b 20 2, ditherF := fieldAt b 22 1, ditherA := fieldAt b 23 1,
    propSlew := fieldAt b 24 2, propMax := fieldAt b 26 2 }

/-- Every field of the image lies within Table 9.4 and the cases of R394 that need no state. -/
def profileOk (b : List Byte) : Bool :=
  let p := Profile.ofBytes b
  fieldAt b 0 1 < 32 && p.mode ≤ 2 && fieldAt b 2 1 < 8 && p.relmode ≤ 2 && inR 8 p.iPeak 240 && p.decayMode ≤ 1 &&
    inR 4 p.iHold 240 && inR 4 p.iFloor p.iHold && inR 10 p.tGoal 5000 && inR 10 p.tBoostMax 5000 && p.tPeak ≤ 10000 &&
    inR 28 p.vFloor 60 && inR p.vFloor p.vCeil 60 && inR 10 p.chop 40 && inR 1 p.tBoostWait 100 &&
    (p.ditherF == 0 || inR 5 p.ditherF 40) && p.ditherA ≤ 100 && p.propSlew ≤ 3000 && inR 100 p.propMax 3000 &&
    fieldAt b 28 4 == 0 && p.iHold * 25 ≤ p.iPeak * 50 && p.tGoal ≤ p.tBoostMax && p.iFloor * 25 ≤ p.propMax * 2 &&
    !(p.heat && p.relmode != 0)

/-- The profile in force of channel `n`. -/
def State.prof (s : State) (n : Fin 32) : Profile := s.run.prof[n]

/-- Channel `n` is in a pair. -/
def State.paired (s : State) (n : Fin 32) : Bool := s.run.pair[(⟨n.val / 2, by omega⟩ : Fin 16)]

/-- The even channel of `n`'s pair, on which the pair's sequencer stands. -/
def evenCh (n : Fin 32) : Fin 32 := ⟨n.val - n.val % 2, by omega⟩

/-- The odd channel of `n`'s pair. -/
def oddCh (n : Fin 32) : Fin 32 := ⟨n.val - n.val % 2 + 1, by omega⟩

/-- The channel on which a pair's findings and sequencer stand (R435). -/
def State.seqCh (s : State) (n : Fin 32) : Fin 32 := if s.paired n then evenCh n else n

/-- The channel carries a heat actuator. -/
def State.isHeat (s : State) (n : Fin 32) : Bool := (s.prof n).heat

/-- The phases of Table 9.2 in which a current may flow: 1 to 6. -/
def Phase.active : Phase → Bool
  | .rise | .dwell | .decay | .hold | .release | .prop => true
  | _ => false

/-- PHASE codes of Table 9.2. -/
def Phase.code : Phase → Nat
  | .idle => 0
  | .rise => 1
  | .dwell => 2
  | .decay => 3
  | .hold => 4
  | .release => 5
  | .prop => 6
  | .wait => 7
  | .fault => 8
  | .unavailable => 9

/-- C_RES of channel `n`, in nF: from the CAL image, or 470 µF where it failed its check (R254, R382). -/
def State.cRes (s : State) (n : Nat) : Nat :=
  if s.fe.calOk then (Config.calItem s.fe.calHash (0x1000 + n)).toNat else 470000

/-! ### The hold budget (R418 to R422), in µA -/

/-- B_EFF. -/
def State.bEffUa (s : State) : Nat := s.run.budget * 125 * (8 - s.therm.step)

/-- B_EFF in mA, rounded down (log entry 9). -/
def State.bEff (s : State) : Nat := s.run.budget * (8 - s.therm.step) / 8

/-- The channel's own hold or proportional current while it counts in D, and nothing otherwise. -/
def State.ownUa (s : State) (n : Fin 32) : Option Nat :=
  match (s.drv.ch[n]).phase with
  | .hold => some ((s.prof n).iHold * 12500)
  | .prop => some (s.drv.ch[n]).propNow
  | _ => none

/-- D and F over currents given as (own, floor). -/
def sumDF (l : List (Nat × Nat)) : Nat × Nat := l.foldl (fun a x => (a.1 + x.1, a.2 + x.2)) (0, 0)

/-- Own current and floor of every channel in HOLD or PROP. -/
def State.holders (s : State) : List (Nat × Nat) :=
  (List.finRange 32).filterMap fun n => (s.ownUa n).map fun i => (i, (s.prof n).iFloor * 12500)

/-- k as a fraction (R419, R420). -/
def kOf (b d f : Nat) : Nat × Nat := if d ≤ b then (1, 1) else if b ≤ f then (0, 1) else (b - f, d - f)

/-- The current that runs: I_FLOOR + k × (own − I_FLOOR). A setpoint below I_FLOOR is moved towards it as the formula says (log entry 88). -/
def reduced (k : Nat × Nat) (own fl : Nat) : Nat := if own ≤ fl then fl - k.1 * (fl - own) / k.2 else fl + k.1 * (own - fl) / k.2

/-- k recomputed after a change in D, F or B_EFF (R421); OVER is set when F comes to exceed B_EFF (R420). -/
def State.rebudget (s : State) : State :=
  let (d, f) := sumDF s.holders
  let b := s.bEffUa
  let k := kOf b d f
  s.mDrv fun x => { x with kNum := k.1, kDen := k.2, k := (2 * 255 * k.1 + k.2) / (2 * k.2),
                           overEvt := x.overEvt.raiseIf (decide (b < f) && !x.overNow), overNow := decide (b < f) }

/-- The channel's current is reduced under R419. -/
def State.isReduced (s : State) (n : Fin 32) : Bool :=
  match s.ownUa n with
  | some i => s.drv.kNum < s.drv.kDen && (s.prof n).iFloor * 12500 < i
  | none => false

/-- The current in µA that channel `n` runs in HOLD or PROP (R419). -/
def State.runsUa (s : State) (n : Fin 32) : Nat :=
  match s.ownUa n with
  | some i => reduced (s.drv.kNum, s.drv.kDen) i ((s.prof n).iFloor * 12500)
  | none => 0

/-- The current in µA that channel `n` would run, were its own current `own` (R422, IEFF). -/
def State.wouldRun (s : State) (n : Fin 32) (own : Nat) : Nat :=
  let others := (List.finRange 32).filterMap fun m =>
    if m = n then none else (s.ownUa m).map fun i => (i, (s.prof m).iFloor * 12500)
  let fl := (s.prof n).iFloor * 12500
  let (d, f) := sumDF ((own, fl) :: others)
  reduced (kOf s.bEffUa d f) own fl

/-! ### Adaptive boost (R404 to R407) -/

/-- One pass of the target search: RISE time (ms × 2^32) at mean voltage `ve` (V × 2^32), none while it cannot reach I_PEAK.
`ipr` is I_PEAK × R in V × 2^32. -/
def riseTime (tau ipr ve : Nat) : Option Nat :=
  if ve ≤ ipr then none else some (tau * negLnOneMinus ipr ve / fxOne)

/-- The mean droop of the reservoir over that RISE (V × 2^32): q / (2 C), q in mC, C in nF. -/
def droop (fit : Fit) (cNf ve t : Nat) : Nat :=
  let e := expNeg (t * fxOne / fit.tau)
  let net := t - fit.tau * (fxOne - e) / fxOne
  let q := ve * net / fit.r
  q * 1000000 / (2 * cNf)

/-- `k` passes of R405's inner loop from `ve`, at set voltage `v`. -/
def risePasses (fit : Fit) (cNf ipr v : Nat) : Nat → Nat → Option Nat → Option Nat
  | 0, _, t => t
  | k + 1, ve, _ =>
    match riseTime fit.tau ipr ve with
    | none => none
    | some t => risePasses fit cNf ipr v k (v - droop fit cNf ve t) (some t)

/-- The target search from `v` (half volts) upward: the first voltage whose RISE meets T_GOAL with the margin 1.3. -/
def targetFrom (fit : Fit) (p : Profile) (cNf : Nat) : Nat → Nat → Option Nat
  | 0, _ => none
  | k + 1, v =>
    let vf := v * fxOne / 2
    let ok := match risePasses fit cNf (p.iPeak * 25 * fit.r / 1000) vf 3 vf none with
      | some t => decide (13 * t ≤ p.tGoal * fxOne / 10)
      | none => false
    if ok then some v else targetFrom fit p cNf k (v + 1)

/-- V_TGT in 10 mV, and whether no voltage up to V_CEIL meets the margin (R405). -/
def vTarget (p : Profile) (fit : Option Fit) (cNf : Nat) : Nat × Bool :=
  match fit with
  | none => (p.vCeil * 100, false)
  | some f =>
    if !p.adapt then (p.vCeil * 100, false)
    else match targetFrom f p cNf (2 * (p.vCeil - p.vFloor) + 1) (2 * p.vFloor) with
      | some v => (v * 50, false)
      | none => (p.vCeil * 100, true)

/-- The fit of R405 from the samples of an actuation: `r` (Ω × 2^32), t_a, V_a, t_b, V_b; none where it is rejected. -/
def fitOf (p : Profile) (r ta va tb vb : Nat) : Option Fit :=
  let i4 := p.iPeak * 25        -- I_PEAK in mA; 0.25 and 0.75 of it below
  let xa := i4 * r / 4000       -- V × 2^32
  let xb := 3 * i4 * r / 4000
  let wa := va * fxOne / 100
  let wb := vb * fxOne / 100
  if wa ≤ xa || wb ≤ xb then none
  else
    let la := negLnOneMinus xa wa
    let lb := negLnOneMinus xb wb
    if la == 0 || lb == 0 then none
    else
      let fa := ta * fxOne / 10000 * fxOne / la
      let fb := tb * fxOne / 10000 * fxOne / lb
      let tau := (fa + fb) / 2
      let gap := if fa ≤ fb then fb - fa else fa - fb
      if 2 * r < fxOne || r > 500 * fxOne || 20 * tau < fxOne || tau > 100 * fxOne || 5 * gap > tau then none
      else some { r := r, tau := tau }

/-- What a RELEASE finds of the fit, `r` its resistance: none, a fit that was rejected, or a new fit (R405). -/
def fitFound (p : Profile) (a : Actuation) (r : Option Nat) : Option (Option Fit) :=
  match a.restarted, a.points, r with
  | false, some (ta, va, tb, vb), some r => some (fitOf p r ta va tb vb)
  | _, _, _ => none

/-- V_TGT of reservoir `c` from its fit, its sequencer's profile and its C_RES (R405, R406). Until there is a fit it is V_CEIL, whatever
MODE. GOAL_MISS is set on the sequencer's channel. -/
def State.retarget (s : State) (c : Fin 32) : State :=
  let n := s.seqCh c
  let t := vTarget (s.prof n) (s.drv.ch[c]).fit (s.cRes c.val)
  (s.mDrvCh c fun x => { x with vTgt := t.1 }).mDrvCh n fun x => { x with goalMiss := x.goalMiss.raiseIf t.2 }

/-- The fit and V_TGT of channel `c` updated at the end of a RELEASE (R405), `vm` holding V_m (10 mV) and I_m (mA); no current at all
makes r exceed every bound. The profile in force is that of channel `n`, the even one of a pair. -/
def State.refit (s : State) (n c : Fin 32) (a : Actuation) (vm : Option (Nat × Nat)) : State :=
  let p := s.prof n
  let d := s.drv.ch[c]
  let r : Option Nat := match vm with
    | some (v, i) => some (if i == 0 then 501 * fxOne else v * 10 * fxOne / i)
    | none => d.fit.map (fun f => f.r)
  let s := match fitFound p a r with
    | some (some f) => s.mDrvCh c fun x => { x with fit := some f }
    | some none => s.mDrvCh n fun x => { x with fitReject := x.fitReject.raise }
    | none => s
  s.retarget c

/-! ### The boost converter (R389 to R391) -/

/-- The channel's MODE uses its reservoir. -/
def State.usesRes (s : State) (n : Fin 32) : Bool := (s.prof n).mode == 1 || (s.prof n).mode == 3

/-- The channel whose reservoir feeds a RISE of `n`'s actuation (R415). -/
def feeds (s : State) (n : Fin 32) (dirB : Bool) : Fin 32 := if s.paired n && dirB then oddCh n else n

/-- A waiting channel whose RISE reservoir `n` feeds (R390). -/
def State.waitsOn (s : State) (n : Fin 32) : Bool :=
  (List.finRange 32).any fun m => (s.drv.ch[m]).phase == .wait && feeds s m (s.drv.ch[m]).act.dirB = n

/-- Direct drive turns HS_R of channel `n` on; with HS_V named beside it neither goes on (R383, R471; log entry 112). -/
def State.directRise (s : State) (n : Fin 32) : Bool :=
  match (s.drv.dg[n]).direct with
  | some (_, sw) => bitOf sw 0 && !bitOf sw 1
  | none => false

/-- HS_R of channel `n` is on: its charge switch is open (R383). -/
def State.rising (s : State) (n : Fin 32) : Bool :=
  s.directRise n || (List.finRange 32).any fun m => (s.drv.ch[m]).phase == .rise && feeds s m (s.drv.ch[m]).act.dirB = n

/-- Reservoir `n` lies below V_TGT − 0.5 V and may be charged. -/
def State.wantsCharge (s : State) (n : Fin 32) : Bool :=
  let d := s.drv.ch[n]
  s.usesRes n && d.vRes + 50 < d.vTgt && !s.rising n && s.domOn (13 + n.val) && s.domOn 66

/-- Reservoir `a` is charged before `b` (R390). -/
def State.before (s : State) (a b : Fin 32) : Bool :=
  let x := s.drv.ch[a]
  let y := s.drv.ch[b]
  if s.waitsOn a != s.waitsOn b then s.waitsOn a
  else if x.vRes * y.vTgt != y.vRes * x.vTgt then x.vRes * y.vTgt < y.vRes * x.vTgt
  else a.val < b.val

/-- The reservoir that is charged next. -/
def State.nextCharge (s : State) : Option (Fin 32) :=
  ((List.finRange 32).filter fun n => s.wantsCharge n).foldl
    (fun best n => match best with
      | none => some n
      | some b => if s.before n b then some n else some b) none

/-- The converter's order reviewed. -/
def State.chargeReview (s : State) : State :=
  match (if s.drv.boostOn then s.nextCharge else none) with
  | some n => s.mDrv fun x => { x with chgOn := true, chgCh := n.val }
  | none => s.mDrv fun x => { x with chgOn := false }

/-! ### Phases -/

/-- The channel enters phase `p` at `now`: T_ON takes the time of the phase that ends, T_RISE that of a RISE that ends (Tables 9.8, 9.12). -/
def Driver.enter (d : Driver) (p : Phase) (now : Nat) : Driver :=
  { d with phase := p, phaseUp := now, tOnNs := if d.phase.active then d.tOnNs + (now - d.phaseUp) else d.tOnNs,
           tRise := if d.phase == .rise then satTo 0xFFFF ((now - d.phaseUp) / 10000) else d.tRise }

/-- The channel enters phase `p`. -/
def State.toPhase (s : State) (n : Fin 32) (p : Phase) : State := (s.mDrvCh n fun d => d.enter p s.clk.upNs).rebudget

/-- RISE starts (R384, R446); the reservoir that feeds it is charged no further (R383). -/
def State.startRise (s : State) (n : Fin 32) : State :=
  let v := (s.drv.ch[feeds s n (s.drv.ch[n]).act.dirB]).vRes
  let s := s.toPhase n .rise
  (s.mDrvCh n fun d => { d with act := { d.act with riseUp := s.clk.upNs, peak := false, points := none, cut := false, cutRise := false,
                                                    cutDwell := false, vmOk := false, reverse := false, vStart := v, ePull := 0 } }).chargeReview

/-- The energy in µJ drawn from the reservoir of channel `c` from `v1` to `v2`, in 10 mV (R423). -/
def State.resEnergy (s : State) (c v1 v2 : Nat) : Nat := s.cRes c * (v1 * v1 - v2 * v2) / 20000000

/-- The mean voltage and current of R404 exist for an actuation released now: over the last 5 ms of HOLD, or else over the second half of
a DWELL of at least 2 ms that ran to its end. -/
def State.vmNow (s : State) (n : Fin 32) : Bool :=
  let d := s.drv.ch[n]
  let dwelt := decide (200 ≤ (s.prof n).tPeak)
  match d.phase with
  | .hold => decide (ms 5 ≤ s.since d.phaseUp) || dwelt
  | .decay => dwelt
  | _ => false

/-- RELEASE starts, through FAST where `fast` holds; a waiting action is discarded; elsewhere nothing changes (R402, R447). -/
def State.release (s : State) (n : Fin 32) (fast : Bool) : State :=
  let d := s.drv.ch[n]
  match d.phase with
  | .rise | .dwell | .decay | .hold | .prop =>
    let f := fast || s.paired n || (s.prof n).relmode == 0
    (s.mDrvCh n fun d => { d with relFast := f, relRegen := !f && (s.prof n).relmode == 2,
                                  act := { d.act with cut := d.act.cut || d.phase == .rise || d.phase == .dwell, cutRise := d.phase == .rise,
                                                      cutDwell := d.phase == .dwell, vmOk := s.vmNow n, pulseEnd := none } }).toPhase n .release
  | .release =>
    s.mDrvCh n fun d => { d with relFast := d.relFast || fast, relRegen := d.relRegen && !fast, act := { d.act with reverse := false } }
  | .wait => s.toPhase n .idle
  | _ => s

/-- What a loss of the output stage does to every channel: released through FAST, waiting actions, pulse ends and direct drives gone
(R55, R56, R599). -/
def State.releaseAll (s : State) : State :=
  s.each (List.finRange 32) fun s n => (s.mDiag n fun g => { g with direct := none }).release n true

/-- Channel `n` at a removal of the permit, where it carries a heat actuator (R411). -/
def State.heatStep (s : State) (n : Fin 32) : State :=
  if s.isHeat n then
    match (s.drv.ch[n]).phase with
    | .rise | .dwell | .decay | .hold | .release | .prop | .wait =>
      (s.release n true).mDrvCh n fun d => { d with heatRel := d.heatRel.raise, target := 0, propNow := 0 }
    | _ => s
  else s

/-- HEAT channels at a removal of the permit (R411). -/
def State.heatRelease (s : State) : State := s.each (List.finRange 32) State.heatStep

/-- FCODE codes (Table 10.6). -/
def FCode.code : FCode → Nat
  | .none => 0
  | .open_ => 1
  | .shortGnd => 2
  | .shortSup => 3
  | .shortLoad => 4
  | .offShortGnd => 5
  | .offShortSup => 6
  | .overtemp => 7
  | .pullin => 8
  | .legConflict => 9

/-- The injection whose detector gives this fault code (Table 16.2). -/
def FCode.injId : FCode → Nat
  | .none => 0
  | .open_ => 0x0401
  | .shortGnd => 0x0402
  | .shortSup => 0x0403
  | .shortLoad => 0x0404
  | .offShortGnd => 0x0407
  | .offShortSup => 0x0408
  | .overtemp => 0x040B
  | .pullin => 0x0409
  | .legConflict => 0x040C

/-- The fault codes after which RETRY_MODE acts (R457). -/
def FCode.retries : FCode → Bool
  | .none | .overtemp | .legConflict => false
  | _ => true

/-- The flag of DRV.DG_STATn that finding `f` sets. -/
def Diag.raiseFor (d : Diag) (f : FCode) : Diag :=
  match f with
  | .none | .pullin => d
  | .open_ => { d with open_ := d.open_.raise }
  | .shortGnd | .offShortGnd => { d with shortGnd := d.shortGnd.raise }
  | .shortSup | .offShortSup => { d with shortSup := d.shortSup.raise }
  | .shortLoad => { d with shortLoad := d.shortLoad.raise }
  | .overtemp => { d with overtemp := d.overtemp.raise }
  | .legConflict => { d with legConflict := d.legConflict.raise }

/-- The channel enters FAULT with code `f`: every switch off, the active core's entry logged, RETRY_T started (R438, R456, R457, R465,
Table 10.8). -/
def State.toFault (s : State) (n : Fin 32) (f : FCode) : State :=
  let retryT := (s.run.diag[n]).retryT
  let s := s.toPhase n .fault
  let s := s.mDrvCh n fun d => { d with toFault := .none, act := { d.act with pulseEnd := none, reverse := false } }
  let s := s.mDiag n fun d =>
    { d with fcode := f, checking := false, cleanUp := none, direct := none, pfRun := if f == .pullin then 0 else d.pfRun,
             retryAt := if f.retries then some (s.clk.upNs + sec retryT) else none }
  let s := s.logAs 1 4 1 (s.injOn f.injId n.val) (leBytes 1 n.val ++ leBytes 1 f.code ++ leBytes 1 (s.drv.dg[n]).retryLeft)
  s.detected f.injId n.val 0xFF

/-- A finding that switches the channel off at once: flag, E_LAST and FAULT (R425, R438). E_PULL up to that instant takes in what a RISE
had drawn from its reservoir, now at `vRes`, or a DWELL through HS_V (`hsv`). -/
def State.findShort (s : State) (n : Fin 32) (f : FCode) (hsv vRes : Nat) : State :=
  let a := (s.drv.ch[n]).act
  let ph := (s.drv.ch[n]).phase
  let run := ph != .prop && ph != .idle
  let c := feeds s n a.dirB
  let e := if ph == .rise then s.resEnergy c.val a.vStart vRes else if ph == .dwell then hsv else 0
  let s := if ph == .rise then s.mDrvCh c fun d => { d with vRes := vRes } else s
  let s := s.mDiag n fun d => d.raiseFor f
  let s := if run then s.mDrvCh n fun d => { d with eLast := a.ePull + e, lastRestarted := a.restarted } else s
  s.toFault n f

/-! ### Commands (R397 to R403) -/

/-- V_RES as R442 reads it lies below 0.9 × V_TGT; an injection lets it read 0.5 × V_TGT. -/
def State.lowBoost (s : State) (n c : Fin 32) : Bool :=
  s.injOn 0x040A n.val || 10 * (s.drv.ch[c]).vRes < 9 * (s.drv.ch[c]).vTgt

/-- BOOST_NR set (R442). -/
def State.raiseBoostNr (s : State) (n : Fin 32) : State :=
  (s.mDrvCh n fun d => { d with boostNr := d.boostNr.raise }).detected 0x040A n.val 0xFF

/-- The direction and pulse length of an energising action. -/
def Action.dirB : Action → Bool
  | .latchB => true
  | _ => false

/-- The end of a pulse applied now. -/
def Action.pulseEnd (now : Nat) : Action → Option Nat
  | .pulse t => some (now + ms t)
  | _ => none

/-- An energising action applied to channel or even channel `n`: RISE, WAIT, restart or reversal (R400, R401, R442 to R447), counted
in ACT_CNT (R426). A FAULT to which the release under way leads stays due at the end of the next RELEASE (log entry 89). -/
def State.energise (s : State) (n : Fin 32) (a : Action) : State :=
  let d := s.drv.ch[n]
  let now := s.clk.upNs
  let low := s.lowBoost n (feeds s n a.dirB)
  let s := s.mDiag n fun g => { g with again := some a }
  let s := s.mDrvCh n fun d => { d with actCnt := inc32 d.actCnt }
  let fresh : Actuation := { applied := now, dirB := a.dirB, pulseEnd := a.pulseEnd now }
  match d.phase with
  | .idle =>
    let s := s.mDrvCh n fun d => { d with act := { fresh with waitUp := now, waitEnd := now + ms (s.prof n).tBoostWait } }
    if low then
      let s := s.raiseBoostNr n
      if (s.prof n).bnrStart then s.startRise n else (s.toPhase n .wait).chargeReview
    else s.startRise n
  | .wait =>
    let s := s.mDrvCh n fun d => { d with act := { fresh with waitUp := d.act.waitUp, waitEnd := d.act.waitEnd } }
    if d.act.dirB == a.dirB then s
    else if low then s.raiseBoostNr n
    else s.startRise n
  | .fault | .unavailable => s
  | _ =>
    let s := s.mDrvCh n fun d => { d with restartCnt := inc16 d.restartCnt,
                                          act := { fresh with restarted := true, fromLow := false } }
    let s := if low then s.raiseBoostNr n else s
    if s.paired n && (d.act.dirB != a.dirB || d.act.reverse) then
      (s.mDrvCh n fun d => { d with relFast := true, relRegen := false, act := { d.act with reverse := true, cut := true } }).toPhase n .release
    else s.startRise n

/-- SET_I applied: the target of a channel in MODE PROP, from 0 mA where it was not in PROP; with no slew limit the target is taken at
once (R408, R410, R413). -/
def State.setI (s : State) (n : Fin 32) (ma : Nat) : State :=
  let s := s.mDiag n fun g => { g with again := some (.setI ma) }
  let fresh := (s.drv.ch[n]).phase != .prop
  let s := s.mDrvCh n fun d => { d with target := ma,
                                        propNow := if (s.prof n).propSlew == 0 then ma * 1000 else if fresh then 0 else d.propNow,
                                        act := { d.act with applied := if fresh then s.clk.upNs else d.act.applied } }
  if fresh then s.toPhase n .prop else s.rebudget

/-- The slewed setpoint after one more millisecond (R408). -/
def slewTo (target now slew : Nat) : Nat :=
  if slew == 0 then target
  else if now < target then min target (now + slew) else max target (now - slew)

/-- The bleed resistor of channel `n` has run for 2 s since its domain went off: its reservoir stands at a voltage below 5 V that the spec
does not state (R392, log entry 113). -/
def State.bleed (s : State) (n : Fin 32) : State :=
  if s.lasted (s.drv.ch[n]).bleedUp (sec 2) then
    let v := s.freeNat 16 % 500
    s.drew.mDrvCh n fun d => { d with vRes := min d.vRes v, bleedUp := none }
  else s

/-- A reservoir voltage as measured: below 5 V once the bleed of a channel that is off has done its work (R392). -/
def State.seenRes (s : State) (n : Fin 32) (v : Nat) : Nat :=
  if !s.domOn (13 + n.val) && (s.drv.ch[n]).bleedUp.isNone then min v 499 else v

/-- The mean current as measured: a channel that regulates keeps it within ±2 % or ±10 mA of the set current, unless it is lost (R385,
R437; log entry 114). In µA: the set current of channel `n`, 0 where nothing is regulated. -/
def State.setUa (s : State) (n : Fin 32) : Nat :=
  match (s.drv.ch[n]).phase with
  | .dwell => (s.prof n).iPeak * 25000
  | _ => s.runsUa n

/-- The reading `ma` of channel `n`'s mean current, held to what R385 allows. -/
def State.seenMa (s : State) (n : Fin 32) (ma : Nat) : Nat :=
  let i := s.setUa n / 1000
  let tol := max (i / 50) 10
  if i == 0 || 2 * ma < i then ma else max (i - tol) (min (i + tol) ma)

/-- Setpoints moved over one millisecond (R408), and the bleed resistors (R392). -/
def State.driversMs (s : State) : State :=
  let s := s.each (List.finRange 32) State.bleed
  (s.each (List.finRange 32) fun s n =>
    s.mDrvCh n fun d =>
      { d with propNow := if d.phase == .prop then slewTo (d.target * 1000) d.propNow ((s.prof n).propSlew * 1000) else d.propNow }).rebudget

/-- An action as Table 9.5 codes it; none: RELEASE. -/
def actionOf (code arg : Nat) : Option Action :=
  match code with
  | 1 => some .on
  | 2 => some (.pulse arg)
  | 4 => some (.setI arg)
  | 5 => some .latchA
  | 6 => some .latchB
  | _ => none

/-- ARG lies in the range of Table 9.5. -/
def argOk (code arg propMax : Nat) : Bool :=
  match code with
  | 2 => inR 1 arg 60000
  | 4 => arg ≤ propMax
  | _ => arg == 0

/-- The action is allowed on the channel's MODE and pairing (Table 9.5). -/
def State.actAllowed (s : State) (n : Fin 32) (code : Nat) : Bool :=
  let m := (s.prof n).mode
  match code with
  | 1 | 2 => m == 1 && !s.paired n
  | 3 => m == 1 || m == 2
  | 4 => m == 2
  | 5 | 6 => s.paired n && n.val % 2 == 0
  | _ => true

/-- The action adds or sets a current. -/
def actSets (code : Nat) : Bool := code == 1 || code == 2 || code == 4 || code == 5 || code == 6

/-- R399, R601 and R640: the order cannot be carried out on channel `n` in the present state. Nothing is energised unless CTRL runs
(Table 2.25), nor after the clock monitor has tripped (R29). -/
def State.drvRefuses (s : State) (n : Fin 32) (code : Nat) : Bool :=
  !s.actAllowed n code || (s.drv.ch[n]).phase == .fault || (s.drv.ch[n]).phase == .unavailable ||
    (actSets code && (!s.ctrlRuns || s.clockDown || (s.isHeat n && !s.permitOn) || !s.pow.vpOk || s.therm.shut || s.estopHeld))

/-- The channels a DRV_CMD names. -/
def drvNamed (code ch mask : Nat) : List (Fin 32) :=
  if code == 7 then (List.finRange 32).filter fun n => bitOf mask n.val
  else if h : ch < 32 then [⟨ch, h⟩] else []

/-- RELEASE on a channel with HEAT set is safe-direction (Table 4.6). -/
def State.drvSafe (s : State) (code : Nat) (n : Fin 32) : Bool := (code == 3 || code == 7) && s.isHeat n

/-- An order's effect on one channel. On a pair, RELEASE acts through its even channel. -/
def State.drvAct (s : State) (n : Fin 32) (code arg : Nat) : State :=
  match actionOf code arg with
  | some (.setI ma) => s.setI n ma
  | some a => s.energise n a
  | none =>
    if s.paired n && n.val % 2 == 1 then s
    else
      let s' := s.release n false
      let s' := if s.drvSafe code n && s.progOn && s.progNamesDrv n.val then s'.holdByHost else s'
      if s.drvSafe code n then s'.stitchCancel (fun x => isDrvKind x.kind && x.tgt == n.val) else s'

/-- The current in mA that the order will let run (IEFF, Table 9.6), and whether it is reduced. -/
def State.ieff (s : State) (n : Fin 32) (code arg : Nat) : Nat × Bool :=
  match code with
  | 1 | 2 =>
    let own := (s.prof n).iHold * 12500
    let i := s.wouldRun n own
    ((i + 500) / 1000, decide (i < own))
  | 4 =>
    let i := s.wouldRun n (arg * 1000)
    ((i + 500) / 1000, decide (i < arg * 1000))
  | _ => (0, false)

/-- DRV_CMD (R397 to R403, R422, R544). -/
def drvCmd (ch code arg mask : Nat) : Op :=
  { opc := 0x40, needle := true, prot := .tagged,
    targets := fun s => (drvNamed code ch mask).map fun n => (Target.drv n.val, s.drvSafe code n),
    run := fun _ keep s =>
      if code == 0 || code > 7 || ch > 31 || (code != 7 && mask != 0) || (code == 7 && mask == 0) then .bad .badParam s
      else
        let ns := drvNamed code ch mask
        let pm := if h : ch < 32 then (s.prof ⟨ch, h⟩).propMax else 0
        if !argOk code arg pm then .bad .badParam s
        else if ns.any fun n => s.drvRefuses n code then .bad .badState s
        else if ns.any fun n => s.drvOwned n.val && !s.drvSafe code n then .bad .badState s
        else
          let (i, red) := if h : ch < 32 then s.ieff ⟨ch, h⟩ code arg else (0, false)
          let s' := s.each (ns.filter fun n => keep (.drv n.val)) fun s n => s.drvAct n code arg
          { status := if red && s.therm.step > 0 then .throttled else .ok,
            data := leBytes 1 ch ++ leBytes 1 code ++ leBytes 2 (satTo 0xFFFF i), s := s' } }

/-! ### Configuration opcodes -/

/-- A change of a channel's profile at its boundary (R396): the fit goes with a change of MODE, V_TGT is recomputed, of a pair in both
directions, a waiting action is discarded where MODE changed, and otherwise waits as long as the new profile says. The charging order is
reviewed (R389, R391). -/
def State.setProfile (s : State) (n : Fin 32) (p : Profile) : State :=
  let changed := (s.prof n).mode != p.mode
  let s := s.mRun fun r => { r with prof := r.prof.set n p }
  let s := s.mDrvCh n fun d =>
    { d with fit := if changed then none else d.fit, target := if changed then 0 else d.target,
             act := { d.act with waitEnd := d.act.waitUp + ms p.tBoostWait } }
  let s := s.retarget n
  let s := if s.paired n then s.retarget (oddCh n) else s
  let s := if changed then s.mDiag n fun g => { g with offFrom := s.clk.upNs } else s
  ((if changed && (s.drv.ch[n]).phase == .wait then s.toPhase n .idle else s).rebudget).chargeReview

/-- DRV_PROFILE (R394 to R396). -/
def drvProfile (img : List Byte) : Op :=
  { opc := 0x41, needle := true, prot := .tagged, lenOk := img.length == 32, targets := fun _ => [(.item 0x05 (fieldAt img 0 1), false)],
    run := fun _ _ s =>
      if !profileOk img then .bad .badParam s
      else match idx? 32 (fieldAt img 0 1) with
        | none => .bad .badParam s
        | some n =>
          let p := Profile.ofBytes img
          let old := s.prof n
          if p.heat && s.paired n then .bad .badParam s
          else if !((s.drv.ch[n]).phase == .idle || (s.drv.ch[n]).phase == .wait || (s.drv.ch[n]).phase == .unavailable) ||
              old.mode == 3 || (s.paired n && p.mode != 1) then .bad .badState s
          else if s.permitOn && (old.heat || p.heat) then .bad .heatActive s
          else .ok img (s.setProfile n p) }

/-- DRV_PAIR (R417): `on` pairs, else unpairs. Unpairing channels that are not paired changes nothing (log entry 10). It acts on the two
channels or on neither: an order that has lost one of them pairs nothing (R187, log entry 115). -/
def drvPair (ch : Nat) (on : Bool) : Op :=
  { opc := 0x44, needle := true, prot := .tagged,
    targets := fun _ => [(.item 0x05 ch, false), (.item 0x05 (ch + 1), false)],
    run := fun _ keep s =>
      if h : ch % 2 = 0 ∧ ch < 32 then
        let e : Fin 32 := ⟨ch, h.2⟩
        let o : Fin 32 := oddCh e
        let j : Fin 16 := ⟨ch / 2, by omega⟩
        let idle := (s.drv.ch[e]).phase == .idle && (s.drv.ch[o]).phase == .idle
        let fitless := fun (s : State) (n : Fin 32) => (s.mDrvCh n fun d => { d with fit := none }).retarget n
        let stands := keep (.item 0x05 ch) && keep (.item 0x05 (ch + 1))
        let done := fun (s' : State) => if stands then (fitless (fitless s' e) o).chargeReview else s
        if on then
          if idle && (s.prof e).mode == 1 && !(s.prof e).heat && (s.prof o).mode == 0 then
            let s' := s.mRun fun r => { r with pair := r.pair.set j true, prof := r.prof.set o { r.prof[o] with mode := 3 } }
            .ok (leBytes 1 ch ++ leBytes 1 1) (done s')
          else .bad .badState s
        else if !s.paired e then .ok (leBytes 1 ch ++ leBytes 1 0) s
        else if idle then
          let s' := s.mRun fun r => { r with pair := r.pair.set j false, prof := r.prof.set o { r.prof[o] with mode := 0 } }
          .ok (leBytes 1 ch ++ leBytes 1 0) (done s')
        else .bad .badState s
      else .bad .badParam s }

/-- D and F in mA, as DEMAND and FLOOR_SUM show them. -/
def State.demandMa (s : State) : Nat × Nat :=
  let (d, f) := sumDF s.holders
  (satTo 0xFFFF ((d + 500) / 1000), satTo 0xFFFF ((f + 500) / 1000))

/-- DRV_BUDGET (R418). -/
def drvBudget (b : Nat) : Op :=
  Op.order 0x45 .budget fun _ s =>
    if !inR 1000 b 25000 then .bad .badParam s
    else
      let s' := (s.mRun fun r => { r with budget := b }).rebudget
      .ok (leBytes 2 b ++ leBytes 2 s'.bEff ++ leBytes 2 s'.demandMa.1 ++ leBytes 2 s'.demandMa.2) s'

/-! ### Status, energy, registers -/

/-- R_FIT, 10 mΩ. -/
def Driver.rFit (d : Driver) : Nat :=
  match d.fit with
  | some f => satTo 0xFFFF ((f.r * 100 + fxOne / 2) / fxOne)
  | none => 0

/-- L_FIT, µH: τ (ms) × R (Ω) is in mH. -/
def Driver.lFit (d : Driver) : Nat :=
  match d.fit with
  | some f => (f.tau * f.r / fxOne * 1000 + fxOne / 2) / fxOne
  | none => 0

/-- Bits [13:8] of DRV.CH_STATn. -/
def Driver.evt (d : Driver) : Nat :=
  pack [(1, bit d.pullinFail.set), (1, bit d.goalMiss.set), (1, bit d.fitReject.set), (1, bit d.boostNr.set),
        (1, bit d.holdTo.set), (1, bit d.heatRel.set)]

/-- An entry of DRV_STATUS (Table 9.7). -/
def State.drvEntry (s : State) (n : Fin 32) : List Byte :=
  let d := s.drv.ch[n]
  leBytes 1 n.val ++ leBytes 1 d.phase.code ++ leBytes 1 (s.prof n).mode ++
    leBytes 1 (pack [(1, bit (s.paired n)), (1, bit d.fit.isSome), (1, bit (s.isReduced n)), (1, bit d.lastRestarted)]) ++
    leBytes 2 d.evt ++ leBytes 2 d.iMeas ++ leBytes 2 d.vRes ++ leBytes 2 d.vTgt ++ leBytes 2 d.rFit ++ leBytes 4 d.lFit ++
    leBytes 2 d.tRise

/-- The trailer of DRV_STATUS. -/
def State.drvTrailer (s : State) : List Byte :=
  leBytes 2 s.drv.vbus ++ leBytes 2 s.run.budget ++ leBytes 2 s.bEff ++ leBytes 2 s.demandMa.1 ++ leBytes 2 s.demandMa.2 ++
    leBytes 1 s.drv.k ++ leBytes 1 (bit s.drv.overNow)

/-- DRV_STATUS (R429). -/
def drvStatus (ch count : Nat) : Op :=
  Op.read 0x42 fun _ s =>
    if !inR 1 count 32 || ch + count > 32 then .bad .badParam s
    else .ok ((span 32 ch count).flatMap (fun n => s.drvEntry n) ++ s.drvTrailer) s

/-- E_MEAN: the mean of the counted actuations, 0 before the first (R425). -/
def Driver.eMean (d : Driver) : Nat :=
  let k := d.ePast.length
  if k == 0 then 0 else (2 * d.ePast.sum + k) / (2 * k)

/-- An entry of DRV_ENERGY (Table 9.8). -/
def State.drvEnergyEntry (s : State) (n : Fin 32) : List Byte :=
  let d := s.drv.ch[n]
  leBytes 1 n.val ++ leBytes 3 0 ++ leBytes 4 d.actCnt ++ leBytes 4 (satTo 0xFFFFFFFF d.eLast) ++
    leBytes 4 (satTo 0xFFFFFFFF d.eMean) ++ leBytes 8 d.eHold ++ leBytes 4 (satTo 0xFFFFFFFF d.eRet) ++
    leBytes 4 (satTo 0xFFFFFFFF ((if d.phase.active then d.tOnNs + s.since d.phaseUp else d.tOnNs) / ms 1))

/-- DRV_ENERGY (R429). -/
def drvEnergy (ch count : Nat) : Op :=
  Op.read 0x43 fun _ s =>
    if !inR 1 count 16 || ch + count > 32 then .bad .badParam s
    else .ok ((span 32 ch count).flatMap fun n => s.drvEnergyEntry n) s

/-- DRV.CH_STATn (Table 9.12). -/
def State.regDrvStat (s : State) (n : Fin 32) : Nat :=
  let d := s.drv.ch[n]
  pack [(4, d.phase.code), (1, bit (s.paired n)), (1, bit d.fit.isSome), (1, bit (s.isReduced n)), (1, 0), (6, d.evt)]

/-- A per-channel register of Table 9.11 at word `k` of its channel. -/
def State.regDrvCh (s : State) (n : Fin 32) (k : Nat) : Nat :=
  let d := s.drv.ch[n]
  match k with
  | 0 => s.regDrvStat n
  | 1 => pack [(8, d.pullinFail.cnt), (8, d.goalMiss.cnt), (8, d.fitReject.cnt), (8, d.boostNr.cnt)]
  | 2 => pack [(8, d.holdTo.cnt), (8, d.heatRel.cnt), (16, d.restartCnt)]
  | 3 => pack [(16, d.iMeas), (16, d.vRes)]
  | 4 => pack [(16, d.vTgt), (16, d.tRise)]
  | 5 => pack [(16, d.rFit)]
  | 6 => pack [(24, d.lFit)]
  | 7 => d.actCnt
  | 8 => satTo 0xFFFFFFFF d.eLast
  | _ => 0

/-- DRV.BOOST to DRV.PAIR (Tables 9.9 and 9.10), by word. -/
def State.regDrvTop (s : State) (k : Nat) : Nat :=
  match k with
  | 0 => pack [(16, s.drv.vbus), (1, bit s.drv.chgOn), (5, s.drv.chgCh)]
  | 1 => pack [(16, s.run.budget), (16, s.bEff)]
  | 2 => pack [(16, s.demandMa.1), (16, s.demandMa.2)]
  | 3 => pack [(8, s.drv.k), (1, bit s.drv.overEvt.set), (7, 0), (8, s.drv.overEvt.cnt)]
  | 4 => maskOf 16 fun j => if h : j < 16 then s.run.pair[(⟨j, h⟩ : Fin 16)] else false
  | _ => 0

/-- The bits of DRV_ACTIVE (Table 4.5). -/
def State.drvActive (s : State) : Nat :=
  maskOf 32 fun i => if h : i < 32 then (s.drv.ch[(⟨i, h⟩ : Fin 32)]).phase.active else false

/-! ### The commands -/

/-- DRV_CMD ON. -/
def execDrvCmdOn (q : Req) (ch : Byte) (arg : Half) (mask : Word) (s : State) : Host.Outcome State Fault Refusal :=
  .next ((drvCmd ch.toNat 1 arg.toNat mask.toNat).serve q s)

/-- DRV_CMD PULSE. -/
def execDrvCmdPulse (q : Req) (ch : Byte) (arg : Half) (mask : Word) (s : State) : Host.Outcome State Fault Refusal :=
  .next ((drvCmd ch.toNat 2 arg.toNat mask.toNat).serve q s)

/-- DRV_CMD RELEASE. -/
def execDrvCmdRelease (q : Req) (ch : Byte) (arg : Half) (mask : Word) (s : State) : Host.Outcome State Fault Refusal :=
  .next ((drvCmd ch.toNat 3 arg.toNat mask.toNat).serve q s)

/-- DRV_CMD SET_I. -/
def execDrvCmdSetI (q : Req) (ch : Byte) (arg : Half) (mask : Word) (s : State) : Host.Outcome State Fault Refusal :=
  .next ((drvCmd ch.toNat 4 arg.toNat mask.toNat).serve q s)

/-- DRV_CMD LATCH_A. -/
def execDrvCmdLatchA (q : Req) (ch : Byte) (arg : Half) (mask : Word) (s : State) : Host.Outcome State Fault Refusal :=
  .next ((drvCmd ch.toNat 5 arg.toNat mask.toNat).serve q s)

/-- DRV_CMD LATCH_B. -/
def execDrvCmdLatchB (q : Req) (ch : Byte) (arg : Half) (mask : Word) (s : State) : Host.Outcome State Fault Refusal :=
  .next ((drvCmd ch.toNat 6 arg.toNat mask.toNat).serve q s)

/-- DRV_CMD RELEASE_MASK. -/
def execDrvCmdReleaseMask (q : Req) (ch : Byte) (arg : Half) (mask : Word) (s : State) : Host.Outcome State Fault Refusal :=
  .next ((drvCmd ch.toNat 7 arg.toNat mask.toNat).serve q s)

/-- DRV_PROFILE. -/
def execDrvProfile (q : Req) (item : List Byte) (s : State) : Host.Outcome State Fault Refusal :=
  .next ((drvProfile item).serve q s)

/-- DRV_STATUS. -/
def execDrvStatus (q : Req) (ch count : Byte) (s : State) : Host.Outcome State Fault Refusal :=
  .next ((drvStatus ch.toNat count.toNat).serve q s)

/-- DRV_ENERGY. -/
def execDrvEnergy (q : Req) (ch count : Byte) (s : State) : Host.Outcome State Fault Refusal :=
  .next ((drvEnergy ch.toNat count.toNat).serve q s)

/-- DRV_PAIR with PAIR 1. -/
def execDrvPair (q : Req) (ch : Byte) (s : State) : Host.Outcome State Fault Refusal :=
  .next ((drvPair ch.toNat true).serve q s)

/-- DRV_PAIR with PAIR 0. -/
def execDrvUnpair (q : Req) (ch : Byte) (s : State) : Host.Outcome State Fault Refusal :=
  .next ((drvPair ch.toNat false).serve q s)

/-- DRV_BUDGET. -/
def execDrvBudget (q : Req) (budget : Half) (s : State) : Host.Outcome State Fault Refusal :=
  .next ((drvBudget budget.toNat).serve q s)

/-- RISE goes over into DWELL: whether I_PEAK was reached in time (R386), the samples of R404 for an actuation that began below 10 mA, the
reservoir's part of E_PULL (R423). -/
def State.endRise (s : State) (n : Fin 32) (peak : Bool) (points : Option (Nat × Nat × Nat × Nat)) (vRes : Nat) : State :=
  let d := s.drv.ch[n]
  let c := feeds s n d.act.dirB
  let e := s.resEnergy c.val d.act.vStart vRes
  let s := s.mDrvCh c fun x => { x with vRes := vRes }
  let s := s.mDrvCh n fun x => { x with act := { x.act with peak := peak, points := if x.act.fromLow then points else none,
                                                            ePull := x.act.ePull + e } }
  (s.toPhase n .dwell).chargeReview

/-- The current reaches I_PEAK in RISE: DWELL, or SHORT_LOAD where it took less than 20 µs from a current below 10 mA (R384, R404,
R437). -/
def execRisePeakReached (dt : Nat) (n : Fin 32) (points : Option (Nat × Nat × Nat × Nat)) (vRes : Nat) (s : State) :
    Host.Outcome State Fault Refusal :=
  let s := s.advance dt
  let d := s.drv.ch[n]
  .next <|
    if d.phase == .rise then
      let t := s.since d.act.riseUp
      if d.act.fromLow && t < 20000 then s.findShort n .shortLoad 0 vRes
      else s.endRise n (decide (t ≤ (s.prof n).tBoostMax * 10000)) points vRes
    else s

/-- T_BOOST_MAX expires before I_PEAK: DWELL (R387), or OPEN where neither sense shows 50 mA (R437, R439). -/
def execTBoostMaxExpire (dt : Nat) (n : Fin 32) (iHs iLs : Nat) (points : Option (Nat × Nat × Nat × Nat)) (vRes : Nat) (s : State) :
    Host.Outcome State Fault Refusal :=
  let s := s.advance dt
  let d := s.drv.ch[n]
  .next <|
    if d.phase == .rise && (s.prof n).tBoostMax * 10000 ≤ s.since d.act.riseUp then
      if s.injOn 0x0401 n.val || (iHs < 50 && iLs < 50) then
        let s := s.mDiag n fun g => g.raiseFor .open_
        (s.mDrvCh n fun x => { x with toFault := .open_ }).release n true
      else s.endRise n false points vRes
    else s

/-- DWELL ends: pull-in is judged, DECAY starts (R386, R440). -/
def execDwellEnd (dt : Nat) (n : Fin 32) (held : Bool) (energy : Nat) (s : State) : Host.Outcome State Fault Refusal :=
  let s := s.advance dt
  let d := s.drv.ch[n]
  .next <|
    if d.phase == .dwell && (s.prof n).tPeak * 10000 ≤ s.since d.phaseUp then
      let met := d.act.peak && held && !s.injOn 0x0409 n.val
      let s := s.mDrvCh n fun x => { x with act := { x.act with ePull := x.act.ePull + energy }, pullinFail := x.pullinFail.raiseIf (!met) }
      let s := s.mDiag n fun g => { g with pfRun := if met then 0 else satTo 15 (g.pfRun + 1) }
      let s := if met then s else s.detected 0x0409 n.val 0xFF
      s.toPhase n .decay
    else s

/-- The current falls to I_HOLD: HOLD, or on a pair the FAST release (R384, R416). -/
def execDecayEnd (dt : Nat) (n : Fin 32) (s : State) : Host.Outcome State Fault Refusal :=
  let s := s.advance dt
  .next <|
    if (s.drv.ch[n]).phase == .decay then
      if s.paired n then s.release n true else s.toPhase n .hold
    else s

/-- A PULSE ends: the channel releases; in WAIT it returns to IDLE without a RISE (R403, R446). -/
def execPulseEnd (dt : Nat) (n : Fin 32) (s : State) : Host.Outcome State Fault Refusal :=
  let s := s.advance dt
  .next <|
    match (s.drv.ch[n]).act.pulseEnd with
    | some t =>
      if t ≤ s.clk.upNs && (s.drv.ch[n]).phase != .idle then
        (s.release n false).mDrvCh n fun d => { d with act := { d.act with pulseEnd := none } }
      else s
    | none => s

/-- T_HOLD_MAX expires: the channel releases and HOLD_TO is set (R403). -/
def execTHoldMaxExpire (dt : Nat) (n : Fin 32) (s : State) : Host.Outcome State Fault Refusal :=
  let s := s.advance dt
  let d := s.drv.ch[n]
  let t := (s.prof n).tHoldMax
  .next <|
    if t != 0 && (d.phase == .rise || d.phase == .dwell || d.phase == .decay || d.phase == .hold) && sec t ≤ s.since d.act.applied then
      (s.release n false).mDrvCh n fun d => { d with holdTo := d.holdTo.raise }
    else s

/-- What is measured at the end of a RELEASE completes the actuation: the samples of a RISE it cut off, and the energy of a RISE or DWELL
that it cut off (R404, R423). -/
def State.actDone (s : State) (n : Fin 32) (x : Released) : State :=
  let c := feeds s n (s.drv.ch[n]).act.dirB
  let s := s.mDrvCh n fun d =>
    let a := d.act
    let e := if a.cutRise then s.resEnergy c.val a.vStart x.vCut else if a.cutDwell then x.hsv else 0
    { d with iMeas := 0, act := { a with ePull := a.ePull + e, points := if a.cutRise && a.fromLow then x.points else a.points } }
  s.mDrvCh c fun d => { d with vRes := x.vRes }

/-- What the end of RELEASE leaves of an actuation: E_LAST, E_MEAN and the totals of Table 12.8 (R425). -/
def State.meterRelease (s : State) (n : Fin 32) : State :=
  let a := (s.drv.ch[n]).act
  let s := s.mDrvCh n fun d =>
    { d with eLast := a.ePull, lastRestarted := a.restarted, ePast := if a.restarted then d.ePast else (a.ePull :: d.ePast).take 16 }
  s.mEnergy fun e => { e with now := { e.now with actE := e.now.actE + a.ePull, actN := e.now.actN + 1 } }

/-- The current falls below 10 mA in RELEASE: IDLE, or the FAULT that was found, the fit and the energy updated (R405, R425, R439,
R440). -/
def execReleaseEnd (dt : Nat) (n : Fin 32) (x : Released) (s : State) : Host.Outcome State Fault Refusal :=
  let s := s.advance dt
  let d := s.drv.ch[n]
  .next <|
    if d.phase == .release && !d.act.reverse then
      let s := s.actDone n x
      let vm := if d.act.vmOk then x.vm else none
      let s := if (s.prof n).mode == 1 then (s.refit n (feeds s n d.act.dirB) (s.drv.ch[n]).act vm).meterRelease n else s
      let s := (s.toPhase n .idle).chargeReview
      let lim := (s.run.diag[n]).pfLimit
      if d.toFault != .none then s.toFault n d.toFault
      else if lim != 0 && lim ≤ (s.drv.dg[n]).pfRun then s.toFault n .pullin
      else s
    else s

/-- After a reversal both legs are below 10 mA: RISE starts in the new direction (R401). -/
def execPairReverseRise (dt : Nat) (n : Fin 32) (s : State) : Host.Outcome State Fault Refusal :=
  let s := s.advance dt
  .next <|
    if (s.drv.ch[n]).phase == .release && (s.drv.ch[n]).act.reverse then
      (s.mDrvCh n fun d => { d with act := { d.act with fromLow := true } }).startRise n
    else s

/-- The reservoir being charged has reached its target, within 0.5 V of it and at no more than 60 V: the converter moves to the next (R389
to R391). -/
def execReservoirCharged (dt : Nat) (n : Fin 32) (vRes : Nat) (s : State) : Host.Outcome State Fault Refusal :=
  let s := s.advance dt
  let t := (s.drv.ch[n]).vTgt
  .next <|
    if s.drv.chgOn && s.drv.chgCh == n.val && inR (t - 50) vRes (min 6000 (t + 50)) then
      (s.mDrvCh n fun d => { d with vRes := vRes }).chargeReview
    else s

/-- The charging order is reviewed (R390). -/
def execBoostOrderReview (dt : Nat) (s : State) : Host.Outcome State Fault Refusal := .next (s.advance dt).chargeReview

end Sys2Proof.Machine
end

