-- ==== Sys2Proof/Machine/Gates.lean ====
section
/-! DEFINITION. The switches of a driver channel as its gate drive sets them: Tables 9.1 to 9.3, the H-bridge of R415 and R416, direct
drive (R471) and the interlocks (R383, R412, R451, R455), with the dither of R409. -/

namespace Sys2Proof.Machine

/-- A switch: off, on, or chopped so that the current stands at a set value (µA). -/
inductive Switch where
  | off
  | on
  | chopped (ua : Nat)
  deriving DecidableEq, Repr

/-- Where the release steering sends the coil current while LS is off. -/
inductive Steering where
  | none | clamp | reservoir
  deriving DecidableEq, Repr

/-- The switches and the steering of one channel. -/
structure Gates where
  hsR : Switch := .off
  hsV : Switch := .off
  ls : Bool := false
  ps : Bool := false
  steer : Steering := .clamp
  deriving DecidableEq, Repr

/-- Every switch off, the coil current into the clamp. -/
def Gates.off : Gates := {}

/-- The leg's high side is on or chopped. -/
def Gates.high (g : Gates) : Bool := g.hsR != .off || g.hsV != .off

/-- The high side held off (R412). -/
def Gates.noHigh (g : Gates) : Gates := { g with hsR := .off, hsV := .off }

/-! ### Dither (R409) -/

/-- A symmetrical triangle of peak `a` and period `per`, at time `t` from the start of a period: 0, up to `a`, down to −`a`, back to 0. -/
def triangle (a per t : Nat) : Int :=
  let x : Int := (4 * a * (t % per) / max 1 per : Nat)
  if x ≤ a then x else if x ≤ 3 * a then 2 * a - x else x - 4 * a

/-- The instantaneous current in µA to which channel `n` is regulated in PROP: the mean with its dither, limited to 0 and PROP_MAX. The
triangle's periods count from the entry to PROP (log entry 118). -/
def State.propUa (s : State) (n : Fin 32) : Nat :=
  let p := s.prof n
  let mean := s.runsUa n
  if p.ditherF == 0 then mean
  else
    let i := (mean : Int) + triangle (p.ditherA * 5000) (100000000 / p.ditherF) (s.since (s.drv.ch[n]).phaseUp)
    (clampI 0 ((p.propMax * 1000 : Nat) : Int) i).toNat

/-! ### The sequencer's pattern -/

/-- A channel that is not in a pair, by phase (Tables 9.2 and 9.3). -/
def State.soloGates (s : State) (n : Fin 32) : Gates :=
  let d := s.drv.ch[n]
  match d.phase with
  | .rise => { hsR := .on, ls := true, steer := .none }
  | .dwell | .hold => { hsV := .chopped (s.setUa n), ls := true, steer := .none }
  | .prop => { hsV := .chopped (s.propUa n), ls := true, steer := .none }
  | .decay => if (s.prof n).decayMode == 1 then { ls := true, steer := .none } else .off
  | .release =>
    if d.relFast then .off else if d.relRegen then { steer := .reservoir } else { ls := true, steer := .none }
  | _ => .off

/-- Channel `n` of a pair: the leg that drives high and the leg that conducts low through its PS, by the phase of the even channel (R415,
R416). A release turns all four switches off. -/
def State.legGates (s : State) (n : Fin 32) : Gates :=
  let e := evenCh n
  let d := s.drv.ch[e]
  let up := feeds s e d.act.dirB = n
  match d.phase with
  | .rise => if up then { hsR := .on, steer := .none } else { ps := true, steer := .none }
  | .dwell => if up then { hsV := .chopped (s.setUa e), steer := .none } else { ps := true, steer := .none }
  | .decay => if (s.prof e).decayMode == 1 && !up then { ps := true, steer := .none } else .off
  | _ => .off

/-- Direct drive: the switches named in SW; HS_R and HS_V named together both stay off (R383, log entry 112). -/
def directGates (sw : Nat) : Gates :=
  let both := bitOf sw 0 && bitOf sw 1
  { hsR := if bitOf sw 0 && !both then .on else .off, hsV := if bitOf sw 1 && !both then .on else .off, ls := bitOf sw 2, ps := bitOf sw 3 }

/-- What reaches the gate drive of channel `n`, from the sequencer or from direct drive. -/
def State.rawGates (s : State) (n : Fin 32) : Gates :=
  match (s.drv.dg[n]).direct with
  | some (_, sw) => directGates sw
  | none => if s.paired n then s.legGates n else s.soloGates n

/-! ### The interlocks -/

/-- The leg commands of the pair of `n` contradict each other (R451). -/
def State.contradictory (s : State) (n : Fin 32) : Bool :=
  let a := s.rawGates (evenCh n)
  let b := s.rawGates (oddCh n)
  s.paired n && ((a.high && a.ps) || (b.high && b.ps) || (a.high && b.high) || (a.ps && b.ps && (a.high || b.high)))

/-- The high side and PS of a channel that is not in a pair, both commanded on: PS is used only in a pair (Table 9.1), and no switch pair
ever conducts at the same time (R455). -/
def Gates.shoots (g : Gates) : Bool := g.high && g.ps

/-- The switches of channel `n` as they stand: all off where its domain or VS_POWER is absent, or where the commands contradict each
other, or where the emergency-stop lines hold them; HS_R and HS_V of a HEAT channel held off while the permit is off (R55, R61, R412, R451,
R455, R639). -/
def State.gates (s : State) (n : Fin 32) : Gates :=
  let g := s.rawGates n
  if !s.domOn (13 + n.val) || !s.pow.vpOk || s.contradictory n || g.shoots || s.safe.estopLines || s.ho.safeTrip then .off
  else if s.isHeat n && !s.permitOn then g.noHigh else g

end Sys2Proof.Machine
end

