-- ==== Sys2Proof/Machine/Tables.lean ====
section
/-! DEFINITION. Linearisation tables (R299 to R312): images, the built-in tables, interpolation and the table opcodes. -/

namespace Sys2Proof.Machine

/-! ### Images (Table 7.1) -/

/-- A table as read: its units and breakpoints. -/
structure Table where
  unit : Nat
  xunit : Nat
  pts : List (Int × Int)
  deriving DecidableEq, Repr

/-- Breakpoints `k` of them, from byte `o` on. -/
def pointsAt (b : List Byte) : Nat → Nat → List (Int × Int)
  | 0, _ => []
  | k + 1, o => (sfieldAt b o 4, sfieldAt b (o + 4) 4) :: pointsAt b k (o + 8)

/-- The table that an image holds. -/
def Table.ofImage (b : List Byte) : Table := { unit := fieldAt b 2 1, xunit := fieldAt b 3 1, pts := pointsAt b (fieldAt b 1 1) 16 }

/-- The image of a table (Table 7.1). -/
def tableImage (unit xunit tflags tver : Nat) (name : List Byte) (pts : List (Int × Int)) : List Byte :=
  let b := leBytes 1 1 ++ leBytes 1 pts.length ++ leBytes 1 unit ++ leBytes 1 xunit ++ leBytes 1 tflags ++ leBytes 1 0 ++ leBytes 2 tver ++
    (name ++ List.replicate 8 0).take 8 ++ pts.flatMap fun p => leInt 4 p.1 ++ leInt 4 p.2
  b ++ leBytes 4 (crc32 b)

/-- X rises strictly (R300). -/
def risesX : List (Int × Int) → Bool
  | a :: b :: r => decide (a.1 < b.1) && risesX (b :: r)
  | _ => true

/-! ### Built-in tables (R306, Table 7.3) -/

/-- Breakpoints of type J (table 0), nV: X and the temperature in °C (log entry 17). -/
def tcJPoints : List (Int × Int) :=
  [(-8095380, -210), (-5801068, -130), (-2431276, -50), (0, 0), (2058847, 40), (4186583, 80), (6360306, 120),
   (8562217, 160), (10778746, 200), (12999985, 240), (15219378, 280), (17433549, 320), (19642210, 360), (21848065, 400),
   (24056630, 440), (26275912, 480), (28515881, 520), (30787661, 560), (33102410, 600), (35469808, 640),
   (37896125, 680), (40381823, 720), (42918641, 760), (45494394, 800), (48074029, 840), (50621735, 880),
   (53119094, 920), (55561303, 960), (57953410, 1000), (60306538, 1040), (62634114, 1080), (64948099, 1120),
   (69553180, 1200)]

/-- Breakpoints of type K (table 1), nV: X and the temperature in °C (log entry 17). -/
def tcKPoints : List (Int × Int) :=
  [(-6457738, -270), (-4912708, -150), (-1889383, -50), (0, 0), (1817128, 45), (3681879, 90), (5531749, 135),
   (7340023, 180), (9141089, 225), (10970948, 270), (12831479, 315), (14712576, 360), (16608418, 405), (18515807, 450),
   (20431164, 495), (22350030, 540), (24267483, 585), (26178649, 630), (28079134, 675), (29965317, 720),
   (31834497, 765), (33684895, 810), (35515515, 855), (37325915, 900), (39115912, 945), (40885267, 990),
   (42633416, 1035), (44359268, 1080), (46061138, 1125), (47736839, 1170), (49383956, 1215), (52060168, 1290),
   (54886364, 1372)]

/-- Breakpoints of type T (table 2), nV: X and the temperature in °C (log entry 17). -/
def tcTPoints : List (Int × Int) :=
  [(-6257505, -270), (-5602961, -200), (-1819036, -50), (-940088, -25), (-383050, -10), (194597, 5), (789612, 20),
   (1403047, 35), (2035722, 50), (2687498, 65), (3357718, 80), (4045509, 95), (4749965, 110), (5470261, 125),
   (6205689, 140), (6955661, 155), (7719678, 170), (8497301, 185), (9288102, 200), (10091643, 215), (10907453, 230),
   (11735028, 245), (12573846, 260), (13423397, 275), (14283212, 290), (15152901, 305), (16032171, 320),
   (16920817, 335), (17818669, 350), (18725476, 365), (19640700, 380), (20563196, 395), (20871970, 400)]

/-- Breakpoints of type N (table 3), nV: X and the temperature in °C (log entry 17). -/
def tcNPoints : List (Int × Int) :=
  [(-4345135, -270), (-3336337, -150), (-1268598, -50), (0, 0), (1201704, 45), (2479581, 90), (3834205, 135),
   (5259479, 180), (6746928, 225), (8287943, 270), (9874728, 315), (11500526, 360), (13159486, 405), (14846422, 450),
   (16556597, 495), (18285597, 540), (20029285, 585), (21783831, 630), (23545760, 675), (25311998, 720),
   (27079872, 765), (28847060, 810), (30611497, 855), (32371258, 900), (34124452, 945), (35869169, 990),
   (37603490, 1035), (39325587, 1080), (41033837, 1125), (42726848, 1170), (44403161, 1215), (46060296, 1260),
   (47512772, 1300)]

/-- Breakpoints of Pt100 (table 4), mΩ: X and the temperature in °C (log entry 17). -/
def pt100Points : List (Int × Int) :=
  [(18520, -200), (33443, -165), (48005, -130), (62280, -95), (76328, -60), (90192, -25), (103903, 10), (117470, 45),
   (130897, 80), (144182, 115), (157325, 150), (170327, 185), (183188, 220), (195906, 255), (208484, 290),
   (220920, 325), (233214, 360), (245367, 395), (257379, 430), (269249, 465), (280978, 500), (292565, 535),
   (304010, 570), (315314, 605), (326477, 640), (337498, 675), (348378, 710), (359116, 745), (369712, 780),
   (380167, 815), (390481, 850)]

/-- Breakpoints of Pt1000 (table 5), mΩ: X and the temperature in °C (log entry 17). -/
def pt1000Points : List (Int × Int) :=
  [(185201, -200), (334429, -165), (480048, -130), (622800, -95), (763278, -60), (901923, -25), (1039025, 10),
   (1174704, 45), (1308968, 80), (1441817, 115), (1573251, 150), (1703271, 185), (1831875, 220), (1959065, 255),
   (2084839, 290), (2209199, 325), (2332144, 360), (2453674, 395), (2573789, 430), (2692490, 465), (2809775, 500),
   (2925646, 535), (3040101, 570), (3153142, 605), (3264768, 640), (3374979, 675), (3483775, 710), (3591157, 745),
   (3697123, 780), (3801675, 815), (3904811, 850)]

/-- Breakpoints of the NTC (table 6), mΩ: X and the temperature in °C (log entry 17). -/
def ntcPoints : List (Int × Int) :=
  [(398277, 120), (453709, 115), (518616, 110), (594909, 105), (684939, 100), (791618, 95), (918567, 90), (1070309, 85),
   (1252530, 80), (1472408, 75), (1739061, 70), (2064142, 65), (2462624, 60), (2953879, 55), (3563132, 50),
   (4323454, 45), (5278520, 40), (6486441, 35), (8025145, 30), (10000000, 25), (12554703, 20), (15886998, 15),
   (20271595, 10), (26093921, 5), (33900421, 0), (44474362, -5), (58951503, -10), (78998872, -15), (107094868, -20),
   (146974419, -25), (204347195, -30), (288074992, -35), (412134567, -40)]

/-- Breakpoints in °C as (X, Y), Y in thousandths of a degree. -/
def celsius (l : List (Int × Int)) : List (Int × Int) := l.map fun p => (p.1, p.2 * 1000)

/-- Built-in table `t`. -/
def builtin (t : Nat) : Table :=
  match t with
  | 0 => { unit := 1, xunit := 1, pts := celsius tcJPoints }
  | 1 => { unit := 1, xunit := 1, pts := celsius tcKPoints }
  | 2 => { unit := 1, xunit := 1, pts := celsius tcTPoints }
  | 3 => { unit := 1, xunit := 1, pts := celsius tcNPoints }
  | 4 => { unit := 1, xunit := 4, pts := celsius pt100Points }
  | 5 => { unit := 1, xunit := 4, pts := celsius pt1000Points }
  | 6 => { unit := 1, xunit := 4, pts := celsius ntcPoints }
  | _ => { unit := 0, xunit := 0, pts := [(-2000000000, -2000000), (2000000000, 2000000)] }

/-- The ASCII name of built-in table `t`. -/
def builtinName (t : Nat) : List Byte :=
  match t with
  | 0 => [0x54, 0x43, 0x5F, 0x4A]
  | 1 => [0x54, 0x43, 0x5F, 0x4B]
  | 2 => [0x54, 0x43, 0x5F, 0x54]
  | 3 => [0x54, 0x43, 0x5F, 0x4E]
  | 4 => [0x50, 0x54, 0x31, 0x30, 0x30]
  | 5 => [0x50, 0x54, 0x31, 0x30, 0x30, 0x30]
  | 6 => [0x4E, 0x54, 0x43]
  | _ => [0x4C, 0x49, 0x4E, 0x45, 0x41, 0x52]

/-- The image of built-in table `t`. -/
def builtinImage (t : Nat) : List Byte := tableImage (builtin t).unit (builtin t).xunit 1 1 (builtinName t) (builtin t).pts

/-! ### Interpolation (R301 to R303) -/

/-- VALUE at `x` between breakpoints, the whole value rounded. -/
def lerp (a b : Int × Int) (x : Int) : Int :=
  let d := b.1 - a.1
  roundDiv (a.2 * d + (x - a.1) * (b.2 - a.2)) d.toNat

/-- The search of R301 for `x` at or above the first breakpoint of the list: VALUE and LIN_CLAMP. -/
def interpFrom : List (Int × Int) → Int → Int × Bool
  | [], _ => (0, false)
  | [a], x => (a.2, decide (a.1 < x))
  | a :: b :: r, x => if x < b.1 then (lerp a b x, false) else interpFrom (b :: r) x

/-- VALUE and LIN_CLAMP of a table at `x`. -/
def interp (pts : List (Int × Int)) (x : Int) : Int × Bool :=
  match pts with
  | [] => (0, false)
  | a :: _ => if x < a.1 then (a.2, true) else interpFrom pts x

/-- The table's end value, in the positive direction or not (R303). -/
def tableEnd (pts : List (Int × Int)) (positive : Bool) : Int :=
  match (if positive then pts.getLast? else pts.head?) with
  | some p => p.2
  | none => 0

/-! ### Which table a channel uses -/

/-- The built-in table of a TYPE (Table 7.3). -/
def builtinFor (typ : Nat) : Nat :=
  match typ with
  | 1 => 0
  | 2 => 1
  | 3 => 2
  | 4 => 3
  | 5 => 4
  | 6 => 5
  | 7 => 6
  | _ => 7

/-- The table that a channel names. -/
def ChCfg.tableNo (c : ChCfg) : Nat := if c.table == 0xFF then builtinFor c.typ else c.table

/-- User table `t` of a store of images. -/
def userImage (v : Vector (List Byte) 24) (t : Nat) : List Byte :=
  match idx? 24 (t - 8) with
  | some i => v[i]
  | none => []

/-- Table `t` over a store of user images; none where it is empty. -/
def tableIn (v : Vector (List Byte) 24) (t : Nat) : Option Table :=
  if t < 8 then some (builtin t)
  else if (userImage v t).isEmpty then none
  else some (Table.ofImage (userImage v t))

/-- UNIT of the stored table that a channel's configuration names (R304). -/
def State.unitOf (s : State) (c : ChCfg) : Option Nat :=
  if c.typ == 0 || c.typ == 0x0C then none else (tableIn s.tab.stored c.tableNo).map fun t => t.unit

/-- XUNIT of a TYPE's table input (Table 6.1). -/
def xunitOf (typ : Nat) : Nat :=
  match typ with
  | 1 | 2 | 3 | 4 | 0x0B => 1
  | 8 => 2
  | 9 => 3
  | 5 | 6 | 7 | 0x0C => 4
  | 0x0A => 5
  | _ => 0

/-- Table 7 may serve the TYPE (R304). -/
def linearType (typ : Nat) : Bool := 8 ≤ typ && typ ≤ 0x0B

/-- R304: the channel's table exists and fits its TYPE. -/
def State.tableFits (s : State) (c : ChCfg) : Bool :=
  match tableIn s.tab.stored c.tableNo with
  | none => false
  | some t => c.typ == 0 || (c.tableNo == 7 && linearType c.typ) || t.xunit == xunitOf c.typ

/-- A channel's running configuration names table `t`. -/
def State.tableUsed (s : State) (t : Nat) : Bool := s.run.chan.toList.any fun c => c.table == t

/-- A safety-use channel names table `t`. -/
def State.tableSafety (s : State) (t : Nat) : Bool := s.run.chan.toList.any fun c => c.safety && c.table == t

/-! ### Versions in effect (R312) -/

/-- The first 10 ms boundary later than chain time `t` µs. -/
def nextTenMs (t : Nat) : Nat := (t / 10000 + 1) * 10000

/-- Changes that are due at chain time `t` µs take effect and are counted in TBLGEN. -/
def Tables.settle (x : Tables) (t : Nat) : Tables :=
  (List.finRange 24).foldl (fun x i => match x.due[i] with
    | some d => if d ≤ t then { x with eff := x.eff.set i x.stored[i], due := x.due.set i none, gen := (x.gen + 1) % 2 ^ 32 } else x
    | none => x) x

/-- User table `t` stored, in effect from the next 10 ms boundary; a change that was due before it has taken effect. -/
def State.storeTable (s : State) (t : Fin 24) (img : List Byte) : State :=
  s.mTab fun x => let x := x.settle s.ctUs
    { x with stored := x.stored.set t img, due := x.due.set t (some (nextTenMs s.ctUs)) }

/-- Chain time has been set to `t` µs: changes not yet in effect wait for the next boundary of the new time (R312). -/
def Tables.restart (x : Tables) (t : Nat) : Tables :=
  { x with due := x.due.map fun d => d.map fun _ => nextTenMs t }

/-! ### Opcodes (Table 7.4) -/

/-- TABLE_READ (R309). -/
def tableRead (t : Nat) : Op :=
  Op.readTagged 0x23 fun _ s =>
    if t > 31 then .bad .badParam s
    else if t < 8 then .ok (leBytes 1 t ++ builtinImage t) s
    else if (userImage s.tab.stored t).isEmpty then .bad .badState s
    else .ok (leBytes 1 t ++ userImage s.tab.stored t) s

/-- UNIT codes of Table 7.2 that are not reserved. -/
def unitOk (u : Nat) : Bool := u ≤ 0x0A || (0x80 ≤ u && u ≤ 0xFE)

/-- Step 2 of R310. -/
def tableOk (t : Nat) (b : List Byte) : Bool :=
  inR 8 t 31 && fieldAt b 0 1 == 1 && inR 2 (fieldAt b 1 1) 33 && fieldAt b 4 1 == 0 && fieldAt b 5 1 == 0 && inR 1 (fieldAt b 3 1) 5 &&
    unitOk (fieldAt b 2 1) && risesX (Table.ofImage b).pts && crc32 (b.take (b.length - 4)) == fieldAt b (b.length - 4) 4

/-- TABLE_WRITE (R310). -/
def tableWrite (t : Nat) (img : List Byte) : Op :=
  Op.orderLen 0x24 (.table t) (img.length == 20 + 8 * fieldAt img 1 1) fun _ s =>
    if !tableOk t img then .bad .badParam s
    else if s.tableUsed t && (Table.ofImage (userImage s.tab.stored t)).xunit != fieldAt img 3 1 then .bad .badState s
    else if s.permitOn && s.tableSafety t then .bad .heatActive s
    else match idx? 24 (t - 8) with
      | none => .bad .badParam s
      | some i => .ok (leBytes 1 t ++ leBytes 2 (fieldAt img 6 2) ++ leBytes 4 (fieldAt img (img.length - 4) 4)) (s.storeTable i img)

/-- TABLE_ERASE (R311). Erasing an empty table changes nothing. -/
def tableErase (t : Nat) : Op :=
  Op.order 0x25 (.table t) fun _ s =>
    match (if inR 8 t 31 then idx? 24 (t - 8) else none) with
    | none => .bad .badParam s
    | some i =>
      if s.tableUsed t then .bad .badState s
      else .ok (leBytes 1 t) (if (s.tab.stored[i]).isEmpty then s else s.storeTable i [])

/-! ### The commands -/

/-- TABLE_READ. -/
def execTableRead (q : Req) (table : Byte) (s : State) : Host.Outcome State Fault Refusal := .next ((tableRead table.toNat).serve q s)

/-- TABLE_WRITE. -/
def execTableWrite (q : Req) (table : Byte) (image : List Byte) (s : State) : Host.Outcome State Fault Refusal :=
  .next ((tableWrite table.toNat image).serve q s)

/-- TABLE_ERASE. -/
def execTableErase (q : Req) (table : Byte) (s : State) : Host.Outcome State Fault Refusal := .next ((tableErase table.toNat).serve q s)

end Sys2Proof.Machine
end

