-- ==== Sys2Proof/Machine/Channels.lean ====
section
/-! DEFINITION. Measurement channels as configured and as read: the images of CH_CONFIG and SCAN_CONFIG, scan timing (R262 to R267), the
records that stand at an instant (R270, R285 to R287, R843). -/

namespace Sys2Proof.Machine

/-! ### Images (Table 6.9) -/

/-- The 12-byte CH_CONFIG payload of channel `n`. -/
def ChCfg.toBytes (n : Nat) (c : ChCfg) : List Byte :=
  leBytes 1 n ++ leBytes 1 c.typ ++ leBytes 1 c.wires ++ leBytes 1 (pack [(3, c.gain), (1, bit c.attOut)]) ++ leBytes 1 c.conv ++
    leBytes 1 c.burn ++ leBytes 1 c.iexc ++ leBytes 1 c.settle ++ leBytes 1 c.cjMode ++ leBytes 1 c.cjCh ++ leBytes 1 c.table ++
    leBytes 1 (bit c.safety)

/-- The fields of a CH_CONFIG payload. -/
def ChCfg.ofBytes (b : List Byte) : ChCfg :=
  let g := fieldAt b 3 1
  { typ := fieldAt b 1 1, wires := fieldAt b 2 1, gain := bitsOf g 0 3, attOut := bitOf g 3, conv := fieldAt b 4 1,
    burn := fieldAt b 5 1, iexc := fieldAt b 6 1, settle := fieldAt b 7 1, cjMode := fieldAt b 8 1, cjCh := fieldAt b 9 1,
    table := fieldAt b 10 1, safety := bitOf (fieldAt b 11 1) 0 }

/-- The 3-byte SCAN_CONFIG payload of group `g`. -/
def ScanCfg.toBytes (g : Nat) (c : ScanCfg) : List Byte := leBytes 1 g ++ leBytes 1 c.mode ++ leBytes 1 c.period

/-- TYPE TC_J, TC_K, TC_T or TC_N. -/
def isTc (typ : Nat) : Bool := inR 1 typ 4

/-- TYPE PT100 or PT1000. -/
def isRtd (typ : Nat) : Bool := typ == 5 || typ == 6

/-- TYPE PT100, PT1000 or NTC. -/
def isOhm (typ : Nat) : Bool := inR 5 typ 7

/-- A 3- or 4-wire RTD: the primary of a pair (R246). -/
def ChCfg.primary (c : ChCfg) : Bool := isRtd c.typ && c.wires != 0

/-- The ÷5 attenuator is in (Table 6.1). -/
def ChCfg.attIn (c : ChCfg) : Bool := c.typ == 8 && !c.attOut

/-- The GAIN byte of Table 6.7. -/
def ChCfg.gainByte (c : ChCfg) : Nat := pack [(3, c.gain), (1, bit c.attIn)]

/-- The partner's configuration as the node sets it for primary `c` (R248): it converts as its primary does (log entry 21). -/
def ChCfg.partnerOf (c : ChCfg) : ChCfg :=
  { typ := 0x0C, gain := c.gain, conv := c.conv, iexc := c.iexc, settle := c.settle }

/-! ### Timing (R262 to R266) -/

/-- The conversion time of CONV in µs (Table 6.5). -/
def convUs (conv : Nat) : Nat :=
  match conv with
  | 0 => 500
  | 1 => 1000
  | 2 => 2000
  | 3 => 5000
  | 4 => 20000
  | _ => 100000

/-- PERIOD in µs. -/
def periodUs (code : Nat) : Nat :=
  match code with
  | 0 => 10000
  | 1 => 20000
  | 2 => 50000
  | 3 => 100000
  | 4 => 200000
  | 5 => 500000
  | _ => 1000000

/-- A channel's slot without extension, in µs (Table 6.6). -/
def ChCfg.slotUs (c : ChCfg) : Nat := 30 + 10 * c.settle + convUs c.conv

/-- The channels of group `g`, ascending. -/
def groupChans (g : Fin 4) : List (Fin 64) := (List.finRange 64).filter fun n => n.val / 16 == g.val

/-- The group of channel `n`. -/
def groupOf (n : Fin 64) : Fin 4 := ⟨n.val / 16, by omega⟩

/-- The configurations of group `g` whose TYPE is not OFF. -/
def liveCfgs (v : Vector ChCfg 64) (g : Fin 4) : List ChCfg := ((groupChans g).map fun n => v[n]).filter fun c => c.typ != 0

/-- T_scan in µs (R264). -/
def tScan (v : Vector ChCfg 64) (g : Fin 4) : Nat := 530 + ((liveCfgs v g).map ChCfg.slotUs).sum

/-- Slots of a scan, the check slot included. -/
def scanSlots (v : Vector ChCfg 64) (g : Fin 4) : Nat := 1 + (liveCfgs v g).length

/-- T_scan_max in µs (R264). -/
def tScanMax (v : Vector ChCfg 64) (g : Fin 4) : Nat := tScan v g + 250 * scanSlots v g

/-- T_eff in µs (R269). -/
def tEff (v : Vector ChCfg 64) (c : ScanCfg) (g : Fin 4) : Nat := if c.mode == 1 then periodUs c.period else tScanMax v g

/-- R266 and the last two conditions of R282 for group `g`. -/
def timingOk (v : Vector ChCfg 64) (c : ScanCfg) (g : Fin 4) : Bool :=
  !(c.mode == 1 && periodUs c.period < tScan v g) &&
    (liveCfgs v g).all fun x =>
      !x.safety || (1000 + 3 * tEff v c g ≤ 100000 && !(c.mode == 1 && periodUs c.period < tScanMax v g))

/-! ### Records -/

/-- The configurations in effect. -/
def FrontEnd.cfgs (x : FrontEnd) : Vector ChCfg 64 := x.ch.map fun c => c.cfg

/-- The channel's domains have not failed (R61, Table 2.14). -/
def State.chAlive (s : State) (n : Fin 64) : Bool := !s.domDead (n.val / 8) && !s.domDead (8 + n.val / 16)

/-- The record of a channel that has not completed a conversion under its configuration (R843). -/
def Chan.blank (c : Chan) : ChRec :=
  { gain := c.cfg.gainByte, stale := true, safety := c.cfg.safety, cseq := c.cseq }

/-- T_eff of channel `n`'s group as it scans, in µs. -/
def State.tEffOf (s : State) (n : Fin 64) : Nat := tEff s.fe.cfgs (s.fe.grp[groupOf n]).cfg (groupOf n)

/-- The record of channel `n` that stands at chain time `t` µs: of its newest conversion that ended before `t`, with STALE under R270
(R287, R313, R325, R843). -/
def State.recAt (s : State) (n : Fin 64) (t : Int) : ChRec :=
  let c := s.fe.ch[n]
  if c.cfg.typ == 0 then {}
  else match c.past.find? (fun x => x.1 < t) with
    | none => c.blank
    | some x => { x.2 with stale := x.2.stale || !s.chAlive n || decide (x.1 + 2 * s.tEffOf n + 10000 < t) }

/-- The record of channel `n` now. -/
def State.recNow (s : State) (n : Fin 64) : ChRec := s.recAt n (s.ctUs + 1)

/-- The FLAGS field of Table 6.8. -/
def ChRec.flags (r : ChRec) : Nat :=
  pack [(1, bit r.ovrHi), (1, bit r.ovrLo), (1, bit r.burnout), (1, bit r.linClamp), (1, bit r.settleExt), (1, bit r.stale),
        (1, bit r.cjFault), (1, bit r.safety), (1, bit r.injected)]

/-- The 16 bytes of Table 6.7. -/
def ChRec.toBytes (r : ChRec) : List Byte :=
  leInt 4 r.value ++ leInt 3 r.raw ++ leBytes 1 r.gain ++ leBytes 2 r.flags ++ leBytes 2 r.cseq ++ leBytes 4 (r.stamp % 2 ^ 32)

/-- A record that R284 makes invalid. -/
def ChRec.bad (r : ChRec) : Bool := r.ovrHi || r.ovrLo || r.burnout || r.stale || r.cjFault

end Sys2Proof.Machine
end

