-- ==== Sys2Proof/Machine/Loops.lean ====
section
/-! DEFINITION. The loop outputs of chapter 7: MAP targets, fault levels, ramps, holds at CLOSE_UA, diagnostics and opcodes. -/

namespace Sys2Proof.Machine

/-! ### Configuration (Table 7.10) -/

/-- The 16-byte LOOP_CONFIG payload of output `n`. -/
def LoopCfg.toBytes (n : Nat) (c : LoopCfg) : List Byte :=
  leBytes 1 n ++ leBytes 1 c.mode ++ leBytes 1 c.src ++ leBytes 1 (pack [(1, bit c.faultDown), (1, bit c.heat), (1, bit c.clampFault)]) ++
    leInt 4 c.val4 ++ leInt 4 c.val20 ++ leBytes 2 c.closeUa ++ leBytes 2 c.ramp

/-- The fields of a LOOP_CONFIG payload. -/
def LoopCfg.ofBytes (b : List Byte) : LoopCfg :=
  let fl := fieldAt b 3 1
  { mode := fieldAt b 1 1, src := fieldAt b 2 1, faultDown := bitOf fl 0, heat := bitOf fl 1, clampFault := bitOf fl 2,
    val4 := sfieldAt b 4 4, val20 := sfieldAt b 8 4, closeUa := fieldAt b 12 2, ramp := fieldAt b 14 2 }

/-- R331 and R342. -/
def loopCfgOk (b : List Byte) : Bool :=
  let c := LoopCfg.ofBytes b
  fieldAt b 0 1 < 8 && c.mode ≤ 3 && c.src < 64 && fieldAt b 3 1 < 8 && !(c.mode == 1 && c.val4 == c.val20) &&
    c.closeUa ≤ 24000 && c.ramp ≤ 24000 && !(c.heat && (!c.faultDown || c.closeUa > 4000))

/-- The configuration in force of output `n`. -/
def State.loCfg (s : State) (n : Fin 8) : LoopCfg := s.run.loop[n]

/-! ### Levels (R324 to R329) -/

/-- The fault level (R327). -/
def LoopCfg.faultUa (c : LoopCfg) : Nat := if c.faultDown then 3600 else 21000

/-- The normal target of a MAP output (R324). The result is rounded to the nearest µA before the limits. -/
def LoopCfg.mapUa (c : LoopCfg) (v : Int) : Nat :=
  let d := c.val20 - c.val4
  let num := (v - c.val4) * 16000
  let i : Int := 4000 + (if d < 0 then roundDiv (-num) d.natAbs else roundDiv num d.natAbs)
  (clampI 3800 20500 i).toNat

/-- A record for which a MAP output goes to its fault level (R326). -/
def LoopCfg.recBad (c : LoopCfg) (r : ChRec) : Bool :=
  r.ovrHi || r.ovrLo || r.burnout || r.stale || r.cjFault || (r.linClamp && c.clampFault)

/-- The output is at 0 mA and unavailable: VS_POWER is lost (R339), thermal shutdown acts (R601), or its domain failed (R61). -/
def State.loLost (s : State) (n : Fin 8) : Bool := s.outputsOff || s.domDead (57 + n.val / 4)

/-- Held at CLOSE_UA since a permit removal, whatever the MODE (R333, R338). -/
def LoopOut.permitShut (o : LoopOut) : Bool := o.closed && o.permitHold

/-- STATE of output `n` (Table 7.10; log entries 13 and 141). -/
def State.loState (s : State) (n : Fin 8) : Nat :=
  let o := s.loop[n]
  if !s.pow.vpOk then 5
  else if !s.loLost n && o.permitShut then 4
  else if (s.loCfg n).mode == 0 then 0
  else if s.loLost n then 5
  else if o.closed || o.wantClose then 4
  else if o.atFault then 3
  else if o.now != o.final then 2
  else 1

/-- The output at its fault level at once; entering it sets FAULT_LVL (R327, R328, Table 7.9). -/
def LoopOut.fault (o : LoopOut) (c : LoopCfg) : LoopOut :=
  { o with now := c.faultUa, final := c.faultUa, atFault := true, faultLvl := o.faultLvl.raiseIf (!o.atFault) }

/-- The output takes target `ua` under its ramp; 0 mA is taken at once (R328). -/
def LoopOut.follow (o : LoopOut) (c : LoopCfg) (ua : Nat) : LoopOut :=
  { o with final := ua, now := if c.ramp == 0 || ua == 0 then ua else o.now, atFault := false }

/-- The output at CLOSE_UA at once (R328, R332 to R334). -/
def LoopOut.close (o : LoopOut) (c : LoopCfg) : LoopOut := { o with now := c.closeUa, final := c.closeUa, atFault := false }

/-- The output at 0 mA. -/
def LoopOut.zero (o : LoopOut) : LoopOut := { o with now := 0, final := 0, atFault := false }

/-- The output brought to what its state gives: 0 mA, CLOSE_UA, its fault level or its target (R325 to R339). -/
def State.loSettle (s : State) (n : Fin 8) : State :=
  let c := s.loCfg n
  s.mLo n fun o =>
    if s.loLost n then o.zero
    else if o.permitShut then o.close c
    else if c.mode == 0 then o.zero
    else if o.closed || o.wantClose then o.close c
    else match o.want with
      | some ua => o.follow c ua
      | none => o.fault c

/-- Every output settled. -/
def State.loopsSettle (s : State) : State := s.each (List.finRange 8) fun s n => s.loSettle n

/-- The target of a MAP output at boundary `t` µs; none: its fault level (R324 to R326). -/
def State.mapTarget (s : State) (c : LoopCfg) (t : Nat) : Option Nat :=
  match idx? 64 c.src with
  | none => none
  | some src =>
    let r := s.recAt src (t - 1000)
    if c.recBad r || (s.fe.ch[src]).cfg.typ == 0 then none else some (c.mapUa r.value)

/-- One millisecond of ramp (R328). -/
def LoopOut.rampMs (o : LoopOut) (ramp : Nat) : LoopOut :=
  if ramp == 0 then { o with now := o.final }
  else if o.now < o.final then { o with now := min o.final (o.now + ramp) }
  else { o with now := max o.final (o.now - ramp) }

/-- The process firmware's target for output `n`, in µA, or CLOSE_UA (R338, R527). -/
def State.loProcess (s : State) (n : Fin 8) (ua : Option Nat) : State :=
  if (s.loCfg n).mode == 3 then
    (s.mLo n fun o => match ua with
      | some x => { o with want := some x, wantClose := false }
      | none => { o with wantClose := true }).loSettle n
  else s

/-- HEAT outputs at a removal of the permit (R332, R333). -/
def State.heatClose (s : State) : State :=
  s.each (List.finRange 8) fun s n =>
    if (s.loCfg n).heat then (s.mLo n fun o => { o with closed := true, permitHold := true }).loSettle n else s

/-! ### Diagnostics (R336, Table 7.9) -/

/-- READ of output `n`; injections 0x0601 and 0x0603 force it (Table 16.2). -/
def State.loRead (s : State) (n : Fin 8) : Nat :=
  let o := s.loop[n]
  if s.injOn 0x0601 n.val then o.now - 1000
  else if s.injOn 0x0603 n.val then o.now + 500
  else o.read

/-- VTERM of output `n`, 10 mV; injection 0x0602 forces 0.10 V. -/
def State.loVterm (s : State) (n : Fin 8) : Nat := if s.injOn 0x0602 n.val then 10 else (s.loop[n]).vterm

/-- The terminal compliance in 10 mV (R329). -/
def State.compliance (s : State) : Nat := min 1800 (s.pow.vsPower - 600)

/-- The condition of OPEN. -/
def State.loOpenNow (s : State) (n : Fin 8) : Bool := 1000 ≤ (s.loop[n]).now && s.loRead n + 500 < (s.loop[n]).now

/-- The condition of SHORT. -/
def State.loShortNow (s : State) (n : Fin 8) : Bool := 3600 ≤ (s.loop[n]).now && s.loVterm n < 25

/-- The condition of DEV. -/
def State.loDevNow (s : State) (n : Fin 8) : Bool :=
  let t := (s.loop[n]).now
  let r := s.loRead n
  240 < (r - t) + (t - r) && 25 ≤ s.loVterm n && s.loVterm n + 100 ≤ s.compliance

/-- A spell as its condition stands now. -/
def Spell.see (x : Spell) (now : Nat) (holds : Bool) : Spell :=
  if holds then { x with since := some (x.since.getD now) } else {}

/-- The spells of every output as their conditions stand (R336). -/
def State.loopSpells (s : State) : State :=
  s.each (List.finRange 8) fun s n =>
    s.mLo n fun o => { o with sOpen := o.sOpen.see s.clk.upNs (s.loOpenNow n), sShort := o.sShort.see s.clk.upNs (s.loShortNow n),
                              sDev := o.sDev.see s.clk.upNs (s.loDevNow n) }

/-- One millisecond of every output's ramp, before the boundary's orders go live (R328). -/
def State.loopsRamp (s : State) : State :=
  s.each (List.finRange 8) fun s n => s.mLo n fun o => if s.loLost n then o else o.rampMs (s.loCfg n).ramp

/-- The targets of a control tick at chain time `t` µs: MAP outputs take theirs, and every output is settled (R325). -/
def State.loopsTick (s : State) (t : Nat) : State :=
  s.each (List.finRange 8) fun s n =>
    let c := s.loCfg n
    (if c.mode == 1 then s.mLo n fun o => { o with want := s.mapTarget c t } else s).loSettle n

/-! ### Opcodes -/

/-- LOOP_CONFIG (R342, R343, R345). -/
def State.setLoop (s : State) (n : Fin 8) (c : LoopCfg) : State :=
  let same := (s.loCfg n).mode == c.mode
  let s := s.mRun fun r => { r with loop := r.loop.set n c }
  (s.mLo n fun o =>
    let held := o.closed && c.heat && o.permitHold && !s.permitOn
    { o with closed := held, permitHold := held, want := if same then o.want else none,
             wantClose := same && o.wantClose }).loSettle n

/-- LOOP_CONFIG. -/
def loopConfig (img : List Byte) : Op :=
  { opc := 0x58, needle := true, prot := .tagged, lenOk := img.length == 16, targets := fun _ => [(.loop (fieldAt img 0 1), false)],
    run := fun _ _ s =>
      if !loopCfgOk img then .bad .badParam s
      else match idx? 8 (fieldAt img 0 1) with
        | none => .bad .badParam s
        | some n =>
          let c := LoopCfg.ofBytes img
          if s.permitOn && ((s.loCfg n).heat || c.heat) then .bad .heatActive s
          else .ok img (s.setLoop n c) }

/-- The reply of LOOP_SET: LO, STATE, TARGET. -/
def State.loReply (s : State) (n : Fin 8) : List Byte := leBytes 1 n.val ++ leBytes 1 (s.loState n) ++ leBytes 2 (s.loop[n]).final

/-- What LOOP_SET does to output `n` once it is allowed. -/
def State.loAct (s : State) (n : Fin 8) (action ua : Nat) : State :=
  match action with
  | 1 => (s.mLo n fun o => { o with want := some ua, closed := false, permitHold := false }).loSettle n
  | 2 =>
    let s := (s.mLo n fun o => { o with closed := true }).loSettle n
    let s := if s.progOn && s.progNamesLoop n.val then s.holdByHost else s
    s.stitchCancel fun x => x.kind == 0x20 && x.tgt == n.val
  | _ => (s.mLo n fun o => { o with closed := false, permitHold := false }).loSettle n

/-- CLOSE on a HEAT output is safe-direction (Table 4.6). -/
def State.loopSafe (s : State) (lo action : Nat) : Bool :=
  match idx? 8 lo with
  | some n => action == 2 && (s.loCfg n).heat
  | none => false

/-- LOOP_SET (R333 to R335, R344, R544, R601, R640). RESUME ends the hold of R333 on an output of the programme too, as R524 asks of the
holder (log entry 139). -/
def loopSet (lo action ua : Nat) : Op :=
  { opc := 0x59, needle := true, prot := .tagged, targets := fun s => [(.loop lo, s.loopSafe lo action)],
    run := fun _ _ s =>
      match idx? 8 lo with
      | none => .bad .badParam s
      | some n =>
        let c := s.loCfg n
        let off := c.heat && !s.permitOn
        if action == 0 || action > 3 || (action == 2 && !c.heat) || (action == 1 && ua > 24000) then .bad .badParam s
        else if action == 1 && (c.mode != 2 || off || s.therm.shut) then .bad .badState s
        else if action == 3 && (!(s.loop[n]).closed || off) then .bad .badState s
        else if s.loopOwned lo && action != 2 && !(action == 3 && (s.loop[n]).permitShut) then .bad .badState s
        else
          let s' := s.loAct n action ua
          .ok (s'.loReply n) s' }

/-- DIAG bits of an output. -/
def LoopOut.diag (o : LoopOut) : Nat := pack [(1, bit o.opn.set), (1, bit o.short.set), (1, bit o.dev.set), (1, bit o.faultLvl.set)]

/-- The status entry of Table 7.10. -/
def State.loEntry (s : State) (n : Fin 8) : List Byte :=
  leBytes 2 (s.loop[n]).final ++ leBytes 2 (satTo 0xFFFF (s.loRead n)) ++ leBytes 2 (satTo 0xFFFF (s.loVterm n)) ++
    leBytes 1 (s.loState n) ++ leBytes 1 (s.loop[n]).diag

/-- LOOP_STATUS (R341). -/
def loopStatus (lo count : Nat) : Op :=
  Op.read 0x5A fun _ s =>
    if !inR 1 count 8 || lo + count > 8 then .bad .badParam s
    else .ok ((span 8 lo count).flatMap fun n =>
      leBytes 1 n.val ++ leBytes 1 (s.loCfg n).mode ++ s.loEntry n) s

/-- LOOP.STATn, MEASn and CNTn (Tables 7.12 and 7.13), by word: 0, 1, 2. -/
def State.regLoop (s : State) (n : Fin 8) (k : Nat) : Nat :=
  let o := s.loop[n]
  match k with
  | 0 => pack [(3, s.loState n), (1, 0), (4, o.diag), (8, o.opn.cnt), (8, o.short.cnt), (8, o.dev.cnt)]
  | 1 => pack [(16, satTo 0xFFFF (s.loRead n)), (16, satTo 0xFFFF (s.loVterm n))]
  | _ => o.faultLvl.cnt

/-- ALARM bit [3] (R337). -/
def State.loopAlarm (s : State) : Bool := s.loop.toList.any fun o => o.diag != 0

/-! ### The commands -/

/-- LOOP_CONFIG. -/
def execLoopConfig (q : Req) (item : List Byte) (s : State) : Host.Outcome State Fault Refusal := .next ((loopConfig item).serve q s)

/-- LOOP_SET with ACTION SET. -/
def execLoopSetSet (q : Req) (lo : Byte) (current : Half) (s : State) : Host.Outcome State Fault Refusal :=
  .next ((loopSet lo.toNat 1 current.toNat).serve q s)

/-- LOOP_SET with ACTION CLOSE. -/
def execLoopSetClose (q : Req) (lo : Byte) (current : Half) (s : State) : Host.Outcome State Fault Refusal :=
  .next ((loopSet lo.toNat 2 current.toNat).serve q s)

/-- LOOP_SET with ACTION RESUME. -/
def execLoopSetResume (q : Req) (lo : Byte) (current : Half) (s : State) : Host.Outcome State Fault Refusal :=
  .next ((loopSet lo.toNat 3 current.toNat).serve q s)

/-- LOOP_STATUS. -/
def execLoopStatus (q : Req) (lo count : Byte) (s : State) : Host.Outcome State Fault Refusal :=
  .next ((loopStatus lo.toNat count.toNat).serve q s)

/-- The open-loop condition has held for 20 ms: OPEN is set once in this spell (R336). -/
def execLoopOpenDetect (dt : Nat) (lo : Fin 8) (s : State) : Host.Outcome State Fault Refusal :=
  let s := (s.advance dt).loopSpells
  .next <|
    if s.lasted (s.loop[lo]).sOpen.since (ms 20) && !(s.loop[lo]).sOpen.done then
      (s.mLo lo fun o => { o with opn := o.opn.raise, sOpen := { o.sOpen with done := true } }).detected 0x0601 lo.val 0xFF
    else s

/-- The short condition has held for 100 ms: SHORT is set once in this spell (R336). -/
def execLoopShortDetect (dt : Nat) (lo : Fin 8) (s : State) : Host.Outcome State Fault Refusal :=
  let s := (s.advance dt).loopSpells
  .next <|
    if s.lasted (s.loop[lo]).sShort.since (ms 100) && !(s.loop[lo]).sShort.done then
      (s.mLo lo fun o => { o with short := o.short.raise, sShort := { o.sShort with done := true } }).detected 0x0602 lo.val 0xFF
    else s

/-- The deviation has held for 100 ms: DEV is set once in this spell (R336). -/
def execLoopDevDetect (dt : Nat) (lo : Fin 8) (s : State) : Host.Outcome State Fault Refusal :=
  let s := (s.advance dt).loopSpells
  .next <|
    if s.lasted (s.loop[lo]).sDev.since (ms 100) && !(s.loop[lo]).sDev.done then
      (s.mLo lo fun o => { o with dev := o.dev.raise, sDev := { o.sDev with done := true } }).detected 0x0603 lo.val 0xFF
    else s

end Sys2Proof.Machine
end

