-- ==== Sys2Proof/Machine/Permit.lean ====
section
/-! DEFINITION. The heat permit: latches, removal and what a removal acts on (R16, R17, R332, R411, R637 to R644). -/

namespace Sys2Proof.Machine

/-- Bits of the latches (Table 15.11). -/
inductive Latch where
  | estop | thermostat | hlOver | hlDiag | wdog | hpDiag | siDiag | thermal | heatShort | flame | config | clock | smSelf | relDiag
  deriving DecidableEq, Repr

/-- The bit of a latch. -/
def Latch.bit : Latch → Fin 14
  | .estop => 0
  | .thermostat => 1
  | .hlOver => 2
  | .hlDiag => 3
  | .wdog => 4
  | .hpDiag => 5
  | .siDiag => 6
  | .thermal => 7
  | .heatShort => 8
  | .flame => 9
  | .config => 10
  | .clock => 11
  | .smSelf => 12
  | .relDiag => 13

/-- A latch is set. -/
def Safe.anyLatch (x : Safe) : Bool := x.latch.toList.any fun f => f.set

/-- The latches as a mask. -/
def Safe.latches (x : Safe) : Nat := maskOf 14 fun i => if h : i < 14 then (x.latch[(⟨i, h⟩ : Fin 14)]).set else false

/-- A latch is set and counted when it was clear (log entry 14); the permit, unless on, is then LOCKED (R637, R638). -/
def State.setLatch (s : State) (k : Latch) (reason : Nat) (inj : Bool) : State :=
  if (s.safe.latch[k.bit]).set then s
  else
    let s := s.mSafe fun x =>
      { x with latch := vmod x.latch k.bit Flag.raise, permit := if x.permit == .on then .on else .locked,
               p7Since := x.p7Since && k != .relDiag }
    s.logSm 3 inj (leBytes 1 reason ++ leBytes 1 k.bit.val)

/-- SM's part of a removal (R637): outputs off, reason, time, count, log entry. -/
def State.permitOff (s : State) (reason : Nat) (latch : Option Latch) (inj : Bool) : State :=
  let s := s.mCnt fun c => { c with heatUs := c.heatUs + s.since s.safe.grantUp / 1000 }
  let s := s.mSafe fun x =>
    { x with permit := if x.anyLatch then .locked else .off, lastReason := reason, lastT := s.ctUs, removeCnt := inc16 x.removeCnt,
             aCmd := false, bCmd := false, hpOpen := false, removedUp := some s.clk.upNs, offBad := 0, offGood := 0 }
  s.logSm 2 inj (leBytes 1 reason ++ leBytes 1 (match latch with
    | some k => k.bit.val
    | none => 0xFF))

/-- A permit that is on goes: SM's part, the heat actuators, the programme's notice of it, a missing acknowledgement (R17, R411, R523,
R644). -/
def State.permitGone (s : State) (reason : Nat) (latch : Option Latch) (inj : Bool) : State :=
  let s := (((s.permitOff reason latch inj).heatRelease).heatClose).mProg fun p => { p with lostPermit := some (reason == 0x0D) }
  if s.safe.relBad then s.setLatch .relDiag reason false else s

/-- The latch of a removal, where it has one. -/
def State.latchOf (s : State) (latch : Option Latch) (reason : Nat) (inj : Bool) : State :=
  match latch with
  | some k => s.setLatch k reason inj
  | none => s

/-- SM removes the permit for `reason` of Table 15.7 and sets its latch. The heat actuators are released through the hardware line (R17,
R332, R411); a missing acknowledgement sets REL_DIAG (R644); the programme learns of it at its next tick (R523, R576). An armed permit
goes back to OFF at PERMIT_DROP (log entry 15). -/
def State.removePermit (s : State) (reason : Nat) (latch : Option Latch) (inj : Bool) : State :=
  let s := s.latchOf latch reason inj
  match s.safe.permit with
  | .on => s.permitGone reason latch inj
  | .armed => if reason == 1 then s.mSafe fun x => { x with permit := .off } else s
  | _ => s

/-- A detector of Table 15.9 finds a failure: its latch is set, the permit removed with reason 0x0A, the injection that drove it
recorded (R643, R671). -/
def State.safetyFinding (s : State) (k : Latch) (id tgt : Nat) : State :=
  (s.removePermit 0x0A (some k) (s.injOn id tgt)).detected id tgt k.bit.val

/-- PSTATE codes. -/
def Permit.code : Permit → Nat
  | .off => 0
  | .armed => 1
  | .on => 2
  | .locked => 3

end Sys2Proof.Machine
end

