-- ==== Sys2Proof/Machine/Conveyor.lean ====
section
/-! DEFINITION. The conveyor line of chapter 12: its configuration, the sequencer, stage faults, and the filtered digital inputs. -/

namespace Sys2Proof.Machine

/-! ### Configuration (Table 12.5) -/

/-- The 12 bytes of a stage's configuration. -/
def StageCfg.toBytes (k : Nat) (c : StageCfg) : List Byte :=
  leBytes 1 1 ++ leBytes 1 k ++ leBytes 1 (bit c.en) ++ leBytes 1 c.out ++ leBytes 1 c.proveDi ++ leBytes 1 c.proveMin ++
    leBytes 1 c.plugDi ++ leBytes 1 (pack [(1, bit c.proveLow), (1, bit c.plugLow)]) ++ leBytes 1 c.tStart ++ leBytes 1 c.tProve ++
    leBytes 2 c.tClear

/-- The fields of a stage's configuration. -/
def StageCfg.ofBytes (b : List Byte) : StageCfg :=
  let p := fieldAt b 7 1
  { en := fieldAt b 2 1 == 1, out := fieldAt b 3 1, proveDi := fieldAt b 4 1, proveMin := fieldAt b 5 1, plugDi := fieldAt b 6 1,
    proveLow := bitOf p 0, plugLow := bitOf p 1, tStart := fieldAt b 8 1, tProve := fieldAt b 9 1, tClear := fieldAt b 10 2 }

/-- A digital input or none. -/
def diOk (n : Nat) : Bool := n < 16 || n == 0xFF

/-- A stage's configuration keeps Table 12.5. -/
def stageOk (b : List Byte) : Bool :=
  let c := StageCfg.ofBytes b
  fieldAt b 1 1 < 8 && fieldAt b 2 1 ≤ 1 && c.out < 32 && diOk c.proveDi && c.proveMin ≤ 250 && diOk c.plugDi && fieldAt b 7 1 < 4 &&
    1 ≤ c.tStart && inR 1 c.tProve 60 && c.tClear ≤ 600

/-- The 7 bytes of the line's configuration. -/
def LineCfg.toBytes (c : LineCfg) : List Byte :=
  leBytes 1 2 ++ c.lvlDi.toList.flatMap (leBytes 1) ++ leBytes 1 c.lvlPol ++ leBytes 1 (bit c.contLichen)

/-- The fields of the line's configuration. -/
def LineCfg.ofBytes (b : List Byte) : LineCfg :=
  { lvlDi := Vector.ofFn fun i : Fin 4 => fieldAt b (1 + i.val) 1, lvlPol := fieldAt b 5 1, contLichen := bitOf (fieldAt b 6 1) 0 }

/-- The line's configuration keeps its ranges. -/
def lineOk (b : List Byte) : Bool := (List.range 4).all (fun i => diOk (fieldAt b (1 + i) 1)) && fieldAt b 5 1 < 16 && fieldAt b 6 1 < 2

/-! ### Motion -/

/-- Input `n` is active, `low` telling its polarity; no input is never active. -/
def State.diActive (s : State) (n : Nat) (low : Bool) : Bool := n < 16 && (s.dio.di.getLsbD n != low)

/-- Stage `k` shows motion: by its level, by its edges, or, with no proving input, while it runs (log entry 39). -/
def State.moving (s : State) (k : Fin 8) : Bool :=
  let c := s.run.stage[k]
  if c.proveDi == 0xFF then true
  else if c.proveMin == 0 then s.diActive c.proveDi c.proveLow
  else match (s.conv.stage[k]).edgeUp with
    | some u => decide (s.since u * c.proveMin ≤ sec 60)
    | none => false

/-- Stage `k` changed by `f`. -/
def State.mStage (s : State) (k : Fin 8) (f : ConvStage → ConvStage) : State := s.mConv fun c => { c with stage := vmod c.stage k f }

/-- The stages that run. -/
def Conveyor.running (c : Conveyor) : List (Fin 8) := (List.finRange 8).filter fun k => (c.stage[k]).running

/-- RUNMASK. -/
def Conveyor.runMask (c : Conveyor) : Nat := maskOf 8 fun i => if h : i < 8 then (c.stage[(⟨i, h⟩ : Fin 8)]).running else false

/-- FAULTMASK. -/
def Conveyor.faultMask (c : Conveyor) : Nat := maskOf 8 fun i => if h : i < 8 then (c.stage[(⟨i, h⟩ : Fin 8)]).fault.isSome else false

/-- LSTATE codes. -/
def LState.code : LState → Nat
  | .idle => 0
  | .starting => 1
  | .running => 2
  | .stopping => 3
  | .faultStop => 4

/-- The enabled stages at and below stage `g`, upstream first. -/
def State.enabledFrom (s : State) (g : Nat) : List (Fin 8) := (List.finRange 8).filter fun k => g ≤ k.val && (s.run.stage[k]).en

/-- The nearest enabled stage upstream of `k`. -/
def State.above (s : State) (k : Fin 8) : Option (Fin 8) := ((List.finRange 8).filter fun j => j < k && (s.run.stage[j]).en).getLast?

/-- The nearest enabled stage downstream of `k`. -/
def State.below (s : State) (k : Fin 8) : Option (Fin 8) := ((List.finRange 8).filter fun j => k < j && (s.run.stage[j]).en).head?

/-- Stage `k` starts: ON at its driver, where the driver takes it. -/
def State.startStage (s : State) (k : Fin 8) : State :=
  let s := s.mStage k fun x => { x with running := true, startUp := s.clk.upNs, moved := false, stillUp := none }
  match idx? 32 (s.run.stage[k]).out with
  | some n => if s.drvRefuses n 1 then s else s.energise n .on
  | none => s

/-- Stage `k` stops: RELEASE at its driver. -/
def State.stopStage (s : State) (k : Fin 8) : State :=
  if (s.conv.stage[k]).running then
    let s := s.mStage k fun x => { x with running := false, stopUp := s.clk.upNs }
    match idx? 32 (s.run.stage[k]).out with
    | some n => s.release n false
    | none => s
  else s

/-- LSTATE as the stages stand: a start is complete when every stage down from the goal runs, a stop when none runs. -/
def State.lineSettle (s : State) : State :=
  match s.conv.lstate with
  | .starting =>
    if (s.enabledFrom s.conv.goal).all (fun k => (s.conv.stage[k]).running) then s.mConv fun c => { c with lstate := .running } else s
  | .stopping => if s.conv.running.isEmpty then s.mConv fun c => { c with lstate := .idle } else s
  | _ => s

/-- The line starts, or is extended, up to stage `k`: the most downstream enabled stage starts at once on a line at rest (R537). -/
def State.lineStart (s : State) (k : Nat) : State :=
  let goal := match s.conv.running.head? with
    | some top => min (if s.conv.lstate == .stopping then top.val else min top.val s.conv.goal) k
    | none => k
  match (s.enabledFrom goal).getLast? with
  | none => s
  | some j =>
    let s := s.mConv fun c => { c with goal := goal, lstate := .starting }
    (if (s.conv.stage[j]).running then s else s.startStage j).lineSettle

/-- An upstream-first stop: the first running stage stops at once (R538). -/
def State.lineStop (s : State) : State :=
  match s.conv.lstate with
  | .starting | .running =>
    let s := s.mConv fun c => { c with lstate := .stopping }
    (match s.conv.running.head? with
      | some k => s.stopStage k
      | none => s).lineSettle
  | _ => s

/-- Every stage stops at once. -/
def State.lineStopNow (s : State) : State :=
  let s := s.each (List.finRange 8) fun s k => s.stopStage k
  if s.conv.lstate == .faultStop then s else s.mConv fun c => { c with lstate := .idle }

/-- A stage fault at `k` (R539, R540). The stages downstream clear after it, T_CLEAR each (log entry 40). -/
def State.stageFault (s : State) (k : Fin 8) (f : StageFault) : State :=
  let was := s.conv.running.any fun j => j ≤ k
  let s := s.mStage k fun x => { x with fault := some f }
  let s := s.mConv fun c => { c with lstate := .faultStop, faultEvt := c.faultEvt.raise }
  let s := s.each ((List.finRange 8).filter fun j => j ≤ k) fun s j => s.stopStage j
  if was then s
  else match s.conv.running.head? with
    | some j => s.stopStage j
    | none => s

/-! ### The sequencer at a control tick -/

/-- What stage `k` shows at a control tick: motion, plug, drive (R537, R539). -/
def State.stageTick (s : State) (k : Fin 8) : State :=
  let c := s.run.stage[k]
  let now := s.clk.upNs
  let mv := s.moving k
  let flt := match idx? 32 c.out with
    | some n => c.en && (s.drv.ch[n]).phase == .fault
    | none => false
  let entered := flt && !(s.conv.stage[k]).drvFault
  let s := s.mStage k fun x =>
    if !x.running then { x with drvFault := flt }
    else { x with drvFault := flt, moved := x.moved || mv, movedUp := if mv && !x.moved then now else x.movedUp,
                  stillUp := if mv then none else some (x.stillUp.getD now) }
  if (s.conv.stage[k]).fault.isSome || !c.en then s
  else if s.diActive c.plugDi c.plugLow then s.stageFault k .plug
  else if entered then s.stageFault k .drive
  else s

/-- A level input is active (R541). -/
def State.levelHigh (s : State) : Bool :=
  (List.finRange 4).any fun i => s.diActive s.run.line.lvlDi[i] (bitOf s.run.line.lvlPol i.val)

/-- The sequencer at a control tick. -/
def State.convTick (s : State) : State :=
  let s := s.each (List.finRange 8) fun s k => s.stageTick k
  (if s.levelHigh then s.lineStop else s).lineSettle

/-! ### Opcodes (Table 12.9) -/

/-- The reply of CONV_CMD. -/
def State.convReply (s : State) : List Byte := leBytes 1 s.conv.lstate.code ++ leBytes 1 s.conv.runMask ++ leBytes 1 s.conv.faultMask

/-- CONV_CMD (R537, R538, R541, R542). -/
def convCmd (action arg : Nat) : Op :=
  { opc := 0x65, needle := true, prot := .tagged, targets := fun _ => [(.line, action == 2)],
    run := fun _ _ s =>
      let ok := fun (s : State) => Res.ok s.convReply s
      if !inR 1 action 4 || (if action == 1 then 8 ≤ arg else arg != 0) then .bad .badParam s
      else match action with
        | 1 => if s.conv.faultMask != 0 || s.levelHigh || s.conv.lstate == .faultStop then .bad .badState s else ok (s.lineStart arg)
        | 2 => ok s.lineStop
        | 3 => ok s.lineStopNow
        | _ =>
          if s.conv.running.isEmpty && (s.conv.lstate == .idle || s.conv.lstate == .faultStop) then
            ok (s.mConv fun c => { c with lstate := .idle, stage := c.stage.map fun x => { x with fault := none } })
          else .bad .badState s }

/-- An output of a stage has another user: the programme, another stage or a stitch entry (R543). -/
def State.stageConflict (s : State) (k : Fin 8) (out : Nat) : Bool :=
  (s.progOn && s.progNamesDrv out) || s.stitchOwnsDrv out ||
    (List.finRange 8).any fun j => j != k && (s.run.stage[j]).en && (s.run.stage[j]).out == out

/-- CONV_CONFIG (R542, R543). -/
def convConfig (b : List Byte) : Op :=
  Op.orderLen 0x66 .line (b.length == (if fieldAt b 0 1 == 2 then 7 else 12)) fun _ s =>
    if fieldAt b 0 1 == 1 then
      match (if stageOk b then idx? 8 (fieldAt b 1 1) else none) with
      | none => .bad .badParam s
      | some k =>
        let c := StageCfg.ofBytes b
        if s.conv.lstate != .idle || (c.en && s.stageConflict k c.out) then .bad .badState s
        else .ok b ((s.mRun fun r => { r with stage := r.stage.set k c }).mStage k fun x => { x with edgeUp := none, drvFault := false })
    else if fieldAt b 0 1 == 2 then
      if !lineOk b then .bad .badParam s
      else if s.conv.lstate != .idle then .bad .badState s
      else .ok b (s.mRun fun r => { r with line := LineCfg.ofBytes b })
    else .bad .badParam s

/-- SYS.CONV_STAT (Table 12.12). -/
def State.regConvStat (s : State) : Nat :=
  let c := s.conv
  pack [(3, c.lstate.code), (1, 0), (1, bit c.faultEvt.set), (3, 0), (8, c.runMask), (8, c.faultMask), (8, c.faultEvt.cnt)]

/-! ### The commands -/

/-- CONV_CMD START. -/
def execConvCmdStart (q : Req) (arg : Byte) (s : State) : Host.Outcome State Fault Refusal := .next ((convCmd 1 arg.toNat).serve q s)

/-- CONV_CMD STOP_UPSTREAM. -/
def execConvCmdStopUpstream (q : Req) (arg : Byte) (s : State) : Host.Outcome State Fault Refusal := .next ((convCmd 2 arg.toNat).serve q s)

/-- CONV_CMD STOP_NOW. -/
def execConvCmdStopNow (q : Req) (arg : Byte) (s : State) : Host.Outcome State Fault Refusal := .next ((convCmd 3 arg.toNat).serve q s)

/-- CONV_CMD RESET. -/
def execConvCmdReset (q : Req) (arg : Byte) (s : State) : Host.Outcome State Fault Refusal := .next ((convCmd 4 arg.toNat).serve q s)

/-- CONV_CONFIG KIND 0x01. -/
def execConvConfigStage (q : Req) (item : List Byte) (s : State) : Host.Outcome State Fault Refusal := .next ((convConfig item).serve q s)

/-- CONV_CONFIG KIND 0x02. -/
def execConvConfigLine (q : Req) (item : List Byte) (s : State) : Host.Outcome State Fault Refusal := .next ((convConfig item).serve q s)

/-- T_START has run since the stage below showed motion: the next stage starts (R537; log entry 41). -/
def execStageStartDelay (dt : Nat) (k : Fin 8) (s : State) : Host.Outcome State Fault Refusal :=
  let s := s.advance dt
  let c := s.run.stage[k]
  let ready := match s.below k with
    | some j => (s.conv.stage[j]).running && (s.conv.stage[j]).moved && decide (ms (100 * c.tStart) ≤ s.since (s.conv.stage[j]).movedUp)
    | none => false
  .next <|
    if s.conv.lstate == .starting && c.en && s.conv.goal ≤ k.val && !(s.conv.stage[k]).running && ready then (s.startStage k).lineSettle
    else s

/-- T_CLEAR has run since the stage above stopped: the next stage stops (R538). -/
def execStageClearDelay (dt : Nat) (k : Fin 8) (s : State) : Host.Outcome State Fault Refusal :=
  let s := s.advance dt
  let clear := match s.above k with
    | some j => !(s.conv.stage[j]).running && decide (sec (s.run.stage[k]).tClear ≤ s.since (s.conv.stage[j]).stopUp)
    | none => false
  .next <|
    if (s.conv.lstate == .stopping || s.conv.lstate == .faultStop) && (s.conv.stage[k]).running && clear then (s.stopStage k).lineSettle
    else s

/-- T_PROVE has run without motion: a MOTION fault (R539). -/
def execStageProveTimeout (dt : Nat) (k : Fin 8) (s : State) : Host.Outcome State Fault Refusal :=
  let s := s.advance dt
  let x := s.conv.stage[k]
  let t := sec (s.run.stage[k]).tProve
  .next <|
    if x.running && x.fault.isNone && (if x.moved then s.lasted x.stillUp t else decide (t ≤ s.since x.startUp)) then s.stageFault k .motion
    else s

/-- A digital input has held a new level for `ns`; from 3 ms on it reads so (R622). An active edge counts for the stages that it proves. -/
def execDiFilterChange (dt : Nat) (di : Fin 16) (level : Bool) (ns : Nat) (s : State) : Host.Outcome State Fault Refusal :=
  let s := s.advance dt
  .next <|
    if s.dio.di.getLsbD di.val == level || ns < ms 3 || !s.awake then s
    else
      let s := s.mDio fun d => { d with di := if level then d.di ||| BitVec.ofNat 16 (2 ^ di.val) else d.di &&& ~~~ BitVec.ofNat 16 (2 ^ di.val) }
      s.each (List.finRange 8) fun s k =>
        let c := s.run.stage[k]
        if c.en && c.proveDi == di.val && s.diActive di.val c.proveLow then s.mStage k fun x => { x with edgeUp := some s.clk.upNs } else s

end Sys2Proof.Machine
end

