-- ==== Sys2Proof/Machine/Fans.lean ====
section
/-! DEFINITION. The fans of chapter 11: targets, ramps, speed, stall and retry, electrical faults, groups and failover, opcodes. -/

namespace Sys2Proof.Machine

/-! ### Images (Tables 11.3 and 11.7) -/

/-- The 32-byte image of channel `n`. -/
def FanCfg.toBytes (n : Nat) (c : FanCfg) : List Byte :=
  leBytes 1 n ++ leBytes 1 c.mode ++ leBytes 1 (bit c.senseEn) ++ leBytes 1 c.ppr ++ leBytes 2 c.dmin ++ leBytes 2 c.dmax ++
    leBytes 2 c.dfloor ++ leBytes 2 c.ramp ++ leBytes 2 c.stallRpm ++ leBytes 1 c.stallT ++ leBytes 1 c.tSpin ++ leBytes 2 c.retryInt ++
    leBytes 1 c.retryMax ++ leBytes 1 c.table ++ c.src.toList.flatMap (fun x => leBytes 1 x) ++ leBytes 2 c.iMin ++ leBytes 2 c.iLock ++
    leBytes 4 0

/-- The fields of an image. -/
def FanCfg.ofBytes (b : List Byte) : FanCfg :=
  { mode := fieldAt b 1 1, senseEn := bitOf (fieldAt b 2 1) 0, ppr := fieldAt b 3 1, dmin := fieldAt b 4 2, dmax := fieldAt b 6 2,
    dfloor := fieldAt b 8 2, ramp := fieldAt b 10 2, stallRpm := fieldAt b 12 2, stallT := fieldAt b 14 1, tSpin := fieldAt b 15 1,
    retryInt := fieldAt b 16 2, retryMax := fieldAt b 18 1, table := fieldAt b 19 1,
    src := Vector.ofFn fun i : Fin 4 => fieldAt b (20 + i.val) 1, iMin := fieldAt b 24 2, iLock := fieldAt b 26 2 }

/-- The ranges of Table 11.7 and the first two cases of R513 that need no other state. -/
def fanCfgOk (b : List Byte) : Bool :=
  let c := FanCfg.ofBytes b
  let var := fieldAt b 0 1 < 6
  fieldAt b 0 1 < 12 && c.mode ≤ 3 && fieldAt b 2 1 ≤ 1 && (if var then c.ppr == 0 else inR 1 c.ppr 4) && c.dmin ≤ 1000 &&
    inR c.dmin c.dmax 1000 && (if var then c.dfloor ≤ c.dmax else c.dfloor == 0) && c.ramp ≤ 1000 &&
    (if var then c.stallRpm == 0 else inR 150 c.stallRpm 20000) && 5 ≤ c.stallT && inR 1 c.tSpin 60 && inR 5 c.retryInt 3600 &&
    c.retryMax ≤ 15 && (c.table ≤ 7 || (c.table == 0xFF && c.mode != 2)) && c.src.toList.all (fun x => x ≤ 63 || x == 0xFF) &&
    (c.mode != 2 || c.src.toList.any fun x => x != 0xFF) && (if var then c.iMin ≤ 4000 else c.iMin == 0) &&
    (if var then inR (c.iMin + 100) c.iLock 5000 else c.iLock == 0) && fieldAt b 28 4 == 0

/-- The points of a fan table: T in m°C and DUTY. -/
def fanPoints (b : List Byte) : Nat → Nat → List (Int × Int)
  | 0, _ => []
  | k + 1, o => (sfieldAt b o 4, (fieldAt b (o + 4) 2 : Nat)) :: fanPoints b k (o + 8)

/-- The points of the fan table in image `b`. -/
def fanTablePts (b : List Byte) : List (Int × Int) := fanPoints b (fieldAt b 1 1) 8

/-- R513 for a FAN_TABLE. -/
def fanTableOk (t : Nat) (b : List Byte) : Bool :=
  t ≤ 7 && fieldAt b 0 1 == 3 && inR 2 (fieldAt b 1 1) 12 && inR 5 (fieldAt b 2 1) 100 && fieldAt b 3 1 == 0 && fieldAt b 4 2 ≤ 1000 &&
    risesX (fanTablePts b) && (fanTablePts b).all (fun p => p.2 ≤ 1000) &&
    (List.range (fieldAt b 1 1)).all (fun i => fieldAt b (14 + 8 * i) 2 == 0) &&
    crc32 (b.take (b.length - 4)) == fieldAt b (b.length - 4) 4

/-! ### Targets (R478 to R482, R500 to R504) -/

/-- The configuration in force of channel `n`. -/
def State.fanCfg (s : State) (n : Fin 12) : FanCfg := s.run.fan[n]

/-- The group that channel `n` belongs to. -/
def State.fanGroupOf (s : State) (n : Nat) : Option (Fin 4) := (List.finRange 4).find? fun g => bitOf (s.run.fgrp[g]).members n

/-- FO_DUTY for channel `n`: its group's, or 1,000 where it has none (R504). -/
def State.foDuty (s : State) (n : Nat) : Nat :=
  match s.fanGroupOf n with
  | some g => (s.run.fgrp[g]).foDuty
  | none => 1000

/-- The channel's group is in failover (R501). -/
def State.inFailover (s : State) (n : Nat) : Bool :=
  match s.fanGroupOf n with
  | some g => (s.fan.grp[g]).failover
  | none => false

/-- The target of the channel's mode; lichen mode's own target stands in its place (R570). -/
def State.modeTarget (s : State) (n : Fin 12) : Nat :=
  let f := s.fan.ch[n]
  match (s.fanCfg n).mode with
  | 0 => 0
  | m =>
    match f.lichen with
    | some d => d
    | none => if m == 1 then f.manual else if m == 2 then f.table else f.proc

/-- STATE 1, 2 or 3. -/
def FanState.able : FanState → Bool
  | .stopped | .spinUp | .running => true
  | _ => false

/-- SPIN_UP or RUNNING. -/
def FanState.driven : FanState → Bool
  | .spinUp | .running => true
  | _ => false

/-- The throttle ceiling of a variable-supply channel at step `k` (R481). -/
def FanCfg.ceiling (c : FanCfg) (k : Nat) : Nat := max c.dfloor (c.dmax * (8 - k) / 8)

/-- The target before the throttle ceiling (R479, steps 1 to 3). -/
def State.fanWish (s : State) (n : Fin 12) : Nat :=
  let f := s.fan.ch[n]
  let t := s.modeTarget n
  let t := if s.inFailover n.val && f.state.able then max t (s.foDuty n.val) else t
  let t := if f.foCmd then max t (s.foDuty n.val) else t
  if (s.fanCfg n).mode == 0 then 0 else min t (s.fanCfg n).dmax

/-- The effective target (R479). -/
def State.fanTarget (s : State) (n : Fin 12) : Nat :=
  let t := s.fanWish n
  if n.val < 6 then min t ((s.fanCfg n).ceiling s.therm.step) else t

/-- The effective target is lowered by the ceiling. -/
def State.fanCapped (s : State) (n : Fin 12) : Bool := decide (s.fanTarget n < s.fanWish n)

/-! ### Speed and RUN_OK (R483 to R485) -/

/-- SPEED at core clock time `now`, from the mean interval as an exact quotient (R483). -/
def Fan.speedAt (f : Fan) (ppr now : Nat) : Nat :=
  match f.lastEdge with
  | none => 0
  | some l =>
    let w := f.edges.filter fun e => now ≤ e + ms 500
    let k := w.length - 1
    let sp := match w.head?, w.getLast? with
      | some a, some b => a - b
      | _, _ => 0
    let (num, den) := if 0 < k && (now - l) * k < sp then (sec 60 * k, ppr * sp) else (sec 60, ppr * (now - l))
    if den == 0 then 65534
    else
      let v := (2 * num + den) / (2 * den)
      if v < 30 then 0 else satTo 65534 v

/-- RUN_OK (R485); injection 0x0501 forces 0. -/
def State.runOkNow (s : State) (n : Fin 12) : Bool :=
  let f := s.fan.ch[n]
  let c := s.fanCfg n
  c.senseEn && f.state.driven && !s.injOn 0x0501 n.val &&
    (if n.val < 6 then inR c.iMin f.iOut c.iLock else decide (c.stallRpm ≤ f.speed))

/-- RUN_OK with the spans that depend on it: stall timing and the span of R503. -/
def State.fanEval (s : State) (n : Fin 12) : State :=
  let ok := s.runOkNow n
  let now := s.clk.upNs
  s.mFanCh n fun f =>
    { f with runOk := ok, lowUp := if f.state == .running && !ok then some (f.lowUp.getD now) else none,
             okUp := if f.state == .running && ok then some (f.okUp.getD now) else none }

/-- SPEED of every channel at a control tick (R483). -/
def State.fanSpeeds (s : State) : State :=
  s.each (List.finRange 12) fun s n =>
    let c := s.fanCfg n
    (s.mFanCh n fun f =>
      { f with speed := if n.val < 6 then 0xFFFF else if c.senseEn then f.speedAt c.ppr s.clk.upNs else 0,
               edges := f.edges.filter fun e => s.clk.upNs ≤ e + ms 500 }).fanEval n

/-! ### States (R490 to R497, R501, R509) -/

/-- The output stage keeps the channel from running: VS_POWER lost (R509), shutdown (R601), the emergency stop with ESTOP_FANS
(R640). -/
def State.fanStageOff (s : State) : Bool := s.outputsOff || (s.safe.cfg.estopFans && s.estopHeld)

/-- The channel is unavailable: the output stage is off, or its domain failed (R61). -/
def State.fanDown (s : State) (n : Fin 12) : Bool := s.fanStageOff || s.domDead (45 + n.val)

/-- The channel enters a state; driven states keep their duty, the others have none. -/
def State.fanTo (s : State) (n : Fin 12) (st : FanState) : State :=
  (s.mFanCh n fun f => { f with state := st, stateUp := s.clk.upNs, duty := if st.driven then f.duty else 0, ending := false,
                                lowUp := none, okUp := none }).fanEval n

/-- A group enters failover when a member of a MODE other than OFF can no longer run (R501). -/
def State.foTrigger (s : State) (n : Fin 12) : State :=
  match s.fanGroupOf n.val with
  | none => s
  | some g =>
    if (s.fan.grp[g]).failover then s
    else (s.mFanGrp g fun x => { x with failover := true, foEvt := x.foEvt.raise }).logAs 3 5 4 false
      (leBytes 1 g.val ++ leBytes 1 0 ++ leBytes 1 0)

/-- FCODE of Table 11.8. -/
def FanFault.code : FanFault → Nat
  | .none => 0
  | .stall => 1
  | .overcurrent => 2
  | .short => 3
  | .shoot => 4
  | .overtemp => 5

/-- A start: SPIN_UP with DUTY_OUT at DMIN (R480, R490). -/
def State.fanStart (s : State) (n : Fin 12) : State :=
  (s.mFanCh n fun f => { f with duty := (s.fanCfg n).dmin * 1000 }).fanTo n .spinUp

/-- The channel enters FAULT with code `f` (R492, R496). -/
def State.fanFault (s : State) (n : Fin 12) (f : FanFault) : State :=
  let s := (s.mFanCh n fun x => { x with fcode := f }).fanTo n .fault
  let id := 0x0500 + (if f == .shoot then 4 else f.code)
  (s.logHw id n.val 5 3 (leBytes 1 n.val ++ leBytes 1 f.code ++ leBytes 1 (s.fan.ch[n]).retryLeft)).foTrigger n

/-- A stall (R492). -/
def State.fanStall (s : State) (n : Fin 12) : State :=
  let left := (s.fan.ch[n]).retryLeft
  let s := s.mFanCh n fun f => { f with stall := f.stall.raise, stallUp := s.clk.upNs }
  let s := (s.logHw 0x0501 n.val 5 1 (leBytes 1 n.val ++ leBytes 1 1 ++ leBytes 1 left)).detected 0x0501 n.val 0xFF
  if left == 0 then s.fanFault n .stall else (s.fanTo n .retryWait).foTrigger n

/-- The retry of a channel whose RETRY_INT has run (R493). -/
def State.fanRetryNow (s : State) (n : Fin 12) : State :=
  if s.fanTarget n < (s.fanCfg n).dmin then s.fanTo n .stopped
  else
    let s := s.mFanCh n fun f => { f with retryLeft := f.retryLeft - 1 }
    (s.logHw 0x0501 n.val 5 2 (leBytes 1 n.val ++ leBytes 1 1 ++ leBytes 1 (s.fan.ch[n]).retryLeft)).fanStart n

/-- RETRY_INT has run from the stall. -/
def State.fanRetryDue (s : State) (n : Fin 12) : Bool :=
  (s.fan.ch[n]).state == .retryWait && sec (s.fanCfg n).retryInt ≤ s.since (s.fan.ch[n]).stallUp

/-- The channel becomes unavailable, or comes back to what it was (R509, R61). -/
def State.fanSettle (s : State) (n : Fin 12) : State :=
  let f := s.fan.ch[n]
  if f.state == .off then (if s.fanDown n then s.mFanCh n fun f => { f with duty := 0, ending := false } else s)
  else if s.fanDown n then
    if f.state == .unavailable then s
    else
      let s := (s.mFanCh n fun x => { x with before := some x.state }).fanTo n .unavailable
      if s.domDead (45 + n.val) then s.foTrigger n else s
  else if f.state == .unavailable then
    let s := s.mFanCh n fun x => { x with before := none }
    match f.before with
    | some .fault => s.fanTo n .fault
    | some .retryWait =>
      let s := s.fanTo n .retryWait
      if s.fanRetryDue n then s.fanRetryNow n else s
    | _ => s.fanTo n .stopped
  else s

/-- Every channel settled. -/
def State.fansSettle (s : State) : State := s.each (List.finRange 12) fun s n => s.fanSettle n

/-- DUTY_OUT moved towards `t`, both in thousandths of 0.1 %, over one millisecond (R480). -/
def rampDuty (duty t ramp : Nat) : Nat :=
  if ramp == 0 then t else if duty < t then min t (duty + ramp) else max t (duty - ramp)

/-- One millisecond of the target path of channel `n` (R478 to R480). A channel whose domain is to go off ramps down and stops (R60); one
whose domain is not on yet starts when it is. -/
def State.fanMs (s : State) (n : Fin 12) : State :=
  let s := s.fanSettle n
  let c := s.fanCfg n
  let t := s.fanTarget n
  let run := decide (c.dmin ≤ t) && !s.pow.pdOff.getLsbD (45 + n.val)
  let s := s.mFanCh n fun f => { f with target := t, thrCapped := s.fanCapped n }
  let f := s.fan.ch[n]
  match f.state with
  | .off =>
    if f.ending then
      let d := rampDuty f.duty (c.dmin * 1000) c.ramp
      s.mFanCh n fun f => { f with duty := if d ≤ c.dmin * 1000 then 0 else d, ending := decide (c.dmin * 1000 < d) }
    else s
  | .stopped => if run && s.domOn (45 + n.val) then s.fanStart n else s
  | .spinUp | .running =>
    if run then s.mFanCh n fun f => { f with duty := rampDuty f.duty (t * 1000) c.ramp, ending := false }
    else
      let d := rampDuty f.duty (c.dmin * 1000) c.ramp
      if d ≤ c.dmin * 1000 then s.fanTo n .stopped else s.mFanCh n fun f => { f with duty := d, ending := true }
  | _ => s

/-! ### Temperature tables (R488) -/

/-- A record that serves as a table source (R488). -/
def ChRec.serves (r : ChRec) : Bool := !(r.ovrHi || r.ovrLo || r.burnout || r.stale || r.cjFault)

/-- The record of channel `c` at chain time `t` µs. -/
def State.recordBefore (s : State) (c : Nat) (t : Nat) : ChRec :=
  match idx? 64 c with
  | some c => s.recAt c t
  | none => { stale := true }

/-- tref after a process tick that finds `t` (R488). -/
def trefNext (tref : Option Int) (t : Int) (hyst : Nat) : Int :=
  match tref with
  | none => t
  | some r => if r < t then t else if t < r - (hyst * 100 : Nat) then t + (hyst * 100 : Nat) else r

/-- A channel in MODE TABLE at a process tick at chain time `now` µs (R488). -/
def State.fanTableEval (s : State) (n : Fin 12) (now : Nat) : State :=
  let c := s.fanCfg n
  match (if c.mode == 2 then idx? 8 c.table else none) with
  | none => s
  | some k =>
    let img := s.fan.tbl[k]
    let named := c.src.toList.filter fun x => x != 0xFF
    let good := (named.map fun x => s.recordBefore x now).filter ChRec.serves
    match (good.map fun r => r.value).max? with
    | none => s.mFanCh n fun f => { f with table := fieldAt img 4 2, srcFault := f.srcFault.raise }
    | some t =>
      let r := trefNext (s.fan.ch[n]).tref t (fieldAt img 2 1)
      s.mFanCh n fun f =>
        { f with tref := some r, table := (interp (fanTablePts img) r).1.toNat,
                 srcFault := f.srcFault.raiseIf (decide (good.length < named.length)) }

/-- Every table evaluated at a process tick. -/
def State.fanTables (s : State) (now : Nat) : State := s.each (List.finRange 12) fun s n => s.fanTableEval n now

/-! ### Opcodes (Table 11.6) -/

/-- A list of fan numbers as a mask. -/
def fanMask (l : List (Fin 12)) : Nat := l.foldl (fun a n => a + 2 ^ n.val) 0

/-- The channels a mask names. -/
def fansNamed (m : Nat) : List (Fin 12) := (List.finRange 12).filter fun n => bitOf m n.val

/-- FAN_CMD (R478, R482, R504, R515, R544, R601). -/
def fanCmd (ch action arg mask : Nat) : Op :=
  { opc := 0x50, needle := true, prot := .tagged,
    targets := fun _ => if action == 1 then [(.fan ch, false)] else (fansNamed mask).map fun n => (Target.fan n.val, action == 3),
    run := fun _ keep s =>
      let reply := fun (named applied : List (Fin 12)) (s : State) =>
        leBytes 1 ch ++ leBytes 1 action ++ leBytes 2 (fanMask applied) ++ leBytes 2 (match named.head? with
          | some n => s.fanTarget n
          | none => 0)
      if action == 1 then
        match idx? 12 ch with
        | none => .bad .badParam s
        | some n =>
          if arg > 1000 || mask != 0 then .bad .badParam s
          else if (s.fanCfg n).mode != 1 || s.therm.shut || s.fanOwned ch then .bad .badState s
          else
            let s' := s.mFanCh n fun f => { f with manual := arg }
            { status := if s'.fanCapped n then .throttled else .ok, data := reply [n] [n] s', s := s' }
      else if action == 3 || action == 4 then
        if ch != 0 || arg != 0 || mask == 0 || 4096 ≤ mask then .bad .badParam s
        else
          let ns := (fansNamed mask).filter fun n => keep (.fan n.val)
          let s' := s.each ns fun s n => s.mFanCh n fun f => { f with foCmd := action == 3 }
          { status := if action == 3 && ns.any (fun n => s'.fanCapped n) then .throttled else .ok,
            data := reply (fansNamed mask) ns s', s := s' }
      else .bad .badParam s }

/-- A FAN_CONFIG put in force (R489, R511, R517; log entry 18). -/
def State.setFan (s : State) (n : Fin 12) (c : FanCfg) : State :=
  let old := s.fanCfg n
  let s := s.mRun fun r => { r with fan := r.fan.set n c }
  let s := s.mFanCh n fun f =>
    { f with tref := if old.table == c.table && old.src == c.src && old.mode == c.mode then f.tref else none,
             manual := if old.mode == c.mode then f.manual else 0, table := if old.mode == c.mode then f.table else 0,
             proc := if old.mode == c.mode then f.proc else 0,
             edges := if old.ppr == c.ppr && old.senseEn == c.senseEn then f.edges else [],
             lastEdge := if old.ppr == c.ppr && old.senseEn == c.senseEn then f.lastEdge else none,
             revEdge := if old.ppr == c.ppr then f.revEdge else 0,
             retryLeft := if old.retryMax == c.retryMax then f.retryLeft else c.retryMax }
  if old.mode != 0 && c.mode == 0 then
    s.mFanCh n fun f => { f with state := .off, before := none, stateUp := s.clk.upNs, runOk := false, lowUp := none, okUp := none,
                                 fcode := .none, ending := decide (0 < f.duty) }
  else if old.mode == 0 && c.mode != 0 then (s.fanTo n .stopped).fanSettle n
  else s.fanEval n

/-- A source that is not configured with a °C table (R513). -/
def State.badSource (s : State) (x : Nat) : Bool :=
  match idx? 64 x with
  | some c => s.unitOf s.run.chan[c] != some 1
  | none => x != 0xFF

/-- A group that the safety configuration names for airflow (R507). -/
def State.airGroup (s : State) (g : Nat) : Bool := bitOf s.safe.cfg.airGrp g

/-- FAN_CONFIG (R507, R513, R515, R516). -/
def fanConfig (img : List Byte) : Op :=
  { opc := 0x51, needle := true, prot := .tagged, lenOk := img.length == 32, targets := fun _ => [(.item 0x0A (fieldAt img 0 1), false)],
    run := fun _ _ s =>
      if !fanCfgOk img then .bad .badParam s
      else match idx? 12 (fieldAt img 0 1) with
        | none => .bad .badParam s
        | some n =>
          let c := FanCfg.ofBytes img
          let noTable := match idx? 8 c.table with
            | some k => c.mode == 2 && (s.fan.tbl[k]).isEmpty
            | none => false
          if noTable || c.src.toList.any (fun x => s.badSource x) then .bad .badParam s
          else if !c.senseEn && (s.fanGroupOf n.val).isSome then .bad .badState s
          else if s.permitOn && (match s.fanGroupOf n.val with
              | some g => s.airGroup g.val
              | none => false) then .bad .heatActive s
          else .ok img (s.setFan n c) }

/-- FAN_TABLE (R487, R513, R514). -/
def fanTable (t : Nat) (img : List Byte) : Op :=
  Op.orderLen 0x52 (.fanTable t) (img.length == 12 + 8 * fieldAt img 1 1) fun _ s =>
    match (if fanTableOk t img then idx? 8 t else none) with
      | none => .bad .badParam s
      | some k =>
        .ok (leBytes 1 t ++ leBytes 2 (fieldAt img 6 2) ++ leBytes 4 (fieldAt img (img.length - 4) 4))
          (s.mFan fun x => { x with tbl := x.tbl.set k img })

/-- Members of a mask. -/
def popCount (n m : Nat) : Nat := (bitList n m).length

/-- FAN_GROUP (R500, R507, R513, R515, R516). A group that is dissolved leaves failover. -/
def fanGroup (g members nAir foDuty foHold pad : Nat) : Op :=
  Op.order 0x53 (.item 0x0B g) fun _ s =>
    match idx? 4 g with
    | none => .bad .badParam s
    | some k =>
      if pad != 0 || 4096 ≤ members || foDuty > 1000 || foHold == 0 ||
          (if members == 0 then nAir != 0 else !inR 1 nAir (popCount 12 members)) then .bad .badParam s
      else if (fansNamed members).any (fun n => !(s.fanCfg n).senseEn || (match s.fanGroupOf n.val with
          | some h => h != k
          | none => false)) then .bad .badState s
      else if s.permitOn && s.airGroup g then .bad .heatActive s
      else
        let c : FanGrpCfg := { members := members, nAir := nAir, foDuty := foDuty, foHold := foHold }
        let s' := s.mRun fun r => { r with fgrp := r.fgrp.set k c }
        .ok (leBytes 1 g ++ leBytes 2 members ++ leBytes 1 nAir ++ leBytes 2 foDuty ++ leBytes 1 foHold ++ leBytes 1 0)
          (s'.mFanGrp k fun x => { x with failover := x.failover && members != 0 })

/-- Bits [13:8] of FAN.CH_STATn. -/
def Fan.evt (f : Fan) : Nat :=
  pack [(1, bit f.stall.set), (1, bit f.shootBlock.set), (1, bit f.overcurrent.set), (1, bit f.short.set), (1, bit f.overtemp.set),
        (1, bit f.srcFault.set)]

/-- STATE codes of Table 11.4. -/
def FanState.code : FanState → Nat
  | .off => 0
  | .stopped => 1
  | .spinUp => 2
  | .running => 3
  | .retryWait => 4
  | .fault => 5
  | .unavailable => 6

/-- DUTY_OUT in 0.1 %. -/
def Fan.dutyOut (f : Fan) : Nat := f.duty / 1000

/-- TJ of channel `n`; injection 0x0505 forces 175 °C. -/
def State.fanTj (s : State) (n : Fin 12) : Int := if s.injOn 0x0505 n.val then 1750 else (s.fan.ch[n]).tj

/-- An entry of FAN_STATUS (Table 11.8). -/
def State.fanEntry (s : State) (n : Fin 12) : List Byte :=
  let f := s.fan.ch[n]
  leBytes 1 n.val ++ leBytes 1 (s.fanCfg n).mode ++ leBytes 1 f.state.code ++ leBytes 1 f.fcode.code ++ leBytes 2 f.target ++
    leBytes 2 f.dutyOut ++ leBytes 2 f.speed ++ leBytes 2 f.iOut ++ leBytes 2 f.vOut ++ leBytes 2 f.revCnt ++ leBytes 2 f.evt ++
    leBytes 1 f.retryLeft ++ leBytes 1 (match s.fanGroupOf n.val with
      | some g => g.val
      | none => 0xFF) ++ leBytes 4 (satTo 0xFFFFFFFF (f.eOut / 1000000))

/-- Members of group `g` with RUN_OK 1. -/
def State.airCount (s : State) (g : Fin 4) : Nat :=
  ((List.finRange 12).filter fun n => bitOf (s.run.fgrp[g]).members n.val && (s.fan.ch[n]).runOk).length

/-- The trailer of FAN_STATUS. -/
def State.fanTrailer (s : State) : List Byte :=
  (List.finRange 4).flatMap (fun g =>
    leBytes 1 (pack [(1, bit (s.fan.grp[g]).failover), (1, bit (s.fan.grp[g]).airOk)]) ++ leBytes 1 (s.airCount g)) ++
    leBytes 1 s.therm.step ++ leBytes 1 0

/-- FAN_STATUS. -/
def fanStatus (ch count : Nat) : Op :=
  Op.read 0x54 fun _ s =>
    if !inR 1 count 12 || ch + count > 12 then .bad .badParam s
    else .ok ((span 12 ch count).flatMap (fun n => s.fanEntry n) ++ s.fanTrailer) s

/-- Every flag of FAN.CH_STATn cleared. -/
def Fan.clearFlags (f : Fan) : Fan :=
  { f with stall := f.stall.clearIf true, shootBlock := f.shootBlock.clearIf true, overcurrent := f.overcurrent.clearIf true,
           short := f.short.clearIf true, overtemp := f.overtemp.clearIf true, srcFault := f.srcFault.clearIf true }

/-- The channel is in FAULT, also behind a loss of the output stage. -/
def Fan.faulted (f : Fan) : Bool := f.state == .fault || (f.state == .unavailable && f.before == some .fault)

/-- FAN_RETRY (R494, R497, R513). -/
def fanRetry (mask flags : Nat) : Op :=
  { opc := 0x55, needle := true, prot := .tagged, targets := fun _ => (fansNamed mask).map fun n => (Target.fan n.val, false),
    run := fun _ keep s =>
      if mask == 0 || 4096 ≤ mask || flags > 7 then .bad .badParam s
      else
        let ns := (fansNamed mask).filter fun n => keep (.fan n.val)
        let stuck := ns.filter fun n => bitOf flags 0 && (s.fan.ch[n]).faulted
        let hot := fun n => (s.fan.ch[n]).fcode == .overtemp && s.fanTj n > 1400
        let out := stuck.filter fun n => !hot n
        let s' := s.each out fun s n =>
          let s := s.mFanCh n fun f => { f with fcode := .none }
          if (s.fan.ch[n]).state == .fault then s.fanTo n .stopped else s.mFanCh n fun f => { f with before := some .stopped }
        let s' := s'.each ns fun s n =>
          s.mFanCh n fun f =>
            let f := if bitOf flags 1 then f.clearFlags else f
            if bitOf flags 2 then { f with retryLeft := (s.fanCfg n).retryMax } else f
        .ok (leBytes 2 mask ++ leBytes 2 (fanMask out) ++ leBytes 2 (fanMask (stuck.filter hot))) s' }

/-! ### Registers (Tables 11.9 and 11.10) -/

/-- FAN.GRP_STATg. -/
def State.regFanGrp (s : State) (g : Fin 4) : Nat :=
  let x := s.fan.grp[g]
  let c := s.run.fgrp[g]
  pack [(12, c.members), (1, bit x.failover), (1, bit x.airOk), (1, bit x.foEvt.set), (1, 0), (8, x.foEvt.cnt), (4, c.nAir)]

/-- FAN.SUM. -/
def State.regFanSum (s : State) : Nat :=
  pack [(12, fanMask ((List.finRange 12).filter fun n => (s.fan.ch[n]).runOk)),
        (4, maskOf 4 fun g => if h : g < 4 then (s.fan.grp[(⟨g, h⟩ : Fin 4)]).airOk else false), (4, s.therm.step)]

/-- A register of channel `n` at word `k`. -/
def State.regFanCh (s : State) (n : Fin 12) (k : Nat) : Nat :=
  let f := s.fan.ch[n]
  match k with
  | 0 => pack [(4, f.state.code), (1, bit (s.inFailover n.val && f.state.able)), (1, bit f.foCmd), (1, bit f.thrCapped),
               (1, bit f.runOk), (6, f.evt), (2, 0), (3, f.fcode.code), (1, 0), (4, f.retryLeft)]
  | 1 => pack [(8, f.stall.cnt), (8, f.shootBlock.cnt), (8, f.overcurrent.cnt), (8, f.short.cnt)]
  | 2 => pack [(8, f.overtemp.cnt), (8, f.srcFault.cnt)]
  | 3 => pack [(16, f.dutyOut), (16, f.speed)]
  | 4 => pack [(16, f.iOut), (16, f.vOut)]
  | 5 => pack [(16, f.revCnt), (16, f.target)]
  | 6 => twos 16 (s.fanTj n)
  | _ => 0

/-- ALARM bit [2] (R499). -/
def State.fanAlarm (s : State) : Bool :=
  s.fan.ch.toList.any fun f => f.state == .retryWait || f.state == .fault || f.evt != 0

/-- FAN of the status record (R505). -/
def State.fanField (s : State) : Nat :=
  fanMask ((List.finRange 12).filter fun n => (s.fan.ch[n]).state.driven) +
    4096 * maskOf 4 (fun g => if h : g < 4 then (s.fan.grp[(⟨g, h⟩ : Fin 4)]).failover else false)

/-! ### The commands -/

/-- Every millisecond: effective targets and DUTY_OUT (R479, R480). -/
def execFanTargetForm (dt : Nat) (s : State) : Host.Outcome State Fault Refusal :=
  let s := s.advance dt
  let k := s.clk.upNs / 1000000
  .next <|
    if s.fan.lastForm == some k then s
    else (s.each (List.finRange 12) fun s n => s.fanMs n).mFan fun x => { x with lastForm := some k }

/-- T_SPIN ends (R490). -/
def execFanSpinUpEnd (dt : Nat) (ch : Fin 12) (s : State) : Host.Outcome State Fault Refusal :=
  let s := (s.advance dt).fanEval ch
  .next <|
    if (s.fan.ch[ch]).state == .spinUp && sec (s.fanCfg ch).tSpin ≤ s.since (s.fan.ch[ch]).stateUp then
      if (s.fanCfg ch).senseEn && !(s.fan.ch[ch]).runOk then s.fanStall ch else s.fanTo ch .running
    else s

/-- RUN_OK has been 0 for STALL_T in RUNNING (R491). -/
def execFanStallDetect (dt : Nat) (ch : Fin 12) (s : State) : Host.Outcome State Fault Refusal :=
  let s := (s.advance dt).fanEval ch
  .next <|
    if (s.fan.ch[ch]).state == .running && (s.fanCfg ch).senseEn && s.lasted (s.fan.ch[ch]).lowUp (ms (100 * (s.fanCfg ch).stallT)) then
      s.fanStall ch
    else s

/-- RETRY_INT has run from the stall (R493). -/
def execFanRetryTimer (dt : Nat) (ch : Fin 12) (s : State) : Host.Outcome State Fault Refusal :=
  let s := s.advance dt
  .next (if s.fanRetryDue ch then s.fanRetryNow ch else s)

/-- An hour in RUNNING restores RETRY_LEFT (R494). -/
def execFanRetryRestore (dt : Nat) (ch : Fin 12) (s : State) : Host.Outcome State Fault Refusal :=
  let s := s.advance dt
  .next <|
    if (s.fan.ch[ch]).state == .running && sec 3600 ≤ s.since (s.fan.ch[ch]).stateUp then
      s.mFanCh ch fun f => { f with retryLeft := (s.fanCfg ch).retryMax }
    else s

/-- The conditions of Table 11.5 on what the detector sees, or their injection (Table 16.2). -/
def State.fanElecSeen (s : State) (n : Fin 12) (what : FanElec) : Bool :=
  match what with
  | .overcurrent ma ns => (decide (if n.val < 6 then 4400 < ma else 2200 < ma) && decide (ms 100 ≤ ns)) || s.injOn 0x0502 n.val
  | .short limit v ns =>
    (limit && decide (ms 1 ≤ ns) &&
      (if n.val < 6 then decide (5000 * v < (s.fan.ch[n]).dutyOut * s.pow.vsPower) else decide (2 * v < s.pow.vsPower))) ||
      s.injOn 0x0503 n.val
  | .shoot => decide (n.val < 6) && decide (3 ≤ (s.fan.ch[n]).shootRun)
  | .overtemp _ => decide (1700 ≤ s.fanTj n)

/-- An electrical finding stops the channel in FAULT (R496). -/
def execFanElectricalFault (dt : Nat) (ch : Fin 12) (what : FanElec) (s : State) : Host.Outcome State Fault Refusal :=
  let s := s.advance dt
  let found := fun (s : State) (f : FanFault) (id : Nat) =>
    if (s.fan.ch[ch]).state == .off || (s.fan.ch[ch]).faulted then s else (s.fanFault ch f).detected id ch.val 0xFF
  let s := match what with
    | .overtemp tj => s.mFanCh ch fun f => { f with tj := tj }
    | _ => s
  .next <|
    if !s.fanElecSeen ch what then s
    else match what with
    | .overcurrent _ _ => found (s.mFanCh ch fun f => { f with overcurrent := f.overcurrent.raise }) .overcurrent 0x0502
    | .short _ _ _ => found (s.mFanCh ch fun f => { f with short := f.short.raise }) .short 0x0503
    | .shoot => found s .shoot 0x0504
    | .overtemp _ => found (s.mFanCh ch fun f => { f with overtemp := f.overtemp.raise }) .overtemp 0x0505

/-- TJ falls to 140 °C: a channel in FAULT with FCODE OVERTEMP returns to STATE 1 (R497). -/
def execFanOvertempRecover (dt : Nat) (ch : Fin 12) (tj : Int) (s : State) : Host.Outcome State Fault Refusal :=
  let s := (s.advance dt).mFanCh ch fun f => { f with tj := tj }
  .next <|
    if (s.fan.ch[ch]).state == .fault && (s.fan.ch[ch]).fcode == .overtemp && s.fanTj ch ≤ 1400 then
      (s.mFanCh ch fun f => { f with fcode := .none }).fanTo ch .stopped
    else s

/-- Every member has run healthy for FO_HOLD: the group leaves failover (R503). -/
def execFanFailoverExit (dt : Nat) (group : Fin 4) (s : State) : Host.Outcome State Fault Refusal :=
  let s := s.advance dt
  let c := s.run.fgrp[group]
  .next <|
    if (s.fan.grp[group]).failover && (fansNamed c.members).all (fun n =>
        (s.fanCfg n).mode == 0 || s.lasted (s.fan.ch[n]).okUp (sec c.foHold)) then
      s.mFanGrp group fun x => { x with failover := false }
    else s

/-- AIR_OK of every group (R506). A group without members proves no airflow (log entry 19). -/
def State.airUpdate (s : State) : State :=
  s.each (List.finRange 4) fun s g =>
    let c := s.run.fgrp[g]
    s.mFanGrp g fun x => { x with airOk := c.members != 0 && c.nAir ≤ s.airCount g }

/-- Every millisecond: RUN_OK and AIR_OK (R506). -/
def execAirOkUpdate (dt : Nat) (s : State) : Host.Outcome State Fault Refusal :=
  .next ((s.advance dt).each (List.finRange 12) fun s n => s.fanEval n).airUpdate

/-- A shoot-through pattern is blocked for one 5 µs PWM period (R453, R454, R498). -/
def execShootBlockDetect (dt : Nat) (ch : Fin 12) (s : State) : Host.Outcome State Fault Refusal :=
  let s := s.advance dt
  .next <|
    if ch.val < 6 then
      let run := if 10000 ≤ s.since (s.fan.ch[ch]).shootUp then 1 else (s.fan.ch[ch]).shootRun + 1
      let s := (s.mFanCh ch fun f => { f with shootBlock := f.shootBlock.raise, shootRun := run, shootUp := s.clk.upNs }).detected 0x0504 ch.val 0xFF
      if 3 ≤ run && (s.fan.ch[ch]).state != .off && !(s.fan.ch[ch]).faulted then s.fanFault ch .shoot else s
    else s

/-- A falling TACH edge that passed the filter (R483, R484). -/
def execTachEdge (dt : Nat) (ch : Fin 12) (s : State) : Host.Outcome State Fault Refusal :=
  let s := s.advance dt
  .next <|
    if ch.val < 6 || !s.domOn (45 + ch.val) then s
    else
      let ppr := (s.fanCfg ch).ppr
      s.mFanCh ch fun f =>
        { f with edges := s.clk.upNs :: f.edges, lastEdge := some s.clk.upNs,
                 revEdge := if ppr ≤ f.revEdge + 1 then 0 else f.revEdge + 1,
                 revCnt := if ppr ≤ f.revEdge + 1 then (f.revCnt + 1) % 65536 else f.revCnt }

/-- FAN_CMD SET. -/
def execFanCmdSet (q : Req) (ch : Byte) (arg mask : Half) (s : State) : Host.Outcome State Fault Refusal :=
  .next ((fanCmd ch.toNat 1 arg.toNat mask.toNat).serve q s)

/-- FAN_CMD FAILOVER. -/
def execFanCmdFailover (q : Req) (ch : Byte) (arg mask : Half) (s : State) : Host.Outcome State Fault Refusal :=
  .next ((fanCmd ch.toNat 3 arg.toNat mask.toNat).serve q s)

/-- FAN_CMD RESUME. -/
def execFanCmdResume (q : Req) (ch : Byte) (arg mask : Half) (s : State) : Host.Outcome State Fault Refusal :=
  .next ((fanCmd ch.toNat 4 arg.toNat mask.toNat).serve q s)

/-- FAN_CONFIG. -/
def execFanConfig (q : Req) (item : List Byte) (s : State) : Host.Outcome State Fault Refusal := .next ((fanConfig item).serve q s)

/-- FAN_TABLE. -/
def execFanTable (q : Req) (tnum : Byte) (image : List Byte) (s : State) : Host.Outcome State Fault Refusal :=
  .next ((fanTable tnum.toNat image).serve q s)

/-- FAN_GROUP. -/
def execFanGroup (q : Req) (group : Byte) (members : Half) (nAir : Byte) (foDuty : Half) (foHold pad : Byte) (s : State) :
    Host.Outcome State Fault Refusal :=
  .next ((fanGroup group.toNat members.toNat nAir.toNat foDuty.toNat foHold.toNat pad.toNat).serve q s)

/-- FAN_STATUS. -/
def execFanStatus (q : Req) (ch count : Byte) (s : State) : Host.Outcome State Fault Refusal :=
  .next ((fanStatus ch.toNat count.toNat).serve q s)

/-- FAN_RETRY. -/
def execFanRetry (q : Req) (mask : Half) (flags : Byte) (s : State) : Host.Outcome State Fault Refusal :=
  .next ((fanRetry mask.toNat flags.toNat).serve q s)

end Sys2Proof.Machine
end

