-- ==== Sys2Proof/Machine/DrvDiag.lean ====
section
/-! DEFINITION. Driver diagnostics of chapter 10: off-state samples, on-state findings, waits for boost, over-temperature, leg
conflicts, retries and the diagnostic opcodes. -/

namespace Sys2Proof.Machine

/-- A short to supply on a heat actuator is signalled to SM (R441). -/
def State.heatShort (s : State) (n : Fin 32) (id : Nat) : State :=
  if s.isHeat n then s.removePermit 0x0C (some .heatShort) (s.injOn id n.val) else s

/-- The channel leaves FAULT: PHASE 0, FCODE 0, the hour of R460 starts. -/
def State.leaveFault (s : State) (n : Fin 32) : State :=
  (s.mDiag n fun g => { g with fcode := .none, retryAt := none, cleanUp := some s.clk.upNs, legRun := 0 }).toPhase n .idle

/-! ### Off-state diagnostics (R432 to R436, R459) -/

/-- The conditions of R432; the check of a retry runs whatever OFF_EN says. -/
def State.offConditions (s : State) (n : Fin 32) : Bool :=
  ((s.run.diag[n]).offEn || (s.drv.dg[n]).checking) && (s.prof n).mode != 0 && (s.drv.ch[n]).phase == .idle &&
    (s.drv.dg[n]).direct.isNone && s.pow.vpOk && s.ctrlRuns

/-- When those conditions began to hold. -/
def State.offStart (s : State) (n : Fin 32) : Nat := max (s.drv.ch[n]).phaseUp (max (s.drv.dg[n]).offFrom s.pow.vpUp)

/-- Table 10.1, V_DH and V_DL in 10 mV. -/
def classify (vDh vDl : Nat) : OffFind :=
  if vDh > 600 || vDl > 600 then .shortSup
  else if vDh < 100 then .shortGnd
  else if vDl < 100 && vDh ≥ 300 then .open_
  else if inR 300 vDh 480 && inR 300 vDl 480 then .healthy
  else .leak

/-- V_DH as sampled, with the injections of Table 16.2. -/
def State.seenDh (s : State) (n : Fin 32) (v : Nat) : Nat :=
  if s.injOn 0x0407 n.val then 0 else if s.injOn 0x0408 n.val then 2400 else v

/-- V_DL as sampled, with the injections of Table 16.2. -/
def State.seenDl (s : State) (n : Fin 32) (v : Nat) : Nat :=
  if s.injOn 0x0405 n.val then 0 else if s.injOn 0x0406 n.val then 200 else v

/-- The last energising action or SET_I judged as the same order newly applied (R459). -/
def State.redoAction (s : State) (n : Fin 32) : State :=
  let code := fun a => match a with
    | Action.on => 1
    | Action.pulse _ => 2
    | Action.setI _ => 4
    | Action.latchA => 5
    | Action.latchB => 6
  match (s.drv.dg[n]).again with
  | none => s
  | some a =>
    let s := s.mDiag n fun g => { g with redo := false }
    if s.drvRefuses n (code a) then s
    else match a with
      | .setI ma => s.setI n ma
      | a => s.energise n a

/-- A finding at the tenth equal sample (R433, R436, R441, R459). -/
def State.offFinding (s : State) (n : Fin 32) (f : OffFind) : State :=
  let wasCheck := (s.drv.dg[n]).checking
  let redo := wasCheck && (s.drv.dg[n]).redo
  let s := s.mDiag n fun g => { g with checking := false }
  match f with
  | .shortSup => ((s.mDiag n fun g => g.raiseFor .offShortSup).heatShort n 0x0408).toFault n .offShortSup
  | .shortGnd => (s.mDiag n fun g => g.raiseFor .offShortGnd).toFault n .offShortGnd
  | .open_ =>
    let s := (s.mDiag n fun g => { g with offOpen := g.offOpen.raise }).detected 0x0405 n.val 0xFF
    if redo then s.redoAction n else s
  | .leak =>
    let s := (s.mDiag n fun g => { g with offLeak := g.offLeak.raise }).detected 0x0406 n.val 0xFF
    if redo then s.redoAction n else s
  | .healthy => if redo then s.redoAction n else s

/-- One off-state sample of channel `n` (R433). -/
def State.offSample (s : State) (n : Fin 32) (vDh vDl : Nat) : State :=
  if !s.offConditions n || (s.paired n && n.val % 2 == 1) then
    s.mDiag n fun g => { g with offSince := none, offRun := 0, checking := g.checking && (s.drv.ch[n]).phase == .idle }
  else
    let start := s.offStart n
    let s := s.mDiag n fun g => if g.offSince == some start then g else { g with offSince := some start, offRun := 0 }
    if s.since start < ms 2 then s
    else
      let h := s.seenDh n vDh
      let l := s.seenDl n vDl
      let f := classify h l
      let run := if (s.drv.dg[n]).offLast == f then (s.drv.dg[n]).offRun + 1 else 1
      let s := s.mDiag n fun g => { g with vDh := h, vDl := l, offLast := f, offRun := satTo 11 run }
      if run == 10 then s.offFinding n f else s

/-! ### On-state findings (Table 10.2) -/

/-- The on-state detectors watch the channel: PHASE 1 to 6, or direct drive (R437, R471). -/
def State.watched (s : State) (n : Fin 32) : Bool := (s.drv.ch[n]).phase.active || (s.drv.dg[n]).direct.isSome

/-- I_OC of channel `n` in mA. -/
def State.iOc (s : State) (n : Fin 32) : Nat :=
  let p := s.prof n
  min 9500 (max (p.iPeak * 25 * 3 / 2 + 500) (p.propMax * 3 / 2 + 500))

/-- The set current in mA against which uncontrolled current is judged: what is regulated in DWELL, HOLD and PROP; in DECAY and RELEASE,
which come down from it, the most that the profile sets (log entry 116); none where nothing sets a current. -/
def State.setMa (s : State) (n : Fin 32) : Option Nat :=
  match (s.drv.ch[n]).phase with
  | .dwell | .hold | .prop => some (s.setUa n / 1000)
  | .decay | .release => some (if (s.prof n).mode == 2 then (s.prof n).propMax else (s.prof n).iPeak * 25)
  | _ => none

/-- LS sense above the set current + 25 % + 100 mA. -/
def State.uncontrolled (s : State) (n : Fin 32) (ls : Nat) : Bool :=
  match s.setMa n with
  | some i => decide (5 * i + 400 < 4 * ls)
  | none => false

/-- Table 10.2: the condition of SHORT_SUP, SHORT_LOAD or SHORT_GND holds on what the channel's senses show. -/
def State.shortSeen (s : State) (n : Fin 32) (f : FCode) (x : Sense) : Bool :=
  match f with
  | .shortSup => (decide (s.iOc n < x.ls) && (!x.hsOn || decide (10 * x.hs < 8 * x.ls))) ||
      (!x.hsOn && decide (100000 ≤ x.ns) && s.uncontrolled n x.ls)
  | .shortLoad => decide (s.iOc n < x.ls) && x.hsOn && decide (8 * x.ls ≤ 10 * x.hs)
  | .shortGnd => (decide (s.iOc n < x.hs) && decide (10 * x.ls < 8 * x.hs)) ||
      (x.hsOn && decide (20000 ≤ x.ns) && decide (5 * x.ls + 1000 + x.hs < 5 * x.hs))
  | _ => false

/-- Direct drive of channel `n` and of its pair's even channel ends. -/
def State.directOff (s : State) (n : Fin 32) : State :=
  (s.mDiag (s.seqCh n) fun g => { g with direct := none }).mDiag n fun g => { g with direct := none }

/-- A short found while the channel runs, or while it or its pair is driven directly (R437, R438, R441, R471): every switch goes off. -/
def State.onShort (s : State) (n : Fin 32) (f : FCode) (x : Sense) : State :=
  let m := s.seqCh n
  if (s.watched m || s.watched n) && (s.shortSeen m f x || s.injOn f.injId m.val) then
    let s := (s.findShort m f x.hsv x.vRes).directOff n
    if f == .shortSup then s.heatShort m f.injId else s
  else s

/-- Current lost in HOLD or PROP: below half the set current for 1 ms with the HS at full duty (R437, R439). -/
def State.onOpen (s : State) (n : Fin 32) (ma ns : Nat) (full : Bool) : State :=
  let m := s.seqCh n
  let d := s.drv.ch[m]
  let lost := (full && decide (ms 1 ≤ ns) && decide (2 * ma * 1000 < s.runsUa m)) || s.injOn 0x0401 m.val
  if lost && (d.phase == .hold || (d.phase == .prop && d.propNow != 0)) then
    let s := s.mDiag m fun g => g.raiseFor .open_
    (s.mDrvCh m fun x => { x with toFault := .open_ }).release m true
  else s

/-! ### Over-temperature and leg conflicts -/

/-- TJ of channel `n` in 0.1 °C; injection 0x040B forces 175 °C. -/
def State.drvTjOf (s : State) (n : Fin 32) : Int := if s.injOn 0x040B n.val then 1750 else (s.drv.dg[n]).tj

/-- TJ reaches 170 °C (R448). -/
def State.overtemp (s : State) (n : Fin 32) : State :=
  let m := s.seqCh n
  let s := (s.mDiag n fun g => g.raiseFor .overtemp).detected 0x040B n.val 0xFF
  match (s.drv.ch[m]).phase with
  | .fault | .unavailable => s
  | .idle => s.toFault m .overtemp
  | .wait => (s.release m true).toFault m .overtemp
  | _ => (s.mDrvCh m fun x => { x with toFault := .overtemp }).release m true

/-- One chop period with a contradictory leg command (R451, R452). -/
def State.legConflict (s : State) (n : Fin 32) : State :=
  let m := s.seqCh n
  let period := 1000000 / max 1 (s.prof m).chop
  let run := if 2 * period ≤ s.since (s.drv.dg[m]).legUp then 1 else (s.drv.dg[m]).legRun + 1
  let s := (s.mDiag m fun g => { g.raiseFor .legConflict with legRun := run, legUp := s.clk.upNs }).detected 0x040C m.val 0xFF
  if run < 3 || (s.drv.ch[m]).phase == .fault then s
  else ((s.toFault m .legConflict).directOff (oddCh m)).mDiag m fun g => { g with legRun := 0 }

/-! ### Retry (R457 to R462) -/

/-- RETRY_T has run: what RETRY_MODE and RETRY_LEFT decide. -/
def State.retry (s : State) (n : Fin 32) : State :=
  let g := s.drv.dg[n]
  let mode := (s.run.diag[n]).retryMode
  let s := s.mDiag n fun g => { g with retryAt := none }
  if mode == 0 || g.retryLeft == 0 || !g.fcode.retries then s
  else
    let s := s.logE 4 2 (leBytes 1 n.val ++ leBytes 1 g.fcode.code ++ leBytes 1 (g.retryLeft - 1))
    (s.leaveFault n).mDiag n fun g => { g with retryLeft := g.retryLeft - 1, checking := true, redo := mode == 2 }

/-! ### Opcodes (Table 10.4) -/

/-- DRV_DIAG, KIND 0x01. -/
def drvDiagConfig (ch offEn mode maxN t pf : Nat) : Op :=
  { opc := 0x46, needle := true, prot := .tagged, targets := fun _ => [(.drv ch, false)],
    run := fun _ _ s =>
      match idx? 32 ch with
      | none => .bad .badParam s
      | some n =>
        if offEn > 1 || mode > 2 || maxN > 15 || t == 0 || pf > 15 || (mode == 2 && s.isHeat n) then .bad .badParam s
        else
          let c : DiagCfg := { offEn := offEn == 1, retryMode := mode, retryMax := maxN, retryT := t, pfLimit := pf }
          let was := (s.run.diag[n]).offEn
          let s' := s.mRun fun r => { r with diag := r.diag.set n c }
          .ok (leBytes 1 1 ++ leBytes 1 ch ++ leBytes 1 offEn ++ leBytes 1 mode ++ leBytes 1 maxN ++ leBytes 1 t ++ leBytes 1 pf)
            (s'.mDiag n fun g => { g with retryLeft := maxN, offFrom := if was == c.offEn then g.offFrom else s.clk.upNs }) }

/-- DRV_DIAG, KIND 0x02, direct drive (R471, R472). PEAK in the reply, sent at the merge, is a free value (log entry 16). -/
def drvDiagDirect (ch sw dur : Nat) : Op :=
  { opc := 0x46, needle := true, prot := .tagged, targets := fun _ => [(.drv ch, false)],
    run := fun _ _ s =>
      match idx? 32 ch with
      | none => .bad .badParam s
      | some n =>
        if sw > 15 || !inR 1 dur 100 then .bad .badParam s
        else if !s.inj.isOpen || (s.drv.ch[n]).phase != .idle || (s.drv.dg[n]).direct.isSome || s.isHeat n then .bad .badState s
        else if s.permitOn then .bad .heatActive s
        else
          let peak := s.freeNat 16
          .ok (leBytes 1 2 ++ leBytes 1 ch ++ leBytes 1 sw ++ leBytes 2 peak)
            ((s.drew.mDiag n fun g => { g with direct := some (s.clk.upNs + ms dur, sw), peakI := 0 }).chargeReview) }

/-- A channel in FAULT that DRV_FAULT_CLEAR cannot release (R463). -/
def State.clearRefused (s : State) (n : Fin 32) : Bool := (s.drv.dg[n]).fcode == .overtemp && s.drvTjOf n > 1400

/-- Every flag of DRV.DG_STATn cleared (R464). -/
def Diag.clearFlags (g : Diag) : Diag :=
  { g with open_ := g.open_.clearIf true, shortGnd := g.shortGnd.clearIf true, shortSup := g.shortSup.clearIf true,
           shortLoad := g.shortLoad.clearIf true, offOpen := g.offOpen.clearIf true, offLeak := g.offLeak.clearIf true,
           overtemp := g.overtemp.clearIf true, legConflict := g.legConflict.clearIf true }

/-- DRV_FAULT_CLEAR (R463, R464, R473). -/
def drvFaultClear (mask flags : Nat) : Op :=
  { opc := 0x47, needle := true, prot := .tagged, targets := fun _ => (bitList 32 mask).map fun n => (Target.drv n, false),
    run := fun _ keep s =>
      if mask == 0 || flags > 7 then .bad .badParam s
      else
        let ns := (List.finRange 32).filter fun n => bitOf mask n.val && keep (.drv n.val)
        let stuck := ns.filter fun n => bitOf flags 0 && (s.drv.ch[n]).phase == .fault
        let out := stuck.filter fun n => !s.clearRefused n
        let held := stuck.filter fun n => s.clearRefused n
        let m := fun (l : List (Fin 32)) => l.foldl (fun a n => a + 2 ^ n.val) 0
        let s' := s.each out fun s n => s.leaveFault n
        let s' := s'.each ns fun s n =>
          s.mDiag n fun g =>
            let g := if bitOf flags 1 then g.clearFlags else g
            if bitOf flags 2 then { g with retryLeft := (s.run.diag[n]).retryMax } else g
        .ok (leBytes 4 mask ++ leBytes 4 (m out) ++ leBytes 4 (m held)) s' }

/-! ### Registers (Tables 10.5 to 10.7) -/

/-- Bits [15:8] of DRV.DG_STATn. -/
def Diag.flags (g : Diag) : Nat :=
  pack [(1, bit g.open_.set), (1, bit g.shortGnd.set), (1, bit g.shortSup.set), (1, bit g.shortLoad.set),
        (1, bit g.offOpen.set), (1, bit g.offLeak.set), (1, bit g.overtemp.set), (1, bit g.legConflict.set)]

/-- A diagnostic register of channel `n` at word `k`. -/
def State.regDrvDg (s : State) (n : Fin 32) (k : Nat) : Nat :=
  let g := s.drv.dg[n]
  let c := s.run.diag[n]
  match k with
  | 0 => pack [(1, bit c.offEn), (2, c.retryMode), (1, 0), (4, c.retryMax), (8, c.retryT), (4, c.pfLimit)]
  | 1 => pack [(5, g.fcode.code), (3, 0), (8, g.flags), (4, 0), (4, g.retryLeft), (4, g.pfRun)]
  | 2 => pack [(8, g.open_.cnt), (8, g.shortGnd.cnt), (8, g.shortSup.cnt), (8, g.shortLoad.cnt)]
  | 3 => pack [(8, g.offOpen.cnt), (8, g.offLeak.cnt), (8, g.overtemp.cnt), (8, g.legConflict.cnt)]
  | 4 => pack [(16, g.vDh), (16, g.vDl)]
  | 5 => twos 16 (s.drvTjOf n)
  | _ => 0

/-- ALARM bit [1] (R466). -/
def State.drvAlarm (s : State) : Bool :=
  (List.finRange 32).any fun n =>
    let d := s.drv.ch[n]
    d.phase == .fault || (s.drv.dg[n]).flags != 0 || d.pullinFail.set || d.goalMiss.set || d.boostNr.set

/-! ### The commands -/

/-- One off-state sample. -/
def execOffStateSample (dt : Nat) (ch : Fin 32) (vDh vDl : Nat) (s : State) : Host.Outcome State Fault Refusal :=
  .next ((s.advance dt).offSample ch vDh vDl)

/-- A short to supply is found. -/
def execDrvShortSupDetect (dt : Nat) (ch : Fin 32) (x : Sense) (s : State) : Host.Outcome State Fault Refusal :=
  .next ((s.advance dt).onShort ch .shortSup x)

/-- A short across the load is found. -/
def execDrvShortLoadDetect (dt : Nat) (ch : Fin 32) (x : Sense) (s : State) : Host.Outcome State Fault Refusal :=
  .next ((s.advance dt).onShort ch .shortLoad x)

/-- A short or leak to ground is found. -/
def execDrvShortGndDetect (dt : Nat) (ch : Fin 32) (x : Sense) (s : State) : Host.Outcome State Fault Refusal :=
  .next ((s.advance dt).onShort ch .shortGnd x)

/-- No current, or lost current, is found. -/
def execDrvOpenDetect (dt : Nat) (ch : Fin 32) (ma ns : Nat) (full : Bool) (s : State) : Host.Outcome State Fault Refusal :=
  .next ((s.advance dt).onOpen ch ma ns full)

/-- A wait ends: RISE starts; the hardware keeps a HEAT channel off while the permit is off, and it returns to PHASE 0 (R411, R412, R443;
log entry 117). -/
def State.waitOver (s : State) (n : Fin 32) : State :=
  if s.isHeat n && !s.permitOn then s.toPhase n .idle else s.startRise n

/-- V_RES reaches 0.9 × V_TGT during WAIT: RISE starts (R443). -/
def execBoostWaitReady (dt : Nat) (ch : Fin 32) (vRes : Nat) (s : State) : Host.Outcome State Fault Refusal :=
  let s := s.advance dt
  let c := feeds s ch (s.drv.ch[ch]).act.dirB
  .next <|
    if (s.drv.ch[ch]).phase == .wait then
      let s := s.mDrvCh c fun d => { d with vRes := vRes }
      if 9 * (s.drv.ch[c]).vTgt ≤ 10 * vRes then s.waitOver ch else s
    else s

/-- T_BOOST_WAIT runs out during WAIT: RISE starts (R443). -/
def execTBoostWaitExpire (dt : Nat) (ch : Fin 32) (s : State) : Host.Outcome State Fault Refusal :=
  let s := s.advance dt
  .next <|
    if (s.drv.ch[ch]).phase == .wait && (s.drv.ch[ch]).act.waitEnd ≤ s.clk.upNs then s.waitOver ch else s

/-- TJ reaches 170 °C (R448). -/
def execDrvOvertemp (dt : Nat) (ch : Fin 32) (tj : Int) (s : State) : Host.Outcome State Fault Refusal :=
  let s := (s.advance dt).mDiag ch fun g => { g with tj := tj }
  .next (if 1700 ≤ s.drvTjOf ch then s.overtemp ch else s)

/-- TJ falls to 140 °C: the channel returns to PHASE 0 (R449). -/
def execDrvOvertempRecover (dt : Nat) (ch : Fin 32) (tj : Int) (s : State) : Host.Outcome State Fault Refusal :=
  let s := (s.advance dt).mDiag ch fun g => { g with tj := tj }
  let m := s.seqCh ch
  .next (if s.drvTjOf ch ≤ 1400 && (s.drv.dg[m]).fcode == .overtemp then s.leaveFault m else s)

/-- A contradictory leg command in one chop period. -/
def execLegConflictDetect (dt : Nat) (ch : Fin 32) (s : State) : Host.Outcome State Fault Refusal :=
  let s := s.advance dt
  .next (if s.contradictory ch || (s.paired ch && s.injOn 0x040C (evenCh ch).val) then s.legConflict ch else s)

/-- RETRY_T has run after a fault. -/
def execDrvRetryTimer (dt : Nat) (ch : Fin 32) (s : State) : Host.Outcome State Fault Refusal :=
  let s := s.advance dt
  .next <|
    match (s.drv.dg[ch]).retryAt with
    | some t => if t ≤ s.clk.upNs && (s.drv.ch[ch]).phase == .fault then s.retry ch else s
    | none => s

/-- An hour without a fault restores RETRY_LEFT (R460). -/
def execDrvRetryRestore (dt : Nat) (ch : Fin 32) (s : State) : Host.Outcome State Fault Refusal :=
  let s := s.advance dt
  .next <|
    if s.lasted (s.drv.dg[ch]).cleanUp (sec 3600) && (s.drv.ch[ch]).phase != .fault then
      s.mDiag ch fun g => { g with retryLeft := (s.run.diag[ch]).retryMax, cleanUp := none }
    else s

/-- DRV_DIAG, KIND 0x01. -/
def execDrvDiagConfig (q : Req) (ch offEn retryMode retryMax retryT pfLimit : Byte) (s : State) : Host.Outcome State Fault Refusal :=
  .next ((drvDiagConfig ch.toNat offEn.toNat retryMode.toNat retryMax.toNat retryT.toNat pfLimit.toNat).serve q s)

/-- DRV_DIAG, KIND 0x02. -/
def execDrvDiagDirect (q : Req) (ch sw dur : Byte) (s : State) : Host.Outcome State Fault Refusal :=
  .next ((drvDiagDirect ch.toNat sw.toNat dur.toNat).serve q s)

/-- DUR of a direct drive ends: PHASE 0 (R471). -/
def execDirectDriveEnd (dt : Nat) (ch : Fin 32) (peak : Nat) (s : State) : Host.Outcome State Fault Refusal :=
  let s := s.advance dt
  .next <|
    match (s.drv.dg[ch]).direct with
    | some (e, _) =>
      if e ≤ s.clk.upNs then
        let s := s.mDiag ch fun g => { g with direct := none, peakI := peak, legRun := 0 }
        (if (s.drv.ch[ch]).phase == .idle then s.toPhase ch .idle else s).chargeReview
      else s
    | none => s

/-- DRV_FAULT_CLEAR. -/
def execDrvFaultClear (q : Req) (mask : Word) (flags : Byte) (s : State) : Host.Outcome State Fault Refusal :=
  .next ((drvFaultClear mask.toNat flags.toNat).serve q s)

end Sys2Proof.Machine
end

