-- ==== Sys2Proof/Machine/Emf.lean ====
section
/-! DEFINITION. The reference function of IEC 60584-1 that R255 names, for the thermocouple types J, K, T and N, and what the node makes of
it. The coefficients are the standard's (PRESUMED, log entry 6): in mV and °C, times 10^42. -/

namespace Sys2Proof.Machine

/-- Coefficients of type J from −210 to 760 °C, the constant one first. -/
def emfJ0 : List Int :=
  [0, 50381187815000000000000000000000000000000, 30475836930000000000000000000000000000, -85681065720000000000000000000000000,
   132281952950000000000000000000000, -170529583370000000000000000000, 209480906970000000000000000, -125383953360000000000000,
   15631725697000000000]

/-- Coefficients of type J from 760 to 1,200 °C, the constant one first. -/
def emfJ1 : List Int :=
  [296456256810000000000000000000000000000000000, -1497612778600000000000000000000000000000000, 3178710392400000000000000000000000000000,
   -3184768670100000000000000000000000000, 1572081900400000000000000000000000, -306913690560000000000000000000]

/-- Coefficients of type K from −270 to 0 °C, the constant one first. -/
def emfK0 : List Int :=
  [0, 39450128025000000000000000000000000000000, 23622373598000000000000000000000000000, -328589067840000000000000000000000000,
   -4990482877700000000000000000000000, -67509059173000000000000000000000, -574103274280000000000000000000,
   -3108887289400000000000000000, -10451609365000000000000000, -19889266878000000000000, -16322697486000000000]

/-- Coefficients of type K from 0 to 1,372 °C, its exponential term apart, the constant one first. -/
def emfK1 : List Int :=
  [-17600413686000000000000000000000000000000, 38921204975000000000000000000000000000000, 18558770032000000000000000000000000000,
   -99457592874000000000000000000000000, 318409457190000000000000000000000, -560728448890000000000000000000, 560750590590000000000000000,
   -320207200030000000000000, 97151147152000000000, -12104721275000000]

/-- Coefficients of type T from −270 to 0 °C, the constant one first. -/
def emfT0 : List Int :=
  [0, 38748106364000000000000000000000000000000, 44194434347000000000000000000000000000, 118443231050000000000000000000000000,
   20032973554000000000000000000000000, 901380195590000000000000000000000, 22651156593000000000000000000000,
   360711542050000000000000000000, 3849393988300000000000000000, 28213521925000000000000000, 142515947790000000000000,
   487686622860000000000, 1079553927000000000, 1394502706200000, 797951539270]

/-- Coefficients of type T from 0 to 400 °C, the constant one first. -/
def emfT1 : List Int :=
  [0, 38748106364000000000000000000000000000000, 33292227880000000000000000000000000000, 206182434040000000000000000000000000,
   -2188225684600000000000000000000000, 10996880928000000000000000000000, -30815758772000000000000000000, 45479135290000000000000000,
   -27512901673000000000000]

/-- Coefficients of type N from −270 to 0 °C, the constant one first. -/
def emfN0 : List Int :=
  [0, 26159105962000000000000000000000000000000, 10957484228000000000000000000000000000, -93841111554000000000000000000000000,
   -46412039759000000000000000000000, -2630335771600000000000000000000, -22653438003000000000000000000, -76089300791000000000000000,
   -93419667835000000000000]

/-- Coefficients of type N from 0 to 1,300 °C, the constant one first. -/
def emfN1 : List Int :=
  [0, 25929394601000000000000000000000000000000, 15710141880000000000000000000000000000, 43825627237000000000000000000000000,
   -252611697940000000000000000000000, 643118193390000000000000000000, -1006347151900000000000000000, 997453389920000000000000,
   -608632456070000000000, 208492293390000000, -30682196151000]

/-- A polynomial at `t` thousandths of a °C as a fraction: numerator and denominator. -/
def polyAt (c : List Int) (t : Int) : Int × Nat := c.reverse.foldl (fun a x => (a.1 * t + x * a.2, a.2 * 1000)) (0, 1)

/-- Its value in nV, rounded: the denominator carries one factor of 1,000 too many, and the coefficients are times 10^42. -/
def polyNv (c : List Int) (t : Int) : Int :=
  let p := polyAt c t
  roundDiv (p.1 * 1000000000) (p.2 * 10 ^ 42)

/-- The exponential term of type K above 0 °C, in nV: 118,597.6 nV × exp (−1.183432·10⁻⁴ × (t − 126.9686 °C)²). -/
def emfKExp (t : Int) : Int :=
  let u := (10 * t - 1269686).natAbs
  roundDiv (1185976 * (expNeg (1183432 * u * u * fxOne / 10 ^ 18) : Nat)) (10 * fxOne)

/-- The reference function of a built-in thermocouple table at `t` thousandths of a °C, in nV; none outside its span. -/
def refEmf (table : Nat) (t : Int) : Option Int :=
  match table with
  | 0 => if t < -210000 || 1200000 < t then none else some (polyNv (if t ≤ 760000 then emfJ0 else emfJ1) t)
  | 1 => if t < -270000 || 1372000 < t then none else some (if t ≤ 0 then polyNv emfK0 t else polyNv emfK1 t + emfKExp t)
  | 2 => if t < -270000 || 400000 < t then none else some (polyNv (if t ≤ 0 then emfT0 else emfT1) t)
  | 3 => if t < -270000 || 1300000 < t then none else some (polyNv (if t ≤ 0 then emfN0 else emfN1) t)
  | _ => none

/-- E(T_CJ) in nV of a built-in thermocouple table (R255): the reference function, with an error that the spec bounds by 0.5 µV and leaves
open otherwise; 0 at the reference temperature 0 °C. Outside the function's span the voltage is open (log entry 6). -/
def emfAt (table : Nat) (t : Int) : Int :=
  if t == 0 then 0
  else match refEmf table t with
    | some e => e + clampI (-500) 500 (Config.coldEmf table t)
    | none => Config.coldEmf table t

end Sys2Proof.Machine
end

