-- ==== Sys2Proof/Machine/FrontEnd.lean ====
section
/-! DEFINITION. The measurement front end of chapter 6: scans, conversions, cold junctions, recovery and burn-out, SM's own path for the
high limit (R628 to R631), and the opcodes and registers. -/

namespace Sys2Proof.Machine

/-! ### Calibration (R252, R254) -/

/-- A constant of the CAL image in service, its nominal value where the image failed its check (log entry 3). -/
def State.cal (s : State) (item : Nat) (nominal : Int) : Int := if s.fe.calOk then Config.calItem s.fe.calHash item else nominal

/-- The numerator of ρc over 2^64 (R252): OFS and GC are held times 2^32. -/
def State.rhoNum (s : State) (g : Fin 4) (gain : Nat) (raw : Int) : Int :=
  (raw * 512 - s.cal (8 * g.val + gain) 0) * (4294967296 + s.cal (0x100 + 8 * g.val + gain) 0)

/-- Table input X of a channel with configuration `c` in group `g` before the cold junction and before R250 (Table 6.4). -/
def State.xOf (s : State) (g : Fin 4) (c : ChCfg) (raw : Int) : Int :=
  let num := s.rhoNum g c.gain raw
  let den := 2 ^ (64 + c.gain)
  if isTc c.typ || c.typ == 0x0B then roundDiv (num * 2500000000) den
  else if c.typ == 8 then roundDiv (num * (if c.attIn then 12500000 else 2500000)) den
  else if c.typ == 9 then roundDiv (num * 2500000000 * 1000000) (den * (s.cal (0x220 + g.val) 50000000).toNat)
  else if isRtd c.typ || c.typ == 0x0C then roundDiv (num * s.cal (0x200 + g.val) 2000000000) (1000 * den)
  else if c.typ == 7 then
    let rest := (2 ^ 64 : Int) - num
    if rest ≤ 0 then 2 ^ 31 - 1
    else
      let up := s.cal (0x210 + g.val) 10000000000 * num
      roundDiv up (1000 * rest.toNat)
  else roundDiv (num * 500000000) den

/-! ### Cold junctions (R255 to R261, R842) -/

/-- The number of the sensor of channel `n`'s half-connector. -/
def cjOf (n : Fin 64) : Fin 8 := ⟨2 * (n.val / 16) + n.val % 16 / 8, by omega⟩

/-- The other sensor of the same connector. -/
def cjOther (n : Fin 64) : Fin 8 := ⟨2 * (n.val / 16) + (1 - n.val % 16 / 8), by omega⟩

/-- What a thermocouple channel's cold junction gives: T_CJ in 0.001 °C, CJ_FAULT, CJSRC. -/
structure CjSeen where
  t : Option Int
  fault : Bool
  src : Nat

/-- The configuration serves as CJ_CH of mode 1: PT100, PT1000 or NTC on a °C table (R261, R305). -/
def State.cjSource (s : State) (c : ChCfg) : Bool := isOhm c.typ && s.unitOf c == some 1

/-- T_CJ of channel `n` (R256 to R260). -/
def State.cjSeen (s : State) (n : Fin 64) (c : ChCfg) : CjSeen :=
  if c.cjMode == 2 then { t := some 0, fault := false, src := 3 }
  else if c.cjMode == 1 then
    match idx? 64 c.cjCh with
    | none => { t := none, fault := true, src := 2 }
    | some m =>
      let r := s.recNow m
      if m == n || !s.cjSource (s.fe.ch[m]).cfg || r.ovrHi || r.ovrLo || r.burnout || r.stale then
        { t := none, fault := true, src := 2 }
      else { t := some r.value, fault := false, src := 2 }
  else
    let a := (s.fe.cj[cjOf n]).temp
    let b := (s.fe.cj[cjOther n]).temp
    match a, b with
    | some x, some y => { t := some (x * 10), fault := decide (500 < (x - y).natAbs), src := (cjOf n).val % 2 }
    | some x, none => { t := some (x * 10), fault := false, src := (cjOf n).val % 2 }
    | none, some y => { t := some (y * 10), fault := true, src := (cjOther n).val % 2 }
    | none, none => { t := none, fault := true, src := 0xFF }

/-- E(T_CJ) in nV for a thermocouple TYPE (R255; log entry 6). -/
def emf (typ : Nat) (t : Int) : Int := emfAt (builtinFor typ) t

/-! ### Scans (R263 to R267, R292) -/

/-- Channel `n` takes the configuration accepted for it; recovery and burn-out are cleared, also where several changes end at the one in
effect (R292, R287, R843). -/
def State.adoptCh (s : State) (n : Fin 64) : State :=
  let c := s.run.chan[n]
  if (s.fe.ch[n]).cfg == c && !(s.fe.ch[n]).changed then s
  else s.mCh n fun x => { x with cfg := c, changed := false, rcd := {}, past := [], fresh := false, hold := none, posRun := 0, burnout := false,
                                 hasA := false }

/-- Group `g` takes the configuration accepted for it. -/
def State.adoptGroup (s : State) (g : Fin 4) : State :=
  (s.each (groupChans g) State.adoptCh).mGrp g fun x => { x with cfg := s.run.scan[g] }

/-- The channels of group `g` that get a slot. -/
def State.slotsOf (s : State) (g : Fin 4) : List (Fin 64) :=
  (groupChans g).filter fun n => (s.fe.ch[n]).cfg.typ != 0 && s.chAlive n

/-- The channel whose slot follows in group `g`. -/
def State.nextSlot (s : State) (g : Fin 4) : Option (Fin 64) :=
  (s.slotsOf g).find? fun n => match (s.fe.grp[g]).lastCh with
    | some l => l < n.val
    | none => true

/-- A scan of group `g` ends; where no channel is left in use, the group stops (R242). -/
def State.endScan (s : State) (g : Fin 4) : State :=
  let s := s.mGrp g fun x => { x with inScan := false }
  if (liveCfgs s.run.chan g).isEmpty then (s.adoptGroup g).mGrp g fun x => { x with scanning := false, clamped := false, cjDue := false, cjSeen := false }
  else s

/-- The scan configuration that times group `g`'s next scan: the one in effect, and for a group that does not scan the one accepted for it
(R265, R292; log entry 135). -/
def State.scanCfg (s : State) (g : Fin 4) : ScanCfg := if (s.fe.grp[g]).scanning then (s.fe.grp[g]).cfg else s.run.scan[g]

/-- A group may start a scan (R265, R296). -/
def State.scanMay (s : State) (g : Fin 4) : Bool :=
  s.ctrlRuns && !(s.fe.grp[g]).inScan && !s.domDead (8 + g.val) && !(liveCfgs s.run.chan g).isEmpty &&
    ((s.scanCfg g).mode == 0 || s.clk.ctNs / 1000 % periodUs (s.scanCfg g).period == 0)

/-- A scan of group `g` starts; when the group starts scanning, its CJ sensors are to be sampled (R842). -/
def State.scanBegin (s : State) (g : Fin 4) : State :=
  (s.adoptGroup g).mGrp g fun x =>
    { x with scanning := true, inScan := true, ended := s.ctUs, checkDone := false, lastCh := none, missed := false,
             cjDue := x.cjDue || !x.scanning }

/-- A process tick calls for a sample of the CJ sensors of every group that scans (R842). -/
def State.cjAsk (s : State) : State := s.each (List.finRange 4) fun s g => s.mGrp g fun x => { x with cjDue := x.scanning }

/-- Slips at a boundary of chain time `t` µs (R267). -/
def State.scanSlips (s : State) (t : Nat) : State :=
  s.each (List.finRange 4) fun s g =>
    s.mGrp g fun x =>
      if x.inScan && x.cfg.mode == 1 && t % periodUs x.cfg.period == 0 && x.ended < t && !x.missed then
        { x with scanSlip := x.scanSlip.raise, missed := true }
      else x

/-! ### SM's path for the high limit (R628 to R631) -/

/-- Which of HL_CH_A and HL_CH_B channel `n` is. -/
def Safe.hlIx (x : Safe) (n : Nat) : Option (Fin 2) := if x.cfg.hlA == n then some 0 else if x.cfg.hlB == n then some 1 else none

/-- A group holds a high-limit channel. -/
def Safe.hlGroup (x : Safe) (g : Nat) : Option (Fin 2) :=
  if x.cfg.hlA != 0xFF && x.cfg.hlA / 16 == g then some 0 else if x.cfg.hlB != 0xFF && x.cfg.hlB / 16 == g then some 1 else none

/-- The cold-junction temperature that SM takes through its own port: the half-connector's sensor, or the other one where that is
invalid (log entry 22). -/
def State.smCj (s : State) (n : Fin 64) : Option Int :=
  match (s.fe.cj[cjOf n]).temp with
  | some x => some (x * 10)
  | none => ((s.fe.cj[cjOther n]).temp).map fun x => x * 10

/-- T_SM in 0.001 °C from the table input before the cold junction; none where the RAW is clamped or no cold junction is valid. -/
def State.smTemp (s : State) (n : Fin 64) (c : ChCfg) (x : Int) (clamped : Bool) : Option Int :=
  if clamped then none
  else if isTc c.typ then (s.smCj n).map fun t => (interp (builtin (builtinFor c.typ)).pts (x + emf c.typ t)).1
  else some (interp (builtin (builtinFor c.typ)).pts x).1

/-- |T_SM − VALUE / 1,000| exceeds HL_XTOL (R630). -/
def SafeCfg.apart (c : SafeCfg) (t v : Int) : Bool := decide (c.hlXtol * 100 < (t - v).natAbs)

/-- SM judges a conversion of high-limit channel `k` (R628 to R630). -/
def State.smJudge (s : State) (k : Fin 2) (n : Fin 64) (r : ChRec) (t : Option Int) : State :=
  let c := s.safe.cfg
  let x := match t with
    | some v => c.apart v r.value
    | none => false
  let trip := match t with
    | some v => decide (c.hlT * 100 ≤ v)
    | none => false
  let invalid := r.bad || t.isNone || 0 < (s.fe.grp[groupOf n]).checkRun
  let s := s.mSafe fun y =>
    { y with hl := vmod y.hl k fun h =>
      { t := t, invalid := invalid, xRun := if x then h.xRun + 1 else 0,
        passRun := if x || t.isNone then 0 else satTo 3 (h.passRun + 1) } }
  let s := if trip then s.removePermit 0x07 (some .hlOver) false else s
  let s := if invalid then s.removePermit 0x08 none (s.injOn 0x0201 n.val || s.injOn 0x0202 n.val) else s
  if (s.safe.hl[k]).xRun == 3 then s.safetyFinding .hlDiag 0x0906 n.val else s

/-- SM sees a conversion of channel `n`. -/
def State.smConvert (s : State) (n : Fin 64) (r : ChRec) (x : Int) (clamped : Bool) : State :=
  match s.safe.hlIx n.val with
  | none => s
  | some k => s.smJudge k n r (s.smTemp n (s.fe.ch[n]).cfg x clamped)

/-! ### Conversions (R268 to R281, R848, R849) -/

/-- A conversion as it ended: its code, clamp, table input, midpoint, extension, count, whether it began late enough for R276. -/
structure Conv where
  raw : Int
  clamp : Option Bool
  x : Int
  mid : Nat
  ext : Bool
  cseq : Nat
  ok : Bool

/-- The held direction after a conversion (R276); while BURNOUT is set it stays positive (R280). -/
def Chan.holdNext (c : Chan) (v : Conv) : Option Bool :=
  match v.clamp with
  | some d => some (d || c.burnout)
  | none => if v.ok then none else c.hold

/-- Consecutive positive clamps after a conversion (R280). -/
def Chan.posNext (c : Chan) (v : Conv) : Nat := if v.clamp == some true then c.posRun + 1 else 0

/-- BURNOUT after a conversion (R280). -/
def Chan.burnNext (c : Chan) (v : Conv) : Bool :=
  (c.burnout && (c.holdNext v).isSome) || (3 ≤ c.posNext v && (c.cfg.burn != 0 || isOhm c.cfg.typ))

/-- VALUE, LIN_CLAMP, STALE and NO_TABLE of a conversion with a table (R253, R260, R272, R302, R312). -/
def valueOf (tbl : Option Table) (hold : Option Bool) (x : Option Int) (last : Int) : Int × Bool × Bool :=
  match tbl with
  | none => (0, false, true)
  | some t =>
    match hold with
    | some d => (tableEnd t.pts d, true, x.isNone)
    | none =>
      match x with
      | some v => ((interp t.pts v).1, (interp t.pts v).2, false)
      | none => (last, false, true)

/-- An injection acts on channel `n` (Table 6.8). -/
def State.chInjected (s : State) (n : Nat) : Bool := s.injOn 0x0201 n || s.injOn 0x0202 n || s.injOn 0x0906 n

/-- The offset that injection 0x0906 adds to VALUE, in 0.001 °C (Table 16.1). -/
def State.hlOffset (s : State) (n : Nat) : Int := if s.injOn 0x0906 n then 100 * signed 16 (s.injArg 0x0906 n % 65536) else 0

/-- The cold junction that a conversion of channel `n` takes. -/
def State.cjFor (s : State) (n : Fin 64) : CjSeen :=
  let c := s.fe.ch[n]
  if isTc c.cfg.typ then s.cjSeen n c.cfg else { t := some 0, fault := false, src := 0xFF }

/-- A conversion of channel `n` keeps the VALUE of the one before it: no T_CJ is valid, or a PARTNER recovers from a clamp (R260, R276). -/
def State.convHeld (s : State) (n : Fin 64) (v : Conv) : Bool :=
  let c := s.fe.ch[n]
  if c.cfg.typ == 0x0C then v.clamp.isNone && (c.holdNext v).isSome else (c.holdNext v).isNone && (s.cjFor n).t.isNone

/-- VALUE, LIN_CLAMP and STALE with NO_TABLE of a conversion of channel `n`. A PARTNER's is its lead resistance, `v.x` (R849). A table change
due by now is in effect (R312). -/
def State.convValue (s : State) (n : Fin 64) (v : Conv) : Int × Bool × Bool :=
  let c := s.fe.ch[n]
  if c.cfg.typ == 0x0C then (if s.convHeld n v then c.rcd.value else v.x, false, false)
  else
    valueOf (tableIn (s.tab.settle s.ctUs).eff c.cfg.tableNo) (c.holdNext v)
      ((s.cjFor n).t.map fun t => v.x + (if isTc c.cfg.typ then emf c.cfg.typ t else 0)) c.rcd.value

/-- The record of a conversion of channel `n` (Table 6.8, R269 to R281). -/
def State.convRec (s : State) (n : Fin 64) (v : Conv) : ChRec :=
  let c := s.fe.ch[n]
  let hold := c.holdNext v
  let (value, lin, stale) := s.convValue n v
  { value := clampI (-2147483648) 2147483647 (if s.convHeld n v then value else value + s.hlOffset n.val), raw := v.raw, gain := c.cfg.gainByte,
    ovrHi := hold == some true, ovrLo := hold == some false, burnout := c.burnNext v, linClamp := lin, settleExt := v.ext,
    stale := stale || (s.cjFor n).t.isNone, cjFault := (s.cjFor n).fault, safety := c.cfg.safety, injected := s.chInjected n.val,
    cseq := v.cseq, stamp := v.mid }

/-- Channel `n` takes the record `r` of conversion `v`. -/
def State.convKeep (s : State) (n : Fin 64) (v : Conv) (r : ChRec) : State :=
  s.mCh n fun y =>
    { y with rcd := r, past := (((s.ctUs : Int), r) :: y.past).take 6, fresh := true, hold := y.holdNext v, posRun := y.posNext v,
             burnout := y.burnNext v, ovr := y.ovr.raiseIf v.clamp.isSome,
             burn := y.burn.raiseIf (y.burnNext v && !y.burnout) }

/-- What the detectors of overrange and burn-out record (R671). -/
def State.convDetect (s : State) (n : Fin 64) (clamped burnt : Bool) : State :=
  let s := if clamped then s.detected 0x0201 n.val 0xFF else s
  if burnt then s.detected 0x0202 n.val 0xFF else s

/-- The record of a conversion of channel `n` is formed and moved; SM sees the conversion (R269 to R281, R628). -/
def State.convDone (s : State) (n : Fin 64) (v : Conv) : State :=
  let c := s.fe.ch[n]
  ((s.convKeep n v (s.convRec n v)).convDetect n v.clamp.isSome (c.burnNext v && !c.burnout)).smConvert n (s.convRec n v) v.x v.clamp.isSome

/-- The clamp of a conversion with the injections that force one (Table 16.2). -/
def State.clampSeen (s : State) (n : Nat) (clamp : Option Bool) : Option Bool :=
  if s.injOn 0x0201 n then some (s.injArg 0x0201 n % 2 == 0)
  else if s.injOn 0x0202 n then some true
  else clamp

/-- RAW of a conversion (R271). -/
def rawOf (raw : Int) (clamp : Option Bool) : Int :=
  match clamp with
  | some true => 0x7FFFFF
  | some false => -0x800000
  | none => clampI (-0x800000) 0x7FFFFF raw

/-- A pair's two records are formed at the end of the partner's conversion (R250, R268, R848, R849). -/
def State.finishPair (s : State) (p n : Fin 64) (v : Conv) : State :=
  let c := s.fe.ch[p]
  let g := groupOf p
  let a := s.xOf g c.cfg c.rawA
  let b := s.xOf g (s.fe.ch[n]).cfg v.raw
  let four := c.cfg.wires == 2
  let va : Conv := { raw := c.rawA, clamp := if v.clamp.isSome then some true else c.clampA, x := if four then b else a - 2 * b,
                     mid := ((c.midA + v.mid) / 2).toNat, ext := c.extA, cseq := c.cseq, ok := c.okA }
  let s := (s.mCh p fun x => { x with hasA := false }).convDone p va
  s.convDone n { v with x := if four then a - b else b }

/-- The state with the constants of a conversion that began at chain time `start` (R793). -/
def State.calFrom (s : State) (start : Nat) : State :=
  match s.fe.calWas with
  | some (t, h, ok) => if start < t then s.mFe fun x => { x with calHash := h, calOk := ok } else s
  | none => s

/-- OVD admits the end of recovery at a conversion of channel `n` that takes `t` µs and ends now (R276). -/
def State.ovdClear (s : State) (n : Fin 64) (t : Nat) : Bool :=
  let c := s.fe.ch[n]
  !c.ovdOut && match c.ovdUp with
    | some u => decide (u + ms 2 + t * 1000 ≤ s.clk.upNs)
    | none => true

/-- The conversion of channel `n` that ends now with code `raw0`. -/
def State.convOf (s : State) (n : Fin 64) (raw0 : Int) (clamp0 : Option Bool) : Conv :=
  let c := s.fe.ch[n]
  let g := groupOf n
  let t := convUs c.cfg.conv
  let clamp := s.clampSeen n.val clamp0
  { raw := rawOf raw0 clamp, clamp := clamp, x := (s.calFrom (s.ctUs - t)).xOf g c.cfg (rawOf raw0 clamp), mid := s.ctUs - t / 2,
    ext := (s.fe.grp[g]).clamped, cseq := (c.cseq + 1) % 65536, ok := s.ovdClear n t }

/-- The slot of channel `n` has ended: CSEQ, the group's place in its scan, the conversions counted for energy. -/
def State.convTaken (s : State) (n : Fin 64) (v : Conv) : State :=
  ((s.mCh n fun x => { x with cseq := v.cseq }).mGrp (groupOf n) fun x => { x with lastCh := some n.val, clamped := v.clamp.isSome }).mEnergy
    fun e => { e with now := { e.now with convN := e.now.convN + 1 } }

/-- What a conversion leads to: a primary's is kept for its partner, a partner's completes the pair, any other forms its record (R250). -/
def State.convForm (s : State) (n : Fin 64) (v : Conv) : State :=
  let c := s.fe.ch[n]
  if c.cfg.primary then
    s.mCh n fun x => { x with rawA := v.raw, clampA := v.clamp, midA := v.mid, extA := v.ext, hasA := true, okA := v.ok }
  else if c.cfg.typ == 0x0C then
    match idx? 64 (n.val - 1) with
    | some p => if n.val % 2 == 1 && (s.fe.ch[p]).hasA then s.finishPair p n v else s
    | none => s
  else s.convDone n v

/-- After a slot of group `g`, the scan ends where no slot follows. -/
def State.slotEnded (s : State) (g : Fin 4) : State := if (s.nextSlot g).isNone then s.endScan g else s

/-- A conversion of channel `n` ends with code `raw0`. -/
def State.convert (s : State) (n : Fin 64) (raw0 : Int) (clamp0 : Option Bool) : State :=
  let v := s.convOf n raw0 clamp0
  ((s.convTaken n v).convForm n v).slotEnded (groupOf n)

/-- The readings of a check slot pass (R631). -/
def State.checkPasses (s : State) (g : Fin 4) (zero ref : Int) : Bool :=
  let calv := s.cal (0x230 + g.val) (Config.calItem [] (0x230 + g.val))
  let off := if s.injOn 0x0204 g.val then signed 16 (s.injArg 0x0204 g.val % 65536) else 0
  zero.natAbs ≤ 0x2000 && decide ((ref * (10000 + off) - calv * 10000).natAbs ≤ 50 * calv.natAbs)

/-- What SM does at a check slot of a group that holds a high-limit channel (R631). -/
def State.checkSm (s : State) (g : Fin 4) (good : Bool) : State :=
  match s.safe.hlGroup g.val with
  | none => s
  | some k =>
    let s := s.mSafe fun y => { y with chkRun := vmod y.chkRun k fun r => if good then satTo 3 (r + 1) else 0 }
    if good then s
    else
      let s := s.removePermit 0x08 none (s.injOn 0x0204 g.val)
      if (s.fe.grp[g]).checkRun == 3 then s.safetyFinding .hlDiag 0x0204 g.val else s

/-- The check slot of group `g` has been judged. -/
def State.checkNoted (s : State) (g : Fin 4) (good : Bool) : State :=
  let s := s.mGrp g fun x =>
    { x with checkDone := true, clamped := false, checkRun := if good then 0 else x.checkRun + 1, checkFail := x.checkFail.raiseIf (!good) }
  if good then s else s.detected 0x0204 g.val 0xFF

/-- The check slot of group `g` ends with readings `zero` and `ref` (R631). -/
def State.checkSlot (s : State) (g : Fin 4) (zero ref : Int) : State :=
  let good := s.checkPasses g zero ref
  ((s.checkNoted g good).checkSm g good).slotEnded g

/-- A CJ sensor's reading `t`, in 0.01 °C (R257). -/
def State.cjSample (s : State) (i : Fin 8) (t0 : Int) : State :=
  let t := if s.injOn 0x0203 i.val then 20000 else t0
  let bad := t < -4500 || 10500 < t
  let was := (s.fe.cj[i]).faulty
  let s := s.mFe fun x => { x with cj := vmod x.cj i fun y =>
    { temp := if bad then none else some t, faulty := bad, flt := y.flt.raiseIf (bad && !was) } }
  if bad && !was then s.detected 0x0203 i.val 0xFF else s

/-! ### Opcodes (Table 6.9) -/

/-- The gain codes that a TYPE allows (Table 6.1). -/
def gainOk (typ gain : Nat) : Bool :=
  match typ with
  | 0 => true
  | 1 | 2 | 3 | 4 | 0x0A => inR 4 gain 7
  | 5 => inR 1 gain 3
  | 6 | 7 | 8 => gain == 0
  | 9 => gain ≤ 1
  | 0x0B => inR 1 gain 7
  | _ => false

/-- The WIRES that a TYPE allows (Table 6.1): an RTD on an even channel 2, 3 or 4 (R247), a BRIDGE 4 (log entry 134), any other 2. -/
def wiresOk (n typ wires : Nat) : Bool := if typ == 0x0A then wires == 2 else wires == 0 || (isRtd typ && n % 2 == 0)

/-- Step 1 of R289 for CH_CONFIG: codes and ranges, R247, R261, R279, the first conditions of R282, R304. -/
def State.chanCodesOk (s : State) (b : List Byte) : Bool :=
  let n := fieldAt b 0 1
  let c := ChCfg.ofBytes b
  n < 64 && c.typ ≤ 0x0B && c.wires ≤ 2 && fieldAt b 3 1 < 16 && gainOk c.typ c.gain && (!c.attOut || (c.typ == 8 && c.gain == 0)) &&
    c.conv ≤ 5 && c.burn ≤ 2 && (c.iexc ≤ 3 || !isRtd c.typ) && c.cjMode ≤ 2 && c.cjCh < 64 && (c.table ≤ 31 || c.table == 0xFF) && fieldAt b 11 1 ≤ 1 &&
    wiresOk n c.typ c.wires && (c.burn == 0 || isTc c.typ || c.typ == 0x0B) &&
    (c.cjMode != 1 || (c.cjCh != n && match idx? 64 c.cjCh with
      | some m => s.cjSource s.run.chan[m]
      | none => false)) &&
    (!c.safety || (isTc c.typ && c.burn == 2 && inR 4 c.gain 7) || isOhm c.typ) && s.tableFits c

/-- The running configuration with `c` on channel `n` and what that makes of the partner (R248). -/
def withChan (v : Vector ChCfg 64) (n : Fin 64) (c : ChCfg) : Vector ChCfg 64 :=
  let w := v.set n c
  match idx? 64 (n.val + 1) with
  | none => w
  | some m => if c.primary then w.set m c.partnerOf else if (v[n]).primary then w.set m {} else w

/-- RTD pairing refuses the order (R247, R248). -/
def State.pairBad (s : State) (n : Fin 64) (c : ChCfg) : Bool :=
  (s.run.chan[n]).typ == 0x0C ||
    (c.primary && match idx? 64 (n.val + 1) with
      | some m => (s.run.chan[m]).typ != 0
      | none => true)

/-- The channels whose accepted configuration changes are noted (R292). -/
def State.chanNoted (s : State) (v : Vector ChCfg 64) : State :=
  s.mFe fun x => { x with ch := Vector.ofFn fun m : Fin 64 => if v[m] == s.run.chan[m] then x.ch[m] else { x.ch[m] with changed := true } }

/-- CH_CONFIG (R289 to R293). -/
def chConfig (img : List Byte) : Op :=
  { opc := 0x32, needle := true, prot := .tagged, lenOk := img.length == 12, targets := fun _ => [(.item 0x01 (fieldAt img 0 1), false)],
    run := fun _ _ s =>
      if !s.chanCodesOk img then .bad .badParam s
      else match idx? 64 (fieldAt img 0 1) with
        | none => .bad .badParam s
        | some n =>
          let c := ChCfg.ofBytes img
          let old := s.run.chan[n]
          let v := withChan s.run.chan n c
          if s.pairBad n c then .bad .badState s
          else if old.safety && !c.safety && (s.safe.hlIx n.val).isSome then .bad .safetyLocked s
          else if s.permitOn && old.safety && old != c then .bad .heatActive s
          else if !timingOk v s.run.scan[groupOf n] (groupOf n) then .bad .badParam s
          else
            let s' := (s.chanNoted v).mRun fun r => { r with chan := v }
            .ok img (if (s.fe.grp[groupOf n]).inScan || !(liveCfgs v (groupOf n)).isEmpty then s' else s'.endScan (groupOf n)) }

/-- SCAN_CONFIG (R289, R291). -/
def scanConfig (g mode period : Nat) : Op :=
  Op.order 0x34 (.item 0x02 g) fun _ s =>
    match idx? 4 g with
    | none => .bad .badParam s
    | some i =>
      let c : ScanCfg := { mode := mode, period := period }
      if 1 < mode || 6 < period then .bad .badParam s
      else if s.permitOn && (liveCfgs s.run.chan i).any (fun x => x.safety) then .bad .heatActive s
      else if !timingOk s.run.chan c i then .bad .badParam s
      else .ok (c.toBytes g ++ leBytes 4 (tScan s.run.chan i) ++ leBytes 4 (tScanMax s.run.chan i))
        (s.mRun fun r => { r with scan := r.scan.set i c })

/-- STATE of channel `n` (Table 6.9). -/
def State.chState (s : State) (n : Fin 64) : Nat :=
  let c := s.fe.ch[n]
  if c.cfg.typ == 0 then 0
  else if !s.chAlive n then 4
  else if c.cfg.typ == 0x0C then 5
  else if c.burnout then 3
  else if c.hold.isSome then 2
  else 1

/-- CJSRC of channel `n`. -/
def State.cjSrc (s : State) (n : Fin 64) : Nat :=
  let c := (s.fe.ch[n]).cfg
  if isTc c.typ then (s.cjSeen n c).src else 0xFF

/-- FE.CH_EVTn (Table 6.14). -/
def State.regChEvt (s : State) (n : Fin 64) : Nat :=
  let c := s.fe.ch[n]
  pack [(1, bit c.ovr.set), (1, bit c.burn.set), (6, 0), (8, c.ovr.cnt), (8, c.burn.cnt)]

/-- A CJ sensor's TEMP. -/
def Cj.code (x : Cj) : Nat :=
  match x.temp with
  | some t => twos 16 t
  | none => 0x8000

/-- T_SCAN as FE.SCAN_Tg shows it: 0 until CTRL runs. -/
def State.tScanShown (s : State) (g : Fin 4) : Nat := if s.ctrlRuns then tScan s.run.chan g else 0

/-- CH_STATUS (R288). -/
def chStatus (ch count : Nat) : Op :=
  Op.read 0x33 fun _ s =>
    if !inR 1 count 64 || 64 < ch + count then .bad .badParam s
    else .ok (((span 64 ch count).flatMap fun n =>
        leBytes 1 n.val ++ leBytes 1 (s.fe.ch[n]).cfg.typ ++ leBytes 1 (s.chState n) ++ leBytes 1 (s.cjSrc n) ++ leBytes 4 (s.regChEvt n)) ++
      s.fe.cj.toList.flatMap (fun x => leBytes 2 x.code) ++
      (List.finRange 4).flatMap (fun g => leBytes 4 (s.tScanShown g))) s

/-! ### Registers (Tables 6.10 to 6.13) -/

/-- FE.SCAN_CFGg. -/
def State.regScanCfg (s : State) (g : Fin 4) : Nat := pack [(1, (s.run.scan[g]).mode), (3, (s.run.scan[g]).period)]

/-- FE.SCAN_Tg. -/
def State.regScanT (s : State) (g : Fin 4) : Nat := pack [(24, s.tScanShown g), (8, if s.ctrlRuns then scanSlots s.run.chan g else 0)]

/-- FE.GRP_STATg. -/
def State.regGrpStat (s : State) (g : Fin 4) : Nat :=
  let x := s.fe.grp[g]
  pack [(1, bit x.scanning), (1, bit x.scanSlip.set), (1, bit x.checkFail.set), (5, 0), (8, x.scanSlip.cnt), (8, x.checkFail.cnt)]

/-- FE.CJn. -/
def State.regCj (s : State) (n : Fin 8) : Nat :=
  let x := s.fe.cj[n]
  pack [(16, x.code), (1, bit x.temp.isSome), (1, bit x.flt.set), (6, 0), (8, x.flt.cnt)]

/-- FE.CH_CFGn. -/
def State.regChCfg (s : State) (n : Fin 64) : Nat :=
  let c := s.run.chan[n]
  pack [(8, c.typ), (3, c.gain), (1, bit c.attOut), (3, c.conv), (1, 0), (2, c.wires), (2, c.burn), (2, c.iexc), (1, 0),
        (1, bit c.safety), (8, c.table)]

/-- FE.CH_CFG2n. -/
def State.regChCfg2 (s : State) (n : Fin 64) : Nat :=
  let c := s.run.chan[n]
  pack [(8, c.settle), (2, c.cjMode), (6, 0), (6, c.cjCh)]

/-! ### The commands -/

/-- A group starts a scan (R265, R292). -/
def execScanStart (dt : Nat) (group : Fin 4) (s : State) : Host.Outcome State Fault Refusal :=
  let s := s.advance dt
  .next (if s.scanMay group then s.scanBegin group else s)

/-- The check-slot conversion completes (R263, R631); before a group's first, its CJ sensors have been sampled (R842). -/
def execCheckSlotEnd (dt : Nat) (group : Fin 4) (zero ref : Int) (s : State) : Host.Outcome State Fault Refusal :=
  let s := s.advance dt
  .next (if (s.fe.grp[group]).inScan && (s.fe.grp[group]).cjSeen && !(s.fe.grp[group]).checkDone then s.checkSlot group zero ref else s)

/-- A channel conversion completes (R269). -/
def execConversionEnd (dt : Nat) (ch : Fin 64) (raw : Int) (clamp : Option Bool) (s : State) : Host.Outcome State Fault Refusal :=
  let s := s.advance dt
  let g := s.fe.grp[groupOf ch]
  .next (if g.inScan && g.checkDone && s.nextSlot (groupOf ch) == some ch then
    (s.convert ch raw clamp).scDone ⟨(groupOf ch).val, by omega⟩ else s)

/-- Both cold-junction sensors of a connector have been sampled, as a scanning group calls for it (R842). -/
def execCjSampleEnd (dt : Nat) (pairN : Fin 4) (a b : Int) (s : State) : Host.Outcome State Fault Refusal :=
  let s := s.advance dt
  .next (if s.ctrlRuns && (s.fe.grp[pairN]).cjDue then
    ((s.mGrp pairN fun x => { x with cjDue := false, cjSeen := true }).cjSample ⟨2 * pairN.val, by omega⟩ a).cjSample
      ⟨2 * pairN.val + 1, by omega⟩ b
  else s)

/-- OVD sees the input beyond ±105 %, while the channel's domain is on (R275). -/
def execOvdTrip (dt : Nat) (ch : Fin 64) (_positive : Bool) (s : State) : Host.Outcome State Fault Refusal :=
  let s := s.advance dt
  .next (if s.domOn (ch.val / 8) then s.mCh ch fun x => { x with ovdOut := true, ovdUp := some s.clk.upNs } else s)

/-- The input is back within ±105 % (R276). -/
def execOvdClear (dt : Nat) (ch : Fin 64) (s : State) : Host.Outcome State Fault Refusal :=
  let s := s.advance dt
  .next (if (s.fe.ch[ch]).ovdOut then s.mCh ch fun x => { x with ovdOut := false, ovdUp := some s.clk.upNs } else s)

/-- CH_CONFIG. -/
def execChConfig (q : Req) (item : List Byte) (s : State) : Host.Outcome State Fault Refusal := .next ((chConfig item).serve q s)

/-- CH_STATUS. -/
def execChStatus (q : Req) (chN count : Byte) (s : State) : Host.Outcome State Fault Refusal :=
  .next ((chStatus chN.toNat count.toNat).serve q s)

/-- SCAN_CONFIG. -/
def execScanConfig (q : Req) (group mode period : Byte) (s : State) : Host.Outcome State Fault Refusal :=
  .next ((scanConfig group.toNat mode.toNat period.toNat).serve q s)

end Sys2Proof.Machine
end

