-- ==== Sys2Proof/Machine/Probes.lean ====
section
/-! DEFINITION. The dielectric moisture probes of chapter 8: the measurement cycle, the derivation of moisture, crop sets, calibration,
records, opcodes and registers. -/

namespace Sys2Proof.Machine

/-! ### Crop sets (Table 8.3) -/

/-- Number of moisture breakpoints of a crop image. -/
def cropNm (b : List Byte) : Nat := fieldAt b 1 1

/-- Number of temperature breakpoints of a crop image. -/
def cropNt (b : List Byte) : Nat := fieldAt b 2 1

/-- The moisture table. -/
def cropMoist (b : List Byte) : List (Int × Int) := pointsAt b (cropNm b) 28

/-- The temperature table. -/
def cropTemp (b : List Byte) : List (Int × Int) := pointsAt b (cropNt b) (28 + 8 * cropNm b)

/-- The length of a crop image (R377). -/
def cropLen (b : List Byte) : Nat := 32 + 8 * (cropNm b + cropNt b)

/-- An ASCII name padded with 0x00 (Tables 7.1 and 8.3). -/
def asciiName : List Byte → Bool
  | [] => true
  | b :: r => if b == 0 then r.all fun c => c == 0 else decide (b.toNat < 0x80) && asciiName r

/-- The image keeps Table 8.3 and its CCRC. -/
def cropOk (b : List Byte) : Bool :=
  fieldAt b 0 1 == 2 && inR 2 (cropNm b) 33 && inR 2 (cropNt b) 17 && fieldAt b 3 1 == 0 && fieldAt b 6 2 ≤ 5000 && fieldAt b 8 2 ≤ 10000 &&
    fieldAt b 10 2 ≤ 5000 && fieldAt b 12 2 ≤ 10000 && fieldAt b 14 2 ≤ 10000 && fieldAt b 16 2 ≤ 10000 && inR 1000 (fieldAt b 18 2) 10000 &&
    asciiName ((b.drop 20).take 8) &&
    risesX (cropMoist b) && risesX (cropTemp b) && (cropTemp b).all (fun p => decide (500000 ≤ p.2) && decide (p.2 ≤ 2000000)) &&
    crc32 (b.take (b.length - 4)) == fieldAt b (b.length - 4) 4

/-! ### From admittance to moisture (R358 to R361, R371) -/

/-- π times 10^18. -/
def piE18 : Int := 3141592653589793238

/-- The raw result of a measurement: C_f in fF and G_f in nS, for L, M, H. -/
structure ProbeRaw where
  c : Vector Int 3
  g : Vector Int 3
  guardBad : Bool

/-- The conditions of Table 8.4 on a measurement. -/
structure ProbeFaults where
  open_ : Bool
  short : Bool
  guard : Bool
  range : Bool
  temp : Bool

/-- Rounded and saturated to 16 bits (R375). -/
def sat16 (x : Int) : Nat := (clampI 0 65535 x).toNat

/-- ε′_f times C0. -/
def ProbePort.eps (p : ProbePort) (r : ProbeRaw) (f : Fin 3) : Int := r.c[f] - p.cStray[f]

/-- G_f − G_STRAY_f in nS. -/
def ProbePort.loss (p : ProbePort) (r : ProbeRaw) (f : Fin 3) : Int := r.g[f] - p.gStray[f]

/-- ε″_f times C0 is the loss times 10^6 over 2πf: times 5/π, 1/(4π) and 1/(40π) for L, M and H. -/
def lossScale (f : Fin 3) : Int × Int :=
  match f with
  | 0 => (5, 1)
  | 1 => (1, 4)
  | _ => (1, 40)

/-- ε″_f × 100, rounded (step 2). -/
def ProbePort.lossField (p : ProbePort) (r : ProbeRaw) (f : Fin 3) : Nat :=
  let k := lossScale f
  sat16 (roundDiv (p.loss r f * k.1 * 100 * 10 ^ 18) (k.2 * piE18 * p.c0).toNat)

/-- ε′_f × 100, rounded (step 1). -/
def ProbePort.epsField (p : ProbePort) (r : ProbeRaw) (f : Fin 3) : Nat := sat16 (roundDiv (p.eps r f * 100) p.c0)

/-- ε_c as a numerator over 4·10^6·π·C0, π times 10^18 (steps 3 to 5). -/
def ProbePort.epscNum (p : ProbePort) (r : ProbeRaw) (crop : List Byte) : Int :=
  let s := max 0 (p.loss r 2 * 10 ^ 20 - fieldAt crop 8 2 * 40 * piE18 * p.c0)
  let d := max 0 (1000 * p.eps r 0 - (1000 + fieldAt crop 12 2) * p.eps r 2)
  p.eps r 2 * 4000000 * piE18 - fieldAt crop 6 2 * s - fieldAt crop 10 2 * d * 4 * piE18

/-- Its denominator. -/
def ProbePort.epscDen (p : ProbePort) : Nat := (4000000 * piE18).toNat * p.c0

/-- |Y| at 100 kHz is at or above 10 mS (Table 8.4). -/
def ProbeRaw.shorted (r : ProbeRaw) : Bool :=
  let b := 2 * piE18 * r.c[0]
  decide ((10 : Int) ^ 52 ≤ r.g[0] * r.g[0] * 10 ^ 38 + b * b)

/-- C_f above 1,000 pF or G_f above 2 mS at some frequency. -/
def ProbeRaw.beyond (r : ProbeRaw) : Bool := r.c.toList.any (fun c => decide (1000000 < c)) || r.g.toList.any (fun g => decide (2000000 < g))

/-- D exceeds D_WET (R359); the spec states no D for an ε′_H of 0: there `free` stands (log entry 1). -/
def ProbePort.wet (p : ProbePort) (r : ProbeRaw) (crop : List Byte) (free : Bool) : Bool :=
  let h := p.eps r 2
  let l := p.eps r 0
  let w : Int := fieldAt crop 14 2
  if 0 < h then decide (w * h < (l - h) * 1000) else if h < 0 then decide ((l - h) * 1000 < w * h) else free

/-- ε″_M exceeds S_SALT (R359). -/
def ProbePort.salty (p : ProbePort) (r : ProbeRaw) (crop : List Byte) : Bool :=
  decide (fieldAt crop 16 2 * 4 * piE18 * p.c0 < p.loss r 1 * 100 * 10 ^ 18)

/-- The conditions of Table 8.4, with the injections 0x0301 to 0x0304 on port `n`. -/
def State.probeFaults (s : State) (n : Nat) (p : ProbePort) (r : ProbeRaw) : ProbeFaults :=
  let short := r.shorted || s.injOn 0x0302 n
  { open_ := decide (2 * p.eps r 2 < p.c0), short := short, guard := r.guardBad || s.injOn 0x0303 n, range := r.beyond && !short,
    temp := p.tBad }

/-- The measured values as the injections force them: C_H for ε′_H 0.30, C_H 1,100 pF. -/
def State.probeForced (s : State) (n : Nat) (p : ProbePort) (r : ProbeRaw) : ProbeRaw :=
  if s.injOn 0x0301 n then { r with c := r.c.set 2 (p.cStray[2] + 3 * p.c0 / 10) }
  else if s.injOn 0x0304 n then { r with c := r.c.set 2 1100000 }
  else r

/-- MOIST, EPSC, MOIST_CLAMP and TCOMP_CLAMP of a good measurement (Table 8.2). -/
def ProbePort.moist (p : ProbePort) (r : ProbeRaw) (crop : List Byte) : Int × Nat × Bool × Bool :=
  let num := p.epscNum r crop
  let den := p.epscDen
  let ct := interp (cropTemp crop) p.tVal
  let mu := interp (cropMoist crop) (roundDiv (num * 1000000000) (den * ct.1.toNat))
  (roundDiv (mu.1 * p.gain + p.ofs * 10000) 10000, sat16 (roundDiv (num * 1000) den), mu.2, ct.2)

/-- The record of Table 8.5 without STALE. -/
def ProbePort.record (p : ProbePort) (r : ProbeRaw) (f : ProbeFaults) (free inj : Bool) (start : Int) : List Byte :=
  let crop := p.cropIm
  let empty := decide (p.eps r 2 * 1000 < fieldAt crop 18 2 * p.c0) && !f.open_
  let bad := f.open_ || f.short || f.guard || f.range || f.temp || empty
  let wet := p.wet r crop free
  let m := p.moist r crop
  let fl := pack [(1, bit f.open_), (1, bit f.short), (1, bit f.guard), (1, bit f.range), (1, bit f.temp), (1, 0), (1, bit empty),
                  (1, bit wet), (1, bit (p.salty r crop && !wet)), (1, bit (m.2.2.1 && !bad)), (1, bit (m.2.2.2 && !bad)), (1, bit inj)]
  (if bad then leBytes 4 0x80000000 else leInt 4 m.1) ++ leInt 4 p.tVal ++ leBytes 2 (if bad then 0 else m.2.1) ++
    leBytes 2 (p.epsField r 0) ++ leBytes 2 (p.epsField r 1) ++ leBytes 2 (p.epsField r 2) ++ leBytes 2 (p.lossField r 0) ++
    leBytes 2 (p.lossField r 1) ++ leBytes 2 (p.lossField r 2) ++ leBytes 2 fl ++ leBytes 2 p.pseq ++ leBytes 1 p.crop ++
    leBytes 1 p.calgen ++ leInt 4 (start + 16000)

/-! ### The cycle (R351 to R356) -/

/-- PERIOD in ms. -/
def probePeriodMs (code : Nat) : Nat :=
  match code with
  | 0 => 1000
  | 1 => 2000
  | 2 => 5000
  | 3 => 10000
  | 4 => 30000
  | _ => 60000

/-- TCH is usable: a channel on a °C table (R357). -/
def State.tchOk (s : State) (tch : Nat) : Bool :=
  match idx? 64 tch with
  | some n => s.unitOf s.run.chan[n] == some 1
  | none => false

/-- Port `n`'s measurement starts at chain time `t` µs (R351, R356, R363). -/
def State.portStart (s : State) (n : Fin 8) (t : Int) : State :=
  let p := s.die.port[n]
  let r : ChRec := match idx? 64 p.tch with
    | some c => s.recAt c t
    | none => { stale := true }
  let im := match idx? 8 p.crop with
    | some k => s.die.crop[k]
    | none => []
  let s := s.mPort n fun x =>
    { x with started := some t, tVal := r.value, tBad := r.bad || !s.tchOk p.tch, cropIm := im, airNow := x.airTicket.isSome }
  s.mDie fun d => { d with run := true, act := n.val, actUs := t }

/-- The enabled ports from `k` on. -/
def Probes.portsFrom (d : Probes) (k : Nat) : List (Fin 8) := (List.finRange 8).filter fun n => k ≤ n.val && (d.port[n]).en

/-- A cycle starts at chain time `t` µs (R351, R381). -/
def State.cycleStart (s : State) (t : Nat) : State :=
  let per := 1000 * probePeriodMs s.die.cycPeriod
  let ofs := 1000 * s.die.cycOfs
  if s.ctrlRuns && !s.die.run && !s.domDead 12 && ofs ≤ t && (t - ofs) % per == 0 then
    match s.die.portsFrom 0 with
    | n :: _ => s.portStart n t
    | [] => s
  else s

/-- The reply data of PROBE_CAL. -/
def State.calEntry (s : State) (n : Fin 8) : List Byte :=
  let p := s.die.port[n]
  leBytes 1 n.val ++ leBytes 1 p.calgen ++ leBytes 1 p.pts.length ++ leInt 2 p.gain ++ leInt 4 p.ofs ++
    p.cStray.toList.flatMap (leInt 2) ++ p.gStray.toList.flatMap (leInt 2)

/-- The strays of an AIR measurement are in range (R366). -/
def airOk (c0 : Nat) (r : ProbeRaw) : Bool :=
  r.c.toList.all (fun c => decide (0 ≤ c - c0) && decide (c - c0 ≤ 20000)) && r.g.toList.all fun g => decide (g ≤ 20000)

/-- The pending AIR operation of port `n` ends with its measurement (R365, R366). -/
def State.airEnd (s : State) (n : Fin 8) (r : ProbeRaw) (f : ProbeFaults) : State :=
  let p := s.die.port[n]
  match (if p.airNow then p.airTicket else none) with
  | none => s
  | some t =>
    if !airOk p.c0 r || f.open_ || f.short || f.guard || f.range then
      (s.mPort n fun x => { x with airTicket := none, airNow := false }).finish t .badState []
    else
      let s := s.mPort n fun x =>
        { x with cStray := r.c.map fun c => c - x.c0, gStray := r.g, pts := [], calgen := (x.calgen + 1) % 256, airTicket := none, airNow := false }
      s.finish t .ok (s.calEntry n)

/-- A condition of Table 8.4 is recorded: its flag rises at each setting (R371, R374). -/
def State.probeNote (s : State) (n : Fin 8) (f : ProbeFaults) : State :=
  let p := s.die.port[n]
  let s := s.mPort n fun x =>
    { x with fOpen := f.open_, fShort := f.short, fGuard := f.guard, fRange := f.range, evOpen := x.evOpen.raiseIf (f.open_ && !x.fOpen),
             evShort := x.evShort.raiseIf (f.short && !x.fShort), evGuard := x.evGuard.raiseIf (f.guard && !x.fGuard),
             evRange := x.evRange.raiseIf (f.range && !x.fRange) }
  let s := if f.open_ && !p.fOpen then s.detected 0x0301 n.val 0xFF else s
  let s := if f.short && !p.fShort then s.detected 0x0302 n.val 0xFF else s
  let s := if f.guard && !p.fGuard then s.detected 0x0303 n.val 0xFF else s
  if f.range && !p.fRange then s.detected 0x0304 n.val 0xFF else s

/-- The measurement of port `n` that started at `start` ends (R358 to R361, R371 to R375). A port reconfigured since leaves no record. -/
def State.portEnd (s : State) (n : Fin 8) (r0 : ProbeRaw) (start : Int) : State :=
  let s := s.mPort n fun x => { x with pseq := (x.pseq + 1) % 65536 }
  let p := s.die.port[n]
  match p.started with
  | none => s
  | some _ =>
    let r := s.probeForced n.val p r0
    let f := s.probeFaults n.val p r
    let inj := (List.range 4).any fun k => s.injOn (0x0301 + k) n.val
    let free := s.freeNat 1 == 1
    let s := if p.eps r 2 == 0 then s.drew else s
    let s := s.mPort n fun x =>
      { x with older := x.rcd, olderEnded := x.ended, rcd := p.record r f free inj start, ready := start + 32000, ended := start + 31000, started := none }
    (s.probeNote n f).airEnd n r f

/-- The next enabled port starts when the one before it ends; after the last the cycle ends (R351). -/
def State.portNext (s : State) (after : Nat) (t : Int) : State :=
  match s.die.portsFrom (after + 1) with
  | n :: _ => s.portStart n t
  | [] => s.mDie fun d => { d with run := false }

/-- The port being measured ends its measurement, 31 ms after its start (Table 8.1). -/
def State.measureEnd (s : State) (r : ProbeRaw) : State :=
  match (if s.die.run && decide (s.die.actUs + 31000 ≤ s.ctUs) then idx? 8 s.die.act else none) with
  | none => s
  | some n =>
    let t := s.die.actUs
    (s.portEnd n r t).portNext n.val (t + 31000)

/-! ### Records in snapshots (R354, R361, R372, R375) -/

/-- A record with STALE set. -/
def probeStale (r : List Byte) : List Byte := r.set 22 (BitVec.ofNat 8 ((r.getD 22 0).toNat ||| 0x20))

/-- The record of a port under whose present configuration no measurement has completed. -/
def ProbePort.blank (p : ProbePort) : List Byte :=
  leBytes 4 0x80000000 ++ List.replicate 18 0 ++ leBytes 2 0x20 ++ leBytes 2 p.pseq ++ leBytes 1 p.crop ++ leBytes 1 p.calgen ++ leBytes 4 0

/-- The record of port `n` that a snapshot of boundary `b` µs holds. -/
def State.probeRec (s : State) (n : Fin 8) (b : Nat) : List Byte :=
  let p := s.die.port[n]
  if !p.en then List.replicate 32 0
  else
    let newest := decide (p.ready < b)
    let late := decide ((if newest then p.ended else p.olderEnded) + 2000 * probePeriodMs s.die.cycPeriod + 10000 < b) || s.domDead 12
    let r := if newest then p.rcd else p.older
    if r.isEmpty then p.blank else if late then probeStale r else r

/-- PFLAGS of a record. -/
def probeFlags (r : List Byte) : Nat := fieldAt r 22 2

/-- The DPF bit of a record (R373). -/
def probeFault (r : List Byte) : Bool := bitsOf (probeFlags r) 0 6 != 0

/-- DPF as the records stand at chain time `t` µs. -/
def State.dpf (s : State) (t : Nat) : Nat := maskOf 8 fun i => if h : i < 8 then probeFault (s.probeRec ⟨i, h⟩ t) else false

/-! ### Opcodes (Table 8.7) -/

/-- A port entry of MODE 1. -/
def State.portEntry (s : State) (n : Fin 8) : List Byte :=
  let p := s.die.port[n]
  leBytes 1 n.val ++ leBytes 1 (bit p.en) ++ leBytes 1 p.tch ++ leBytes 1 p.crop ++ leBytes 2 p.c0 ++ leBytes 1 p.calgen ++
    leBytes 1 p.pts.length ++ leInt 2 p.gain ++ leInt 4 p.ofs ++ p.cStray.toList.flatMap (leInt 2) ++ p.gStray.toList.flatMap (leInt 2)

/-- PROBE_READ MODE 1. -/
def probeReadConfig (port count : Nat) : Op :=
  Op.read 0x35 fun _ s =>
    if count == 0 || 8 < port + count then .bad .badParam s
    else .ok (leBytes 1 1 ++ leBytes 1 s.die.period ++ leBytes 2 s.die.startOfs ++ (span 8 port count).flatMap s.portEntry) s

/-- PROBE_READ MODE 2 (R378). -/
def probeReadCrop (k : Nat) : Op :=
  Op.read 0x35 fun _ s =>
    match idx? 8 k with
    | none => .bad .badParam s
    | some i => if (s.die.crop[i]).isEmpty then .bad .badState s else .ok (leBytes 1 2 ++ leBytes 1 k ++ s.die.crop[i]) s

/-- The cycle fits PERIOD with `n` ports enabled (R353). -/
def cycleFits (period ofs n : Nat) : Bool := ofs + 31 * n ≤ probePeriodMs period

/-- A new configuration of port `n` (R361, R370). A measurement under way under the old one leaves no record; an AIR operation on a
port that is disabled ends with BAD_STATE (log entry 26). -/
def State.setPort (s : State) (n : Fin 8) (en : Bool) (tch crop c0 : Nat) : State :=
  let p := s.die.port[n]
  if p.en == en && p.tch == tch && p.crop == crop && p.c0 == c0 then s
  else
    let recal := p.crop != crop || p.c0 != c0
    let s := s.mPort n fun x =>
      { x with en := en, tch := tch, crop := crop, c0 := c0, started := none, rcd := [], older := [],
               gain := if recal then 10000 else x.gain, ofs := if recal then 0 else x.ofs, pts := if recal then [] else x.pts,
               calgen := if recal then (x.calgen + 1) % 256 else x.calgen,
               cStray := if p.c0 != c0 then Vector.replicate 3 0 else x.cStray,
               gStray := if p.c0 != c0 then Vector.replicate 3 0 else x.gStray }
    match (if en then none else p.airTicket) with
    | some t => (s.mPort n fun x => { x with airTicket := none, airNow := false }).finish t .badState []
    | none => s

/-- PROBE_CONFIG KIND 0x01 (R353, R357, R370, R377, R378). -/
def probeConfigPort (port en tch crop c0 : Nat) : Op :=
  Op.order 0x36 (.item 0x03 port) fun _ s =>
    match idx? 8 port, idx? 8 crop with
    | some n, some k =>
      let others := ((s.die.portsFrom 0).filter fun m => m != n).length
      if 1 < en || !s.tchOk tch || !inR 2000 c0 50000 || !cycleFits s.die.period s.die.startOfs (others + en) then .bad .badParam s
      else if en == 1 && (s.die.crop[k]).isEmpty then .bad .badState s
      else .ok (leBytes 1 1 ++ leBytes 1 port ++ leBytes 1 en ++ leBytes 1 tch ++ leBytes 1 crop ++ leBytes 2 c0)
        (s.setPort n (en == 1) tch crop c0)
    | _, _ => .bad .badParam s

/-- PROBE_CONFIG KIND 0x02 (R362, R377). -/
def probeConfigCrop (k : Nat) (img : List Byte) : Op :=
  Op.orderLen 0x36 (.crop k) (img.length == cropLen img) fun _ s =>
    match idx? 8 k with
      | none => .bad .badParam s
      | some i =>
        if !cropOk img then .bad .badParam s
        else .ok (leBytes 1 2 ++ leBytes 1 k ++ leBytes 2 (fieldAt img 4 2) ++ leBytes 4 (fieldAt img (img.length - 4) 4))
          (s.mDie fun d => { d with crop := d.crop.set i img })

/-- PROBE_CONFIG KIND 0x03 (R378). -/
def probeConfigErase (k : Nat) : Op :=
  Op.order 0x36 (.crop k) fun _ s =>
    match idx? 8 k with
    | none => .bad .badParam s
    | some i =>
      if s.die.port.toList.any (fun p => p.en && p.crop == k) then .bad .badState s
      else .ok (leBytes 1 3 ++ leBytes 1 k) (s.mDie fun d => { d with crop := d.crop.set i [] })

/-- PROBE_CONFIG KIND 0x04 (R353). -/
def probeConfigCycle (period ofs : Nat) : Op :=
  Op.order 0x36 (.item 0x04 0) fun _ s =>
    if 5 < period || 59999 < ofs || !cycleFits period ofs (s.die.portsFrom 0).length then .bad .badParam s
    else .ok (leBytes 1 4 ++ leBytes 1 period ++ leBytes 2 ofs)
      (s.mDie fun d => { d with period := period, startOfs := ofs, cycPeriod := period, cycOfs := ofs })

/-- Chain time in µs until the measurement that starts at or after now ends, on port `n`: the estimate behind EST. -/
def State.airWait (s : State) (n : Fin 8) : Nat :=
  let per := 1000 * probePeriodMs s.die.cycPeriod
  let before := ((s.die.portsFrom 0).filter fun m => m.val < n.val).length
  let at' := 1000 * s.die.cycOfs + 31000 * before
  (per - (s.ctUs + per - at' % per) % per) % per + 31000

/-- PROBE_CAL KIND 0x01 AIR (R365, R378). -/
def probeCalAir (port : Nat) : Op :=
  { Op.order 0x37 (.probe port) (fun q s =>
      match idx? 8 port with
      | none => .bad .badParam s
      | some n =>
        if !(s.die.port[n]).en then .bad .badState s
        else if (s.die.port[n]).airTicket.isSome then .bad .busy s
        else s.withTicket q 0x37 ((s.airWait n + 9999) / 10000) fun t s => s.mPort n fun x => { x with airTicket := some t })
    with pends := true }

/-- PROBE_CAL on enabled port `port`, carried out by `f`. -/
def probeCal (port : Nat) (f : Fin 8 → State → Res) : Op :=
  Op.order 0x37 (.probe port) fun _ s =>
    match idx? 8 port with
    | none => .bad .badParam s
    | some n => if (s.die.port[n]).en then f n s else .bad .badState s

/-- PROBE_CAL KIND 0x02 SAMPLE (R367, R378, R379). -/
def probeCalSample (port oven rcd calgen : Nat) : Op :=
  Op.order 0x37 (.probe port) fun _ s =>
    match idx? 8 port with
    | none => .bad .badParam s
    | some n =>
      let p := s.die.port[n]
      if 60000 < oven || 60000 < rcd then .bad .badParam s
      else if !p.en || p.calgen != calgen || 8 ≤ p.pts.length then .bad .badState s
      else
        let s' := s.mPort n fun x => { x with pts := ((rcd : Int), (oven : Int)) :: x.pts }
        .ok (s'.calEntry n) s'

/-- The line of R368 as fractions: a = num / den, b = bnum / bden. -/
def fitLine (pts : List (Int × Int)) : Int × Nat × Int × Nat :=
  let n : Int := pts.length
  let sx := (pts.map fun p => p.1).sum
  let sy := (pts.map fun p => p.2).sum
  let xs := pts.map fun p => p.1
  let wide := match xs.max?, xs.min? with
    | some hi, some lo => decide (2000 ≤ hi - lo)
    | _, _ => false
  if !wide then (1, 1, sy - sx, pts.length)
  else
    let a := n * (pts.map fun p => p.1 * p.2).sum - sx * sy
    let d := n * (pts.map fun p => p.1 * p.1).sum - sx * sx
    (a, d.toNat, sy * d - a * sx, (n * d).toNat)

/-- PROBE_CAL KIND 0x03 APPLY (R368, R369, R378). -/
def probeCalApply (port : Nat) : Op :=
  probeCal port fun n s =>
    let p := s.die.port[n]
    if p.pts.isEmpty then .bad .badState s
    else
      let (a, d, bn, bd) := fitLine p.pts
      let gain := roundDiv (a * p.gain) d
      let ofs := roundDiv (a * p.ofs * bd + bn * d) (d * bd)
      if gain < 8000 || 12500 < gain || ofs < -5000 || 5000 < ofs then .bad .badParam s
      else
        let s' := s.mPort n fun x => { x with gain := gain, ofs := ofs, pts := [], calgen := (x.calgen + 1) % 256 }
        .ok (s'.calEntry n) s'

/-- PROBE_CAL KIND 0x04 RESET. -/
def probeCalReset (port : Nat) : Op :=
  probeCal port fun n s =>
    let s' := s.mPort n fun x => { x with gain := 10000, ofs := 0, pts := [], calgen := (x.calgen + 1) % 256 }
    .ok (s'.calEntry n) s'

/-- PROBE_CAL KIND 0x05 DISCARD. -/
def probeCalDiscard (port : Nat) : Op :=
  probeCal port fun n s =>
    let s' := s.mPort n fun x => { x with pts := [] }
    .ok (s'.calEntry n) s'

/-! ### Registers (Table 8.8) -/

/-- DIE.STAT. -/
def State.regDieStat (s : State) : Nat :=
  pack [(1, bit s.die.run), (3, s.die.act), (1, bit (s.die.port.toList.any fun p => p.airTicket.isSome))]

/-- DIE.CYC. -/
def State.regDieCyc (s : State) : Nat := pack [(3, s.die.cycPeriod), (13, 0), (16, s.die.cycOfs)]

/-- DIE.EVTn. -/
def State.regDieEvt (s : State) (n : Fin 8) : Nat :=
  let p := s.die.port[n]
  pack [(1, bit p.evOpen.set), (1, bit p.evShort.set), (1, bit p.evGuard.set), (1, bit p.evRange.set)]

/-- DIE.CNTn. -/
def State.regDieCnt (s : State) (n : Fin 8) : Nat :=
  let p := s.die.port[n]
  pack [(8, p.evOpen.cnt), (8, p.evShort.cnt), (8, p.evGuard.cnt), (8, p.evRange.cnt)]

/-! ### The commands -/

/-- A cycle starts. -/
def execProbeCycleStart (dt : Nat) (s : State) : Host.Outcome State Fault Refusal :=
  let s := s.advance dt
  .next (s.cycleStart s.ctUs)

/-- The measurement of the port under way ends. -/
def execProbeMeasureEnd (dt : Nat) (cL gL cM gM cH gH : Int) (guardBad : Bool) (s : State) : Host.Outcome State Fault Refusal :=
  .next ((s.advance dt).measureEnd { c := #v[cL, cM, cH], g := #v[gL, gM, gH], guardBad := guardBad })

/-- PROBE_READ MODE 1. -/
def execProbeReadConfig (q : Req) (portN count : Byte) (s : State) : Host.Outcome State Fault Refusal :=
  .next ((probeReadConfig portN.toNat count.toNat).serve q s)

/-- PROBE_READ MODE 2. -/
def execProbeReadCrop (q : Req) (cslot : Byte) (s : State) : Host.Outcome State Fault Refusal :=
  .next ((probeReadCrop cslot.toNat).serve q s)

/-- PROBE_CONFIG KIND 0x01. -/
def execProbeConfigPort (q : Req) (portN en tch crop : Byte) (c0 : Half) (s : State) : Host.Outcome State Fault Refusal :=
  .next ((probeConfigPort portN.toNat en.toNat tch.toNat crop.toNat c0.toNat).serve q s)

/-- PROBE_CONFIG KIND 0x02. -/
def execProbeConfigCrop (q : Req) (cslot : Byte) (image : List Byte) (s : State) : Host.Outcome State Fault Refusal :=
  .next ((probeConfigCrop cslot.toNat image).serve q s)

/-- PROBE_CONFIG KIND 0x03. -/
def execProbeConfigCropErase (q : Req) (cslot : Byte) (s : State) : Host.Outcome State Fault Refusal :=
  .next ((probeConfigErase cslot.toNat).serve q s)

/-- PROBE_CONFIG KIND 0x04. -/
def execProbeConfigCycle (q : Req) (period : Byte) (startOfs : Half) (s : State) : Host.Outcome State Fault Refusal :=
  .next ((probeConfigCycle period.toNat startOfs.toNat).serve q s)

/-- PROBE_CAL KIND 0x01. -/
def execProbeCalAir (q : Req) (portN : Byte) (s : State) : Host.Outcome State Fault Refusal := .next ((probeCalAir portN.toNat).serve q s)

/-- PROBE_CAL KIND 0x02. -/
def execProbeCalSample (q : Req) (portN : Byte) (mOven mRec : Word) (calgen : Byte) (s : State) : Host.Outcome State Fault Refusal :=
  .next ((probeCalSample portN.toNat mOven.toNat mRec.toNat calgen.toNat).serve q s)

/-- PROBE_CAL KIND 0x03. -/
def execProbeCalApply (q : Req) (portN : Byte) (s : State) : Host.Outcome State Fault Refusal :=
  .next ((probeCalApply portN.toNat).serve q s)

/-- PROBE_CAL KIND 0x04. -/
def execProbeCalReset (q : Req) (portN : Byte) (s : State) : Host.Outcome State Fault Refusal :=
  .next ((probeCalReset portN.toNat).serve q s)

/-- PROBE_CAL KIND 0x05. -/
def execProbeCalDiscard (q : Req) (portN : Byte) (s : State) : Host.Outcome State Fault Refusal :=
  .next ((probeCalDiscard portN.toNat).serve q s)

end Sys2Proof.Machine
end

