-- ==== Sys2Proof/Machine/Programme.lean ====
section
/-! DEFINITION. The programme of chapter 12: its items and opcodes, what it reads, how it changes state. -/

namespace Sys2Proof.Machine

/-- PSTATE codes of Table 12.2. -/
def PState.code : PState → Nat
  | .idle => 0
  | .start => 1
  | .run => 2
  | .hold => 3
  | .heatLock => 4
  | .cooldown => 5
  | .fill => 6
  | .unload => 7
  | .done => 8
  | .aborted => 9

/-- IDLE, DONE or ABORTED. -/
def PState.ended : PState → Bool
  | .idle | .done | .aborted => true
  | _ => false

/-! ### Items (R519, R556, Table 12.10) -/

/-- VALUE is in the range of its row, where the row names no other item. -/
def ItemForm.admits (f : ItemForm) (v : Int) : Bool :=
  let byte := fun k => bitsOf v.toNat (8 * k) 8
  match f with
  | .num lo hi => lo ≤ v && v ≤ hi
  | .chan => (0 ≤ v && v ≤ 63) || v == 0xFF
  | .packed n => (List.range 4).all fun k => byte k < n || byte k == 0xFF
  | .input => (byte 0 < 16 || byte 0 == 0xFF) && (byte 1 ≤ 1 || byte 1 == 0xFF) && byte 2 == 0xFF && byte 3 == 0xFF

/-- VALUE as its row reads four bytes. -/
def ItemRow.read (r : ItemRow) (b : List Byte) : Int :=
  match r.form with
  | .num _ _ => sfieldAt b 0 4
  | _ => (fieldAt b 0 4 : Int)

/-- An item's ID and VALUE as sent. -/
def itemBytes (x : Nat × Int) : List Byte := leBytes 2 x.1 ++ leInt 4 x.2

/-- `count` items read from a payload; none where an ID is unknown. -/
def itemPairs : Nat → List Byte → Option (List (Nat × Int))
  | 0, _ => some []
  | n + 1, b =>
    match itemRow (fieldAt b 0 2), itemPairs n (b.drop 6) with
    | some r, some l => some ((r.id, r.read (b.drop 2)) :: l)
    | _, _ => none

/-- `x` put into a list of items whose IDs rise strictly; a default leaves it. -/
def putItem (x : Nat × Int) : List (Nat × Int) → List (Nat × Int)
  | [] => if x.2 == itemOf [] x.1 then [] else [x]
  | y :: r =>
    if y.1 < x.1 then y :: putItem x r
    else
      let rest := if y.1 == x.1 then r else y :: r
      if x.2 == itemOf [] x.1 then rest else x :: rest

/-- Items whose ranges name another item: the first may not exceed the second (Table 12.10). -/
def itemOrder : List (Nat × Nat) :=
  [(0x0208, 0x0209), (0x020A, 0x020B), (0x0302, 0x0303), (0x030E, 0x030D), (0x030D, 0x030F), (0x030E, 0x030F), (0x0405, 0x0404)]

/-- Step 2 of R556: each VALUE is in range. A range that names another item is judged on the values that result, and BATCH takes no
DIS_KIND 0 (log entry 27). -/
def itemsOk (kind : Nat) (set : List (Nat × Int)) (l : List (Nat × Int)) : Bool :=
  (l.all fun x => match itemRow x.1 with
    | some r => r.form.admits x.2 && !(kind == 1 && x.1 == 0x0300 && x.2 == 0)
    | none => false) &&
  itemOrder.all fun o => !(l.any fun x => x.1 == o.1 || x.1 == o.2) || decide (itemOf set o.1 ≤ itemOf set o.2)

/-- PROG_LOAD (R519, R555, R556). The programme then stands in IDLE, and a parcel table of another V_COL or NPAR goes (log entry 28). -/
def State.loadProg (s : State) (kind : Nat) (set : List (Nat × Int)) : State :=
  let same := itemOf set 0x0309 == s.item 0x0309 && itemOf set 0x030A == s.item 0x030A
  let s := if s.prog.state == .idle then s
    else s.logE 7 3 (leBytes 1 s.prog.state.code ++ leBytes 1 0 ++ leBytes 1 0)
  s.mProg fun p =>
    { p with kind := kind, items := set, state := .idle, hcause := 0, reqs := [], stateUp := s.clk.upNs, sp := none, ePrev := none,
             pv := none, u := 0, q := 0, qRamp := 0, kdry := (itemOf set 0x030D).toNat, storeKdry := (itemOf set 0x030D).toNat,
             parcels := if same then p.parcels else [], storeParcels := if same then p.storeParcels else [],
             accrued := if same then p.accrued else 0 }

/-- PROG_LOAD. -/
def progLoad (kind count : Nat) (items : List Byte) : Op :=
  Op.orderLen 0x60 .prog (items.length == 6 * count) fun _ s =>
    match itemPairs count items with
    | none => .bad .badParam s
    | some l =>
      let set := l.foldl (fun a x => putItem x a) []
      if !inR 1 kind 5 || !itemsOk kind set l then .bad .badParam s
      else if !s.prog.state.ended then .bad .badState s
      else .ok (leBytes 1 kind ++ leBytes 1 count) (s.loadProg kind set)

/-- PROG_SET. -/
def progSet (count : Nat) (items : List Byte) : Op :=
  Op.orderLen 0x64 .prog (items.length == 6 * count) fun _ s =>
    match itemPairs count items with
    | none => .bad .badParam s
    | some l =>
      let set := l.foldl (fun a x => putItem x a) s.prog.items
      if !itemsOk s.prog.kind set l then .bad .badParam s
      else if !s.prog.state.ended && !l.all (fun x => match itemRow x.1 with
          | some r => r.live
          | none => false) then .bad .badState s
      else
        let s' := s.mProg fun p => { p with items := set }
        let s' := if l.any (fun x => x.1 == 0x030D) then
            s'.mProg fun p => { p with kdry := (itemOf set 0x030D).toNat, storeKdry := (itemOf set 0x030D).toNat }
          else s'
        .ok (leBytes 1 count ++ l.flatMap itemBytes) s'

/-! ### What the programme reads -/

/-- VALUE of channel `ch`'s newest record whose conversion ended before chain time `t` µs, where it is valid (chapter 12). -/
def State.validVal (s : State) (ch t : Nat) : Option Int :=
  match idx? 64 ch with
  | none => none
  | some n =>
    let r := s.recAt n t
    if (s.fe.ch[n]).cfg.typ == 0 || r.bad then none else some r.value

/-- The valid VALUEs of the channels that a packed item names. -/
def State.validVals (s : State) (id t : Nat) : List Int := (s.itemList id).filterMap fun c => s.validVal c t

/-- Ambient in m°C: AMB's VALUE, or AMB_FIX. -/
def State.ambient (s : State) (t : Nat) : Int := (s.validVal (s.itemN 0x0102) t).getD (s.item 0x0103)

/-- MOIST of the valid records of the ports that an item names, as they stand at `t` µs. -/
def State.moists (s : State) (id t : Nat) : List Int :=
  (bitList 8 (s.itemN id)).filterMap fun i =>
    match idx? 8 i with
    | none => none
    | some n =>
      let r := s.probeRec n t
      if (s.die.port[n]).en && !probeFault r then some (sfieldAt r 0 4) else none

/-- The mean of a sum over a count, rounded. -/
def meanOf (x : Int × Nat) : Option Int := if x.2 == 0 then none else some (roundDiv x.1 x.2)

/-- The mean of a list. -/
def mean (l : List Int) : Option Int := meanOf (l.sum, l.length)

/-- The hottest record of a list. -/
def peakOf : List Int → Option Int
  | [] => none
  | x :: r => some (r.foldl max x)

/-- A digital input reads on. -/
def State.diOn (s : State) (n : Nat) : Bool := s.dio.di.getLsbD n

/-- The input that FILL_DI or EMPTY_DI names reads its condition: on with polarity 0, off with polarity 1 (log entry 29). -/
def State.inputReads (s : State) (id : Nat) : Bool :=
  let n := s.itemByte id 0
  n < 16 && (s.diOn n != (s.itemByte id 1 == 1))

/-- An input that DIS_DI names reads off (R532). -/
def State.inputOff (s : State) (k : Nat) : Bool :=
  let n := s.itemByte 0x0307 k
  n < 16 && !s.diOn n

/-- The mean plenum temperature in m°C × 600, while at least PL_NMIN records are valid (R526). -/
def State.plenum600 (s : State) (t : Nat) : Option Int :=
  let l := s.validVals 0x0202 t
  if l.isEmpty || l.length < s.itemN 0x0203 then none else some (l.sum * 600 / l.length)

/-- The heat-permit request of CTRL (R522). -/
def State.progHeatReq (s : State) : Bool := s.heating && (s.prog.state == .start || s.prog.state == .run)

/-- Grams × 10^6 of water removed from `vol` / `den` litres of grain that came from `mIn` to `mOut` (R530, Table 12.8), free at 100 %
(log entry 1). -/
def State.water (s : State) (vol den : Nat) (mIn mOut : Int) : Int :=
  let b : Int := 100000 - mOut
  let a : Int := vol * s.itemN 0x030B * 1000 * (mIn - mOut)
  if b == 0 then signed 32 (s.freeNat 32) else if b < 0 then roundDiv (-a) (den * b.natAbs) else roundDiv a (den * b.natAbs)

/-- Water removed is added to the totals (R530, Table 12.8). -/
def State.addWater (s : State) (vol den : Nat) (mIn mOut : Int) : State :=
  let w := s.water vol den mIn mOut
  let s := if mOut == 100000 then s.drew else s
  (s.mProg fun p => { p with wRem := p.wRem + w }).mEnergy fun e => { e with now := { e.now with wRem := e.now.wRem + w } }

/-! ### States (R520 to R525) -/

/-- W_REM of BATCH at COOLDOWN and of BIN_DRY at DONE (Table 12.8). -/
def State.batchWater (s : State) (next : PState) (t : Nat) : State :=
  let at_ := if s.prog.kind == 1 && next == .cooldown then mean (s.moists 0x0314 t)
    else if s.prog.kind == 3 && next == .done then mean (s.moists 0x0408 t) else none
  match s.prog.mEntry, at_ with
  | some a, some b => (s.addWater (s.itemN 0x0309) 1 a b).mProg fun p => { p with mEntry := none }
  | _, _ => s

/-- What entry to RUN sets (R526, R534, Table 12.8; log entry 30). -/
def State.enterRun (s : State) (t : Nat) : State :=
  let m := if s.prog.kind == 1 then mean (s.moists 0x0313 t) else if s.prog.kind == 3 then mean (s.moists 0x0408 t) else none
  s.mProg fun p =>
    { p with sp := some ((s.plenum600 t).getD (s.item 0x0204 * 600)), ePrev := none, aerLast := none, fansOn := false, dryUp := none,
             pauseUp := none, qRamp := 0, mEntry := p.mEntry.orElse fun _ => m }

/-- The programme enters state `next` at chain time `t` µs. Lichen mode is the origin of the entry while it holds the needle (R577; log
entry 31). -/
def State.progEnter (s : State) (next : PState) (cause t : Nat) : State :=
  let old := s.prog.state
  let held := next == .hold || next == .heatLock
  let cause := if held then cause else 0
  let s := s.batchWater next t
  let s := s.mProg fun p =>
    { p with state := next, hcause := cause, stateUp := s.clk.upNs, ePrev := none, pv := none, u := 0,
             heldFrom := if held && !(old == .hold || old == .heatLock) then old else p.heldFrom, holdEvt := p.holdEvt.raiseIf held,
             mEntry := if old.ended then none else p.mEntry, wRem := if old.ended && !next.ended then 0 else p.wRem }
  let s := if next == .run then s.enterRun t else s
  let s := s.mSafe fun x => { x with ctrlReq := s.progHeatReq }
  s.logAs (if s.frm.holder == .lichen then 4 else 1) 7 3 false (leBytes 1 old.code ++ leBytes 1 next.code ++ leBytes 1 cause)

/-- The state that PROG_START RESUME leads to: the state held from, START first where it requests heat and the permit is off (log entry
32). -/
def State.resumeTo (s : State) : PState :=
  let h := s.prog.heldFrom
  if s.heating && !s.permitOn && (h == .start || h == .run) then .start else h

/-- The state that PROG_START START leads to. -/
def State.startTo (s : State) : PState := if s.prog.kind == 1 then .fill else if s.prog.kind == 2 then .start else .run

/-- The state in which an order leaves the programme; none: as it is (Table 12.3). -/
def State.reqTo (s : State) (r : ProgReq) : Option PState :=
  let st := s.prog.state
  match r with
  | .start => if st.ended then some s.startTo else none
  | .resume => if st == .hold || st == .heatLock then some s.resumeTo else none
  | .orderly =>
    if st.ended then none
    else if s.heating then (if st == .cooldown then none else some .cooldown) else some .done
  | .hold => if st == .start || st == .run || st == .cooldown || st == .fill || st == .unload then some .hold else none
  | .abort => if st == .idle then none else some .aborted
  | .lichenCool => if s.heating && (st == .start || st == .run) then some .cooldown else none

/-- An order takes effect at its process tick (R521). -/
def State.progReq (s : State) (t : Nat) (r : ProgReq) : State :=
  match s.reqTo r with
  | some p => s.progEnter p (if r == .hold then 1 else 0) t
  | none => s

/-- A permit that SM removed in START or RUN: HEAT_LOCK, or COOLDOWN under lichen policy (R523, R576). -/
def State.progPermitLost (s : State) (t : Nat) : State :=
  match s.prog.lostPermit with
  | none => s
  | some lichen =>
    let s' := s.mProg fun p => { p with lostPermit := none }
    if s.progHeatReq then s'.progEnter (if lichen then .cooldown else .heatLock) 5 t else s'

/-- The programme has been in its state for `ns`. -/
def State.progFor (s : State) (ns : Nat) : Bool := ns ≤ s.since s.prog.stateUp

/-- Minutes in ns. -/
def minutes (n : Nat) : Nat := sec (60 * n)

/-- The grain is cool: its hottest valid record is at or below ambient + DT_COOL, or T_COOL_MAX has run. -/
def State.grainCool (s : State) (t : Nat) : Bool :=
  s.progFor (minutes (s.itemN 0x040B)) || match peakOf (s.validVals 0x0400 t) with
    | some g => g ≤ s.ambient t + s.item 0x040A
    | none => false

/-- A mean stands at or below a target. -/
def meanBelow (l : List Int) (target : Int) : Bool :=
  match mean l with
  | some m => m ≤ target
  | none => false

/-- A discharge driver is in FAULT. -/
def State.dischargeFault (s : State) : Bool :=
  s.item 0x0300 == 2 && [0, 1].any fun k => match idx? 32 (s.itemByte 0x0301 k) with
    | some n => (s.drv.ch[n]).phase == .fault
    | none => false

/-- The event of Table 12.3 that moves the programme at chain time `t` µs, rows in the table's order (log entry 33). -/
def State.progEventTo (s : State) (t : Nat) : Option (PState × Nat) :=
  let k := s.prog.kind
  match s.prog.state with
  | .fill => if s.inputReads 0x0500 then some (.start, 0) else none
  | .start =>
    if s.permitOn || !s.heating then some (.run, 0)
    else if s.progFor (sec (s.itemN 0x0104)) then some (.hold, 3) else none
  | .run =>
    if k == 1 && (meanBelow (s.moists 0x0314 t) (s.item 0x030C) || s.progFor (minutes (s.itemN 0x0502))) then some (.cooldown, 0)
    else if k == 3 && s.lasted s.prog.dryUp (minutes 60) then some (.done, 0)
    else if k == 5 && s.grainCool t then some (.done, 0)
    else if k == 2 && s.discharges && (s.lasted s.prog.pauseUp (sec (s.itemN 0x0308)) || s.dischargeFault) then some (.hold, 4)
    else none
  | .cooldown => if s.grainCool t then some (if k == 1 then .unload else .done, 0) else none
  | .unload =>
    if s.inputReads 0x0501 then some (if s.item 0x0503 == 1 then .fill else .done, 0)
    else if s.progFor (minutes (s.itemN 0x0504)) then some (.hold, 4) else none
  | _ => none

/-- The events of Table 12.3 at chain time `t` µs. -/
def State.progEvent (s : State) (t : Nat) : State :=
  let dry := s.prog.kind == 3 && s.prog.state == .run && meanBelow (s.moists 0x0408 t) (s.item 0x0409)
  let s := s.mProg fun p => { p with dryUp := if dry then some (p.dryUp.getD s.clk.upNs) else none }
  match s.progEventTo t with
  | some x => s.progEnter x.1 x.2 t
  | none => s

/-! ### Opcodes (Table 12.9) -/

/-- A channel that is named lacks a table with UNIT `unit` (R557). -/
def State.lacksUnit (s : State) (unit ch : Nat) : Bool :=
  match idx? 64 ch with
  | some c => s.unitOf s.run.chan[c] != some unit
  | none => false

/-- A port that an item names is disabled (R557). -/
def State.portOff (s : State) (id : Nat) : Bool :=
  (bitList 8 (s.itemN id)).any fun i => match idx? 8 i with
    | some n => !(s.die.port[n]).en
    | none => false

/-- The plenum actuator is not as Table 12.2 and the plenum loop require it. -/
def State.plenumBad (s : State) : Bool :=
  s.heating &&
    if s.item 0x0200 == 1 then
      match idx? 32 (s.itemN 0x0201) with
      | some n => (s.prof n).mode != 2 || !s.isHeat n
      | none => true
    else match idx? 8 (s.itemN 0x0201) with
      | some n => (s.loCfg n).mode != 3 || !(s.loCfg n).heat
      | none => true

/-- A discharge channel is not as Table 12.4 requires it. -/
def State.gateBad (s : State) (ch : Nat) : Bool :=
  match idx? 32 ch with
  | some n => (s.prof n).mode != 1 || s.paired n || s.isHeat n
  | none => true

/-- A discharge output is not as Table 12.4 requires it. -/
def State.dischargeBad (s : State) : Bool :=
  s.discharges &&
    if s.item 0x0300 == 1 then
      match idx? 8 (s.itemByte 0x0301 0) with
      | some n => (s.loCfg n).mode != 3 || (s.loCfg n).heat
      | none => true
    else s.gateBad (s.itemByte 0x0301 0) || (s.itemByte 0x0301 1 != 0xFF && s.gateBad (s.itemByte 0x0301 1))

/-- An output that the programme's items name has another user (R543). -/
def State.progConflict (s : State) : Bool :=
  ((List.range 32).any fun n => s.progNamesDrv n && (s.lineOwnsDrv n || s.stitchOwnsDrv n)) ||
    ((List.range 8).any fun n => s.progNamesLoop n && s.stitchOwnsLoop n) ||
    (List.range 12).any fun n => s.progNamesFan n && s.stitchOwnsFan n

/-- The cases of R557 in which PROG_START START gets BAD_STATE. Items that the kind does not use are not judged. -/
def State.startBad (s : State) : Bool :=
  let k := s.prog.kind
  let temps := s.itemN 0x0102 :: s.itemList 0x0400 ++ (if k ≤ 2 then s.itemList 0x0202 else []) ++ (if k == 2 then s.itemList 0x0312 else [])
  ((List.finRange 12).any fun n => bitOf (s.itemN 0x0100) n.val && (s.fanCfg n).mode != 3) || s.plenumBad || s.dischargeBad ||
    (temps.any fun c => s.lacksUnit 1 c) || ((k == 3 || k == 4) && s.lacksUnit 2 (s.itemN 0x0401)) ||
    (k ≤ 3 && s.lacksUnit 0x0A (s.itemN 0x0106)) || (k ≤ 3 && s.portOff 0x0313) || (k ≤ 2 && s.portOff 0x0314) ||
    (k == 3 && s.portOff 0x0408) || s.progConflict

/-- An order waits for the process tick; the reply shows the state that it leads to (R521; log entry 34). -/
def State.ask (s : State) (r : ProgReq) : Res :=
  let dest := (s.reqTo r).getD s.prog.state
  .ok (leBytes 1 s.prog.kind ++ leBytes 1 dest.code) (s.mProg fun p => { p with reqs := p.reqs ++ [r] })

/-- PROG_START (R524, R557, R558). START while a programme is under way or none is loaded gets BAD_STATE (log entry 35). -/
def progStart (mode : Nat) : Op :=
  Op.order 0x61 .prog fun _ s =>
    match mode with
    | 1 => if s.prog.kind == 0 || !s.prog.state.ended || s.startBad then .bad .badState s else s.ask .start
    | 2 =>
      let held := s.heating && s.item 0x0200 == 2 && match idx? 8 (s.itemN 0x0201) with
        | some n => (s.loop[n]).permitShut
        | none => false
      if !(s.prog.state == .hold || s.prog.state == .heatLock) || held then .bad .badState s else s.ask .resume
    | _ => .bad .badParam s

/-- PROG_STOP (R558). -/
def progStop (mode : Nat) : Op :=
  Op.order 0x62 .prog fun _ s =>
    if !inR 1 mode 3 then .bad .badParam s
    else if s.prog.state == .idle || (mode != 3 && s.prog.state.ended) then .bad .badState s
    else s.ask (if mode == 1 then .orderly else if mode == 2 then .hold else .abort)

/-- EXPO in K·h × 1,000. -/
def Parcel.expoField (p : Parcel) : Nat := satTo 0xFFFFFFFF ((2 * p.expo + 432000) / 864000)

/-- A parcel entry. -/
def Parcel.toBytes (p : Parcel) : List Byte :=
  leInt 4 p.mIn ++ leBytes 4 p.expoField ++ leBytes 6 p.tEntry ++ leBytes 1 (bit p.mEst) ++ leBytes 1 0

/-- The programme fans' target (Table 12.2). -/
def State.progFanTgt (s : State) : Nat :=
  let k := s.prog.kind
  let on := match s.prog.state with
    | .start | .heatLock | .cooldown => true
    | .run => if k == 3 || k == 4 then s.prog.fansOn else true
    | .hold => k ≤ 2
    | _ => false
  if k != 0 && on then s.itemN 0x0101 else 0

/-- Q in m³/h × 1,000. -/
def Prog.qField (p : Prog) : Nat := (2 * p.q + 600) / 1200

/-- W_REM in g. -/
def waterField (w : Int) : Nat := satTo 0xFFFFFFFF (roundDiv w 1000000).toNat

/-- Table 12.11. M_IN_NEW reads 0x8000_0000 while no parcel is held (log entry 28). -/
def State.progStatus (s : State) : List Byte :=
  let p := s.prog
  leBytes 1 p.kind ++ leBytes 1 p.state.code ++ leBytes 1 p.hcause ++
    leBytes 1 (pack [(1, bit s.progHeatReq), (1, bit s.permitOn), (1, bit p.disPaused), (1, bit p.restored), (1, bit p.pinFault)]) ++
    leBytes 4 (satTo 0xFFFFFFFF (s.since p.stateUp / sec 1)) ++
    leInt 4 (match p.sp with
      | some x => roundDiv x 600
      | none => s.item 0x0204) ++
    (match p.pv with
      | some x => leInt 4 x
      | none => leBytes 4 0x80000000) ++
    leBytes 2 p.u ++ leBytes 4 p.qField ++ leBytes 4 p.kdry ++
    (match p.parcels.getLast? with
      | some x => leInt 4 x.mIn
      | none => leBytes 4 0x80000000) ++
    (match p.mDisLast with
      | some x => leInt 4 x
      | none => leBytes 4 0x80000000) ++
    leBytes 1 p.parcels.length ++ leBytes 1 0 ++ leBytes 2 s.progFanTgt ++ leBytes 4 (waterField p.wRem)

/-- PROG_STATUS MODE 0. -/
def progStatusSummary : Op := Op.read 0x63 fun _ s => .ok s.progStatus s

/-- PROG_STATUS MODE 1. A place that holds no parcel reads as zeros (log entry 28). -/
def progStatusParcels (first count : Nat) : Op :=
  Op.read 0x63 fun _ s =>
    if !inR 1 count 60 || s.itemN 0x030A < first + count then .bad .badParam s
    else .ok (leBytes 1 1 ++ leBytes 1 first ++ leBytes 1 count ++
      (List.range count).flatMap fun i => match s.prog.parcels[first + i]? with
        | some p => p.toBytes
        | none => List.replicate 16 0) s

/-- SYS.PRG_STAT (Table 12.12). -/
def State.regPrgStat (s : State) : Nat :=
  let p := s.prog
  pack [(8, p.state.code), (3, p.kind), (1, bit s.progHeatReq), (1, bit p.disPaused), (1, bit p.holdEvt.set), (2, 0), (4, p.hcause), (4, 0),
        (8, p.holdEvt.cnt)]

/-! ### The commands -/

/-- PROG_LOAD. -/
def execProgLoad (q : Req) (prog count : Byte) (items : List Byte) (s : State) : Host.Outcome State Fault Refusal :=
  .next ((progLoad prog.toNat count.toNat items).serve q s)

/-- PROG_SET. -/
def execProgSet (q : Req) (count : Byte) (items : List Byte) (s : State) : Host.Outcome State Fault Refusal :=
  .next ((progSet count.toNat items).serve q s)

/-- PROG_START with MODE START. -/
def execProgStartStart (q : Req) (s : State) : Host.Outcome State Fault Refusal := .next ((progStart 1).serve q s)

/-- PROG_START with MODE RESUME. -/
def execProgStartResume (q : Req) (s : State) : Host.Outcome State Fault Refusal := .next ((progStart 2).serve q s)

/-- PROG_STOP with MODE ORDERLY. -/
def execProgStopOrderly (q : Req) (s : State) : Host.Outcome State Fault Refusal := .next ((progStop 1).serve q s)

/-- PROG_STOP with MODE HOLD. -/
def execProgStopHold (q : Req) (s : State) : Host.Outcome State Fault Refusal := .next ((progStop 2).serve q s)

/-- PROG_STOP with MODE ABORT. -/
def execProgStopAbort (q : Req) (s : State) : Host.Outcome State Fault Refusal := .next ((progStop 3).serve q s)

/-- PROG_STATUS with MODE 0. -/
def execProgStatusSummary (q : Req) (s : State) : Host.Outcome State Fault Refusal := .next (progStatusSummary.serve q s)

/-- PROG_STATUS with MODE 1. -/
def execProgStatusParcels (q : Req) (first count : Byte) (s : State) : Host.Outcome State Fault Refusal :=
  .next ((progStatusParcels first.toNat count.toNat).serve q s)

end Sys2Proof.Machine
end

