-- ==== Sys2Proof/Machine/SafetyMon.lean ====
section
/-! DEFINITION. The safety monitor of chapter 15: safety inputs, airflow and flame, the grant of the heat permit, its detectors, the safety
configuration, latches and reset, proof tests, opcodes and registers. Removal itself stands in Permit.lean, the high limit in
FrontEnd.lean. -/

namespace Sys2Proof.Machine

/-! ### The safety configuration image (R645, R653) -/

/-- Bytes 0 to 35 of the image (Table 15.10). -/
def SafeCfg.body (c : SafeCfg) : List Byte :=
  leBytes 1 4 ++ leBytes 1 (pack [(1, bit c.heatEn), (1, bit c.unattEn), (1, bit c.estopFans), (1, bit c.patternD)]) ++
    leBytes 1 (pack [(4, c.siEn), (4, c.siOssd)]) ++ leBytes 1 c.siFilt ++ leBytes 2 c.siDisc ++ leBytes 1 c.airSrc ++
    leBytes 1 c.airGrp ++ leBytes 2 c.airFilt ++ leBytes 2 c.airProve ++ leBytes 1 c.hlA ++ leBytes 1 c.hlB ++ leInt 2 c.hlT ++
    leBytes 2 c.hlXtol ++ leBytes 2 c.flameOffT ++ leBytes 2 c.flameT ++ leBytes 2 c.heatMax ++ leBytes 4 c.heatDrv ++
    leBytes 1 c.heatLo ++ leBytes 1 0 ++ leBytes 2 c.sver ++ leBytes 4 0

/-- SCRC of a configuration. -/
def SafeCfg.scrc (c : SafeCfg) : Nat := crc32 c.body

/-- The 40-byte image. -/
def SafeCfg.toBytes (c : SafeCfg) : List Byte := c.body ++ leBytes 4 c.scrc

/-- The fields of an image. -/
def SafeCfg.ofBytes (b : List Byte) : SafeCfg :=
  let f := fieldAt b 1 1
  { heatEn := bitOf f 0, unattEn := bitOf f 1, estopFans := bitOf f 2, patternD := bitOf f 3, siEn := bitsOf (fieldAt b 2 1) 0 4,
    siOssd := bitsOf (fieldAt b 2 1) 4 4, siFilt := fieldAt b 3 1, siDisc := fieldAt b 4 2, airSrc := fieldAt b 6 1,
    airGrp := fieldAt b 7 1, airFilt := fieldAt b 8 2, airProve := fieldAt b 10 2, hlA := fieldAt b 12 1, hlB := fieldAt b 13 1,
    hlT := sfieldAt b 14 2, hlXtol := fieldAt b 16 2, flameOffT := fieldAt b 18 2, flameT := fieldAt b 20 2,
    heatMax := fieldAt b 22 2, heatDrv := fieldAt b 24 4, heatLo := fieldAt b 28 1, sver := fieldAt b 30 2 }

/-- A high-limit channel number. -/
def hlOk (c : Nat) : Bool := c < 64 || c == 0xFF

/-- The ranges of Table 15.10 and the further checks of R653, of a configuration. Both high-limit channels 0xFF is no high limit, not
an equal pair (log entry 24). -/
def SafeCfg.ok (c : SafeCfg) : Bool :=
  inR 1 c.siFilt 10 && inR 10 c.siDisc 100 && c.airSrc < 4 && c.airGrp < 16 && c.airFilt ≤ 2000 && inR 1 c.airProve 600 && hlOk c.hlA &&
    hlOk c.hlB && decide (300 ≤ c.hlT) && decide (c.hlT ≤ 4000) && inR 5 c.hlXtol 50 && inR 10 c.flameOffT 600 && c.flameT ≤ 600 &&
    c.heatMax ≤ 240 && !(c.hlA == c.hlB && c.hlA != 0xFF) && ((c.hlA == 0xFF) == (c.hlB == 0xFF)) && !(c.heatEn && c.airSrc == 0) &&
    !(c.heatEn && !bitOf c.siEn 3 && c.hlA == 0xFF)

/-- The checks of R653 on an image of 40 bytes. -/
def safeImageOk (b : List Byte) : Bool :=
  fieldAt b 0 1 == 4 && fieldAt b 1 1 < 16 && fieldAt b 29 1 == 0 && fieldAt b 32 4 == 0 && fieldAt b 36 4 == crc32 (b.take 36) &&
    (SafeCfg.ofBytes b).ok

/-! ### Safety inputs (R616 to R621) -/

/-- SIi is enabled. -/
def State.siOn (s : State) (i : Nat) : Bool := bitOf s.safe.cfg.siEn i

/-- SIi is in OSSD mode. -/
def State.siOssd (s : State) (i : Nat) : Bool := bitOf s.safe.cfg.siOssd i

/-- SIi counts as in demand: enabled, and in demand or with SI_DIAG set (R619, R621). -/
def State.siHit (s : State) (i : Fin 4) : Bool := s.siOn i.val && ((s.safe.si[i]).demand || (s.safe.si[i]).diag)

/-- The demand state of a channel of SIi at a level (Table 15.4). -/
def siDemand (i : Nat) (level : Bool) : Bool := if i == 2 then level else !level

/-- A channel's plain sample: its filtered state follows a level that has been held for SI_FILT (R617), and takes the first level after SM's
start as it is (log entry 94). Injection 0x0902 holds the channel in its demand state. -/
def SiChan.sample (c : SiChan) (now filtMs : Nat) (level : Bool) (held : Option Bool) : SiChan :=
  match held with
  | some d => { c with raw := d, rawUp := now, filt := d, fresh := false }
  | none =>
    let c := if c.fresh then { c with raw := level, rawUp := now, filt := level, fresh := false } else c
    let c := if c.raw == level then c else { c with raw := level, rawUp := now }
    if ms filtMs ≤ now - c.rawUp then { c with filt := c.raw } else c

/-- The level that injection 0x0902 holds channel `k` (0 a, 1 b) of SIi at. -/
def State.siHeld (s : State) (i k : Nat) : Option Bool :=
  if s.injOn 0x0902 i && s.injArg 0x0902 i % 2 == k then some (i == 2) else none

/-- The emergency-stop lines follow SI0 and ESTOP (R639 to R641). -/
def State.estopFollow (s : State) : State :=
  let want := (s.safe.latch[0]).set || s.siHit 0
  if want == s.safe.estopLines then s
  else
    let s := s.mSafe fun x => { x with estopLines := want }
    (if want then s.releaseAll else s).fansSettle

/-- The proof test under way ends with RESULT (R649 to R651, R657). -/
def State.proofEnd (s : State) (result fstep detail : Nat) : State :=
  match s.safe.proof with
  | none => s
  | some p =>
    let data := leBytes 1 p.kind ++ leBytes 1 result ++ leBytes 1 fstep ++ leBytes 1 detail
    let k : Fin 2 := if p.kind == 1 then 0 else 1
    let ok := vmod s.safe.ptOk k fun _ => result == 0
    let both := ok[0] && ok[1]
    let s := s.mSafe fun x =>
      { x with proof := none, ptPass := vmod x.ptPass k (fun _ => (s.ctUs, result)), p7Since := x.p7Since || (p.kind == 2 && result == 0),
               ptOk := if both then Vector.replicate 2 false else ok, ptDay := if both then 0 else x.ptDay,
               dayUp := if both then s.clk.upNs else x.dayUp }
    (s.finish p.ticket .ok data).logSm 6 false data

/-- A proof test under way is aborted (R657). -/
def State.proofAbort (s : State) : State := s.proofEnd 2 0 0

/-- SIi comes to count as in demand (Table 15.4, R637, R657). -/
def State.siEnter (s : State) (i : Fin 4) : State :=
  let inj := s.injOn 0x0901 i.val || s.injOn 0x0902 i.val
  if i.val == 0 then ((s.removePermit 0x03 (some .estop) inj).estopFollow).proofAbort
  else if i.val == 3 then s.removePermit 0x06 (some .thermostat) inj
  else s

/-- SI_DIAG of SIi is set by the detector `id` (R618, R620, R621). -/
def State.siDiagSet (s : State) (i : Fin 4) (id : Nat) : State :=
  let was := s.siHit i
  let s := s.mSafe fun x => { x with si := vmod x.si i fun y => { y with diag := true } }
  let s := s.safetyFinding .siDiag id i.val
  if was then s else s.siEnter i

/-- The latch of SI0 or SI3 stands (Table 15.4). -/
def State.siLatched (s : State) (i : Fin 4) : Bool := (i.val != 0 || (s.safe.latch[0]).set) && (i.val != 3 || (s.safe.latch[1]).set)

/-- The plain samples of SIi in an SM cycle. An input that a new configuration finds in demand enters it too. -/
def State.siCycle (s : State) (i : Fin 4) (a b : Bool) : State :=
  let was := s.siHit i
  let now := s.clk.upNs
  let f := s.safe.cfg.siFilt
  let x := s.safe.si[i]
  let ca := x.a.sample now f a (s.siHeld i.val 0)
  let cb := x.b.sample now f b (s.siHeld i.val 1)
  let da := siDemand i.val ca.filt
  let db := siDemand i.val cb.filt
  let d := da || db
  let entry := if d && !x.demand then s.ctUs else x.demandUp
  let both := da && db && !(siDemand i.val x.a.filt && siDemand i.val x.b.filt) && s.ctUs ≤ entry + 1000 * s.safe.cfg.siDisc
  let y : SafeIn := { x with a := ca, b := cb, demand := d, demandUp := entry, demandAt := if both then entry else x.demandAt,
                             diffUp := if ca.filt == cb.filt then none else some (x.diffUp.getD now) }
  let s := s.mSafe fun z => { z with si := z.si.set i y }
  if s.siHit i && !(was && s.siLatched i) then s.siEnter i else s

/-- A pulse of a channel's own test output: `low` says that the channel showed it (R618). -/
def SiChan.pulse (c : SiChan) (low : Bool) : SiChan :=
  if low then { c with noPulse := 0, okPulses := satTo 3 (c.okPulses + 1) } else { c with noPulse := satTo 3 (c.noPulse + 1), okPulses := 0 }

/-- SIi at a pulse of TOa or TOb (`k` 0 or 1): the level of its own channel and of the other one (R618). -/
def State.siPulse (s : State) (i : Fin 4) (k : Nat) (own other : Bool) : State :=
  if !s.siOn i.val || s.siOssd i.val then s
  else
    let own := own || (s.injOn 0x0901 i.val && s.injArg 0x0901 i.val % 2 == k)
    let s := s.mSafe fun x => { x with si := vmod x.si i fun y =>
      if k == 0 then { y with a := y.a.pulse (!own), b := { y.b with cross := y.b.raw && !other } }
      else { y with b := y.b.pulse (!own), a := { y.a with cross := y.a.raw && !other } } }
    let y := s.safe.si[i]
    let bad := y.a.noPulse == 3 || y.b.noPulse == 3 || y.a.cross || y.b.cross
    if bad && !y.diag then s.siDiagSet i 0x0901 else s

/-- SIi meets the reset condition of SI_DIAG (Table 15.11). -/
def State.siClean (s : State) (i : Fin 4) : Bool :=
  let x := s.safe.si[i]
  !s.siOn i.val || (x.a.filt == x.b.filt && (s.siOssd i.val || (x.a.okPulses == 3 && x.b.okPulses == 3)))

/-! ### Airflow (R506, R632, R633) -/

/-- The AIR_OK line of group `g`; injection 0x090C holds it at 0. -/
def State.airLine (s : State) (g : Fin 4) : Bool := (s.fan.grp[g]).airOk && !s.injOn 0x090C g.val

/-- Every source selected in AIR_SRC proves airflow; a source that is not enabled, or names no group, proves none (log entry 23). -/
def State.airProven (s : State) : Bool :=
  let c := s.safe.cfg
  c.airSrc != 0 && (!bitOf c.airSrc 0 || (s.siOn 1 && !s.siHit 1)) &&
    (!bitOf c.airSrc 1 || (c.airGrp != 0 && (List.finRange 4).all fun g => !bitOf c.airGrp g.val || s.airLine g))

/-- SM's view of airflow in a cycle. -/
def State.airCycle (s : State) : State :=
  let ok := s.airProven
  let now := s.clk.upNs
  s.mSafe fun x =>
    { x with airOk := ok, airUp := if ok then some (x.airUp.getD now) else none, noAirUp := if ok then none else some (x.noAirUp.getD now),
             airXUp := Vector.ofFn fun g : Fin 4 => if s.airLine g == (s.fan.grp[g]).airOk then none else some ((x.airXUp[g]).getD now) }

/-! ### The high limit, the heat map, the grant (R636, Table 15.6) -/

/-- High-limit channel `k`, where one is set. -/
def SafeCfg.hlCh (c : SafeCfg) (k : Fin 2) : Option (Fin 64) := idx? 64 (if k.val == 0 then c.hlA else c.hlB)

/-- The record of high-limit channel `k` is invalid (R284, R629, R631). -/
def State.hlBad (s : State) (k : Fin 2) : Bool :=
  match s.safe.cfg.hlCh k with
  | none => false
  | some n => (s.safe.hl[k]).invalid || (s.recNow n).bad || 0 < (s.fe.grp[groupOf n]).checkRun

/-- T_SM of high-limit channel `k` is at or above HL_T − 5 °C. -/
def State.hlNear (s : State) (k : Fin 2) : Bool :=
  match (s.safe.cfg.hlCh k).isSome, (s.safe.hl[k]).t with
  | true, some t => decide ((s.safe.cfg.hlT - 50) * 100 ≤ t)
  | _, _ => false

/-- The driver channels with PFLAGS.HEAT. -/
def State.heatDrvMap (s : State) : Nat := maskOf 32 fun i => if h : i < 32 then (s.run.prof[(⟨i, h⟩ : Fin 32)]).heat else false

/-- The loop outputs with LFLAGS.HEAT. -/
def State.heatLoMap (s : State) : Nat := maskOf 8 fun i => if h : i < 8 then (s.run.loop[(⟨i, h⟩ : Fin 8)]).heat else false

/-- The HEAT flags differ from the safety configuration (Table 15.6 [9]). -/
def State.heatMapBad (s : State) : Bool := s.heatDrvMap != s.safe.cfg.heatDrv || s.heatLoMap != s.safe.cfg.heatLo

/-- Lichen mode holds the needle. -/
def State.lichenHolds (s : State) : Bool := s.frm.holder == .lichen

/-- MISSING (Table 15.6); 0 while the permit is on (R656). Airflow has been proven for AIR_PROVE once more than that has passed (Table
15.16). -/
def State.missing (s : State) : Nat :=
  let c := s.safe.cfg
  if s.permitOn then 0
  else pack [
    (1, bit (!c.heatEn)), (1, bit s.safe.anyLatch), (1, bit (s.safe.permit != .armed)), (1, bit (!s.safe.ctrlReq)), (1, bit s.lichenHolds),
    (1, bit (s.siHit 0 || s.siHit 3 || (List.finRange 4).any fun i => s.siOn i.val && (s.safe.si[i]).diag)),
    (1, bit (match s.safe.airUp with
      | some u => decide (s.since u ≤ sec c.airProve)
      | none => true)),
    (1, bit (s.siHit 2)), (1, bit (s.hlBad 0 || s.hlBad 1 || s.hlNear 0 || s.hlNear 1)), (1, bit s.heatMapBad), (1, bit s.outputsOff),
    (1, bit (s.inj.isOpen || s.safe.proof.isSome)), (1, bit (!s.ctrlRuns || s.hoBlocks))]

/-- SM grants the permit (R636). -/
def State.grant (s : State) : State :=
  (s.mSafe fun x => { x with permit := .on, aCmd := true, bCmd := true, hpOpen := false, lastT := s.ctUs, grantUp := s.clk.upNs,
                             flamed := false, removedUp := none }).logSm 1 false (leBytes 1 s.safe.lastReason ++ leBytes 1 0xFF)

/-- The outputs sampled in a cycle: the readback (R624), and R625 while the permit is off. Voltages in 10 mV. -/
def State.hpSample (s : State) (hpA hpB : Nat) : State :=
  let v := s.pow.vsPower
  let inj := s.injOn 0x0904 0 || s.injOn 0x0904 1
  let bad := 600 < hpA || (s.safe.cfg.patternD && hpB + 600 < v) || inj
  let s := s.mSafe fun x => { x with aRb := decide (v < 2 * hpA), bRb := decide (2 * hpB < v) }
  if s.permitOn || s.safe.proof.isSome then s.mSafe fun x => { x with offBad := 0, offGood := 0 }
  else
    let s := s.mSafe fun x => { x with offBad := if bad then satTo 11 (x.offBad + 1) else 0, offGood := if bad then 0 else satTo 10 (x.offGood + 1) }
    if s.safe.offBad == 10 then (s.safetyFinding .hpDiag 0x0904 0).detected 0x0904 1 Latch.hpDiag.bit.val else s

/-- What SM removes the permit for in a cycle while it is on (R629, R637, Table 15.9 HEAT_MAP). -/
def State.onCycle (s : State) : State :=
  if !s.permitOn then s
  else if !s.safe.ctrlReq then s.removePermit 0x02 none false
  else if s.heatMapBad then s.removePermit 0x0A (some .config) false
  else if s.hlBad 0 || s.hlBad 1 then s.removePermit 0x08 none false
  else s.mSafe fun x => { x with flamed := x.flamed || s.siHit 2 }

/-- Injection 0x090D makes SM judge the HEAT map with one flag inverted (Table 16.1). -/
def State.heatMapInject (s : State) : State :=
  s.each (List.range 32) fun s n => if s.injOn 0x090D n && !(s.safe.latch[10]).set then s.safetyFinding .config 0x090D n else s

/-- Injection 0x090F makes SM run the check of R644 with one acknowledge suppressed. -/
def State.relInject (s : State) : State :=
  s.each (List.range 32) fun s n =>
    if s.injOn 0x090F n && !(s.safe.latch[13]).set then (s.setLatch .relDiag 0x0A true).detected 0x090F n Latch.relDiag.bit.val else s

/-- One SM cycle: the heat timer stops where the needle has left lichen mode (R575), then inputs, airflow, outputs, removals, and the
grant (R636, R642). -/
def State.smCycle (s : State) (levels : BitVec 8) (hpA hpB : Nat) : State :=
  let s := if s.lichenHolds then s else s.mSafe fun x => { x with lichenTmr := none }
  let s := s.each (List.finRange 4) fun s i => s.siCycle i (levels.getLsbD (2 * i.val)) (levels.getLsbD (2 * i.val + 1))
  let s := (s.mSafe fun x => { x with flame := s.siHit 2 }).airCycle.estopFollow
  let s := ((s.hpSample hpA hpB).heatMapInject.relInject).onCycle
  let s := if s.safe.ctrlReq then s.proofAbort else s
  if s.safe.permit == .armed && s.missing == 0 && !s.clockDown then s.grant else s

/-! ### Opcodes (Table 15.13) -/

/-- SAFE.STAT. -/
def State.regSafeStat (s : State) : Nat :=
  pack [(1, bit s.permitOn), (1, bit s.safe.ctrlReq), (1, 0), (1, bit s.safe.anyLatch), (1, bit ((s.safe.latch[0]).set || s.siHit 0)),
        (1, bit s.safe.airOk), (1, bit s.safe.flame), (1, bit s.safe.lichenTmr.isSome), (4, s.safe.permit.code), (4, 0),
        (8, s.safe.lastReason)]

/-- SAFE.SI. -/
def State.regSafeSi (s : State) : Nat :=
  pack (((List.finRange 4).flatMap fun i =>
    let x := s.safe.si[i]
    [(1, bit x.a.filt), (1, bit x.b.filt), (1, bit (s.siHit i)), (1, bit x.diag)]) ++ [(4, s.safe.cfg.siEn)])

/-- SAFE.HP. -/
def State.regSafeHp (s : State) : Nat :=
  let x := s.safe
  pack [(1, bit x.aCmd), (1, bit x.bCmd), (1, bit x.aRb), (1, bit x.bRb), (1, bit x.hpOpen), (1, bit x.cfg.patternD)]

/-- T_SM of a high-limit channel, in 0.1 °C. -/
def State.hlCode (s : State) (k : Fin 2) : Nat :=
  match (s.safe.cfg.hlCh k).isSome && !s.hlBad k, (s.safe.hl[k]).t with
  | true, some t => twos 16 (clampI (-32767) 32767 (roundDiv t 100))
  | _, _ => 0x8000

/-- SAFE.HL. -/
def State.regSafeHl (s : State) : Nat := pack [(16, s.hlCode 0), (16, s.hlCode 1)]

/-- SAFE.CNTk (Table 15.15). -/
def State.regSafeCnt (s : State) (k : Nat) : Nat :=
  let c (i : Nat) : Nat := match idx? 14 i with
    | some j => (s.safe.latch[j]).cnt
    | none => 0
  if k == 3 then pack [(8, c 12), (8, c 13), (16, s.safe.removeCnt)] else pack [(8, c (4 * k)), (8, c (4 * k + 1)), (8, c (4 * k + 2)), (8, c (4 * k + 3))]

/-- SAFE.PT. -/
def State.regSafePt (s : State) : Nat := pack [(16, s.safe.ptDay), (1, bit (365 ≤ s.safe.ptDay))]

/-- PROVE_LEFT in 100 ms: what is left of AIR_PROVE, the whole of it while airflow is unproven. -/
def State.proveLeft (s : State) : Nat :=
  match s.safe.airUp with
  | some u => (sec s.safe.cfg.airProve - s.since u + (ms 100 - 1)) / ms 100
  | none => 10 * s.safe.cfg.airProve

/-- SAFE of Table 4.5. -/
def State.safeByte (s : State) : Nat :=
  pack ([(1, bit s.permitOn), (1, bit s.safe.ctrlReq), (1, bit s.safe.anyLatch)] ++
    (List.finRange 4).map fun i => (1, bit (s.siOn i.val && !(s.safe.si[i]).diag)))

/-- SAFE_STATUS. -/
def safeStatus : Op :=
  Op.read 0x70 fun _ s =>
    .ok (leBytes 4 s.regSafeStat ++ leBytes 4 s.regSafeSi ++ leBytes 4 s.safe.latches ++ leBytes 4 s.regSafeHp ++ leBytes 4 s.regSafeHl ++
      leBytes 4 s.dio.di.toNat ++ leBytes 6 s.safe.lastT ++ leBytes 2 s.proveLeft ++ leBytes 2 s.safe.ptDay) s

/-- PERMIT_REQUEST (R656). -/
def permitRequest : Op :=
  Op.order 0x71 .permit fun _ s =>
    if !s.safe.cfg.heatEn then .bad .badState s
    else if s.safe.anyLatch then .bad .safetyLocked s
    else
      let s' := s.mSafe fun x => { x with permit := if x.permit == .off then .armed else x.permit }
      .ok (leBytes 1 s'.safe.permit.code ++ leBytes 4 s'.missing) s'

/-- A stitch entry on a HEAT channel or HEAT output (R549). -/
def State.stitchHeat (s : State) (x : Stitch) : Bool :=
  if isDrvKind x.kind then
    match idx? 32 x.tgt with
    | some n => s.isHeat n
    | none => false
  else match idx? 8 x.tgt with
    | some n => (s.loCfg n).heat
    | none => false

/-- PERMIT_DROP (R183, R637). -/
def permitDrop : Op :=
  { opc := 0x72, needle := true, prot := .tagged, bcast := true, targets := fun _ => [(.permit, true)],
    run := fun _ _ s =>
      let s' := (s.removePermit 0x01 none false).stitchCancel s.stitchHeat
      .ok (leBytes 1 s'.safe.permit.code) s' }

/-- The pending image, held for 60 s (R653). -/
def State.pendNow (s : State) : Option (SafeCfg × Nat) := s.safe.pendCfg.filter fun p => s.since p.2 < sec 60

/-- The reply of SAFE_CONFIG. -/
def safeCfgReply (kind : Nat) (c : SafeCfg) (cstate : Nat) : List Byte :=
  leBytes 1 kind ++ leBytes 2 c.sver ++ leBytes 4 c.scrc ++ leBytes 1 cstate

/-- SAFE_CONFIG WRITE (R653, R655). -/
def safeConfigWrite (img : List Byte) : Op :=
  Op.orderLen 0x73 .safety (img.length == 40) fun _ s =>
    if !safeImageOk img then .bad .badParam s
    else if s.permitOn then .bad .heatActive s
    else
      let c := SafeCfg.ofBytes img
      .ok (safeCfgReply 1 c 1) (s.mSafe fun x => { x with pendCfg := some (c, s.clk.upNs) })

/-- The checks of CONFIRM against the running configuration (R654). -/
def State.confirmOk (s : State) (c : SafeCfg) : Bool :=
  let chan (k : Fin 2) : Bool := match c.hlCh k with
    | some n =>
      let x := s.run.chan[n]
      x.safety && x.tableNo == builtinFor x.typ
    | none => true
  chan 0 && chan 1 && (c.hlA == 0xFF || c.hlA / 16 != c.hlB / 16) &&
    (List.finRange 4).all fun g => !bitOf c.airGrp g.val || (s.run.fgrp[g]).members != 0

/-- A confirmed configuration becomes active: the permit is OFF, or LOCKED while a latch is set. -/
def State.confirm (s : State) (c : SafeCfg) : State :=
  let s := s.mSafe fun x =>
    { x with cfg := c, cfgOk := true, cfgAct := true, pendCfg := none, permit := if x.anyLatch then .locked else .off, airUp := none,
             noAirUp := none, hl := Vector.replicate 2 {}, chkRun := Vector.replicate 2 0 }
  (s.logSm 5 false (leBytes 2 c.sver ++ leBytes 4 c.scrc)).estopFollow

/-- SAFE_CONFIG CONFIRM (R654, R655). -/
def safeConfigConfirm (scrc : Nat) : Op :=
  Op.order 0x73 .safety fun _ s =>
    match s.pendNow with
    | none => .bad .badState s
    | some (c, _) =>
      if scrc != c.scrc then .bad .badParam s
      else if s.permitOn then .bad .heatActive s
      else if !s.confirmOk c then .bad .badState s
      else .ok (safeCfgReply 2 c 2) (s.confirm c)

/-- SAFE_CONFIG_READ. -/
def safeConfigRead (which : Nat) : Op :=
  Op.readTagged 0x74 fun _ s =>
    match which with
    | 0 => .ok (leBytes 1 0 ++ s.safe.cfg.toBytes) s
    | 1 => match s.pendNow with
      | some (c, _) => .ok (leBytes 1 1 ++ c.toBytes) s
      | none => .bad .badState s
    | _ => .bad .badParam s

/-- PROOF_TEST REPORT's data. -/
def State.proofReport (s : State) : List Byte :=
  s.safe.ptPass.toList.flatMap (fun x => leBytes 6 x.1 ++ leBytes 1 x.2) ++ s.safe.si.toList.flatMap fun x => leBytes 6 x.demandAt

/-- PROOF_TEST (R649, R650, R655). -/
def proofTest (kind : Nat) : Op :=
  { Op.order 0x75 .permit (fun q s =>
      if !inR 1 kind 3 then .bad .badParam s
      else if s.permitOn then .bad .heatActive s
      else if s.safe.ctrlReq || s.inj.isOpen || (kind != 3 && s.safe.proof.isSome) then .bad .badState s
      else if kind == 3 then .ok s.proofReport s
      else if kind == 2 && s.drv.ch.toList.any (fun d => d.phase != .idle) then .bad .badState s
      else s.withTicket q 0x75 (if kind == 1 then 5 else 1) fun t s =>
        s.mSafe fun x => { x with proof := some { ticket := t, kind := kind, startUp := s.clk.upNs } })
    with pends := inR 1 kind 2 }

/-- The FCODE of R441. -/
def FCode.isSup (f : FCode) : Bool := f == .shortSup || f == .offShortSup

/-- The reset condition of a latch (Table 15.11). -/
def State.mayReset (s : State) (k : Latch) : Bool :=
  match k with
  | .estop => !s.siHit 0
  | .thermostat => !s.siHit 3
  | .hlOver => !(s.hlBad 0 || s.hlBad 1 || s.hlNear 0 || s.hlNear 1)
  | .hlDiag => (List.finRange 2).all fun k => (s.safe.cfg.hlCh k).isNone || ((s.safe.hl[k]).passRun == 3 && s.safe.chkRun[k] == 3)
  | .wdog => s.sys.missRun == 0
  | .hpDiag => s.safe.offGood == 10
  | .siDiag => (List.finRange 4).all s.siClean
  | .thermal => !s.therm.shut
  | .heatShort => (List.finRange 32).all fun n => !(s.run.prof[n]).heat || !(s.drv.dg[n]).fcode.isSup
  | .flame => !s.siHit 2
  | .config => s.safe.cfgOk && s.safe.cfg.ok
  | .clock => true
  | .smSelf => false
  | .relDiag => s.safe.p7Since

/-- The latches in the order of their bits. -/
def Latch.all : List Latch :=
  [.estop, .thermostat, .hlOver, .hlDiag, .wdog, .hpDiag, .siDiag, .thermal, .heatShort, .flame, .config, .clock, .smSelf, .relDiag]

/-- SI_DIAG of every input cleared. -/
def State.siForget (s : State) : State := s.mSafe fun x => { x with si := x.si.map fun y => { y with diag := false } }

/-- SAFE_RESET: SI_DIAG is judged first, so that latches named with it see the inputs without its demand (log entry 25). -/
def safeReset (mask : Nat) : Op :=
  Op.order 0x76 (.latch 0) fun _ s =>
    if 2 ^ 14 ≤ mask then .bad .badParam s
    else
      let s1 := if bitOf mask 6 && s.mayReset .siDiag then s.siForget else s
      let go := Latch.all.filter fun k => bitOf mask k.bit.val && (if k == .siDiag then s.mayReset k else s1.mayReset k)
      let cleared := maskOf 14 fun i => go.any fun k => k.bit.val == i
      let s2 := s1.mSafe fun x =>
        { x with latch := go.foldl (fun v k => vmod v k.bit fun f => { f with set := false }) x.latch }
      let s3 := s2.mSafe fun x => { x with permit := if x.permit == .locked && !x.anyLatch then .off else x.permit }
      .ok (leBytes 4 cleared ++ leBytes 4 (mask - cleared)) ((s3.logSm 4 false (leBytes 4 cleared)).estopFollow)

/-- SM's self-diagnostics open the permit in hardware (R612, R613); in the trial window of a SAFE activation the node falls back (R780). -/
def State.smTrip (s : State) (id : Nat) : State :=
  let s := if s.ho.phase == .trial && s.ho.typ == some .safe then s.mHo fun h => { h with phase := .fallback, fbDue := some 8 } else s
  (s.removePermit 0x10 (some .smSelf) (s.injOn id 0)).detected id 0 Latch.smSelf.bit.val

/-! ### The commands -/

/-- One SM cycle. -/
def execSmCycle (dt : Nat) (levels : BitVec 8) (hpA hpB : Nat) (s : State) : Host.Outcome State Fault Refusal :=
  let s := s.advance dt
  .next (if s.pow.smUp then s.smCycle levels hpA hpB else s)

/-- A pulse of TOa or TOb is sampled (R616 to R618). -/
def execTestOutputPulse (dt : Nat) (ofB : Bool) (own other : BitVec 4) (s : State) : Host.Outcome State Fault Refusal :=
  let s := s.advance dt
  .next (if s.pow.smUp then s.each (List.finRange 4) fun s i => s.siPulse i (bit ofB) (own.getLsbD i.val) (other.getLsbD i.val) else s)

/-- The channels of an input differ for longer than SI_DISC (R620). -/
def execSiDiscrepancy (dt : Nat) (input : Fin 4) (s : State) : Host.Outcome State Fault Refusal :=
  let s := s.advance dt
  .next <|
    if s.pow.smUp && s.siOn input.val && !(s.safe.si[input]).diag && s.lasted (s.safe.si[input]).diffUp (ms s.safe.cfg.siDisc + 1) then
      s.siDiagSet input 0x0902
    else s

/-- The readback of a permit output's test pulse is sampled now: 250 µs into a pulse of Table 15.5. -/
def State.hpSampled (s : State) (ofB : Bool) : Bool :=
  let t := s.since s.safe.grantUp
  s.permitOn && ms 50 ≤ t && t % ms 50 == (if ofB then ms 25 else 0) + 250000

/-- The pin, at `v` in 10 mV, has crossed 50 % of VS_POWER towards its off level: HP_A downwards, HP_B upwards (R624). -/
def State.hpSeen (s : State) (ofB : Bool) (v : Nat) : Bool :=
  if ofB then decide (s.pow.vsPower < 2 * v) else decide (2 * v < s.pow.vsPower)

/-- A test pulse of a permit output is sampled at `v` (R623, R624); injection 0x0903 makes SM run one with the readback forced on. -/
def execHpTestPulse (dt : Nat) (ofB : Bool) (v : Nat) (s : State) : Host.Outcome State Fault Refusal :=
  let s := s.advance dt
  let inj := s.injOn 0x0903 (bit ofB)
  .next <|
    if s.pow.smUp && ((s.hpSampled ofB && !s.hpSeen ofB v) || inj) then s.safetyFinding .hpDiag 0x0903 (bit ofB) else s

/-- A permit output has drawn `ua` µA or less for `ns`: below 5 mA for 100 ms with the permit on, OPEN is set (R626). -/
def execHpOpenDetect (dt : Nat) (_ofB : Bool) (ua ns : Nat) (s : State) : Host.Outcome State Fault Refusal :=
  let s := s.advance dt
  .next (if s.permitOn && ms 100 ≤ s.since s.safe.grantUp && ms 100 ≤ ns && ua < 5000 then s.mSafe fun x => { x with hpOpen := true } else s)

/-- Airflow has been unproven for AIR_FILT while the permit is on (R632). -/
def execAirflowLoss (dt : Nat) (s : State) : Host.Outcome State Fault Refusal :=
  let s := s.advance dt
  .next <| match s.safe.noAirUp with
    | some u => if s.permitOn && ms s.safe.cfg.airFilt ≤ s.since (max u s.safe.grantUp) then s.removePermit 0x04 none false else s
    | none => s

/-- The AIR_OK line has disagreed with the fan status for 100 ms (R633). -/
def execAirOkDisagree (dt : Nat) (group : Fin 4) (s : State) : Host.Outcome State Fault Refusal :=
  let s := s.advance dt
  .next (if s.lasted s.safe.airXUp[group] (ms 100) then s.safetyFinding .config 0x090C group.val else s)

/-- FLAME_OFF_T after a removal (R634). -/
def execFlameOffTimeout (dt : Nat) (s : State) : Host.Outcome State Fault Refusal :=
  let s := s.advance dt
  .next <|
    if s.lasted s.safe.removedUp (ms (100 * s.safe.cfg.flameOffT)) then
      let s := s.mSafe fun x => { x with removedUp := none }
      if s.siHit 2 then s.setLatch .flame s.safe.lastReason false else s
    else s

/-- FLAME_T after a grant (R635). -/
def execFlameProveTimeout (dt : Nat) (s : State) : Host.Outcome State Fault Refusal :=
  let s := s.advance dt
  .next <|
    if s.permitOn && s.safe.cfg.flameT != 0 && !s.safe.flamed && sec s.safe.cfg.flameT ≤ s.since s.safe.grantUp then
      s.removePermit 0x05 none false
    else s

/-- A lockstep mismatch in SM. -/
def execSmLockstepMismatch (dt : Nat) (s : State) : Host.Outcome State Fault Refusal := .next ((s.advance dt).smTrip 0x0908)

/-- An uncorrectable memory error in SM. -/
def execSmEccError (dt : Nat) (s : State) : Host.Outcome State Fault Refusal := .next ((s.advance dt).smTrip 0x0909)

/-- SM's window watchdog, `ns` after its last service: serviced before 0.5 ms, or not serviced by 2 ms, is a miss (R613). -/
def execSmWatchdogMiss (dt ns : Nat) (s : State) : Host.Outcome State Fault Refusal :=
  let s := s.advance dt
  .next (if ns < 500000 || ms 2 < ns || s.injOn 0x090A 0 then s.smTrip 0x090A else s)

/-- HP_B's enable is static: HP_B is off, and SM removes the permit without a latch (R614, Table 15.9 HP_DYN). -/
def execHpBEnableStatic (dt : Nat) (s : State) : Host.Outcome State Fault Refusal :=
  let s := s.advance dt
  let s := s.removePermit 0x0A none (s.injOn 0x0905 0)
  .next ((s.mSafe fun x => { x with bCmd := false }).detected 0x0905 0 0xFF)

/-- The recheck of SCRC (R643); injection 0x090B corrupts its working copy. -/
def execScrcRecheck (dt : Nat) (good : Bool) (s : State) : Host.Outcome State Fault Refusal :=
  let s := s.advance dt
  let s := s.mSafe fun x => { x with cfgOk := good }
  .next (if (good && !s.injOn 0x090B 0) || !s.pow.smUp then s else s.safetyFinding .config 0x090B 0)

/-- A pending safety configuration expires after 60 s (R653). -/
def execSafeConfigExpire (dt : Nat) (s : State) : Host.Outcome State Fault Refusal :=
  let s := s.advance dt
  .next <| match s.safe.pendCfg with
    | some (_, u) => if sec 60 ≤ s.since u then s.mSafe fun x => { x with pendCfg := none } else s
    | none => s

/-- A running proof test completes (R649, R650). -/
def execProofTestDone (dt : Nat) (pass : Bool) (fstep detail : Byte) (s : State) : Host.Outcome State Fault Refusal :=
  .next ((s.advance dt).proofEnd (if pass then 0 else 1) fstep.toNat detail.toNat)

/-- A whole day has passed (R651). -/
def execPtAgeDay (dt : Nat) (s : State) : Host.Outcome State Fault Refusal :=
  let s := s.advance dt
  .next <|
    if sec 86400 ≤ s.since s.safe.dayUp then s.mSafe fun x => { x with ptDay := inc16 x.ptDay, dayUp := x.dayUp + sec 86400 } else s

/-- SAFE_STATUS. -/
def execSafeStatus (q : Req) (s : State) : Host.Outcome State Fault Refusal := .next (safeStatus.serve q s)

/-- PERMIT_REQUEST. -/
def execPermitRequest (q : Req) (s : State) : Host.Outcome State Fault Refusal := .next (permitRequest.serve q s)

/-- PERMIT_DROP. -/
def execPermitDrop (q : Req) (s : State) : Host.Outcome State Fault Refusal := .next (permitDrop.serve q s)

/-- SAFE_CONFIG WRITE. -/
def execSafeConfigWrite (q : Req) (image : List Byte) (s : State) : Host.Outcome State Fault Refusal :=
  .next ((safeConfigWrite image).serve q s)

/-- SAFE_CONFIG CONFIRM. -/
def execSafeConfigConfirm (q : Req) (scrc : Word) (s : State) : Host.Outcome State Fault Refusal :=
  .next ((safeConfigConfirm scrc.toNat).serve q s)

/-- SAFE_CONFIG_READ. -/
def execSafeConfigRead (q : Req) (which : Byte) (s : State) : Host.Outcome State Fault Refusal :=
  .next ((safeConfigRead which.toNat).serve q s)

/-- PROOF_TEST of the permit outputs. -/
def execProofTestPermit (q : Req) (s : State) : Host.Outcome State Fault Refusal := .next ((proofTest 1).serve q s)

/-- PROOF_TEST of the release and emergency-stop lines. -/
def execProofTestRelease (q : Req) (s : State) : Host.Outcome State Fault Refusal := .next ((proofTest 2).serve q s)

/-- PROOF_TEST REPORT. -/
def execProofTestReport (q : Req) (s : State) : Host.Outcome State Fault Refusal := .next ((proofTest 3).serve q s)

/-- SAFE_RESET. -/
def execSafeReset (q : Req) (mask : Word) (s : State) : Host.Outcome State Fault Refusal := .next ((safeReset mask.toNat).serve q s)

end Sys2Proof.Machine
end

