-- ==== Sys2Proof/Machine/Injection.lean ====
section
/-! DEFINITION. Test sessions and fault injections (R661 to R672). What an injection does to its detector stands with the detector
(`State.injOn`, `State.detected`). -/

namespace Sys2Proof.Machine

/-! ### Injections -/

/-- Slot `i` changed by `f`. -/
def State.mSlot (s : State) (i : Fin 8) (f : InjSlot → InjSlot) : State := s.mInj fun x => { x with slots := vmod x.slots i f }

/-- The slots that are active, as a mask. -/
def Inject.mask (x : Inject) : Nat := maskOf 8 fun i => if h : i < 8 then (x.slots[(⟨i, h⟩ : Fin 8)]).act else false

/-- Slot `i` as the log shows it. -/
def InjSlot.logBytes (x : InjSlot) (i : Nat) : List Byte := leBytes 1 i ++ leBytes 2 x.id ++ leBytes 1 x.tgt ++ leBytes 2 x.arg

/-- The injection in slot `i` ends; what it caused stays (R665, R666). -/
def State.injEnd (s : State) (i : Fin 8) : State :=
  if (s.inj.slots[i]).act then
    (s.mSlot i fun x => { x with act := false }).logE 0x0A 3 ((s.inj.slots[i]).logBytes i.val)
  else s

/-- Causes of a session's end, in the order of R664 (log entry 45). -/
inductive EndCause where
  | close | timeout | needle | handover | start
  deriving DecidableEq, Repr

/-- Their codes. -/
def EndCause.code : EndCause → Nat
  | .close => 1
  | .timeout => 2
  | .needle => 3
  | .handover => 4
  | .start => 5

/-- The test session ends (R664, R665). -/
def State.sessionEnd (s : State) (c : EndCause) : State :=
  if s.inj.isOpen then
    let s := s.each (List.finRange 8) fun s i => s.injEnd i
    (s.mInj fun x => { x with isOpen := false, safety := false }).logE 0x0A 5 (leBytes 1 c.code)
  else s

/-! ### What may be injected (Tables 16.1 and 16.2) -/

/-- TGT and ARG lie in the values listed. Where the table lists none, TGT and ARG are 0 (log entry 46). -/
def State.injListed (s : State) (id tgt arg dur : Nat) : Bool :=
  let c := s.safe.cfg
  let plain := fun n => decide (tgt < n) && arg == 0
  let auto := inR 1 dur 1000
  match id with
  | 0x0901 | 0x0902 => tgt < 4 && arg ≤ 1
  | 0x0903 | 0x0904 => plain 2
  | 0x0905 | 0x0907 | 0x090B | 0x090E | 0x0803 | 0x0003 => plain 1
  | 0x0906 => tgt < 64 && (tgt == c.hlA || tgt == c.hlB)
  | 0x0908 | 0x0909 | 0x090A => tgt == 0 && arg == 0xA55A
  | 0x090C => plain 4
  | 0x090D | 0x090F => plain 32
  | 0x0201 => tgt < 64 && arg ≤ 1
  | 0x0202 => plain 64
  | 0x0203 | 0x0301 | 0x0302 | 0x0303 | 0x0304 | 0x0601 | 0x0602 | 0x0603 => plain 8
  | 0x0204 => tgt < 4
  | 0x0401 | 0x0402 | 0x0403 | 0x0404 | 0x0405 | 0x0406 | 0x0407 | 0x0408 | 0x0409 | 0x040A | 0x040B => plain 32
  | 0x040C => plain 32 && tgt % 2 == 0
  | 0x0501 | 0x0502 | 0x0503 | 0x0505 => plain 12
  | 0x0504 => plain 6
  | 0x0801 | 0x0802 => plain 7
  | 0x0101 => plain 2 && auto
  | 0x0102 => tgt < 2 && inR 1 arg 100 && auto
  | 0x0001 => plain 1 && auto
  | 0x0002 => plain 59
  | _ => false

/-- Channel `n` has a TYPE other than OFF, as accepted or as still in effect (R242, R292). -/
def State.chanUsed (s : State) (n : Fin 64) : Bool := (s.run.chan[n]).typ != 0 || (s.fe.ch[n]).cfg.typ != 0

/-- Domain `d` serves something configured: its channels, ports, outputs or loops (log entry 46). -/
def State.domUsed (s : State) (d : Nat) : Bool :=
  if d < 8 then (List.finRange 64).any fun n => n.val / 8 == d && s.chanUsed n
  else if d < 12 then (List.finRange 64).any fun n => n.val / 16 == d - 8 && s.chanUsed n
  else if d == 12 then !(s.die.portsFrom 0).isEmpty
  else match idx? 32 (d - 13), idx? 12 (d - 45), idx? 2 (d - 57) with
    | some n, _, _ => (s.prof n).mode != 0
    | none, some n, _ => (s.fanCfg n).mode != 0
    | none, none, some k => (List.finRange 8).any fun n => n.val / 4 == k.val && (s.loCfg n).mode != 0
    | none, none, none => false

/-- The precondition of the injection holds. -/
def State.injReady (s : State) (id tgt : Nat) : Bool :=
  let down := s.safe.permit == .off || s.safe.permit == .locked
  let drv := fun (p : Fin 32 → Bool) => match idx? 32 tgt with
    | some n => p n
    | none => false
  match id with
  | 0x0901 => s.siOn tgt && !s.siOssd tgt
  | 0x0902 => s.siOn tgt
  | 0x0903 | 0x0904 | 0x0905 | 0x090D => down
  | 0x0907 => !(s.prog.state == .start || s.prog.state == .run) && s.conv.lstate == .idle
  | 0x090B => s.safe.cfgAct
  | 0x090C => bitOf s.safe.cfg.airGrp tgt
  | 0x090F => drv s.isHeat
  | 0x0202 => match idx? 64 tgt with
    | some n => (s.fe.ch[n]).cfg.burn != 0 || isOhm (s.fe.ch[n]).cfg.typ
    | none => false
  | 0x0405 | 0x0406 | 0x0407 | 0x0408 => drv s.offConditions
  | 0x040C => drv s.paired
  | 0x0002 => s.domUsed tgt
  | _ => true

/-- Sensor `tgt` serves the cold junction of a safety-use channel. -/
def State.cjSafety (s : State) (tgt : Nat) : Bool :=
  (List.finRange 64).any fun n =>
    let c := (s.fe.ch[n]).cfg
    c.safety && isTc c.typ && c.cjMode == 0 &&
      (tgt == (cjOf n).val || ((s.fe.cj[cjOf n]).temp.isNone && tgt == (cjOther n).val))

/-- Fan `tgt` belongs to a group named in AIR_GRP. -/
def State.fanSafety (s : State) (tgt : Nat) : Bool :=
  (List.finRange 4).any fun g => bitOf s.safe.cfg.airGrp g.val && bitOf (s.run.fgrp[g]).members tgt

/-- The injection needs FLAGS.SAFETY (R669); a fan counts with its group (log entry 46). -/
def State.injSafety (s : State) (id tgt : Nat) : Bool :=
  id / 0x100 == 9 ||
    match id / 0x100, id with
    | 2, 0x0203 => s.cjSafety tgt
    | 2, 0x0204 => [s.safe.cfg.hlA, s.safe.cfg.hlB].any fun c => c < 64 && c / 16 == tgt
    | 2, _ => match idx? 64 tgt with
      | some n => (s.fe.ch[n]).cfg.safety
      | none => false
    | 4, _ => match idx? 32 tgt with
      | some n => s.isHeat n
      | none => false
    | 5, _ => s.fanSafety tgt
    | _, _ => false

/-! ### Opcodes (Table 16.6) -/

/-- The sender owns the open session. -/
def State.ownsTest (s : State) (q : Req) : Bool := s.inj.isOpen && s.inj.owner == q.sender

/-- An order of the owner restarts TIMEOUT (R664). -/
def State.touchTest (s : State) (q : Req) : State :=
  if s.ownsTest q then s.mInj fun x => { x with lastUp := s.clk.upNs } else s

/-- TEST_OPEN (R661, R662). -/
def testOpen (flags timeout : Nat) : Op :=
  Op.orderMem 0x30 .session fun q s =>
    let s := s.touchTest q
    if 1 < flags || !inR 10 timeout 3600 then .bad .badParam s
    else if s.permitOn then .bad .heatActive s
    else if s.inj.isOpen || s.safe.proof.isSome || s.inHandover || (flags == 1 && s.safe.ctrlReq) then .bad .badState s
    else
      let s' := s.mInj fun x =>
        { x with isOpen := true, safety := flags == 1, owner := q.sender, timeout := timeout, lastUp := s.clk.upNs }
      .ok (leBytes 1 flags ++ leBytes 2 timeout) (s'.logE 0x0A 1 (leBytes 1 (senderCode q.sender) ++ leBytes 1 flags))

/-- The slot that an injection takes: that of the same detector and target, else the first that is free. -/
def State.slotFor (s : State) (id tgt : Nat) : Option (Fin 8) :=
  ((List.finRange 8).find? fun i => (s.inj.slots[i]).act && (s.inj.slots[i]).id == id && (s.inj.slots[i]).tgt == tgt).orElse fun _ =>
    (List.finRange 8).find? fun i => !(s.inj.slots[i]).act

/-- INJECT (R668, R669, R672). -/
def inject (id tgt arg dur : Nat) : Op :=
  Op.orderMem 0x31 (.inject id tgt) fun q s =>
    let s := s.touchTest q
    if !s.injListed id tgt arg dur || 60000 < dur then .bad .badParam s
    else if !s.ownsTest q || !s.injReady id tgt || (s.injSafety id tgt && !s.inj.safety) then .bad .badState s
    else match s.slotFor id tgt with
      | none => .bad .busy s
      | some i =>
        let s' := s.mSlot i fun x =>
          if x.act then { x with arg := arg, dur := dur, startUp := s.clk.upNs }
          else { id := id, tgt := tgt, arg := arg, dur := dur, act := true, startUp := s.clk.upNs }
        .ok (leBytes 1 i.val ++ leBytes 2 id ++ leBytes 1 tgt) (s'.logE 0x0A 2 ((s'.inj.slots[i]).logBytes i.val))

/-- The slots that an INJECT_CLEAR names. -/
def slotsNamed (slot : Nat) : List (Fin 8) := if slot == 0xFF then List.finRange 8 else (idx? 8 slot).toList

/-- INJECT_CLEAR. -/
def injectClear (slot : Nat) : Op :=
  { opc := 0x32, mem := true, needle := true, prot := .tagged, targets := fun _ => (slotsNamed slot).map fun i => (Target.slot i.val, false),
    run := fun q keep s =>
      let s := s.touchTest q
      if 8 ≤ slot && slot != 0xFF then .bad .badParam s
      else if !s.ownsTest q then .bad .badState s
      else
        let hit := (slotsNamed slot).filter fun i => (s.inj.slots[i]).act && keep (.slot i.val)
        .ok (leBytes 1 (maskOf 8 fun k => hit.any fun i => i.val == k)) (s.each hit fun s i => s.injEnd i) }

/-- TEST_CLOSE. -/
def testClose : Op :=
  Op.orderMem 0x33 .session fun q s =>
    if !s.ownsTest q then .bad .badState s else .ok (leBytes 1 s.inj.mask) (s.sessionEnd .close)

/-- Seconds left before TIMEOUT. -/
def State.testLeft (s : State) : Nat :=
  if s.inj.isOpen then (sec s.inj.timeout - s.since s.inj.lastUp + (sec 1 - 1)) / sec 1 else 0

/-- A register of the injection block by byte offset (Table 16.7). -/
def State.regInj (s : State) (o : Nat) : Nat :=
  let x := s.inj
  match o with
  | 0 => pack [(1, bit x.isOpen), (1, bit x.safety), (6, 0), (8, if x.isOpen then senderCode x.owner else 0), (8, x.mask)]
  | 4 => pack [(16, s.testLeft)]
  | 8 => pack [(1, bit x.det.set), (7, 0), (8, x.det.cnt)]
  | _ =>
    match (if 0x10 ≤ o then idx? 8 ((o - 0x10) / 8) else none) with
    | some i =>
      let y := x.slots[i]
      if o % 8 == 0 then pack [(16, y.id), (8, y.tgt), (1, bit y.act), (1, bit y.det)] else y.dt
    | none => 0

/-! ### The commands -/

/-- TEST_OPEN. -/
def execTestOpen (q : Req) (flags : Byte) (timeout : Half) (s : State) : Host.Outcome State Fault Refusal :=
  .next ((testOpen flags.toNat timeout.toNat).serve q s)

/-- INJECT. -/
def execInject (q : Req) (id : Half) (tgt : Byte) (arg dur : Half) (s : State) : Host.Outcome State Fault Refusal :=
  .next ((inject id.toNat tgt.toNat arg.toNat dur.toNat).serve q s)

/-- INJECT_CLEAR. -/
def execInjectClear (q : Req) (slot : Byte) (s : State) : Host.Outcome State Fault Refusal := .next ((injectClear slot.toNat).serve q s)

/-- TEST_CLOSE. -/
def execTestClose (q : Req) (s : State) : Host.Outcome State Fault Refusal := .next (testClose.serve q s)

/-- DUR of an injection has run (R668). -/
def execInjectExpire (dt : Nat) (i : Fin 8) (s : State) : Host.Outcome State Fault Refusal :=
  let s := s.advance dt
  let x := s.inj.slots[i]
  .next (if x.act && x.dur != 0 && ms x.dur ≤ s.since x.startUp then s.injEnd i else s)

/-- TIMEOUT has passed without an order of the owner (R664). -/
def execTestTimeout (dt : Nat) (s : State) : Host.Outcome State Fault Refusal :=
  let s := s.advance dt
  .next (if s.inj.isOpen && sec s.inj.timeout ≤ s.since s.inj.lastUp then s.sessionEnd .timeout else s)

end Sys2Proof.Machine
end

