-- ==== Sys2Proof/Machine/Needle.lean ====
section
/-! DEFINITION. The needle (R176 to R182) and lichen mode (chapter 13): entry, the entry actions of Table 13.1, exit, LICHEN_CONFIG,
NEEDLE_TAKE and NEEDLE_GIVE. -/

namespace Sys2Proof.Machine

/-! ### Lichen mode -/

/-- Seconds of the present or last lichen period (SYS.LCH_DUR). -/
def State.lchDur (s : State) : Nat :=
  if s.lich.active then satTo 0xFFFFFFFF (s.since s.lich.startUp / sec 1) else s.lich.dur

/-- SM removes the permit under lichen policy (R572, R574): HEAT_END and a log entry where it was on (R577). -/
def State.lichenRemove (s : State) : State :=
  if s.permitOn then
    ((s.removePermit 0x0D none false).mLich fun l => { l with heatEnd := l.heatEnd.raise }).logAs 4 7 2 false (leBytes 1 s.lich.cause)
  else s

/-- SM allows unattended heat. -/
def State.unattended (s : State) : Bool := s.safe.cfg.unattEn && s.safe.cfg.heatMax != 0

/-- SM acts on the signal of R564 (R572). -/
def State.lichenSignal (s : State) : State :=
  if s.permitOn && s.unattended then
    s.mSafe fun x => { x with lichenTmr := some (s.clk.upNs + sec (60 * x.cfg.heatMax)) }
  else s.lichenRemove

/-- At the end of lichen mode, or when its entry actions go live after it: a MANUAL channel keeps its effective target as its MANUAL
target, a TABLE channel returns to its table (R582). -/
def State.lichenFansEnd (s : State) : State :=
  s.each (List.finRange 12) fun s n =>
    let t := s.fanTarget n
    let man := (s.fanCfg n).mode == 1
    s.mFanCh n fun f => { f with manual := if man then t else f.manual, lichen := none }

/-- Lichen mode ends: the needle passes to `h` (R180, R577, R581, R582). -/
def State.lichenExit (s : State) (h : Holder) : State :=
  let d := s.lchDur
  ((s.mLich fun l => { l with active := false, dur := d }).lichenFansEnd).logAs 4 7 4 false (leBytes 1 (holderCode h) ++ leBytes 4 d)

/-! ### Who holds the needle -/

/-- A host port or the service port loses the needle (R180, R182). -/
def State.needleLost (s : State) (old new : Holder) : State :=
  (s.mFrm fun x => { x with lost := x.lost.raise }).logE 3 1 (leBytes 1 (holderCode old) ++ leBytes 1 (holderCode new))

/-- A host port or the service port. -/
def Holder.isHost : Holder → Bool
  | .hostA | .hostB | .svc => true
  | _ => false

/-- upNs of the final CRC byte of the order under judgement. -/
def State.crcUp (s : State) : Nat := s.frm.crcUp.getD s.clk.upNs

/-- The needle passes to `h`: lichen mode ends (R180), the HOST_TIMEOUT check counts from `up` (R182, R581); on a change a proof test ends
(R657) and the test session of a sender that held it (R664). -/
def State.passNeedle (s : State) (h : Holder) (auth : Bool) (up : Nat) : State :=
  let old := s.frm.holder
  let s := if old == .lichen && h != .lichen then s.lichenExit h else s
  let s := s.mFrm fun x => { x with holder := h, ndlAuth := auth, eventUp := up }
  if old == h then s
  else
    let s := s.proofAbort
    if old == senderHolder s.inj.owner then s.sessionEnd .needle else s

/-- Lichen mode takes the needle for CAUSE `cause` (R563 to R565, R577), and HOST_TIMEOUT sets LOST (R182); only a holder's loss is logged
(R180): the entry actions stand at the head of the open window. -/
def State.lichenEnter (s : State) (cause : Nat) : State :=
  let s := if cause == 1 then s.needleLost s.frm.holder .lichen
    else if cause == 2 then s.mFrm fun x => { x with lost := x.lost.raise }
    else s
  let s := s.passNeedle .lichen false s.clk.upNs
  let s := s.mLich fun l =>
    { l with active := true, cause := cause, entry := l.entry.raise, startUp := s.clk.upNs, dur := 0, actsDue := 1 }
  (s.logAs 4 7 1 false (leBytes 1 cause)).lichenSignal

/-- The time without a qualifying event; a request that ends at this instant does not count yet (R182). -/
def State.quietNs (s : State) : Nat :=
  let last := fun (i : Fin 3) => if s.frm.validUp[i] < s.clk.upNs then s.frm.validUp[i] else s.frm.validWas[i]
  match s.frm.holder with
  | .hostA => s.since (max s.frm.eventUp (last 0))
  | .hostB => s.since (max s.frm.eventUp (last 1))
  | .svc => s.since (max s.frm.eventUp (last 2))
  | _ => s.since s.frm.eventUp

/-- The state stands at a control-tick boundary whose tick has run. -/
def State.atTick (s : State) : Bool := s.ctrlRuns && s.clk.ctNs % 1000000 == 0 && s.clk.lastTick == some (s.clk.ctNs / 1000000)

/-! ### The entry actions (Table 13.1) -/

/-- Steps 1 and 2: a heating programme in START, or in RUN where SM does not allow unattended heat, enters COOLDOWN. -/
def State.lichenHeat (s : State) : State :=
  if s.heating && (s.prog.state == .start || (s.prog.state == .run && !s.unattended)) then
    s.mProg fun p => { p with reqs := p.reqs ++ [.lichenCool] }
  else s

/-- Step 4 on one channel: FAN_ACT (R566, R570). -/
def State.lichenFan (s : State) (n : Fin 12) : State :=
  let m := (s.fanCfg n).mode
  let act := s.lich.cfg.fanAct[n]
  if (m == 1 || m == 2) && (act == 1 || act == 2) && !s.fanOwned n.val && !s.stitchOwnsFan n.val then
    s.mFanCh n fun f => { f with lichen := some (if act == 1 then s.lich.cfg.lduty else 0) }
  else s

/-- Step 5 on one channel: RELEASE (R566). -/
def State.lichenDrv (s : State) (n : Fin 32) : State :=
  if bitOf s.lich.cfg.drvRel n.val && !s.drvOwned n.val && !s.stitchOwnsDrv n.val && !s.drvRefuses n 3 then s.drvAct n 3 0 else s

/-- Step 6 on one output: to its fault level (R566). -/
def State.lichenLoop (s : State) (n : Fin 8) : State :=
  if bitOf s.lich.cfg.loFault n.val && (s.loCfg n).mode == 2 && !s.loopOwned n.val && !s.stitchOwnsLoop n.val then
    (s.mLo n fun o => { o with want := none }).loSettle n
  else s

/-- Step 7: PROG_START START. -/
def State.lichenStart (s : State) : State :=
  if s.lich.cfg.progAuto && inR 3 s.prog.kind 5 && s.prog.state == .idle && !s.startBad then
    s.mProg fun p => { p with reqs := p.reqs ++ [.start] }
  else s

/-- The entry actions go live, in the order of Table 13.1. -/
def State.lichenActs (s : State) : State :=
  let s := s.lichenHeat
  let s := if s.run.line.contLichen then s else s.lineStop
  let s := s.each (List.finRange 12) fun s n => s.lichenFan n
  let s := s.each (List.finRange 32) fun s n => s.lichenDrv n
  let s := s.each (List.finRange 8) fun s n => s.lichenLoop n
  let s := s.lichenStart
  if s.lich.active then s else s.lichenFansEnd

/-! ### Opcodes -/

/-- LFLAGS to DRV_REL (Table 13.3). -/
def LichenCfg.toBytes (c : LichenCfg) : List Byte :=
  leBytes 1 (bit c.progAuto) ++ leBytes 3 (pack (c.fanAct.toList.map fun x => (2, x))) ++ leBytes 2 c.lduty ++ leBytes 1 c.loFault ++
    leBytes 1 0 ++ leBytes 4 c.drvRel

/-- The configuration that 12 request bytes spell. -/
def LichenCfg.ofBytes (b : List Byte) : LichenCfg :=
  { progAuto := bitOf (fieldAt b 0 1) 0, fanAct := Vector.ofFn fun i : Fin 12 => bitsOf (fieldAt b 1 3) (2 * i.val) 2,
    lduty := fieldAt b 4 2, loFault := fieldAt b 6 1, drvRel := fieldAt b 8 4 }

/-- R580. -/
def lichenOk (b : List Byte) : Bool :=
  fieldAt b 0 1 < 2 && fieldAt b 7 1 == 0 && fieldAt b 4 2 ≤ 1000 && (List.range 12).all fun i => bitsOf (fieldAt b 1 3) (2 * i) 2 != 3

/-- LICHEN_CONFIG (R579, R580): stored at once, used at the next entry. -/
def lichenConfig (b : List Byte) : Op :=
  Op.orderLen 0x27 (.item 0x0F 0) (b.length == 12) fun _ s =>
    if !lichenOk b then .bad .badParam s
    else
      let s' := s.mLich fun l => { l with cfg := LichenCfg.ofBytes b }
      .ok (b ++ leBytes 1 (bit s.safe.cfg.unattEn) ++ leBytes 1 s.safe.cfg.heatMax ++ leBytes 2 s.frm.hostTo) s'

/-- NEEDLE_TAKE (R179 to R181, R191, R581). A NO_NEEDLE reply names the present holder as HOLDER and PREV (log entry 48). -/
def needleTake (flags timeout : Nat) : Op :=
  { opc := 0x0C, needle := true, anyHolder := fun _ => true, prot := .tagged, targets := fun _ => [],
    run := fun q _ s =>
      if s.pow.stage == .ringReady then .bad .badState s
      else
        let old := s.frm.holder
        let new := senderHolder q.sender
        if !(old == .none || old == .lichen || old == new || bitOf flags 0) then
          { status := .noNeedle, data := leBytes 1 (holderCode old) ++ leBytes 1 (holderCode old) ++ leBytes 2 s.frm.hostTo, s := s }
        else if flags > 1 || timeout == 1 || timeout > 600 then .bad .badParam s
        else
          let s := if timeout == 0 then s else s.mFrm fun x => { x with hostTo := timeout }
          let s := if old.isHost && old != new then s.needleLost old new else s
          let s := s.passNeedle new q.auth s.crcUp
          .ok (leBytes 1 (holderCode new) ++ leBytes 1 (holderCode old) ++ leBytes 2 s.frm.hostTo) s }

/-- NEEDLE_GIVE (R182, R191, R563). -/
def needleGive (mode : Nat) : Op :=
  { opc := 0x0D, needle := true, anyHolder := fun _ => true, prot := .tagged, targets := fun _ => [],
    run := fun q _ s =>
      if s.pow.stage == .ringReady then .bad .badState s
      else if s.frm.holder != senderHolder q.sender then .bad .noNeedle s
      else match mode with
        | 0 => .ok (leBytes 1 0) (s.passNeedle .none false s.crcUp)
        | 1 => if s.ctrlRuns then .ok (leBytes 1 0xFC) (s.lichenEnter 3) else .bad .badState s
        | _ => .bad .badParam s }

/-! ### Registers -/

/-- SYS.LCH_STAT, LCH_HEAT and LCH_DUR (Table 13.2), by word. -/
def State.regLichen (s : State) (k : Nat) : Nat :=
  let l := s.lich
  match k with
  | 0 => pack [(1, bit l.active), (2, l.cause), (1, bit s.safe.lichenTmr.isSome), (1, bit l.entry.set), (1, bit l.heatEnd.set), (2, 0),
               (8, l.entry.cnt), (8, l.heatEnd.cnt)]
  | 1 => match s.safe.lichenTmr with
    | some u => satTo 0xFFFF ((u - s.clk.upNs + sec 1 - 1) / sec 1)
    | none => 0
  | _ => s.lchDur

/-- SYS.NDL_STAT, NDL_CFG, FRM_ERR and FRM_CNT (Tables 4.13 and 4.14), by word. -/
def State.regFrames (s : State) (k : Nat) : Nat :=
  let f := s.frm
  match k with
  | 0 => pack [(8, holderCode f.holder), (1, bit f.lost.set), (7, 0), (8, f.lost.cnt)]
  | 1 => f.hostTo
  | 2 => pack [(8, f.srcErr), (8, f.lenErr), (8, f.seqConflict), (8, f.qfull)]
  | _ => pack [(16, f.retxCnt), (8, f.supersededCnt), (8, f.noNeedleCnt)]

/-! ### The commands -/

/-- NEEDLE_TAKE. -/
def execNeedleTake (q : Req) (flags : Byte) (timeout : Half) (s : State) : Host.Outcome State Fault Refusal :=
  .next ((needleTake flags.toNat timeout.toNat).serve q s)

/-- NEEDLE_GIVE with MODE 0x00. -/
def execNeedleGiveRelease (q : Req) (s : State) : Host.Outcome State Fault Refusal := .next ((needleGive 0).serve q s)

/-- NEEDLE_GIVE with MODE 0x01. -/
def execNeedleGiveLichen (q : Req) (s : State) : Host.Outcome State Fault Refusal := .next ((needleGive 1).serve q s)

/-- HOST_TIMEOUT has passed with no qualifying event at this boundary (R182). -/
def execHostTimeoutExpire (s : State) : Host.Outcome State Fault Refusal :=
  .next (if s.atTick && s.frm.holder != .lichen && ms 100 * s.frm.hostTo ≤ s.quietNs then
    s.lichenEnter (if s.frm.holder.isHost then 1 else 2)
  else s)

/-- LICHEN_CONFIG. -/
def execLichenConfig (q : Req) (item : List Byte) (s : State) : Host.Outcome State Fault Refusal := .next ((lichenConfig item).serve q s)

/-- SM's heat timer runs out (R574). Where the needle has left in the same cycle the expiry stands. -/
def execLichenHeatExpire (dt : Nat) (s : State) : Host.Outcome State Fault Refusal :=
  let s := s.advance dt
  .next (match s.safe.lichenTmr with
    | some u => if u ≤ s.clk.upNs then (s.mSafe fun x => { x with lichenTmr := none }).lichenRemove else s
    | none => s)

end Sys2Proof.Machine
end

