-- ==== Sys2Proof/Machine/ProgTick.lean ====
section
/-! DEFINITION. What a process tick does for the programme (chapter 12): the plenum loop, discharge and parcels, aeration, the programme's
outputs, and the energy integrals of Table 12.8. -/

namespace Sys2Proof.Machine

/-! ### The plenum loop (R526, R527) -/

/-- `sp` moved towards `goal` by at most `step`; 0: no limit. -/
def moveTo (sp goal : Int) (step : Nat) : Int :=
  if step == 0 then goal else if sp ≤ goal then min goal (sp + step) else max goal (sp - step)

/-- u in 0.1 %: the velocity form over e and e_prev in m°C × 600, limited and rounded (R526). -/
def State.plenumU (s : State) (e : Int) : Nat :=
  let ti : Int := s.item 0x0207
  let kp : Int := s.item 0x0206
  let den : Int := 60000000 * ti
  let lo := s.item 0x0208 * (den / 100)
  let hi := s.item 0x0209 * (den / 100)
  let num := match s.prog.ePrev with
    | none => lo
    | some p => s.prog.u * den + kp * (e - p) * ti + kp * e * 100
  (roundDiv (clampI lo hi num) den.toNat).toNat

/-- The plenum actuator closed: a driver released, a loop output at CLOSE_UA (Table 12.2). -/
def State.plenumClose (s : State) : State :=
  if s.item 0x0200 == 1 then
    match idx? 32 (s.itemN 0x0201) with
    | some n => if (s.drv.ch[n]).phase == .prop then s.release n false else s
    | none => s
  else match idx? 8 (s.itemN 0x0201) with
    | some n => s.loProcess n none
    | none => s

/-- The plenum actuator at `u` (0.1 %). A current above PROP_MAX is limited to it (log entry 36). -/
def State.plenumDrive (s : State) (u : Nat) : State :=
  if s.item 0x0200 == 1 then
    match idx? 32 (s.itemN 0x0201) with
    | some n =>
      let ma := (roundDiv (s.item 0x020A * 1000 + u * (s.item 0x020B - s.item 0x020A)) 1000000).toNat
      if s.drvRefuses n 4 then s else s.setI n (min ma (s.prof n).propMax)
    | none => s
  else match idx? 8 (s.itemN 0x0201) with
    | some n => s.loProcess n (some (4000 + 16 * u))
    | none => s

/-- One pass of the plenum loop at chain time `t` µs (R526). -/
def State.plenumLoop (s : State) (t : Nat) : State :=
  match s.plenum600 t with
  | none => (s.progEnter .hold 2 t).plenumClose
  | some pv =>
    let sp := moveTo (s.prog.sp.getD pv) (s.item 0x0204 * 600) (s.itemN 0x0205)
    let e := sp - pv
    let u := s.plenumU e
    (s.mProg fun p => { p with sp := some sp, pv := some (roundDiv pv 600), u := u, ePrev := some e }).plenumDrive u

/-! ### Parcels (R528 to R530) -/

/-- dt of R531 in m°C × 12; none without a valid TAIR record. -/
def State.airRise (s : State) (t : Nat) : Option Int :=
  let l := s.validVals 0x0312 t
  if l.isEmpty then none else some (l.sum * 12 / l.length - 12 * s.ambient t)

/-- One process tick of heat exposure (R528). -/
def State.addExposure (s : State) (t : Nat) : State :=
  match s.airRise t with
  | some d => s.mProg fun p => { p with parcels := p.parcels.map fun x => { x with expo := x.expo + d.toNat } }
  | none => s

/-- V_P in the unit of the accrued volume. -/
def State.parcelVol (s : State) : Nat := s.itemN 0x0309 * 21600000 / s.itemN 0x030A

/-- KDRY after an exit (R530). -/
def State.kdryAfter (s : State) (p : Parcel) (mDis : Int) : Nat :=
  let a := s.item 0x0310
  let k : Int := s.prog.kdry
  let num := k * 1000 * p.expo + a * ((p.mIn - mDis) * 432000000000 - k * p.expo)
  (clampI (s.item 0x030E) (s.item 0x030F) (roundDiv num (1000 * p.expo))).toNat

/-- What the exit of parcel `p` with M_DIS `m` does (R530). -/
def State.parcelOut (s : State) (p : Parcel) (m : Int) : State :=
  let s := s.addWater (s.itemN 0x0309) (s.itemN 0x030A) p.mIn m
  if 432000000 ≤ p.expo && !p.mEst then s.mProg fun x => { x with kdry := s.kdryAfter p m } else s

/-- M_IN of the parcel that enters: the mean of DP_IN, else the M_IN below it, else free (R529; log entry 28). -/
def State.newIn (s : State) : Int × Bool × Bool :=
  match meanOf s.prog.inSum, s.prog.parcels.getLast? with
  | some m, _ => (m, false, false)
  | none, some p => (p.mIn, true, false)
  | none, none => (signed 32 (s.freeNat 32), true, true)

/-- The parcel table and KDRY stored (R533). -/
def State.storeParcels (s : State) : State :=
  s.mProg fun p => { p with storeParcels := p.parcels, storeKdry := p.kdry, storeUp := s.clk.upNs }

/-- One exit at chain time `t` µs (R529, R530, R533). Until NPAR parcels are held, grain of no known parcel leaves (log entry 28). -/
def State.parcelExit (s : State) (t : Nat) : State :=
  let full := decide (s.itemN 0x030A ≤ s.prog.parcels.length)
  let mDis := meanOf s.prog.outSum
  let s := match (if full then s.prog.parcels.head? else none), mDis with
    | some p, some m => s.parcelOut p m
    | _, _ => s
  let i := s.newIn
  let s := if i.2.2 then s.drew else s
  (s.mProg fun p =>
    { p with parcels := (if full then p.parcels.drop 1 else p.parcels) ++ [{ mIn := i.1, mEst := i.2.1, tEntry := t }],
             accrued := p.accrued - s.parcelVol, inSum := (0, 0), outSum := (0, 0), restored := false,
             mDisLast := mDis.orElse fun _ => p.mDisLast }).storeParcels

/-- The exits due at chain time `t` µs. -/
def State.parcelExits (s : State) (t : Nat) : State :=
  s.each (List.range (s.prog.accrued / s.parcelVol)) fun s _ => s.parcelExit t

/-- Records of the moisture probes published with the snapshot of boundary `b` µs are counted once (R529, R530). -/
def State.progPublish (s : State) (b : Nat) : State :=
  s.each (List.finRange 8) fun s n =>
    let r := s.probeRec n b
    let q := fieldAt r 24 2
    if !(s.die.port[n]).en || probeFault r || s.prog.seen[n] == q then s
    else
      let add := fun (x : Int × Nat) (named : Bool) => if named then (x.1 + sfieldAt r 0 4, x.2 + 1) else x
      s.mProg fun p => { p with seen := p.seen.set n q, inSum := add p.inSum (bitOf (s.itemN 0x0313) n.val),
                                outSum := add p.outSum (bitOf (s.itemN 0x0314) n.val) }

/-! ### Discharge (R531, R532, Table 12.4) -/

/-- M_IN of the newest parcel, free while none is held (log entry 28). -/
def State.newestIn (s : State) : Int :=
  match s.prog.parcels.getLast? with
  | some p => p.mIn
  | none => signed 32 (s.freeNat 32)

/-- q of R531 in m³/h × 600,000, rounded (log entry 37). -/
def State.wantQ (s : State) (t : Nat) : Nat :=
  let m := s.newestIn
  let tgt := s.item 0x030C
  match s.airRise t with
  | none => 0
  | some d =>
    if d < 12 * s.item 0x0315 then 0
    else if m ≤ tgt then s.itemN 0x0303 * 600
    else
      let f : Int := match s.prog.mDisLast with
        | some x => 1000000 - s.item 0x0311 * (x - tgt)
        | none => 1000000
      let q := roundDiv (s.item 0x0309 * s.prog.kdry * d * f) (20000000000 * (m - tgt)).toNat
      (clampI (s.item 0x0302 * 600) (s.item 0x0303 * 600) q).toNat

/-- Q set for a column at chain time `t` µs (R531, R532; log entry 37). -/
def State.setQ (s : State) (t : Nat) : State :=
  let want := s.wantQ t
  let s := if s.prog.parcels.isEmpty then s.drew else s
  let ramp := if s.prog.disPaused then 0 else (moveTo s.prog.qRamp want (s.itemN 0x0304)).toNat
  let q := if 2 * ramp < s.itemN 0x0302 * 600 then 0 else ramp
  s.mProg fun p => { p with qRamp := ramp, q := q, strokeUp := if p.q == 0 then s.clk.upNs else p.strokeUp }

/-- The pause of discharge (R532). -/
def State.pauseCheck (s : State) : State :=
  let paused := s.prog.kind == 2 && s.discharges && (s.inputOff 0 || s.inputOff 1)
  s.mProg fun p =>
    { p with disPaused := paused, pauseUp := if paused && p.state == .run then some (p.pauseUp.getD s.clk.upNs) else none }

/-- A loop output that discharges stands at its target for Q (Table 12.4). -/
def State.dischargeLoop (s : State) : State :=
  if s.discharges && s.item 0x0300 == 1 then
    match idx? 8 (s.itemByte 0x0301 0) with
    | some n => s.loProcess n (some (4000 + (roundDiv (16000 * s.prog.q) (600 * s.itemN 0x0303)).toNat))
    | none => s
  else s

/-- The column at chain time `t` µs: exposure, volume, exits, Q (R528 to R532). -/
def State.column (s : State) (t : Nat) : State :=
  let s := s.addExposure t
  let s := if s.item 0x0300 == 1 then s.mProg fun p => { p with accrued := p.accrued + p.q } else s
  (s.parcelExits t).setQ t

/-- What discharge does at a process tick in the programme's state. -/
def State.discharge (s : State) (t : Nat) : State :=
  if !s.discharges then s
  else match s.prog.state with
    | .run => if s.prog.kind == 2 then s.column t else s.mProg fun p => { p with q := 0, qRamp := 0 }
    | .unload => s.mProg fun p => { p with q := s.itemN 0x0303 * 600, strokeUp := if p.q == 0 then s.clk.upNs else p.strokeUp }
    | _ => s.mProg fun p => { p with q := 0, qRamp := 0 }

/-- The stroke interval in ms (Table 12.4). -/
def State.strokeMs (s : State) : Nat :=
  let q := s.prog.q
  (2 * s.itemN 0x0305 * 2160000 + q) / (2 * q)

/-! ### The process tick -/

/-- The programme's fans take its target (Table 12.2). -/
def State.progFans (s : State) : State :=
  let d := s.progFanTgt
  s.each (List.finRange 12) fun s n =>
    if bitOf (s.itemN 0x0100) n.val then s.mFanCh n fun f => { f with proc := d } else s

/-- The programme's outputs at a process tick: kept as its state gives while it is under way or has just changed, a loop actuator closed in
every state but RUN (R527). -/
def State.progOutputs (s : State) (changed : Bool) : State :=
  let act := s.progOn || changed
  let s := s.progFans
  let s := if s.heating && s.prog.state != .run && (act || s.item 0x0200 == 2) then s.plenumClose else s
  if act then s.dischargeLoop else s

/-- Energy from the fuel over one process tick, in J × 36,000 (Table 12.8). -/
def State.heatEnergy (s : State) (t : Nat) : Int :=
  if !inR 1 s.prog.kind 3 then 0
  else if s.item 0x0105 == 1 then (s.validVal (s.itemN 0x0106) t).getD 0 * s.item 0x0107
  else if s.item 0x0105 == 2 then s.item 0x0108 * 3600
  else 0

/-- The programme at the process tick of chain time `t` µs (R521). -/
def State.progTick (s : State) (t : Nat) : State :=
  let s := s.mEnergy fun e => { e with now := { e.now with thermE := e.now.thermE + s.heatEnergy t } }
  if s.prog.kind == 0 then s.mProg fun p => { p with reqs := [], lostPermit := none }
  else
    let before := s.prog.state
    let reqs := s.prog.reqs
    let s := (s.mProg fun p => { p with reqs := [] }).progPermitLost t
    let s := s.each reqs fun s r => s.progReq t r
    let s := (s.pauseCheck).progEvent t
    let s := s.discharge t
    let s := if s.heating && s.prog.state == .run then s.plenumLoop t else s
    s.progOutputs (s.prog.state != before)

/-! ### Strokes, stores and decisions -/

/-- The discharge drivers pulse together (Table 12.4). -/
def State.stroke (s : State) : State :=
  let ns := [0, 1].filterMap fun k => idx? 32 (s.itemByte 0x0301 k)
  if ns.isEmpty || ns.any (fun n => s.drvRefuses n 2) then s
  else
    (s.each ns fun s n => s.energise n (.pulse (s.itemN 0x0306))).mProg fun p =>
      { p with accrued := if p.kind == 2 then p.accrued + s.itemN 0x0305 * 21600 else p.accrued }

/-- The stroke interval elapses while grain is discharged (R531, Table 12.4). A stroke that the drivers refuse accrues nothing (log entry
38). -/
def execDischargeStroke (dt : Nat) (s : State) : Host.Outcome State Fault Refusal :=
  let s := s.advance dt
  .next <|
    if s.progOn && s.discharges && s.item 0x0300 == 2 && s.prog.q != 0 && ms s.strokeMs ≤ s.since s.prog.strokeUp then
      s.stroke.mProg fun p => { p with strokeUp := s.clk.upNs }
    else s

/-- The parcel table is stored every 60 s (R533). -/
def execParcelStore (dt : Nat) (s : State) : Host.Outcome State Fault Refusal :=
  let s := s.advance dt
  .next (if s.ctrlRuns && sec 60 ≤ s.since s.prog.storeUp then s.storeParcels else s)

/-- What the aeration rules want of the fans, given the hottest grain record and RH (R534, R535). -/
def State.aerWant (s : State) (g rh t : Int) : Bool :=
  let over_ := decide (s.item 0x0402 + s.item 0x0403 < rh) || decide (t < s.item 0x0406)
  let dry := decide (rh ≤ s.item 0x0402) && decide (s.item 0x0406 ≤ t)
  if s.prog.kind == 4 then
    if s.prog.fansOn then !(over_ || decide (g - t ≤ s.item 0x0405)) else dry && decide (s.item 0x0404 ≤ g - t)
  else if s.prog.fansOn then !over_ else dry

/-- The decision of R534 to R536 at chain time `t` µs. -/
def State.aerDecide (s : State) (t : Nat) : State :=
  let s := s.mProg fun p => { p with aerLast := some s.clk.upNs }
  match peakOf (s.validVals 0x0400 t), s.validVal (s.itemN 0x0401) t with
  | some g, some rh =>
    let want := s.aerWant g rh (s.ambient t)
    let free := match s.prog.aerUp with
      | some u => decide (minutes (s.itemN 0x0407) ≤ s.since u)
      | none => true
    let s := s.mProg fun p => { p with pinFault := false }
    if want != s.prog.fansOn && free then
      (s.mProg fun p => { p with fansOn := want, aerUp := some s.clk.upNs }).progFans
    else s
  | _, _ => s.mProg fun p => { p with pinFault := true }

/-- Once per minute in RUN, aeration or drying is decided (R534 to R536). -/
def execAerationDecision (dt : Nat) (s : State) : Host.Outcome State Fault Refusal :=
  let s := s.advance dt
  let due := match s.prog.aerLast with
    | some u => decide (minutes 1 ≤ s.since u)
    | none => true
  .next (if (s.prog.kind == 3 || s.prog.kind == 4) && s.prog.state == .run && due then s.aerDecide (s.ctUs + 1) else s)

end Sys2Proof.Machine
end

