-- ==== Sys2Proof/Machine/Thermal.lean ====
section
/-! DEFINITION. Thermal management of chapter 14: the sensors, THERM_MAX, the throttle, shutdown and the thermal opcodes. -/

namespace Sys2Proof.Machine

/-- The mean of the last 16 valid samples; none while the sensor is invalid or has no sample (R586, R587; rounded to the nearest, log
entry 20). -/
def Sensor.temp (x : Sensor) : Option Int :=
  if x.invalid || x.samples.isEmpty then none else some (roundDiv x.samples.sum x.samples.length)

/-- One sample of a sensor; `judge` says that invalidity is judged yet (R587, R609). The comparator counts every sample at or above 150 °C,
or is forced by an injection (`hot`; R598, log entry 92). -/
def Sensor.sample (x : Sensor) (t : Int) (judge hot : Bool) : Sensor :=
  let x := { x with hotRun := if hot || 1500 ≤ t then satTo 10 (x.hotRun + 1) else 0 }
  if -550 ≤ t && t ≤ 2000 then
    let good := satTo 1000 (x.goodRun + 1)
    { x with samples := (t :: x.samples).take 16, invalid := x.invalid && good < 1000, badRun := 0, goodRun := good }
  else
    let bad := satTo 4 (x.badRun + 1)
    { x with badRun := bad, goodRun := 0, invalid := x.invalid || (judge && 4 ≤ bad) }

/-- A temperature as its 16-bit field reads; 0x8000 for none. -/
def tempCode (t : Option Int) : Nat :=
  match t with
  | some x => twos 16 x
  | none => 0x8000

/-- The last valid TS7 sample; none while TS7 is invalid (R587; log entry 93). -/
def Therm.ts7Temp (x : Therm) : Option Int := if x.ts7Inv then none else x.ts7

/-- The last TS7 sample while fresh (R589). -/
def State.ts7Now (s : State) : Option Int := if s.therm.ts7Fresh && s.since s.therm.ts7Up < sec 10 then s.therm.ts7Temp else none

/-- The valid readings with their sensors: TS0 to TS6, and TS7 while fresh (R591). -/
def State.tsReadings (s : State) : List (Nat × Int) :=
  ((List.finRange 7).filterMap fun i => (s.therm.ts[i]).temp.map fun t => (i.val, t)) ++ (s.ts7Now.map fun t => (7, t)).toList

/-- The highest reading, of the lowest-numbered sensor that gives it. -/
def hottest (l : List (Nat × Int)) : Option (Nat × Int) :=
  l.foldl (fun b x => match b with
    | none => some x
    | some y => if y.2 < x.2 then some x else some y) none

/-- THERM_MAX, HOT_ID and PEAK recomputed (R591). -/
def State.thermMax (s : State) : State :=
  match hottest s.tsReadings with
  | none => s.mTherm fun x => { x with max := none }
  | some (i, t) =>
    s.mTherm fun x => { x with max := some t, hotId := i, peak := some (match x.peak with
      | some p => max p t
      | none => t) }

/-- How many of TS0 to TS6 are invalid. -/
def Therm.badSensors (x : Therm) : Nat := (x.ts.toList.filter fun y => y.invalid).length

/-- How long s has now been above 0. -/
def State.throtNow (s : State) : Nat :=
  match s.therm.throtUp with
  | some u => s.since u
  | none => 0

/-- The step becomes `n`: flag, count, log entry, and the hold budget that follows it (R593, R603). -/
def State.setStep (s : State) (n : Nat) : State :=
  let old := s.therm.step
  if old == n then s
  else
    let s := s.mTherm fun x => { x with step := n, stepUp := s.clk.upNs, evStepUp := x.evStepUp.raiseIf (decide (old < n)),
                                        stepUps := if old < n then inc16 x.stepUps else x.stepUps,
                                        throtNs := if n == 0 then x.throtNs + s.throtNow else x.throtNs,
                                        throtUp := if n == 0 then none else some (x.throtUp.getD s.clk.upNs) }
    (s.logHw 0x0801 0 8 1 (leBytes 1 old ++ leBytes 1 n ++ leBytes 1 s.therm.hotId)).rebudget

/-- s after the steps of R592, before the floor of R596, where the dwell has passed. -/
def Therm.stepTo (x : Therm) : Nat :=
  let ts := x.cfg.tStart
  let k := x.step
  match x.max with
  | none => k
  | some tm =>
    if k < 8 && ((ts + 3 * k) * 10 : Nat) ≤ tm then k + 1
    else if 0 < k && tm < (((ts + 3 * (k - 1)) * 10 : Nat) : Int) - 50 then k - 1
    else k

/-- The evaluation of R592 with the floor of R596. A fall that the floor takes back is no change of s, but restarts the dwell (log entry
92). -/
def State.throttle (s : State) : State :=
  let old := s.therm.step
  let k := if sec 2 ≤ s.since s.therm.stepUp || s.therm.stepUps == 0 then s.therm.stepTo else old
  let n := if k < 4 && 0 < s.therm.badSensors then 4 else k
  let s := s.setStep n
  if k != old || n != k then s.mTherm fun x => { x with stepUp := s.clk.upNs } else s

/-- Entry to shutdown (R597 to R600). -/
def State.enterShutdown (s : State) : State :=
  if s.therm.shut then s
  else
    let old := s.therm.step
    let s := s.mTherm fun x => { x with shut := true, coolUp := none, evShut := x.evShut.raise }
    let s := (s.setStep 8).mTherm fun x => { x with stepUp := s.clk.upNs }
    let inj := (List.range 7).any fun i => s.injOn 0x0802 i
    let s := s.logAs 3 8 2 inj (leBytes 1 old ++ leBytes 1 8 ++ leBytes 1 s.therm.hotId)
    let s := ((s.releaseAll).mDrv fun d => { d with boostOn := false, chgOn := false }).fansSettle.loopsSettle
    let s := s.removePermit 0x0B (some .thermal) inj
    s.each (List.range 7) fun s i => s.detected 0x0802 i Latch.thermal.bit.val

/-- Every sensor sampled, THERM_MAX and the throttle evaluated (R586 to R597). -/
def State.thermSample (s : State) (t : Vector Int 7) : State :=
  let judge := ms 20 ≤ s.clk.upNs
  let s := s.each (List.finRange 7) fun s i =>
    let v := if s.injOn 0x0801 i.val then -1000 else t[i]
    let was := (s.therm.ts[i]).invalid
    let hot := s.injOn 0x0802 i.val
    let s := s.mTherm fun x => { x with ts := vmod x.ts i fun y => y.sample v judge hot }
    if (s.therm.ts[i]).invalid && !was then
      let s := s.mTherm fun x => { x with evTs := x.evTs.raise }
      (s.logHw 0x0801 i.val 8 5 (leBytes 1 i.val ++ leBytes 2 0x8000)).detected 0x0801 i.val 0xFF
    else s
  let s := s.thermMax
  let s := if judge then s.throttle else s
  let s := if 2 ≤ s.therm.badSensors then s.enterShutdown else s
  let cool := s.therm.ts.toList.all fun y => match y.temp with
    | some x => x < 1350
    | none => false
  s.mTherm fun x =>
    { x with coolUp := if x.shut && cool then some (x.coolUp.getD s.clk.upNs) else none }

/-- A TS7 sample starts, unless one is running (R588). -/
def State.ts7Begin (s : State) : State :=
  s.mTherm fun x => { x with ts7Start := some (x.ts7Start.getD s.clk.upNs) }

/-! ### Opcodes (Table 14.4) -/

/-- TFLAGS. -/
def State.thermFlags (s : State) : Nat :=
  pack [(1, bit s.therm.shut), (1, bit s.ts7Now.isSome), (1, bit (0 < s.therm.badSensors)), (1, bit (match s.therm.ts7 with
    | some t => t > 800
    | none => false))]

/-- TS7_AGE. -/
def State.ts7Age (s : State) : Nat :=
  match s.therm.ts7 with
  | some _ => satTo 0xFFFE (s.since s.therm.ts7Up / ms 100)
  | none => 0xFFFF

/-- T_THROT: whole seconds with s above 0. -/
def State.tThrot (s : State) : Nat := satTo 0xFFFFFFFF ((s.therm.throtNs + s.throtNow) / sec 1)

/-- The reply data of THERM_READ. -/
def State.thermData (s : State) : List Byte :=
  leBytes 1 s.therm.step ++ leBytes 1 s.thermFlags ++ leBytes 2 (tempCode s.therm.max) ++ leBytes 1 s.therm.hotId ++ leBytes 1 0 ++
    s.therm.ts.toList.flatMap (fun x => leBytes 2 (tempCode x.temp)) ++ leBytes 2 (tempCode s.therm.ts7Temp) ++ leBytes 2 s.ts7Age ++
    leBytes 2 s.bEff ++ leBytes 2 s.therm.stepUps ++ leBytes 4 s.tThrot ++ leBytes 2 (tempCode s.therm.peak)

/-- THERM_READ (R588, R605, R606). -/
def thermRead (flags : Nat) : Op :=
  Op.read 0x13 fun _ s =>
    if flags > 1 then .bad .badParam s else .ok s.thermData (if flags == 1 then s.ts7Begin else s)

/-- THERM_CONFIG (R606, R607). -/
def thermConfig (tStart period pad : Nat) : Op :=
  Op.order 0x26 (.item 0x0E 0) fun _ s =>
    if !inR 100 tStart 120 || !(period == 0 || inR 10 period 3600) || pad != 0 then .bad .badParam s
    else
      let c : ThermCfg := { tStart := tStart, ts7Period := period }
      let s' := (s.mRun fun r => { r with therm := c }).mTherm fun x =>
        { x with cfg := c, ts7Timer := if x.cfg.ts7Period == period then x.ts7Timer else s.clk.upNs }
      .ok (leBytes 1 tStart ++ leBytes 2 period ++ leBytes 1 0) s'

/-- A thermal register (Tables 14.5 and 14.6) by word. -/
def State.regTherm (s : State) (k : Nat) : Nat :=
  let x := s.therm
  match idx? 7 k with
  | some i => pack [(16, tempCode (x.ts[i]).temp), (1, bit (x.ts[i]).temp.isSome)]
  | none =>
    match k with
    | 7 => pack [(16, tempCode x.ts7Temp), (1, bit s.ts7Now.isSome)]
    | 8 => pack [(4, x.step), (1, bit x.shut), (3, 0), (3, x.hotId), (5, 0), (16, tempCode x.max)]
    | 9 => pack [(1, bit x.evStepUp.set), (1, bit x.evShut.set), (1, bit x.evTs.set), (1, bit x.evAmb.set)]
    | 10 => pack [(8, x.evStepUp.cnt), (8, x.evShut.cnt), (8, x.evTs.cnt), (8, x.evAmb.cnt)]
    | 11 => pack [(16, x.stepUps), (16, tempCode x.peak)]
    | 12 => s.tThrot
    | 13 => pack [(8, x.cfg.tStart), (12, x.cfg.ts7Period)]
    | _ => 0

/-- THERM of the status record (R591): THERM_MAX in °C plus 50; 0 while there is none. -/
def State.thermField (s : State) : Nat :=
  match s.therm.max with
  | some t => (clampI 0 255 (roundDiv (t + 500) 10)).toNat
  | none => 0

/-! ### The commands -/

/-- TS0 to TS6 are sampled while the node is awake. -/
def execThermSample (dt : Nat) (t : Vector Int 7) (s : State) : Host.Outcome State Fault Refusal :=
  let s := s.advance dt
  .next (if s.awake then s.thermSample t else s)

/-- TS7_PERIOD elapses (R588). -/
def execTs7PeriodTimer (dt : Nat) (s : State) : Host.Outcome State Fault Refusal :=
  let s := s.advance dt
  let p := s.therm.cfg.ts7Period
  .next <|
    if s.awake && p != 0 && sec p ≤ s.since s.therm.ts7Timer then s.ts7Begin.mTherm fun x => { x with ts7Timer := s.clk.upNs } else s

/-- A TS7 sample completes 2 ms after its start (R587, R589 to R591). A sample outside −55 to +200 °C leaves the last one in place, and the
fourth in a row makes TS7 invalid (log entry 93). -/
def execTs7SampleEnd (dt : Nat) (t : Int) (s : State) : Host.Outcome State Fault Refusal :=
  let s := s.advance dt
  let v := if s.injOn 0x0803 0 then 850 else t
  .next <|
    if !s.awake || !s.lasted s.therm.ts7Start (ms 2) then s
    else if v < -550 || 2000 < v then
      let bad := satTo 4 (s.therm.ts7Bad + 1)
      let inv := s.therm.ts7Inv || 4 ≤ bad
      (s.mTherm fun x =>
        { x with ts7Start := none, ts7Bad := bad, ts7Good := 0, ts7Inv := inv, evTs := x.evTs.raiseIf (inv && !x.ts7Inv) }).thermMax
    else
      let good := satTo 1000 (s.therm.ts7Good + 1)
      let s := (s.mTherm fun x =>
        { x with ts7 := some v, ts7Up := s.clk.upNs, ts7Fresh := true, ts7Start := none, ts7Bad := 0, ts7Good := good,
                 ts7Inv := x.ts7Inv && good < 1000 }).thermMax
      if 800 < v then
        ((s.mTherm fun x => { x with evAmb := x.evAmb.raise }).logHw 0x0803 0 8 4 (leBytes 1 7 ++ leInt 2 v)).detected 0x0803 0 0xFF
      else s

/-- A TS7 sample is no longer fresh (R589). -/
def execTs7Stale (dt : Nat) (s : State) : Host.Outcome State Fault Refusal :=
  let s := s.advance dt
  .next <|
    if s.therm.ts7Fresh && sec 10 ≤ s.since s.therm.ts7Up then (s.mTherm fun x => { x with ts7Fresh := false }).thermMax else s

/-- A comparator of TS0 to TS6 trips (R598). -/
def execThermalShutdown (dt : Nat) (s : State) : Host.Outcome State Fault Refusal :=
  let s := s.advance dt
  .next <|
    if s.awake && s.therm.ts.toList.any (fun x => 10 ≤ x.hotRun) then s.enterShutdown else s

/-- TS0 to TS6 have been valid and below 135 °C for 10 s: the node leaves shutdown (R602). -/
def execShutdownExit (dt : Nat) (s : State) : Host.Outcome State Fault Refusal :=
  let s := s.advance dt
  .next <|
    if s.therm.shut && s.lasted s.therm.coolUp (sec 10) then
      let s := s.mTherm fun x => { x with shut := false, coolUp := none }
      let s := s.logHw 0x0802 0 8 3 (leBytes 1 s.therm.step ++ leBytes 1 s.therm.step ++ leBytes 1 s.therm.hotId)
      ((s.mDrv fun d => { d with boostOn := s.pow.vpOk }).chargeReview).fansSettle.loopsSettle
    else s

/-- THERM_READ. -/
def execThermRead (q : Req) (flags : Byte) (s : State) : Host.Outcome State Fault Refusal := .next ((thermRead flags.toNat).serve q s)

/-- THERM_READ with SAMPLE set. -/
def execThermReadSample (q : Req) (flags : Byte) (s : State) : Host.Outcome State Fault Refusal :=
  .next ((thermRead (flags ||| 1).toNat).serve q s)

/-- THERM_CONFIG. -/
def execThermConfig (q : Req) (tStart : Byte) (ts7Period : Half) (pad : Byte) (s : State) : Host.Outcome State Fault Refusal :=
  .next ((thermConfig tStart.toNat ts7Period.toNat pad.toNat).serve q s)

end Sys2Proof.Machine
end

