-- ==== Sys2Proof/Machine/Status.lean ====
section
/-! DEFINITION. The per-node status record (Table 4.5), snapshots and their history (R313 to R323, R840), and the opcodes that read them. -/

namespace Sys2Proof.Machine

/-! ### The status record (Table 4.5) -/

/-- MODE. -/
def State.modeByte (s : State) : Nat :=
  match s.pow.stage with
  | .spore => 4
  | .running => if s.inj.isOpen then 3 else if s.frm.holder == .lichen then 2 else 1
  | _ => 0

/-- A flag of FE.CH_EVTn, FE.CJn or FE.GRP_STATg is set. -/
def State.feFlag (s : State) : Bool :=
  s.fe.ch.toList.any (fun c => c.ovr.set || c.burn.set) || s.fe.cj.toList.any (fun c => c.flt.set) ||
    s.fe.grp.toList.any fun g => g.scanSlip.set || g.checkFail.set

/-- CHF: channels whose record is bad, from the records of a boundary. -/
def chf (recs : List ChRec) : Nat := (recs.filter ChRec.bad).length

/-- A session of some sender has reached its re-key point (SYS.AUTH_STAT.REKEY_DUE). -/
def State.rekeyDue (s : State) : Bool :=
  (s.auth.openS.toList ++ s.auth.pendS.toList).any fun x => match x with
    | some y => y.rekeyDue
    | none => false

/-- A flag of SYS.AUTH_EVT is set. -/
def State.authFlag (s : State) : Bool := s.auth.tagFail.set || s.auth.stale.set || s.auth.missing.set || s.auth.zone.set || s.auth.rate.set

/-- An injection slot is active. -/
def State.injActive (s : State) : Bool := s.inj.slots.toList.any fun x => x.act

/-- ALARM, given the records and DPF of a boundary (R200, R239, R254, R337, R373, R466, R499, R604, R681; bit [0]: log entry 43). -/
def State.alarms (s : State) (recs : List ChRec) (dpf : Nat) : Nat :=
  pack [(1, bit (0 < chf recs || s.feFlag)), (1, bit s.drvAlarm), (1, bit s.fanAlarm), (1, bit s.loopAlarm), (1, bit (dpf != 0)),
        (1, bit (0 < s.therm.step || s.therm.shut)), (1, bit (s.pow.vpUv.set || s.pow.vpOv.set)),
        (1, bit (s.ring.ca.lol.set || s.ring.cb.lol.set || s.ring.ca.marginLow.set || s.ring.cb.marginLow.set)),
        (1, bit (s.sys.clkFault.set || s.sys.avsLimit.set)), (1, bit (s.cfgs.fault || !s.fe.calOk || s.upd.taint.set || s.upd.vfail.set)),
        (1, bit s.authFlag), (1, bit s.rekeyDue), (1, bit s.log.ovr.set), (1, bit s.injActive)]

/-- THERM: THERM_MAX in °C plus 50, rounded. -/
def State.thermByte (s : State) : Nat :=
  match s.therm.max with
  | some t => satTo 255 (roundDiv t 10 + 50).toNat
  | none => 0

/-- FAN: channels in SPIN_UP or RUNNING and groups in failover (R505). -/
def State.fanWord (s : State) : Nat :=
  pack [(12, maskOf 12 fun i => if h : i < 12 then (s.fan.ch[(⟨i, h⟩ : Fin 12)]).state.driven else false),
        (4, maskOf 4 fun i => if h : i < 4 then (s.fan.grp[(⟨i, h⟩ : Fin 4)]).failover else false)]

/-- The index of the newest log entry. -/
def State.logHead (s : State) : Nat := (s.log.eno + 2047) % 2048

/-- CT of the record: CT_VALID, ALIGNED, SRC. -/
def State.ctByte (s : State) : Nat := pack [(1, bit s.clk.ctValid), (1, bit s.aligned), (1, s.clk.src)]

/-- IMG of the record. -/
def State.imgByte (s : State) : Nat :=
  pack [(1, s.sys.active), (1, bit s.sys.stbyUp), (1, bit (s.inHandover || s.ho.phase == .fallback)), (1, bit (s.ho.phase == .trial))]

/-- The record of Table 4.5 for boundary `bidx`, from the records that stand at `t` µs. -/
def State.statusRecord (s : State) (bidx t : Nat) : List Byte :=
  let recs := (List.finRange 64).map fun n => s.recAt n t
  let dpf := s.dpf t
  leBytes 1 s.ring.addr ++ leBytes 1 s.modeByte ++ leBytes 1 (holderCode s.frm.holder) ++ leBytes 1 s.safeByte ++
    leBytes 2 (s.alarms recs dpf) ++ leBytes 1 s.therm.step ++ leBytes 1 s.thermByte ++ leBytes 4 bidx ++ leBytes 1 s.prog.kind ++
    leBytes 1 s.prog.state.code ++ leBytes 2 s.logHead ++ leBytes 2 (satTo 0xFFFF s.pow.vsPower) ++
    leBytes 2 (satTo 0xFFFF s.pow.vsLogic) ++ leBytes 4 s.drvActive ++ leBytes 2 s.fanWord ++ leBytes 1 (chf recs) ++ leBytes 1 dpf ++
    leBytes 1 s.ctByte ++ leBytes 1 0 ++ leBytes 1 s.imgByte ++ leBytes 1 0

/-- The record that a node gives while CTRL does not run (R175): MODE is 0, and 4 in spore mode (R800). -/
def State.startRecord (s : State) (bidx : Nat) : List Byte :=
  leBytes 1 s.ring.addr ++ leBytes 1 s.modeByte ++ List.replicate 6 0 ++ leBytes 4 bidx ++ List.replicate 20 0

/-- STATUS_READ: the record of the most recent control tick (R174), and before the first the record as the state stands (log entry 44). -/
def statusRead : Op :=
  Op.read 0x11 fun _ s =>
    .ok (if s.frm.statusRec.isEmpty then s.statusRecord (s.ctUs / 10000) (s.ctUs + 1) else s.frm.statusRec) s

/-! ### Publication (R313 to R319) -/

/-- Channels whose record a predicate admits, as a mask. -/
def chMask (p : Nat → Bool) : Nat := maskOf 64 p

/-- The header of Table 7.7; PUBNO counts this publication (log entry 81). -/
def State.snapHeader (s : State) (b : Nat) (recs : List ChRec) : List Byte :=
  leBytes 4 (b / 10000) ++ leBytes 6 b ++ leBytes 2 0 ++ leBytes 4 (s.snap.pubNo + 1) ++
    leBytes 8 (chMask fun i => if h : i < 64 then (s.fe.ch[(⟨i, h⟩ : Fin 64)]).cfg.typ != 0 else false) ++
    leBytes 8 (chMask fun i => (recs.getD i {}).bad) ++ leBytes 4 s.tab.gen ++
    leBytes 1 (pack [(1, bit s.clk.ctValid), (1, bit s.aligned)]) ++ List.replicate 27 0

/-- The 2,048 bytes of Table 7.6 for boundary `b` µs. -/
def State.snapImage (s : State) (b : Nat) : List Byte :=
  let recs := (List.finRange 64).map fun n => s.recAt n b
  s.snapHeader b recs ++ s.statusRecord (b / 10000) b ++ recs.flatMap ChRec.toBytes ++
    (List.finRange 8).flatMap (fun n => s.probeRec n b) ++ (List.finRange 8).flatMap (fun n => s.loEntry n) ++ List.replicate 608 0

/-- The snapshot of boundary `b` µs enters the history (R313, R316, R317). -/
def State.publish (s : State) (b : Nat) : State :=
  let sn : Snap := { slot := s.snap.nextSlot, bidx := b / 10000 % 2 ^ 32, btime := b, image := s.snapImage b,
                     stampHi := (List.finRange 64).map fun n => (s.recAt n b).stamp / 2 ^ 32 }
  s.mSnap fun x => { x with hist := (sn :: x.hist).take 8, pubNo := (x.pubNo + 1) % 2 ^ 32, nextSlot := (x.nextSlot + 1) % 8,
                            lastBidx := some (b / 10000) }

/-- The history is cleared when chain time steps (R317). -/
def State.snapClear (s : State) : State := s.mSnap fun x => { x with hist := [], nextSlot := 0 }

/-- The boundary (in 10 ms) at or before now, where its publication may still take place. -/
def State.pubNow (s : State) : Option Nat :=
  let b := s.ctUs / 10000
  let fresh := match s.snap.lastBidx with
    | some l => decide (l < b)
    | none => true
  if s.ctrlRuns && s.ctUs % 10000 ≤ 80 && fresh && 0 < b then some b else none

/-! ### Boundaries by BIDX (R840) -/

/-- The next boundary due for publication, in 10 ms. -/
def State.nextDue (s : State) : Nat :=
  let b := s.ctUs / 10000
  match s.pubNow, s.snap.lastBidx with
  | some x, _ => x
  | none, some l => max (l + 1) (b + 1)
  | none, none => b + 1

/-- `bidx` judged: the snapshot where the history holds it, LATE or BAD_PARAM where not (R144, R840). `newest`: 0xFFFF_FFFF names the newest. -/
def State.snapOf (s : State) (bidx : Nat) (newest : Bool) : Status ⊕ Snap :=
  if newest && bidx == 0xFFFFFFFF then
    match s.snap.hist with
    | x :: _ => .inr x
    | [] => .inl .late
  else match s.snap.hist.find? (fun x => x.bidx == bidx) with
    | some x => .inr x
    | none => .inl (if (bidx + 2 ^ 32 - s.nextDue % 2 ^ 32) % 2 ^ 32 < 2 ^ 31 then .badParam else .late)

/-- The reply that a judged BIDX leads to, built by `f` from its snapshot. -/
def snapRes (r : Status ⊕ Snap) (s : State) (f : Snap → List Byte) : Res :=
  match r with
  | .inl st => .bad st s
  | .inr x => .ok (f x) s

/-- A reply built from one snapshot. -/
def State.fromSnap (s : State) (bidx : Nat) (newest : Bool) (f : Snap → List Byte) : Res := snapRes (s.snapOf bidx newest) s f

/-- The status record stored beside a snapshot. -/
def Snap.status (x : Snap) : List Byte := (x.image.drop 64).take 32

/-- SWEEP (R172, R173, R175). -/
def sweep (bidx : Nat) : Op :=
  { opc := 0x07, bcast := true,
    run := fun _ _ s =>
      if !s.ctrlRuns then .ok (s.startRecord bidx) s
      else s.fromSnap bidx false Snap.status }

/-- SWEEP_RESUME (R144). -/
def sweepResume (bidx : Nat) : Op :=
  { opc := 0x08, bcast := true, run := fun _ _ s => s.fromSnap bidx false Snap.status }

/-! ### Results (Table 7.8, R320 to R323) -/

/-- The 16-byte record of channel `n` in a snapshot. -/
def Snap.recOf (x : Snap) (n : Nat) : List Byte := (x.image.drop (0x60 + 16 * n)).take 16

/-- READ_RESULTS. -/
def readResults (bidx ch count : Nat) : Op :=
  Op.read 0x30 fun _ s =>
    if count == 0 || 64 < ch + count then .bad .badParam s
    else s.fromSnap bidx true fun x =>
      leBytes 4 x.bidx ++ leBytes 1 ch ++ leBytes 1 count ++
        (List.range count).flatMap fun i => (x.recOf (ch + i)).take 4 ++ ((x.recOf (ch + i)).drop 8).take 4

/-- READ_RESULTS_FULL. -/
def readResultsFull (bidx ch count : Nat) : Op :=
  Op.read 0x31 fun _ s =>
    if count == 0 || 64 < ch + count || 56 < count then .bad .badParam s
    else s.fromSnap bidx true fun x =>
      leBytes 4 x.bidx ++ leBytes 6 x.btime ++ leBytes 1 ch ++ leBytes 1 count ++
        (List.range count).flatMap fun i => x.recOf (ch + i) ++ leBytes 2 (x.stampHi.getD (ch + i) 0)

/-- PROBE_READ MODE 0. -/
def probeReadSnapshot (bidx port count : Nat) : Op :=
  Op.read 0x35 fun _ s =>
    if count == 0 || 8 < port + count then .bad .badParam s
    else s.fromSnap bidx true fun x =>
      leBytes 1 0 ++ leBytes 4 x.bidx ++ leBytes 1 port ++ leBytes 1 count ++ (x.image.drop (0x460 + 32 * port)).take (32 * count)

/-- FE.SNAP_HEAD and FE.SNAP_BIDX (Table 7.11), by word. -/
def State.regSnap (s : State) (k : Nat) : Nat :=
  let d := s.snap.hist.length
  match s.snap.hist with
  | [] => 0
  | x :: _ => if k == 0 then pack [(3, x.slot), (1, 1), (4, d)] else x.bidx

/-- A byte of the snapshot window (R319): slots that hold no snapshot read 0x00. -/
def State.snapByte (s : State) (o : Nat) : Byte :=
  match s.snap.hist.find? (fun x => x.slot == o / 0x800) with
  | some x => x.image.getD (o % 0x800) 0
  | none => 0

/-! ### The commands -/

/-- STATUS_READ. -/
def execStatusRead (q : Req) (s : State) : Host.Outcome State Fault Refusal := .next (statusRead.serve q s)

/-- SWEEP. -/
def execSweep (q : Req) (bidx : Word) (s : State) : Host.Outcome State Fault Refusal := .next ((sweep bidx.toNat).serve q s)

/-- SWEEP_RESUME. -/
def execSweepResume (q : Req) (bidx : Word) (s : State) : Host.Outcome State Fault Refusal := .next ((sweepResume bidx.toNat).serve q s)

/-- READ_RESULTS. -/
def execReadResults (q : Req) (bidx : Word) (ch count : Byte) (s : State) : Host.Outcome State Fault Refusal :=
  .next ((readResults bidx.toNat ch.toNat count.toNat).serve q s)

/-- READ_RESULTS_FULL. -/
def execReadResultsFull (q : Req) (bidx : Word) (ch count : Byte) (s : State) : Host.Outcome State Fault Refusal :=
  .next ((readResultsFull bidx.toNat ch.toNat count.toNat).serve q s)

/-- PROBE_READ with MODE 0. -/
def execProbeReadSnapshot (q : Req) (bidx : Word) (port count : Byte) (s : State) : Host.Outcome State Fault Refusal :=
  .next ((probeReadSnapshot bidx.toNat port.toNat count.toNat).serve q s)

end Sys2Proof.Machine
end

