-- ==== Sys2Proof/Machine/Node.lean ====
section
/-! DEFINITION. The node's own opcodes (Table 4.8): pending operations, identity, full reset. -/

namespace Sys2Proof.Machine

/-- VERSION of the image of type `t` in service; 0 where none is. -/
def State.version (s : State) (t : Nat) : Nat :=
  match s.bankOf t with
  | some b => (s.upd.dir[b]).version
  | none => 0

/-- HWTYPE and HWREV (R3): type 0x6A41, revision C. -/
def hwBytes : List Byte := leBytes 2 0x6A41 ++ leBytes 1 0x43

/-- POLL_RESULT (R165, R167, R191). A ticket issued to an authenticated request needs a tag at GUARDED (Table 5.3). EST stands as it
was issued (log entry 50). -/
def pollResult (t : Nat) : Op :=
  { opc := 0x0E,
    run := fun q _ s =>
      if s.pow.stage == .ringReady then .bad .badState s
      else match s.frm.pend.find? fun p => p.ticket == t && p.sender == q.sender with
        | none => .bad .badParam s
        | some p =>
          if p.auth && s.guarded && !q.auth then .bad .authFail (s.mAuth fun a => { a with missing := a.missing.raise })
          else
            let head := leBytes 2 t ++ leBytes 1 p.opc
            match p.outcome with
            | none => { status := .acceptedPending, data := head ++ leBytes 2 p.est, s := s }
            | some o => { status := o.1, data := head ++ o.2, s := s } }

/-- IDENTIFY. -/
def identify : Op :=
  Op.read 0x10 fun _ s =>
    .ok (leBytes 8 Config.serial.toNat ++ hwBytes ++ leBytes 1 s.ring.addr ++ leBytes 1 (bit s.ring.pinned) ++ leBytes 1 s.modeByte ++
      leBytes 4 (s.version 0) ++ leBytes 4 (s.version 1) ++ leBytes 4 (s.version 2) ++ leBytes 4 (s.version 3)) s

/-- RESET (R192); the reset itself is due once the reply has been sent. -/
def resetOp (kind : Nat) : Op :=
  Op.order 0x14 .node fun _ s =>
    if kind != 1 then .bad .badParam s
    else if s.permitOn then .bad .heatActive s
    else if s.inHandover || s.ho.phase == .fallback then .bad .busy s
    else .ok [] s

/-! ### The commands -/

/-- POLL_RESULT. -/
def execPollResult (q : Req) (ticket : Half) (s : State) : Host.Outcome State Fault Refusal := .next ((pollResult ticket.toNat).serve q s)

/-- A kept outcome expires 60 s after its operation finished (R167). -/
def execResultExpire (dt : Nat) (ticket : Nat) (s : State) : Host.Outcome State Fault Refusal :=
  let s := s.advance dt
  .next (s.mFrm fun x =>
    { x with pend := x.pend.filter fun p => !(p.ticket == ticket && p.outcome.isSome && decide (sec 60 ≤ s.since p.doneUp)) })

/-- IDENTIFY. -/
def execIdentify (q : Req) (s : State) : Host.Outcome State Fault Refusal := .next (identify.serve q s)

/-- RESET. -/
def execReset (q : Req) (kind : Byte) (s : State) : Host.Outcome State Fault Refusal := .next ((resetOp kind.toNat).serve q s)

end Sys2Proof.Machine
end

