-- ==== Sys2Proof/Machine/Ports.lean ====
section
/-! DEFINITION. The two ring ports, the frames they keep and hold, and what becomes of those at a break (R96, R103 to R108). -/

namespace Sys2Proof.Machine

/-! ### Ports -/

/-- A ring port. -/
def State.port (s : State) (p : PortId) : Port :=
  match p with
  | .ca => s.ring.ca
  | .cb => s.ring.cb

/-- A ring port changed by `f`. -/
def State.mRp (s : State) (p : PortId) (f : Port → Port) : State :=
  match p with
  | .ca => s.mRing fun r => { r with ca := f r.ca }
  | .cb => s.mRing fun r => { r with cb := f r.cb }

/-- The port of the other lane's end. -/
def portOther : PortId → PortId
  | .ca => .cb
  | .cb => .ca

/-- Number of a port in log entries, opcodes and injections. -/
def portIx : PortId → Nat
  | .ca => 0
  | .cb => 1

/-- PARTNER (Table 3.5): TYPE of the last valid LINK_ID. -/
def Port.partner (p : Port) : Nat :=
  match p.linkId with
  | some k => k.type
  | none => 0

/-- PE, the pre-emphasis applied: the partner's PE_REQ, 2 without a valid LINK_ID (R89). -/
def Port.pe (p : Port) : Nat :=
  match p.linkId with
  | some k => k.lcfg % 8
  | none => 2

/-- The address of a host port or of the service port (R100). -/
def isHostAddr (a : Byte) : Bool := a == 0xF0 || a == 0xF1 || a == 0xF8

/-- A TURN's data bytes (R108, R837). -/
def turnBytes (kind addr pos reason : Nat) : List Byte :=
  let b := leBytes 1 kind ++ leBytes 1 addr ++ leBytes 1 pos ++ leBytes 1 reason
  b ++ leBytes 1 (xor8 b)

/-! ### Turnaround (R105 to R112) -/

/-- Symbol time in ns (Table 3.1). -/
def symNs (rate : Nat) : Nat := if rate == 0 then 800 else 3200

/-- POS of a frame that arrived with the HOP of `body` (R108). -/
def posOf (body : List Byte) : Nat := satTo 0xFF ((body.getD 10 0).toNat + 1)

/-- Port `p` takes up its insertion buffer's frames whose turn has come (R103) and drops the frames it need not keep any longer (R107). -/
def Port.flow (p : Port) (now : Nat) : Port :=
  { p with held := p.held.filter fun f => now < f.startNs,
           kept := (p.kept ++ p.held.filter fun f => f.startNs ≤ now && !f.abort).filter fun f => now < f.atNs + 40000 }

/-- Port `p` is in a gap between frames (R87, R131): it sends nothing, and nothing of its insertion buffer waits. -/
def Port.gap (p : Port) (now : Nat) : Bool := p.txEnd ≤ now

/-- The data bytes of the LINK_DOWN that replaces IDLE (Table 3.2): CAUSE; none while the port sends IDLE. -/
def Port.linkDownBytes (p : Port) : List Byte := if p.linkDown then leBytes 1 p.cause else []

/-- A frame that a node may turn back: it is not for a host port (R100), and is no copy ended with ABORT. -/
def TxFrame.mayTurn (f : TxFrame) : Bool := !isHostAddr (f.body.headD 0) && !f.abort

/-- The frame turned back at a break: its TURN is the newest one (R106, R108). -/
def TxFrame.turned (f : TxFrame) (addr reason : Nat) : TxFrame := { body := f.body, turn := turnBytes 2 addr (posOf f.body) reason }

/-- Frames that port `p` still keeps are turned back on the other lane with UNSURE (R107), those of its insertion buffer without it (R106);
one of the buffer for a host port is discarded (R110), and the DROP of port `p`, which it was to leave by, counts it (log entry 124). -/
def State.turnKept (s : State) (p : PortId) (cause : Nat) : State :=
  let s := s.mRp p fun x => x.flow s.clk.upNs
  let x := s.port p
  let turn := fun (reason : Nat) (f : TxFrame) => f.turned s.ring.addr reason
  let back := (x.kept.filter TxFrame.mayTurn).map (turn (cause + 0x80)) ++ (x.held.filter TxFrame.mayTurn).map (turn cause)
  let lost := (x.held.filter fun f => !f.mayTurn && !f.abort).length
  let s := s.mRp p fun x => { x with kept := [], held := [], drop := satTo 0x3F (x.drop + lost), turned := satTo 0x3F (x.turned + back.length) }
  s.mRp (portOther p) fun x => { x with ownQ := x.ownQ ++ back }

end Sys2Proof.Machine
end

