-- ==== Sys2Proof/Machine/Crypto.lean ====
section
/-! DEFINITION. The standard functions that R205, R212, R213, R219 (AES-128, AES-128-CMAC) and R735, R758 (SHA-256) name.
The spec gives their parameters and names the standards (FIPS 197, NIST SP 800-38B, SP 800-108, FIPS 180-4); the functions
themselves are PRESUMED from those standards (log entry 5). -/

namespace Sys2Proof.Machine

/-- The substitution table of AES (FIPS 197). -/
def aesSboxTable : List Nat :=
  [0x63, 0x7C, 0x77, 0x7B, 0xF2, 0x6B, 0x6F, 0xC5, 0x30, 0x01, 0x67, 0x2B, 0xFE, 0xD7, 0xAB, 0x76] ++
  [0xCA, 0x82, 0xC9, 0x7D, 0xFA, 0x59, 0x47, 0xF0, 0xAD, 0xD4, 0xA2, 0xAF, 0x9C, 0xA4, 0x72, 0xC0] ++
  [0xB7, 0xFD, 0x93, 0x26, 0x36, 0x3F, 0xF7, 0xCC, 0x34, 0xA5, 0xE5, 0xF1, 0x71, 0xD8, 0x31, 0x15] ++
  [0x04, 0xC7, 0x23, 0xC3, 0x18, 0x96, 0x05, 0x9A, 0x07, 0x12, 0x80, 0xE2, 0xEB, 0x27, 0xB2, 0x75] ++
  [0x09, 0x83, 0x2C, 0x1A, 0x1B, 0x6E, 0x5A, 0xA0, 0x52, 0x3B, 0xD6, 0xB3, 0x29, 0xE3, 0x2F, 0x84] ++
  [0x53, 0xD1, 0x00, 0xED, 0x20, 0xFC, 0xB1, 0x5B, 0x6A, 0xCB, 0xBE, 0x39, 0x4A, 0x4C, 0x58, 0xCF] ++
  [0xD0, 0xEF, 0xAA, 0xFB, 0x43, 0x4D, 0x33, 0x85, 0x45, 0xF9, 0x02, 0x7F, 0x50, 0x3C, 0x9F, 0xA8] ++
  [0x51, 0xA3, 0x40, 0x8F, 0x92, 0x9D, 0x38, 0xF5, 0xBC, 0xB6, 0xDA, 0x21, 0x10, 0xFF, 0xF3, 0xD2] ++
  [0xCD, 0x0C, 0x13, 0xEC, 0x5F, 0x97, 0x44, 0x17, 0xC4, 0xA7, 0x7E, 0x3D, 0x64, 0x5D, 0x19, 0x73] ++
  [0x60, 0x81, 0x4F, 0xDC, 0x22, 0x2A, 0x90, 0x88, 0x46, 0xEE, 0xB8, 0x14, 0xDE, 0x5E, 0x0B, 0xDB] ++
  [0xE0, 0x32, 0x3A, 0x0A, 0x49, 0x06, 0x24, 0x5C, 0xC2, 0xD3, 0xAC, 0x62, 0x91, 0x95, 0xE4, 0x79] ++
  [0xE7, 0xC8, 0x37, 0x6D, 0x8D, 0xD5, 0x4E, 0xA9, 0x6C, 0x56, 0xF4, 0xEA, 0x65, 0x7A, 0xAE, 0x08] ++
  [0xBA, 0x78, 0x25, 0x2E, 0x1C, 0xA6, 0xB4, 0xC6, 0xE8, 0xDD, 0x74, 0x1F, 0x4B, 0xBD, 0x8B, 0x8A] ++
  [0x70, 0x3E, 0xB5, 0x66, 0x48, 0x03, 0xF6, 0x0E, 0x61, 0x35, 0x57, 0xB9, 0x86, 0xC1, 0x1D, 0x9E] ++
  [0xE1, 0xF8, 0x98, 0x11, 0x69, 0xD9, 0x8E, 0x94, 0x9B, 0x1E, 0x87, 0xE9, 0xCE, 0x55, 0x28, 0xDF] ++
  [0x8C, 0xA1, 0x89, 0x0D, 0xBF, 0xE6, 0x42, 0x68, 0x41, 0x99, 0x2D, 0x0F, 0xB0, 0x54, 0xBB, 0x16]

/-- The substitution of one byte. -/
def aesSub (x : Nat) : Nat := aesSboxTable.getD x 0

/-- Multiplication by x in the field of AES. -/
def aesXtime (a : Nat) : Nat := if a ≥ 128 then ((2 * a) % 256) ^^^ 0x1B else 2 * a

/-- XOR of two byte strings, element by element. -/
def xorList (a b : List Nat) : List Nat := List.zipWith (fun x y => x ^^^ y) a b

/-- The key schedule: `n` further round keys after `k`, with round constant `rc`. -/
def aesRoundKeys : Nat → List Nat → Nat → List (List Nat)
  | 0, _, _ => []
  | n + 1, k, rc =>
    let t := [aesSub (k.getD 13 0) ^^^ rc, aesSub (k.getD 14 0), aesSub (k.getD 15 0), aesSub (k.getD 12 0)]
    let w0 := xorList (k.take 4) t
    let w1 := xorList ((k.drop 4).take 4) w0
    let w2 := xorList ((k.drop 8).take 4) w1
    let w3 := xorList ((k.drop 12).take 4) w2
    let k' := w0 ++ w1 ++ w2 ++ w3
    k' :: aesRoundKeys n k' (aesXtime rc)

/-- The row shift of AES on a column-major block. -/
def aesShiftRows (s : List Nat) : List Nat :=
  [0, 5, 10, 15, 4, 9, 14, 3, 8, 13, 2, 7, 12, 1, 6, 11].map (fun i => s.getD i 0)

/-- One column of the column mix of AES. -/
def aesMixColumn (a b c d : Nat) : List Nat :=
  [aesXtime a ^^^ (aesXtime b ^^^ b) ^^^ c ^^^ d, a ^^^ aesXtime b ^^^ (aesXtime c ^^^ c) ^^^ d,
   a ^^^ b ^^^ aesXtime c ^^^ (aesXtime d ^^^ d), (aesXtime a ^^^ a) ^^^ b ^^^ c ^^^ aesXtime d]

/-- The column mix of AES. -/
def aesMixColumns (s : List Nat) : List Nat :=
  (List.range 4).flatMap (fun c =>
    aesMixColumn (s.getD (4 * c) 0) (s.getD (4 * c + 1) 0) (s.getD (4 * c + 2) 0) (s.getD (4 * c + 3) 0))

/-- The rounds of AES after the first key addition; the last has no column mix. -/
def aesRounds : List (List Nat) → List Nat → List Nat
  | [], s => s
  | [k], s => xorList (aesShiftRows (s.map aesSub)) k
  | k :: ks, s => aesRounds ks (xorList (aesMixColumns (aesShiftRows (s.map aesSub))) k)

/-- AES-128 encryption of one 16-byte block (FIPS 197). -/
def aes128 (key block : List Byte) : List Byte :=
  let k := key.map BitVec.toNat
  (aesRounds (aesRoundKeys 10 k 1) (xorList (block.map BitVec.toNat) k)).map (BitVec.ofNat 8)

/-- The inverse of the row shift. -/
def aesUnshiftRows (s : List Nat) : List Nat :=
  [0, 13, 10, 7, 4, 1, 14, 11, 8, 5, 2, 15, 12, 9, 6, 3].map (fun i => s.getD i 0)

/-- The inverse of the column mix: the mix three times more, since its fourth power is the identity. -/
def aesUnmixColumns (s : List Nat) : List Nat := aesMixColumns (aesMixColumns (aesMixColumns s))

/-- The inverse rounds, with the round keys from the last but one down to the key itself. -/
def aesUnrounds : List (List Nat) → List Nat → List Nat
  | [], s => s
  | [k], s => xorList ((aesUnshiftRows s).map aesSboxTable.idxOf) k
  | k :: ks, s => aesUnrounds ks (aesUnmixColumns (xorList ((aesUnshiftRows s).map aesSboxTable.idxOf) k))

/-- AES-128 decryption of one 16-byte block (FIPS 197). -/
def aes128Inv (key block : List Byte) : List Byte :=
  let k := key.map BitVec.toNat
  match (k :: aesRoundKeys 10 k 1).reverse with
  | [] => block
  | last :: ks => (aesUnrounds ks (xorList (block.map BitVec.toNat) last)).map (BitVec.ofNat 8)

/-- A 16-byte string of zeros. -/
def zeros16 : List Byte := List.replicate 16 0

/-- XOR of two byte strings. -/
def xorBytes (a b : List Byte) : List Byte := List.zipWith (fun x y => x ^^^ y) a b

/-- A byte string, most significant byte first, doubled in the field of CMAC (SP 800-38B). -/
def cmacDouble (l : List Byte) : List Byte :=
  let v := l.foldl (fun a b => 256 * a + b.toNat) 0
  let d := (2 * v) % 2 ^ 128
  let d := if v ≥ 2 ^ 127 then d ^^^ 0x87 else d
  (leBytes 16 d).reverse

/-- The chaining of CMAC over the blocks before the last; `fuel` bounds the blocks. -/
def cmacChain (key k1 k2 : List Byte) : Nat → List Byte → List Byte → List Byte
  | 0, x, _ => x
  | n + 1, x, m =>
    if m.length ≤ 16 then
      let last :=
        if m.length = 16 then xorBytes m k1
        else xorBytes ((m ++ 0x80#8 :: zeros16).take 16) k2
      aes128 key (xorBytes x last)
    else cmacChain key k1 k2 n (aes128 key (xorBytes x (m.take 16))) (m.drop 16)

/-- AES-128-CMAC (SP 800-38B), 16 bytes. -/
def cmac (key m : List Byte) : List Byte :=
  let k1 := cmacDouble (aes128 key zeros16)
  cmacChain key k1 (cmacDouble k1) (m.length / 16 + 1) zeros16 m

/-- The round constants of SHA-256 (FIPS 180-4). -/
def shaConstants : List Nat :=
  [0x428A2F98, 0x71374491, 0xB5C0FBCF, 0xE9B5DBA5, 0x3956C25B, 0x59F111F1, 0x923F82A4, 0xAB1C5ED5] ++
  [0xD807AA98, 0x12835B01, 0x243185BE, 0x550C7DC3, 0x72BE5D74, 0x80DEB1FE, 0x9BDC06A7, 0xC19BF174] ++
  [0xE49B69C1, 0xEFBE4786, 0x0FC19DC6, 0x240CA1CC, 0x2DE92C6F, 0x4A7484AA, 0x5CB0A9DC, 0x76F988DA] ++
  [0x983E5152, 0xA831C66D, 0xB00327C8, 0xBF597FC7, 0xC6E00BF3, 0xD5A79147, 0x06CA6351, 0x14292967] ++
  [0x27B70A85, 0x2E1B2138, 0x4D2C6DFC, 0x53380D13, 0x650A7354, 0x766A0ABB, 0x81C2C92E, 0x92722C85] ++
  [0xA2BFE8A1, 0xA81A664B, 0xC24B8B70, 0xC76C51A3, 0xD192E819, 0xD6990624, 0xF40E3585, 0x106AA070] ++
  [0x19A4C116, 0x1E376C08, 0x2748774C, 0x34B0BCB5, 0x391C0CB3, 0x4ED8AA4A, 0x5B9CCA4F, 0x682E6FF3] ++
  [0x748F82EE, 0x78A5636F, 0x84C87814, 0x8CC70208, 0x90BEFFFA, 0xA4506CEB, 0xBEF9A3F7, 0xC67178F2]

/-- The initial hash value of SHA-256. -/
def shaInit : List Nat := [0x6A09E667, 0xBB67AE85, 0x3C6EF372, 0xA54FF53A, 0x510E527F, 0x9B05688C, 0x1F83D9AB, 0x5BE0CD19]

/-- Rotation right of a 32-bit word. -/
def rotr32 (x n : Nat) : Nat := (x / 2 ^ n) ||| (x * 2 ^ (32 - n) % 2 ^ 32)

/-- `n` more words of the message schedule, the words so far held newest first. -/
def shaExtend : Nat → List Nat → List Nat
  | 0, w => w
  | n + 1, w =>
    let a := w.getD 14 0
    let b := w.getD 1 0
    let s0 := rotr32 a 7 ^^^ rotr32 a 18 ^^^ (a / 8)
    let s1 := rotr32 b 17 ^^^ rotr32 b 19 ^^^ (b / 1024)
    shaExtend n (((w.getD 15 0 + s0 + w.getD 6 0 + s1) % 2 ^ 32) :: w)

/-- One round of SHA-256 on the eight working variables. -/
def shaRound (h : List Nat) (kw : Nat) : List Nat :=
  match h with
  | [a, b, c, d, e, f, g, i] =>
    let t1 := i + (rotr32 e 6 ^^^ rotr32 e 11 ^^^ rotr32 e 25) + ((e &&& f) ^^^ ((0xFFFFFFFF ^^^ e) &&& g)) + kw
    let t2 := (rotr32 a 2 ^^^ rotr32 a 13 ^^^ rotr32 a 22) + ((a &&& b) ^^^ (a &&& c) ^^^ (b &&& c))
    [(t1 + t2) % 2 ^ 32, a, b, c, (d + t1) % 2 ^ 32, e, f, g]
  | h => h

/-- A byte string as a number, most significant byte first. -/
def beNat (l : List Byte) : Nat := l.foldl (fun a b => 256 * a + b.toNat) 0

/-- One 64-byte block of SHA-256. -/
def shaBlock (h : List Nat) (blk : List Byte) : List Nat :=
  let w := ((List.range 16).map (fun i => beNat ((blk.drop (4 * i)).take 4))).reverse
  let ws := (shaExtend 48 w).reverse
  List.zipWith (fun x y => (x + y) % 2 ^ 32) h ((List.zipWith (fun k x => k + x) shaConstants ws).foldl shaRound h)

/-- The blocks of SHA-256, at most `fuel` of them. -/
def shaBlocks : Nat → List Nat → List Byte → List Nat
  | 0, h, _ => h
  | n + 1, h, m => if m.length < 64 then h else shaBlocks n (shaBlock h (m.take 64)) (m.drop 64)

/-- SHA-256 (FIPS 180-4), 32 bytes. -/
def sha256 (m : List Byte) : List Byte :=
  let padLen := (119 - m.length % 64) % 64
  let p := m ++ [0x80#8] ++ List.replicate padLen 0 ++ (leBytes 8 (8 * m.length)).reverse
  (shaBlocks (p.length / 64) shaInit p).flatMap (fun x => (leBytes 4 x).reverse)

/-! ### ECDSA on P-256 (R740; FIPS 186-4, log entry 142) -/

/-- The curve: the prime of its field, the coefficient b (a is −3), the order of its base point, the base point. -/
def p256P : Nat := 0xFFFFFFFF00000001000000000000000000000000FFFFFFFFFFFFFFFFFFFFFFFF
def p256B : Nat := 0x5AC635D8AA3A93E7B3EBBD55769886BC651D06B0CC53B0F63BCE3C3E27D2604B
def p256N : Nat := 0xFFFFFFFF00000000FFFFFFFFFFFFFFFFBCE6FAADA7179E84F3B9CAC2FC632551
def p256G : Nat × Nat :=
  (0x6B17D1F2E12C4247F8BCE6E563A440F277037D812DEB33A0F4A13945D898C296, 0x4FE342E2FE1A7F9B8EE7EB4A7C0F9E162BCE33576B315ECECBB6406837BF51F5)

/-- `b` to the power `e` modulo `m`, over `k` bits of `e` from the least significant one on. -/
def powMod (m : Nat) : Nat → Nat → Nat → Nat
  | 0, _, _ => 1 % m
  | k + 1, b, e =>
    let r := powMod m k (b * b % m) (e / 2)
    if e % 2 == 1 then b * r % m else r

/-- The inverse of `x` modulo a prime `m` of 256 bits. -/
def invMod (m x : Nat) : Nat := powMod m 256 (x % m) (m - 2)

/-- `x - y` modulo `m`. -/
def subMod (m x y : Nat) : Nat := (x % m + m - y % m) % m

/-- A point of the curve; none is the point at infinity. -/
abbrev EcPoint := Option (Nat × Nat)

/-- The third point on a line of slope `l` through `(x, y)` and a point with abscissa `x'`, mirrored. -/
def ecThird (l x y x' : Nat) : EcPoint :=
  let u := subMod p256P (l * l) (x + x')
  some (u, subMod p256P (l * subMod p256P x u) y)

/-- The sum of two points. -/
def ecAdd (a b : EcPoint) : EcPoint :=
  match a, b with
  | none, b => b
  | a, none => a
  | some (x, y), some (x', y') =>
    if x == x' then
      if (y + y') % p256P == 0 then none
      else ecThird (subMod p256P (3 * x * x) 3 * invMod p256P (2 * y) % p256P) x y x
    else ecThird (subMod p256P y' y * invMod p256P (subMod p256P x' x) % p256P) x y x'

/-- `e` times a point, over `k` bits of `e` from the least significant one on. -/
def ecMul : Nat → Nat → EcPoint → EcPoint
  | 0, _, _ => none
  | k + 1, e, a =>
    let r := ecMul k (e / 2) (ecAdd a a)
    if e % 2 == 1 then ecAdd a r else r

/-- The signature `(r, s)` over a 32-byte hash is valid under the public key `q`. -/
def ecdsaValid (q : Nat × Nat) (hash : List Byte) (r s : Nat) : Bool :=
  inR 1 r (p256N - 1) && inR 1 s (p256N - 1) &&
    let w := invMod p256N s
    match ecAdd (ecMul 256 (beNat hash * w % p256N) (some p256G)) (ecMul 256 (r * w % p256N) (some q)) with
    | some (x, _) => x % p256N == r
    | none => false

end Sys2Proof.Machine
end

