-- ==== Sys2Proof/Machine/Memory.lean ====
section
/-! DEFINITION. Memory that holds what is written to it: the host buffer area of SRAM and the image flash (Tables 17.2 and 17.4), as one
list of (address, byte) in canonical form: addresses strictly rising, no entry equal to what an unlisted address reads as. -/

namespace Sys2Proof.Machine

/-- What an unlisted address reads as: erased flash 0xFF (R738); the host buffer area, which holds undefined data after a start (R732),
0x00 (log entry 51). -/
def memDefault (a : Nat) : Byte := if a < 0x30000000 then 0x00 else 0xFF

/-- The byte at `a`. -/
def memGet : List Host.Cell → Nat → Byte
  | [], a => memDefault a
  | c :: r, a => if c.1 == a then c.2 else memGet r a

/-- The byte `b` put at `a`. -/
def memPut : List Host.Cell → Nat → Byte → List Host.Cell
  | [], a, b => if b == memDefault a then [] else [(a, b)]
  | c :: r, a, b =>
    if a < c.1 then (if b == memDefault a then c :: r else (a, b) :: c :: r)
    else if c.1 == a then (if b == memDefault a then r else (a, b) :: r)
    else c :: memPut r a b

/-- The bytes `p` put from `a` on. -/
def memPutAll (m : List Host.Cell) (a : Nat) : List Byte → List Host.Cell
  | [] => m
  | b :: r => memPutAll (memPut m a b) (a + 1) r

/-- `n` bytes from `a` on. -/
def memSpan (m : List Host.Cell) (a n : Nat) : List Byte := (List.range n).map fun i => memGet m (a + i)

/-- Addresses `lo` to `hi - 1` back to what they read as unlisted. -/
def memClear (m : List Host.Cell) (lo hi : Nat) : List Host.Cell := m.filter fun c => c.1 < lo || hi ≤ c.1

/-- Addresses strictly rise above `lo`, and no entry is an unlisted address's value. -/
def memWfFrom : Nat → List Host.Cell → Bool
  | _, [] => true
  | lo, c :: r => lo ≤ c.1 && c.2 != memDefault c.1 && memWfFrom (c.1 + 1) r

/-- The canonical form holds. -/
def memWf (m : List Host.Cell) : Bool := memWfFrom 0 m

/-! ### Image banks (Tables 17.4 and 18.1) -/

/-- Base address of bank `b` (2 × type + bank). -/
def bankBase (b : Nat) : Nat :=
  match b with
  | 0 => 0x30000000
  | 1 => 0x30180000
  | 2 => 0x30300000
  | 3 => 0x30340000
  | 4 => 0x30380000
  | 5 => 0x303A0000
  | 6 => 0x303C0000
  | _ => 0x303D0000

/-- Size of bank `b`. -/
def bankSize (b : Nat) : Nat :=
  match b / 2 with
  | 0 => 1572864
  | 1 => 262144
  | 2 => 131072
  | _ => 65536

/-- The byte at offset `o` of bank `b`; the bytes of a delivered image are free (log entry 4), and those of a bank whose erase or programming
failed or was cut off (log entry 103). -/
def State.bankByte (s : State) (b : Fin 8) (o : Nat) : Byte :=
  if (s.upd.dir[b]).factory then Config.freeByte (bankBase b.val + o + 2 ^ 32 * (s.upd.dir[b]).erases) else memGet s.mem (bankBase b.val + o)

/-- `n` bytes of bank `b` from offset `o` on. -/
def State.bankSpan (s : State) (b : Fin 8) (o n : Nat) : List Byte := (List.range n).map fun i => s.bankByte b (o + i)

/-- The image in bank `b` passes its hash: SHA-256 over IMG_LEN bytes equals IMG_HASH; a delivered image passes (log entry 52). -/
def State.hashPasses (s : State) (b : Fin 8) : Bool :=
  let d := s.upd.dir[b]
  d.state != .empty && (d.factory || sha256 (s.bankSpan b 0 d.imgLen) == d.imgHash)

end Sys2Proof.Machine
end

