-- ==== Sys2Proof/Machine/Update.lean ====
section
/-! DEFINITION. Skeins, delta payloads and the update transfer (chapter 18). What a commit starts stands in Handover.lean. -/

namespace Sys2Proof.Machine

/-! ### The skein header (Tables 18.3 and 18.4) -/

/-- TYPE of an image type. -/
def ImgType.code : ImgType → Nat
  | .ctrl => 1
  | .safe => 2
  | .port => 3
  | .cal => 4

/-- The image type that TYPE names. -/
def imgType : Nat → Option ImgType
  | 1 => some .ctrl
  | 2 => some .safe
  | 3 => some .port
  | 4 => some .cal
  | _ => none

/-- Place of a type among the bank pairs. -/
def ImgType.ix (t : ImgType) : Nat := t.code - 1

/-- The fields of a header. -/
def Skein.ofBytes (h : List Byte) : Skein :=
  { typ := (imgType (fieldAt h 5 1)).getD .ctrl, delta := fieldAt h 6 1 == 1, downgrade := bitOf (fieldAt h 7 1) 0, epoch := fieldAt h 15 1,
    version := fieldAt h 16 4, srcVer := fieldAt h 20 4, imgLen := fieldAt h 32 4, payLen := fieldAt h 36 4, imgHash := (h.drop 40).take 32,
    srcHash := (h.drop 72).take 32, minver := Vector.ofFn fun i : Fin 4 => fieldAt h (104 + 4 * i.val) 4, proto := fieldAt h 120 2,
    protoMin := fieldAt h 122 2, protoMax := fieldAt h 124 2 }

/-- MAGIC. -/
def skeinMagic : List Byte := [0x53, 0x4B, 0x4E, 0x31]

/-- Step 2 of Table 18.8 on a header. -/
def skeinOk (h : List Byte) : Bool :=
  let k := Skein.ofBytes h
  h.take 4 == skeinMagic && fieldAt h 4 1 == 1 && (imgType (fieldAt h 5 1)).isSome && fieldAt h 6 1 < 2 && fieldAt h 7 1 < 2 &&
    fieldAt h 8 2 == 256 && fieldAt h 14 1 < 2 && k.epoch ≤ 64 && allZero ((h.drop 126).take 66) && k.imgLen % 4 == 0 && 4 ≤ k.imgLen &&
    k.imgLen ≤ bankSize (2 * k.typ.ix) && k.payLen % 4 == 0 && 4 ≤ k.payLen &&
    (k.delta || (k.payLen == k.imgLen && k.srcVer == 0 && allZero k.srcHash))

/-- Step 4 of Table 18.8: the skein is bound to this hardware. -/
def skeinBinds (h : List Byte) : Bool :=
  let serial := fieldAt h 24 8
  fieldAt h 10 2 == 0x6A41 && bitOf (fieldAt h 12 2) 2 && (serial == 0 || serial == Config.serial.toNat) &&
    !(fieldAt h 5 1 == 4 && serial == 0)

/-- Erase time of a bank (Table 18.1), ms. -/
def eraseMs (t : ImgType) : Nat :=
  match t with
  | .ctrl => 1200
  | .safe => 200
  | .port => 100
  | .cal => 50

/-! ### Banks -/

/-- Bank `b` of a type. -/
def ImgType.bank (t : ImgType) (b : Nat) : Fin 8 := ⟨2 * t.ix + b % 2, by cases t <;> simp [ImgType.ix, ImgType.code] <;> omega⟩

/-- The bank of a pair that is not in service (R735). With none in service it is the standby core's for CTRL, and bank 0 for the other
types (log entry 53). -/
def State.targetBank (s : State) (t : ImgType) : Nat :=
  match s.bankOf t.ix with
  | some b => 1 - b.val % 2
  | none => if t == .ctrl then 1 - s.sys.active else 0

/-- Directory entry `i` changed by `f`; the write is complete at once (R736, log entry 143). -/
def State.mBank (s : State) (i : Fin 8) (f : Bank → Bank) : State := s.mUpd fun u => { u with dir := vmod u.dir i f }

/-- A bank becomes EMPTY; of its entry only ERASES stays, and what its flash holds (log entry 54). -/
def Bank.empty (b : Bank) : Bank := { erases := b.erases, factory := b.factory }

/-- The bank of the transfer. -/
def State.xferBank (s : State) : Fin 8 := s.upd.hdr.typ.bank s.upd.bank

/-- The bank of the transfer becomes EMPTY; where its flash is left in an unknown state its bytes are free (log entry 103). -/
def State.dropBank (s : State) (known : Bool) : State :=
  s.mBank s.xferBank fun d => { d.empty with factory := d.factory || !known }

/-- The directory as a start finds it: the flash of a bank that was being erased or programmed is in an unknown state (log entry 103). -/
def State.dirCut (s : State) : Vector Bank 8 :=
  if (s.upd.state == .erasing && s.upd.checked) || !s.upd.queue.isEmpty then vmod s.upd.dir s.xferBank fun d => { d with factory := true }
  else s.upd.dir

/-- The image of bank `d` is in service or committed. -/
def Bank.counts (d : Bank) : Bool := d.state == .inService || d.state == .committed

/-- R794: an image of type `t` with this MINVER and VERSION admits the images in service and committed. -/
def State.admits (s : State) (t : ImgType) (minver : Vector Nat 4) (version : Nat) : Bool :=
  (List.finRange 8).all fun i =>
    let d := s.upd.dir[i]
    !d.counts || ((i.val / 2 == t.ix || minver.toList.getD (i.val / 2) 0 ≤ d.version) &&
      (i.val / 2 == t.ix || d.minver.toList.getD t.ix 0 ≤ version))

/-! ### The transfer -/

/-- A transfer is open (states 1 to 4). -/
def State.updOpen (s : State) : Bool :=
  match s.upd.state with
  | .erasing | .receiving | .verifying | .verified => true
  | _ => false

/-- Codes of Table 18.6. -/
def XferState.code : XferState → Nat
  | .idle => 0
  | .erasing => 1
  | .receiving => 2
  | .verifying => 3
  | .verified => 4
  | .committed => 5
  | .tainted => 6

/-- No transfer, for `reason`; directory, counts and flags stay. -/
def Update.toIdle (u : Update) (reason : Nat) : Update :=
  { reason := reason, tidCnt := u.tidCnt, taint := u.taint, vfail := u.vfail, repeatCnt := u.repeatCnt, dir := u.dir, fused := u.fused }

/-- A log entry of CLASS 0x0B. -/
def State.logUpd (s : State) (code : Nat) (data : List Byte) : State := s.logE 0x0B code data

/-- The transfer ends as aborted or replaced (R747, R762). -/
def State.updEnd (s : State) (reason : Nat) : State :=
  let tid := s.upd.tid
  ((s.dropBank s.upd.queue.isEmpty).mUpd fun u => u.toIdle reason).logUpd 6 (leBytes 2 tid ++ leBytes 1 reason)

/-- The transfer is tainted (R747, R755, R757). -/
def State.updTaint (s : State) (reason ofs : Nat) : State :=
  ((s.dropBank (s.upd.queue.isEmpty && reason != 3)).mUpd fun u =>
    { u with state := .tainted, reason := reason, ticket := 0, queue := [], taint := u.taint.raise }).logUpd 3
    (leBytes 2 s.upd.tid ++ leBytes 1 reason ++ leBytes 4 ofs)

/-- The TID after `t` (R752). -/
def nextTid (t : Nat) : Nat := if t + 1 ≥ 0xFFFF then 1 else t + 1

/-- UPDATE_BEGIN (R748, Table 18.8 steps 1 to 5). -/
def updateBegin (p : List Byte) : Op :=
  { opc := 0x10, mem := true, needle := true, prot := .tagged, lenOk := p.length == 260, targets := fun _ => [(.transfer, false)],
    run := fun q _ s =>
      let h := p.drop 4
      if !(fieldAt p 0 1 < 2 && fieldAt p 1 3 == 0 && skeinOk h) then .bad .badParam s
      else
        let replace := bitOf (fieldAt p 0 1) 0
        let may := match s.upd.state with
          | .idle | .tainted | .committed => true
          | .receiving | .verified => replace
          | _ => false
        if !may || s.activating then .bad .badState s
        else if s.pendingOps ≥ 4 then .bad .busy s
        else if !skeinBinds h then .bad .bindingMismatch s
        else if s.therm.shut || !s.pow.vlOk then .bad .badState s
        else
          let k := Skein.ofBytes h
          let s := if s.updOpen then s.updEnd 7 else s
          s.withTicket q 0x10 ((70 + eraseMs k.typ) / 10) fun t s =>
            s.mUpd fun u =>
              { u.toIdle 0 with state := .erasing, hdr := k, header := h, ticket := t, tid := nextTid u.tidCnt, tidCnt := nextTid u.tidCnt,
                                bank := s.targetBank k.typ } }

/-- SIG of a header is valid: ECDSA over the SHA-256 hash of bytes 0 to 191, r and s most significant byte first (R740). -/
def skeinSigned (h : List Byte) : Bool :=
  ecdsaValid (Config.updateKey (fieldAt h 14 1)) (sha256 (h.take 192)) (beNat ((h.drop 192).take 32)) (beNat ((h.drop 224).take 32))

/-- Steps 6 to 10 of Table 18.8. -/
def State.updStatus (s : State) : Status :=
  let k := s.upd.hdr
  let base := s.bankOf k.typ.ix
  let older := match base with
    | some b => decide (k.version < (s.upd.dir[b]).version)
    | none => false
  let baseOk := match base with
    | some b =>
      let d := s.upd.dir[b]
      d.version == k.srcVer && (if d.factory then Config.factoryHash k.typ.ix else d.imgHash) == k.srcHash
    | none => false
  if !skeinSigned s.upd.header then .signatureFail
  else if k.epoch < s.upd.fused then .versionRollback
  else if older && !k.downgrade then .versionRollback
  else if k.delta && !baseOk then .incompatible
  else if !s.admits k.typ k.minver k.version then .incompatible
  else .ok

/-- UPDATE_ABORT takes effect once running work has ended (R762). -/
def State.updAborted (s : State) : State := (s.finish s.upd.ticket .badState []).updEnd 8

/-- The checks under signature end: the erase starts, or the begin fails (R749, R751). -/
def State.updChecked (s : State) : State :=
  if s.upd.state != .erasing || s.upd.checked then s
  else if s.upd.abortDue then s.updAborted
  else
    let k := s.upd.hdr
    match s.updStatus with
    | .ok =>
      let b := s.xferBank
      let s := s.mBank b fun d =>
        { state := .transfer, version := k.version, epoch := k.epoch, imgLen := k.imgLen, imgHash := k.imgHash, erases := inc32 d.erases,
          minver := k.minver, proto := k.proto, protoMin := k.protoMin, protoMax := k.protoMax }
      let s := (s.mMem fun m => memClear m (bankBase b.val) (bankBase b.val + bankSize b.val)).mUpd fun u => { u with checked := true }
      let s := if k.typ == .ctrl then s.mSys fun x => { x with stbyUp := false } else s
      s.logUpd 1 (leBytes 1 k.typ.code ++ leBytes 1 (bit k.delta) ++ leBytes 1 s.upd.bank ++ leBytes 2 s.upd.tid ++ leBytes 4 k.version ++
        leBytes 1 k.epoch)
    | st =>
      ((s.finish s.upd.ticket st []).mUpd fun u => u.toIdle 0).logUpd 2
        (leBytes 1 k.typ.code ++ leBytes 1 (statusCode st) ++ leBytes 4 k.version ++ leBytes 1 k.epoch)

/-- The erase and the blank check end (R749). -/
def State.updErased (s : State) (blankOk : Bool) : State :=
  if s.upd.state != .erasing || !s.upd.checked then s
  else if s.upd.abortDue then (s.dropBank blankOk).updAborted
  else
    let k := s.upd.hdr
    if blankOk then
      (s.finish s.upd.ticket .ok (leBytes 2 s.upd.tid ++ leBytes 1 k.typ.code ++ leBytes 1 (bit k.delta) ++ leBytes 1 s.upd.bank ++
        leBytes 1 0 ++ leBytes 4 k.imgLen ++ leBytes 4 k.payLen)).mUpd fun u => { u with state := .receiving, ticket := 0 }
    else ((s.finish s.upd.ticket .busError []).dropBank false).mUpd fun u => u.toIdle 0

/-! ### Delta operations (R742 to R745) -/

/-- What reading one operation gives: more bytes are needed, it is malformed (REASON), the end, or its output and length in the stream. -/
inductive DeltaOp where
  | more
  | bad (reason : Nat)
  | fin
  | out (bytes : List Byte) (used : Nat)

/-- The first operation of `p`: `base` reads the base image of `srcLen` bytes, `room` bytes of output are left. -/
def deltaOp (base : Nat → Byte) (srcLen room : Nat) (p : List Byte) : DeltaOp :=
  let ofs := fieldAt p 1 4
  match p.head? with
  | none => .more
  | some c =>
    match c.toNat with
    | 0 => .fin
    | 1 =>
      if p.length < 9 then .more
      else
        let n := fieldAt p 5 4
        if !(inR 1 n 65536 && n ≤ room) then .bad 4
        else if ofs + n > srcLen then .bad 5
        else .out ((List.range n).map fun i => base (ofs + i)) 9
    | 2 =>
      if p.length < 7 then .more
      else
        let n := fieldAt p 5 2
        if !(inR 1 n 4096 && n ≤ room) then .bad 4
        else if ofs + n > srcLen then .bad 5
        else if p.length < 7 + n then .more
        else .out ((List.range n).map fun i => base (ofs + i) + (p.getD (7 + i) 0)) (7 + n)
    | 3 =>
      if p.length < 3 then .more
      else
        let n := fieldAt p 1 2
        if !(inR 1 n 4096 && n ≤ room) then .bad 4
        else if p.length < 3 + n then .more
        else .out ((p.drop 3).take n) (3 + n)
    | 4 =>
      if p.length < 6 then .more
      else
        let n := fieldAt p 1 4
        if !(inR 1 n 65536 && n ≤ room) then .bad 4 else .out (List.replicate n (p.getD 5 0)) 6
    | _ => .bad 4

/-- The applier runs over what it holds: the operations completed, their output `acc`, or a REASON. At most `fuel` operations. -/
def deltaRun (base : Nat → Byte) (srcLen imgLen : Nat) : Nat → Delta → List Byte → List Byte → Delta × List Byte × Option Nat
  | 0, d, p, acc => ({ d with hold := p }, acc, none)
  | fuel + 1, d, p, acc =>
    if d.ended then ({ d with hold := [] }, acc, if allZero p then none else some 4)
    else match deltaOp base srcLen (imgLen - d.outLen) p with
      | .more => ({ d with hold := p }, acc, none)
      | .bad r => (d, acc, some r)
      | .fin => if d.outLen != imgLen then (d, acc, some 4) else deltaRun base srcLen imgLen fuel { d with ended := true } (p.drop 1) acc
      | .out b n => deltaRun base srcLen imgLen fuel { d with outLen := d.outLen + b.length } (p.drop n) (acc ++ b)

/-- One block of a delta payload: the applier after it and the whole words to program, or a REASON (R743 to R745). -/
def State.deltaBlock (s : State) (data : List Byte) : Delta × List Byte × Option Nat :=
  let d := s.upd.delta
  let src := (s.bankOf s.upd.hdr.typ.ix).getD 0
  let r := deltaRun (fun o => s.bankByte src o) (s.upd.dir[src]).imgLen s.upd.hdr.imgLen ((d.hold ++ data).length + 1) d (d.hold ++ data) []
  match r with
  | (d', out, none) =>
    if out.length > 65536 then (d, [], some 4)
    else
      let all := d.tail ++ out
      let n := all.length / 4 * 4
      ({ d' with tail := all.drop n }, all.take n, none)
  | (_, _, some e) => (d, [], some e)

/-! ### Blocks (R753 to R757, R764) -/

/-- An interval put into the ledger: merged with those it touches. -/
def ledgerAdd : List (Nat × Nat) → Nat × Nat → List (Nat × Nat)
  | [], x => [x]
  | y :: r, x =>
    if x.2 < y.1 then x :: y :: r
    else if y.2 < x.1 then y :: ledgerAdd r x
    else ledgerAdd r (min x.1 y.1, max x.2 y.2)

/-- The end of the ledger of a DELTA. -/
def ledgerEnd (l : List (Nat × Nat)) : Nat :=
  match l.getLast? with
  | some x => x.2
  | none => 0

/-- The lowest offset missing. -/
def ledgerGap (l : List (Nat × Nat)) : Nat :=
  match l with
  | x :: _ => if x.1 == 0 then x.2 else 0
  | [] => 0

/-- The byte of the target bank at `a`, words queued for programming included. -/
def State.queuedByte (s : State) (a : Nat) : Byte :=
  match s.upd.queue.find? fun x => x.1 ≤ a && a < x.1 + x.2.length with
  | some x => x.2.getD (a - x.1) 0
  | none => memGet s.mem a

/-- Bytes of payload range `ofs`, `n` as held (R753); none where they are no longer. -/
def State.heldBytes (s : State) (ofs n : Nat) : Option (List Byte) :=
  if s.upd.hdr.delta then
    let start := ledgerEnd s.upd.ledger - s.upd.buf.length
    if ofs < start then none else some ((s.upd.buf.drop (ofs - start)).take n)
  else some ((List.range n).map fun i => s.queuedByte (bankBase s.xferBank.val + ofs + i))

/-- A block that is new: its output queued and its range in the ledger, or what stops it. -/
def State.newBlock (s : State) (ofs : Nat) (data : List Byte) (reply : Nat → List Byte) : Res :=
  let u := s.upd
  let r : Delta × List Byte × Option Nat := if u.hdr.delta then s.deltaBlock data else (u.delta, data, none)
  match r with
  | (_, _, some reason) => .bad .badParam (s.updTaint reason ofs)
  | (d, out, none) =>
    let a := bankBase s.xferBank.val + if u.hdr.delta then u.delta.outLen - u.delta.tail.length else ofs
    let led := ledgerAdd u.ledger (ofs, ofs + data.length)
    if led.length > 64 then .bad .badState s
    else if (List.range out.length).any (fun i => s.queuedByte (a + i) != 0xFF) then .bad .notErased (s.updTaint 2 ofs)
    else
      let all := u.buf ++ data
      .ok (reply 0) ((s.mUpd fun u =>
        { u with queue := if out.isEmpty then u.queue else u.queue ++ [(a, out)], ledger := led, delta := d,
                 buf := if u.hdr.delta then all.drop (all.length - 8192) else [] }).scDone 7)

/-- A run of payload bytes `data` at `ofs`, handled as a block (R753 to R757, R764). -/
def State.blockRun (s : State) (ofs : Nat) (data : List Byte) (reply : Nat → List Byte) : Res :=
  let u := s.upd
  let n := data.length
  if u.state == .tainted then .bad .tainted s
  else if u.state != .receiving then .bad .badState s
  else if 131072 < (u.queue.map fun x => x.2.length).sum then .bad .busy s
  else
    let inside := u.ledger.any fun x => x.1 ≤ ofs && ofs + n ≤ x.2
    let touches := u.ledger.any fun x => x.1 < ofs + n && ofs < x.2
    if touches && !inside then .bad .badParam s
    else if inside then
      match s.heldBytes ofs n with
      | none => .bad .badParam s
      | some held =>
        if held == data then .ok (reply 1) (s.mUpd fun u => { u with repeatCnt := inc16 u.repeatCnt })
        else .bad .tainted (s.updTaint 1 ofs)
    else if u.hdr.delta && ofs != ledgerEnd u.ledger then .bad .badParam s
    else s.newBlock ofs data reply

/-- The words of a block that stand, as runs of adjacent words: offset and bytes, in order (R187, R763). -/
def wordRuns (keep : Nat → Bool) : Nat → Nat → List Byte → List (Nat × List Byte)
  | 0, _, _ => []
  | k + 1, ofs, d =>
    let rest := wordRuns keep k (ofs + 4) (d.drop 4)
    if !keep ofs then rest
    else match rest with
      | (o, b) :: r => if o == ofs + 4 then (ofs, d.take 4 ++ b) :: r else (ofs, d.take 4) :: rest
      | [] => [(ofs, d.take 4)]

/-- UPDATE_BLOCK. A block that another one beats on some of its words is handled on the words where it stands (R187; log entry 133). -/
def updateBlock (p : List Byte) : Op :=
  let ofs := fieldAt p 4 4
  let data := p.drop 8
  let n := data.length
  { opc := 0x11, mem := true, needle := true, prot := .tagged, lenOk := inR 4 n 1016 && n % 4 == 0,
    targets := fun _ => (List.range ((ofs % 4 + n + 3) / 4)).map fun i => (.block (ofs / 4 * 4 + 4 * i), false),
    run := fun _ keep s =>
      let u := s.upd
      let reply := fun rfl => leBytes 2 u.tid ++ leBytes 4 ofs ++ leBytes 2 n ++ leBytes 1 rfl
      if !(fieldAt p 0 2 == u.tid && fieldAt p 2 2 == 0 && ofs % 4 == 0 && ofs + n ≤ u.hdr.payLen) then .bad .badParam s
      else
        (wordRuns (fun o => keep (.block o)) (n / 4) ofs data).foldl (fun r x => if r.status == .ok then r.s.blockRun x.1 x.2 reply else r)
          (.ok (reply 0) s) }

/-- `k` words from the front of the programming queue. -/
def takeWords : Nat → List (Nat × List Byte) → List (Nat × List Byte) × List (Nat × List Byte)
  | 0, q => ([], q)
  | _ + 1, [] => ([], [])
  | k + 1, (a, p) :: r =>
    let w := (a, p.take 4)
    let rest := if p.length ≤ 4 then r else (a + 4, p.drop 4) :: r
    let x := takeWords k rest
    (w :: x.1, x.2)

/-- Words at the front of the queue are programmed and read back (R738, R755). A word of 0xFFFF_FFFF leaves its place erased. -/
def State.program (s : State) (words : Nat) (readOk : Bool) : State :=
  if s.upd.state != .receiving && s.upd.state != .verifying then s
  else if s.upd.queue.isEmpty || words == 0 then s
  else
    let x := takeWords words s.upd.queue
    let bytes := (x.1.map fun w => w.2.length).sum
    let s' := (s.mMem fun m => x.1.foldl (fun m w => memPutAll m w.1 w.2) m).mUpd fun u => { u with queue := x.2, outLen := u.outLen + bytes }
    if readOk then s'
    else
      let s' := if s.upd.state == .verifying then
          (s'.finish s'.upd.ticket .signatureFail []).mUpd fun u => { u with vfail := u.vfail.raise }
        else s'
      s'.updTaint 3 (s.upd.outLen)

/-! ### Verify and abort -/

/-- UPDATE_VERIFY (R758). EST follows from 16 MiB/s (log entry 55). -/
def updateVerify (tid : Nat) : Op :=
  { opc := 0x12, mem := true, needle := true, pends := true, prot := .tagged, targets := fun _ => [(.transfer, false)],
    run := fun q _ s =>
      let u := s.upd
      let whole := u.ledger == [(0, u.hdr.payLen)] && (!u.hdr.delta || u.delta.ended)
      if tid != u.tid then .bad .badParam s
      else if u.state == .tainted then .bad .tainted s
      else if u.state != .receiving || !whole then .bad .badState s
      else s.withTicket q 0x12 ((u.hdr.imgLen * 100 + 16777215) / 16777216) fun t s =>
        s.mUpd fun u => { u with state := .verifying, ticket := t } }

/-- The hash ends, with the programming queue empty (R759). -/
def State.verified (s : State) : State :=
  let u := s.upd
  if u.state != .verifying || !u.queue.isEmpty then s
  else if u.abortDue then s.updAborted
  else if sha256 (s.bankSpan s.xferBank 0 u.hdr.imgLen) == u.hdr.imgHash then
    (((s.finish u.ticket .ok (leBytes 2 u.tid ++ leBytes 4 u.hdr.imgLen)).mBank s.xferBank fun d => { d with state := .verified }).mUpd
      fun u => { u with state := .verified, ticket := 0 }).logUpd 4 (leBytes 2 u.tid ++ leBytes 4 u.hdr.imgLen)
  else ((s.finish u.ticket .signatureFail []).mUpd fun u => { u with vfail := u.vfail.raise }).updTaint 6 0

/-- UPDATE_ABORT (R762). -/
def updateAbort (tid : Nat) : Op :=
  Op.orderMem 0x14 .transfer fun _ s =>
    let u := s.upd
    if u.state == .idle || u.state == .committed then .bad .badState s
    else if tid != u.tid && tid != 0xFFFF then .bad .badParam s
    else if u.state == .erasing || u.state == .verifying then .ok (leBytes 2 u.tid) (s.mUpd fun u => { u with abortDue := true })
    else .ok (leBytes 2 u.tid) (s.updEnd 8)

/-- UPDATE_STATUS. -/
def updateStatus : Op :=
  Op.readMem 0x15 fun _ s =>
    let u := s.upd
    let no := u.state == .idle
    let typ := if no then 0 else u.hdr.typ.code
    let next := if u.hdr.delta then ledgerEnd u.ledger else ledgerGap u.ledger
    .ok (leBytes 1 u.state.code ++ leBytes 1 typ ++ leBytes 1 (bit (!no && u.hdr.delta)) ++ leBytes 1 u.reason ++
      leBytes 2 (if no then 0 else u.tid) ++ leBytes 2 u.ticket ++ leBytes 1 (if no then 0 else u.bank) ++ leBytes 1 u.ledger.length ++
      leBytes 4 u.hdr.imgLen ++ leBytes 4 (u.ledger.map fun x => x.2 - x.1).sum ++ leBytes 4 next ++ leBytes 4 u.outLen) s

/-- SYS.UPD_STAT and UPD_CNT (Table 18.11), by word. -/
def State.regUpd (s : State) (k : Nat) : Nat :=
  let u := s.upd
  let no := u.state == .idle
  match k with
  | 0 => pack [(3, u.state.code), (1, 0), (3, if no then 0 else u.hdr.typ.code), (1, bit (!no && u.hdr.delta)), (8, u.reason),
               (1, bit u.taint.set), (1, bit u.vfail.set)]
  | _ => pack [(8, u.taint.cnt), (8, u.vfail.cnt), (16, u.repeatCnt)]

/-! ### The commands -/

/-- UPDATE_BEGIN. -/
def execUpdateBegin (q : Req) (payload : List Byte) (s : State) : Host.Outcome State Fault Refusal := .next ((updateBegin payload).serve q s)

/-- Steps 6 to 10 of Table 18.8 end. -/
def execUpdateBeginChecked (dt : Nat) (s : State) : Host.Outcome State Fault Refusal := .next (s.advance dt).updChecked

/-- The erase ends. -/
def execFlashEraseDone (dt : Nat) (blankOk : Bool) (s : State) : Host.Outcome State Fault Refusal := .next ((s.advance dt).updErased blankOk)

/-- UPDATE_BLOCK. -/
def execUpdateBlock (q : Req) (payload : List Byte) (s : State) : Host.Outcome State Fault Refusal := .next ((updateBlock payload).serve q s)

/-- Queued words have been programmed. -/
def execProgramComplete (dt : Nat) (words : Nat) (readOk : Bool) (s : State) : Host.Outcome State Fault Refusal :=
  .next ((s.advance dt).program words readOk)

/-- UPDATE_VERIFY. -/
def execUpdateVerify (q : Req) (tid : Half) (s : State) : Host.Outcome State Fault Refusal := .next ((updateVerify tid.toNat).serve q s)

/-- The hash ends. -/
def execVerifyDone (dt : Nat) (s : State) : Host.Outcome State Fault Refusal := .next (s.advance dt).verified

/-- UPDATE_ABORT. -/
def execUpdateAbort (q : Req) (tid : Half) (s : State) : Host.Outcome State Fault Refusal := .next ((updateAbort tid.toNat).serve q s)

/-- UPDATE_STATUS. -/
def execUpdateStatus (q : Req) (s : State) : Host.Outcome State Fault Refusal := .next (updateStatus.serve q s)

end Sys2Proof.Machine
end

