-- ==== Sys2Proof/Machine/Handover.lean ====
section
/-! DEFINITION. Activation of a committed image: the CTRL handover, SAFE, PORT and CAL activation, fallback, and the opcodes of chapter 19.
What comes about at a start stands in Start.lean. -/

namespace Sys2Proof.Machine

/-! ### SM's own start (R659) -/

/-- What SM holds once it has started: configuration, latches and counts from its store, everything else afresh. -/
def Safe.boot (x : Safe) : Safe :=
  { cfg := x.cfg, cfgOk := x.cfgOk, cfgAct := x.cfgAct, latch := x.latch, removeCnt := x.removeCnt, lastReason := x.lastReason,
    lastT := x.lastT, ptDay := x.ptDay, ptPass := x.ptPass, ptOk := x.ptOk, dayUp := x.dayUp,
    permit := if x.anyLatch then .locked else .off }

/-- SM starts; a failed self-test sets SM_SELF. -/
def State.smStart (s : State) (selfOk : Bool) : State :=
  let s := (s.mSafe fun x => { x.boot with dayUp := min x.dayUp s.clk.upNs }).mPow fun p => { p with smUp := true }
  (if selfOk then s else s.setLatch .smSelf 0x10 false).estopFollow

/-! ### Banks (R779, R783, R801) -/

/-- Bank `b` takes over its type: IN_SERVICE with TRIAL, the one before it RESIDENT. -/
def State.takeBank (s : State) (b : Fin 8) : State :=
  s.mUpd fun u => { u with dir := Vector.ofFn fun i : Fin 8 =>
    let d := u.dir[i]
    if i == b then { d with state := .inService, trial := true }
    else if i.val / 2 == b.val / 2 && d.state == .inService then { d with state := .resident }
    else d }

/-- The bank of type place `t` on trial fails: EMPTY, and the resident one is IN_SERVICE. -/
def State.failBank (s : State) (t : Nat) : State :=
  s.mUpd fun u => { u with dir := Vector.ofFn fun i : Fin 8 =>
    let d := u.dir[i]
    if i.val / 2 != t then d
    else if d.trial || d.state == .committed then Bank.empty d
    else if d.state == .resident then { d with state := .inService }
    else d }

/-- The hash of the CAL image in service; empty where none is. -/
def State.calImage (s : State) : List Byte :=
  match s.bankOf 3 with
  | some b => (s.upd.dir[b]).imgHash
  | none => []

/-- The CAL image in service passes its check (R254). -/
def State.calPasses (s : State) : Bool :=
  match s.bankOf 3 with
  | some b => (s.upd.dir[b]).factory || Config.calGood (s.upd.dir[b]).imgHash
  | none => false

/-- The constants of the CAL image in service come into use (R793). -/
def State.calUse (s : State) : State :=
  s.mFe fun x => { x with calHash := s.calImage, calOk := s.calPasses, calWas := some (s.ctUs, x.calHash, x.calOk) }

/-! ### The course of an activation -/

/-- Place of the type of the present or last activation. -/
def State.hoIx (s : State) : Nat :=
  match s.ho.typ with
  | some t => t.ix
  | none => 0

/-- TYPE of the present or last activation. -/
def State.hoType (s : State) : Nat :=
  match s.ho.typ with
  | some t => t.code
  | none => 0

/-- TID and TYPE, as the log entries of Table 19.9 and the outcome begin. -/
def State.hoHead (s : State) : List Byte := leBytes 2 s.ho.tid ++ leBytes 1 s.hoType

/-- A phase begins. -/
def State.hoTo (s : State) (p : HoPhase) : State := s.mHo fun h => { h with phase := p, phaseUp := s.clk.upNs }

/-- The activation ends with RESULT and FB_CAUSE: the ticket's outcome (R770). -/
def State.hoEnd (s : State) (result fb : Nat) (st : Status) : State :=
  let s := (s.hoTo .none).mHo fun h => { h with result := result, fbCause := fb, fbDue := none, calDue := false, switched := false }
  s.finish s.ho.ticket st (s.hoHead ++ leBytes 1 result ++ leBytes 1 fb ++ leBytes 4 (s.version s.hoIx))

/-- An abandonment or refusal (R776). -/
def State.hoAbandon (s : State) (result : Nat) (st : Status) : State :=
  let s := (s.mBank s.xferBank fun d => { d with state := .verified }).mUpd fun u => { u with state := .verified }
  let s := (s.mSys fun x => { x with stbyUp := false }).mHo fun h => { h with abandon := h.abandon.raise }
  (s.hoEnd result 0 st).logUpd 0x14 (s.hoHead ++ leBytes 1 result)

/-- The trial window begins. -/
def State.hoTrial (s : State) : State := (s.hoTo .trial).mHo fun h => { h with passed := false, overruns := 0 }

/-- The node has fallen back (R783). -/
def State.hoFellBack (s : State) (fb : Nat) : State :=
  let s := s.mHo fun h => { h with fallback := h.fallback.raise, lastFb := fb }
  (s.hoEnd 1 fb .badState).logUpd 0x13 (s.hoHead ++ leBytes 1 fb)

/-- A cause of Table 19.3 is found: the fallback follows at the next control-tick boundary. -/
def State.hoFail (s : State) (cause : Nat) : State :=
  if s.ho.phase == .trial then (s.hoTo .fallback).mHo fun h => { h with fbDue := some cause } else s

/-- SM is reset for a SAFE activation or its fallback, with the hardware path of R787 acting. -/
def State.smReset (s : State) : State :=
  (s.mPow fun p => { p with smUp := false }).mHo fun h => { h with safePath := true, safeTrip := false }

/-- Both port engines send LINK_DOWN before they are reloaded (R790). -/
def State.linksDown (s : State) : State :=
  s.mRing fun r => { r with ca := { r.ca with linkDown := true }, cb := { r.cb with linkDown := true } }

/-- A port engine after a reload: it holds no lock and has ranged nothing; its registers stay. The cause its turnaround gives is 0x4,
partner never locked since the start: R108 lists none for a reload, and this is the model's choice (log entry 127). -/
def Port.reload (p : Port) : Port :=
  { p with lock := false, turn := true, linkDown := true, cause := 4, linkId := none, lockUp := none, ranged := false, rtt := [], kept := [] }

/-- Ports that were reloaded; what they still kept or held is turned back, as at any turnaround (R107). -/
def State.portsReload (s : State) : State :=
  ((s.turnKept .ca 4).turnKept .cb 4).mRing fun r => { r with ca := r.ca.reload, cb := r.cb.reload }

/-- Activation starts under ticket `t` (R761, R769, R773, R787, R790, R793); in spore mode the bank takes over at once (R801). -/
def State.activate (s : State) (t : Nat) : State :=
  let k := s.upd.hdr
  let b := s.xferBank
  let s := (s.mBank b fun d => { d with state := .committed }).mUpd fun u => { u with state := .committed }
  let data := leBytes 2 s.upd.tid ++ leBytes 1 k.typ.code ++ leBytes 1 s.upd.bank ++ leBytes 4 k.version
  let s := s.logUpd 5 data
  if s.pow.stage == .spore then s.takeBank b
  else
    let s := s.mHo fun h =>
      { h with phase := .boot, typ := some k.typ, tid := s.upd.tid, ticket := t, result := 0, fbCause := 0, phaseUp := s.clk.upNs,
               applied := s.clk.upNs, pages := 0, pageMax := 0, lag := 0, ticks := 0, passed := false, overruns := 0, fbDue := none,
               switched := false, calDue := k.typ == .cal }
    let s := s.logUpd 0x10 data
    match k.typ with
    | .ctrl => s.sessionEnd .handover
    | .safe => s.smReset
    | .port => s.linksDown
    | .cal => s

/-- EST of the commit ticket (Table 19.1). -/
def commitEst (t : ImgType) : Nat :=
  match t with
  | .ctrl => 1250
  | .safe => 1050
  | .port => 1020
  | .cal => 1010

/-- UPDATE_COMMIT (R760, R761). -/
def updateCommit (tid : Nat) : Op :=
  { opc := 0x13, mem := true, needle := true, pends := true, prot := .tagged, targets := fun _ => [(.transfer, false)],
    run := fun q _ s =>
      let u := s.upd
      if tid != u.tid then .bad .badParam s
      else if u.state == .tainted then .bad .tainted s
      else if u.state != .verified then .bad .badState s
      else if u.hdr.typ == .safe && s.permitOn then .bad .heatActive s
      else if !s.admits u.hdr.typ u.hdr.minver u.hdr.version then .bad .incompatible s
      else if s.activating then .bad .busy s
      else s.withTicket q 0x13 (commitEst u.hdr.typ) fun t s => s.activate t }

/-- The bank on trial or committed for the activation under way. -/
def State.hoBank (s : State) : Fin 8 := s.xferBank

/-- The standby core has checked its bank and SRAM and reads SNAPVER (R773). One whose bank fails its hash never runs. -/
def State.hoBooted (s : State) (accepted : Bool) (pages : Nat) : State :=
  if s.ho.phase == .boot && s.ho.typ == some .ctrl && s.hashPasses s.hoBank && decide (s.since s.ho.applied ≤ ms 400) then
    if accepted then
      ((s.hoTo .snapshot).mHo fun h => { h with pageMax := min 48 pages }).mSys fun x => { x with stbyUp := true }
    else s.hoAbandon 3 .incompatible
  else s

/-- The switch at T_SW (R777, R779): ACTIVE changes and the trial window starts. -/
def State.hoSwitch (s : State) (t : Nat) : State :=
  let s := (s.takeBank s.hoBank).mSys fun x => { x with active := 1 - x.active, stbyUp := true }
  let s := s.hoTrial.mHo fun h => { h with switched := true }
  (s.mCnt fun c => { c with handovers := inc32 c.handovers }).logUpd 0x11 (s.hoHead ++ leBytes 4 (t % 2 ^ 32))

/-- The handover's work at the control-tick boundary `t`, in µs: a snapshot page (R774), catch-up (R775), the switch (R777). -/
def State.hoTick (s : State) (t : Nat) : State :=
  if s.ho.typ != some .ctrl then s
  else match s.ho.phase with
  | .snapshot =>
    let n := s.ho.pages + 1
    let s := s.mHo fun h => { h with pages := n, lag := satTo 0xFF n }
    if s.ho.pageMax ≤ n then s.hoTo .catchup else s
  | .catchup =>
    if s.ho.passed then
      let n := if t % 100000 == 0 then s.ho.ticks else s.ho.ticks + 1
      let s := s.mHo fun h => { h with ticks := n }
      if n == 1 && (t + 1000) % 100000 != 0 then s.hoTo .switch else s
    else if s.ho.lag ≤ 1 then s.mHo fun h => { h with passed := true, ticks := 0 }
    else s
  | .switch => s.hoSwitch t
  | _ => s

/-- A fallback that is due, at the control-tick boundary that carries it out (R781, R783, R789, R791, R793). -/
def State.hoFallback (s : State) : State :=
  match s.ho.fbDue with
  | none => s
  | some c =>
    let s := (s.failBank s.hoIx).mHo fun h => { h with fbDue := none, fbCause := c }
    match s.ho.typ with
    | some .ctrl =>
      ((s.mSys fun x => { x with active := 1 - x.active, stbyUp := false, missRun := 0 }).mHo fun h => { h with switched := true }).hoFellBack c
    | some .safe => s.smReset
    | some .port => (s.hoTo .fallback).linksDown
    | some .cal => s.mHo fun h => { h with calDue := true }
    | none => s

/-- The trial window ends (R780, R784). -/
def State.hoWindowEnd (s : State) : State :=
  if s.ho.phase == .trial && decide (sec 10 ≤ s.since s.ho.phaseUp) then
    if s.ho.typ == some .ctrl && !s.ho.passed then s.hoFail 2
    else match s.bankOf s.hoIx with
      | none => s
      | some b =>
        let e := (s.upd.dir[b]).epoch
        let old := s.upd.fused
        let s := s.mBank b fun d => { d with trial := false }
        let s := (s.hoEnd 0 0 .ok).logUpd 0x12 (s.hoHead ++ leBytes 4 (s.version s.hoIx))
        if old < e then (s.mUpd fun u => { u with fused := min 64 e }).logUpd 0x15 (leBytes 1 old ++ leBytes 1 (min 64 e)) else s
  else s

/-- The CAL switch at a 10 ms boundary (R793): to the committed image, or back on a fallback. -/
def State.calSwitch (s : State) : State :=
  if !s.ho.calDue then s
  else
    let s := s.mHo fun h => { h with calDue := false }
    if s.ho.phase == .fallback then s.calUse.hoFellBack s.ho.fbCause
    else
      let s := (s.takeBank s.hoBank).hoTrial
      if s.calPasses then s.calUse else s.hoFail 0x0A

/-- SM runs again (R787 to R789). -/
def State.smRestarted (s : State) (testOk : Bool) : State :=
  if s.pow.smUp || s.ho.typ != some .safe then s
  else if s.ho.phase == .boot then
    if testOk then
      let trip := s.ho.safeTrip
      let s := ((s.takeBank s.hoBank).mHo fun h => { h with safePath := false, safeTrip := false }).smStart true
      (if trip then (s.setLatch .estop 3 false).estopFollow else s).hoTrial
    else ((s.failBank 1).hoTo .fallback).mHo fun h => { h with fbCause := 7 }
  else if s.ho.phase == .fallback then
    let trip := s.ho.safeTrip
    let s := (s.mHo fun h => { h with safePath := false, safeTrip := false }).smStart testOk
    (if trip then (s.setLatch .estop 3 false).estopFollow else s).hoFellBack s.ho.fbCause
  else s

/-! ### Opcodes (Table 19.7) -/

/-- Codes of Table 18.2. -/
def BankState.code : BankState → Nat
  | .empty => 0
  | .transfer => 1
  | .verified => 2
  | .committed => 3
  | .inService => 4
  | .resident => 5

/-- Codes of Table 19.2. -/
def HoPhase.code : HoPhase → Nat
  | .none => 0
  | .boot => 1
  | .snapshot => 2
  | .catchup => 3
  | .switch => 4
  | .trial => 5
  | .fallback => 6

/-- One bank's entry of IMAGE_INFO. -/
def State.bankEntry (s : State) (i : Fin 8) : List Byte :=
  let d := s.upd.dir[i]
  leBytes 1 (i.val / 2 + 1) ++ leBytes 1 (i.val % 2) ++ leBytes 1 d.state.code ++ leBytes 1 (pack [(1, bit d.trial), (1, bit d.hashOk)]) ++
    leBytes 4 d.version ++ leBytes 1 d.epoch ++ leBytes 3 0 ++ leBytes 4 d.imgLen ++ leBytes 4 d.erases

/-- A field of the image of type place `t` in service. -/
def State.inService (s : State) (t : Nat) (f : Bank → Nat) : Nat :=
  match s.bankOf t with
  | some b => f s.upd.dir[b]
  | none => 0

/-- IMAGE_INFO. -/
def imageInfo : Op :=
  Op.readMem 0x16 fun _ s =>
    .ok (leBytes 1 s.upd.fused ++ leBytes 1 8 ++ (List.finRange 8).flatMap (fun i => s.bankEntry i) ++ leBytes 2 (s.inService 0 Bank.protoMin) ++
      leBytes 2 (s.inService 0 Bank.protoMax) ++ leBytes 2 (s.inService 2 Bank.proto)) s

/-- What is left of the trial window, in 100 ms. -/
def State.fbLeft (s : State) : Nat :=
  if s.ho.phase == .trial then (sec 10 - s.since s.ho.phaseUp + ms 100 - 1) / ms 100 else 0

/-- HANDOVER_STATUS. -/
def handoverStatus : Op :=
  Op.readMem 0x17 fun _ s =>
    let h := s.ho
    .ok (leBytes 1 h.phase.code ++ leBytes 1 s.hoType ++ leBytes 2 h.tid ++ leBytes 2 h.ticket ++ leBytes 1 h.result ++ leBytes 1 h.fbCause ++
      leBytes 4 (satTo 0xFFFFFFFF (s.since h.phaseUp / ms 1)) ++ leBytes 2 h.pages ++ leBytes 1 h.lag ++ leBytes 1 0 ++ leBytes 2 s.fbLeft ++
      leBytes 4 (s.version s.hoIx)) s

/-- SPORE_ENTER (R804); the reset is due once the reply has been sent. -/
def sporeEnter (key : Nat) : Op :=
  Op.orderMem 0x18 .node fun _ s =>
    if key != 0x5350 then .bad .badParam s
    else if s.permitOn then .bad .heatActive s
    else if s.updOpen || s.activating || s.inj.isOpen then .bad .badState s
    else .ok [] s

/-- SYS.HO_STAT, HO_CNT and SPR_STAT (Table 19.8), by word. -/
def State.regHo (s : State) (k : Nat) : Nat :=
  let h := s.ho
  match k with
  | 0 => pack [(3, h.phase.code), (1, 0), (3, s.hoType), (1, 0), (8, h.lastFb), (1, bit h.fallback.set), (1, bit h.abandon.set)]
  | 1 => pack [(8, h.fallback.cnt), (8, h.abandon.cnt)]
  | _ => h.spore

/-! ### The commands -/

/-- UPDATE_COMMIT. -/
def execUpdateCommit (q : Req) (tid : Half) (s : State) : Host.Outcome State Fault Refusal := .next ((updateCommit tid.toNat).serve q s)

/-- The standby core has booted, or refuses the snapshot version. -/
def execHandoverBootDone (dt : Nat) (accepted : Bool) (pages : Nat) (s : State) : Host.Outcome State Fault Refusal :=
  .next ((s.advance dt).hoBooted accepted pages)

/-- The standby core is not running 400 ms after application (R773). -/
def execHandoverBootTimeout (dt : Nat) (s : State) : Host.Outcome State Fault Refusal :=
  let s := s.advance dt
  .next (if s.ho.phase == .boot && s.ho.typ == some .ctrl && decide (ms 400 ≤ s.since s.ho.applied) then s.hoAbandon 2 .badState else s)

/-- Catch-up has not been reached within 2,000 ms of application (R775). -/
def execCatchupTimeout (dt : Nat) (s : State) : Host.Outcome State Fault Refusal :=
  let s := s.advance dt
  .next (if (s.ho.phase == .snapshot || (s.ho.phase == .catchup && !s.ho.passed)) && decide (ms 2000 ≤ s.since s.ho.applied) then
    s.hoAbandon 2 .badState
  else s)

/-- The new CTRL reports its self-check (R780). -/
def execSelfCheckReport (dt : Nat) (pass : Bool) (s : State) : Host.Outcome State Fault Refusal :=
  let s := s.advance dt
  .next (if s.ho.phase == .trial && s.ho.typ == some .ctrl then
    if pass then s.mHo fun h => { h with passed := true } else s.hoFail 1
  else s)

/-- The trial window ends. -/
def execTrialWindowEnd (dt : Nat) (s : State) : Host.Outcome State Fault Refusal := .next (s.advance dt).hoWindowEnd

/-- SM runs again on the image in its bank. -/
def execSmRestartDone (dt : Nat) (testOk : Bool) (s : State) : Host.Outcome State Fault Refusal := .next ((s.advance dt).smRestarted testOk)

/-- Both port engines are reloaded, 1 ms after the first LINK_DOWN (R790, R791). -/
def execPortReload (dt : Nat) (s : State) : Host.Outcome State Fault Refusal :=
  let s := s.advance dt
  .next (if s.ho.typ == some .port && decide (ms 1 ≤ s.since s.ho.phaseUp) then
    if s.ho.phase == .boot then ((s.takeBank s.hoBank).portsReload).hoTrial
    else if s.ho.phase == .fallback && s.ho.fbDue.isNone then s.portsReload.hoFellBack s.ho.fbCause
    else s
  else s)

/-- A port engine has not locked within 100 ms of the reload (R780). -/
def execPortLockTimeout (dt : Nat) (s : State) : Host.Outcome State Fault Refusal :=
  let s := s.advance dt
  .next (if s.ho.typ == some .port && s.ho.phase == .trial && decide (ms 100 ≤ s.since s.ho.phaseUp) && !(s.ring.ca.lock && s.ring.cb.lock) then
    s.hoFail 9
  else s)

/-- IMAGE_INFO. -/
def execImageInfo (q : Req) (s : State) : Host.Outcome State Fault Refusal := .next (imageInfo.serve q s)

/-- HANDOVER_STATUS. -/
def execHandoverStatus (q : Req) (s : State) : Host.Outcome State Fault Refusal := .next (handoverStatus.serve q s)

/-- SPORE_ENTER. -/
def execSporeEnter (q : Req) (key : Half) (s : State) : Host.Outcome State Fault Refusal := .next ((sporeEnter key.toNat).serve q s)

/-- An uncorrectable ECC error in the active core's private SRAM area; in the trial window of a CTRL activation the node falls back (R780). -/
def execSramEccError (dt : Nat) (s : State) : Host.Outcome State Fault Refusal :=
  let s := s.advance dt
  .next (if s.ho.typ == some .ctrl then s.hoFail 5 else s)

/-- SI0a or SI0b opens while the hardware path of R787 acts: every driver channel is de-energised (R788). -/
def execEstopPathOpen (dt : Nat) (s : State) : Host.Outcome State Fault Refusal :=
  let s := s.advance dt
  .next (if s.ho.safePath then ((s.mHo fun h => { h with safeTrip := true }).releaseAll).fansSettle else s)

end Sys2Proof.Machine
end

