-- ==== Sys2Proof/Machine/Power.lean ====
section
/-! DEFINITION. Supplies, power domains, the core supply and the clock monitor (R28 to R31, R51 to R63). -/

namespace Sys2Proof.Machine

/-! ### Power domains (R57 to R63) -/

/-- The domains that stay on while the node is awake (R58), as a list. -/
def baseDomains : List Nat := [59, 60, 62, 63, 64, 65, 67]

/-- Their mask. -/
def baseMask : BitVec 68 := baseDomains.foldl (fun m d => m ||| (1#68 <<< d)) 0

/-- Domains that VS_POWER alone feeds: F0 to F11, the loop-output groups, the boost converter (Table 2.14). -/
def vpFed (d : Nat) : Bool := inR 45 d 58 || d == 66

/-- A driver profile wants reservoir charge (R62). -/
def State.boostWanted (s : State) : Bool := (List.finRange 32).any fun n => s.usesRes n

/-- Domain `d` as the configuration requests it: the fixed ones and the service port while awake, PD66 for a profile that needs charge,
the rest for what they serve (R58, R62, R242). -/
def State.domWanted (s : State) (d : Nat) : Bool :=
  baseDomains.contains d || d == 61 || (s.ctrlRuns && (if d == 66 then s.boostWanted else s.domUsed d))

/-- The driver or fan channel of domain `d` is active (R60). -/
def State.domActive (s : State) (d : Nat) : Bool :=
  match idx? 32 (d - 13), idx? 12 (d - 45) with
  | some n, _ => 13 ≤ d && (s.drv.ch[n]).phase.active
  | none, some n => (s.fan.ch[n]).state.driven || (s.fan.ch[n]).ending
  | none, none => false

/-- The release of an active driver channel, or the ramp-down of an active fan, whose domain is to go off (R60). -/
def State.domRelease (s : State) (d : Nat) : State :=
  match idx? 32 (d - 13), idx? 12 (d - 45) with
  | some n, _ => if 13 ≤ d then s.release n false else s
  | none, some n => s.mFanCh n fun f => { f with ending := true }
  | none, none => s

/-- The attempt to switch domain `d` on, begun at `t`, or none. -/
def Power.attempt (p : Power) (d : Nat) (t : Option Nat) : Power :=
  { p with pdReqUp := match idx? 68 d with
      | some i => p.pdReqUp.set i t
      | none => p.pdReqUp }

/-- When the attempt to switch domain `d` on began. -/
def Power.asked (p : Power) (d : Nat) : Option Nat :=
  match idx? 68 d with
  | some i => p.pdReqUp[i]
  | none => none

/-- A domain that had failed has come on: its channels are available again (R61, Table 16.1). -/
def State.domAgain (s : State) (d : Nat) : State :=
  if s.domDead d then
    let s := s.mPow fun p => { p with pdDead := p.pdDead &&& ~~~(1#68 <<< d) }
    let s := match idx? 32 (d - 13) with
      | some n => if 13 ≤ d && (s.drv.ch[n]).phase == Phase.unavailable then s.toPhase n .idle else s
      | none => s
    s.fansSettle.loopsSettle
  else s

/-- OVD of a channel whose domain goes off watches no longer: it saw the input last at `now` (R275, R276). -/
def Chan.ovdBlind (c : Chan) (now : Nat) : Chan := if c.ovdOut then { c with ovdOut := false, ovdUp := some now } else c

/-- Domain `d` goes off; the reservoir of a driver domain begins to bleed (R392), the OVDs of a channel group's stop (R275). -/
def State.domGone (s : State) (d : Nat) : State :=
  let s := s.mPow fun p => { p with pdOn := p.pdOn &&& ~~~(1#68 <<< d), pdOff := p.pdOff &&& ~~~(1#68 <<< d) }
  let s := s.mFe fun x => { x with ch := Vector.ofFn fun n : Fin 64 => if n.val / 8 == d then (x.ch[n]).ovdBlind s.clk.upNs else x.ch[n] }
  match idx? 32 (d - 13) with
  | some n => if 13 ≤ d then s.mDrvCh n fun x => { x with bleedUp := some s.clk.upNs } else s
  | none => s

/-- The request of domain `d` becomes `want`. A domain that is off is switched on; one that failed is tried once more (Table 16.1). -/
def State.domAsk (s : State) (d : Nat) (want : Bool) : State :=
  let m := 1#68 <<< d
  if want == s.pow.pdReq.getLsbD d then s
  else if want then
    let s := s.mPow fun p => { p with pdReq := p.pdReq ||| m, pdOff := p.pdOff &&& ~~~m }
    if s.domOn d then s else s.mPow fun p => p.attempt d (some s.clk.upNs)
  else
    let s := s.mPow fun p => { p.attempt d none with pdReq := p.pdReq &&& ~~~m }
    if s.domOn d then
      if s.domActive d then (s.mPow fun p => { p with pdOff := p.pdOff ||| m }).domRelease d
      else s.domGone d
    else s

/-- Every request set to what `want` gives; while the node is awake the fixed domains stay requested (R58). -/
def State.domAskAll (s : State) (want : Nat → Bool) : State :=
  s.each (List.range 68) fun s d => s.domAsk d (want d || (s.awake && baseDomains.contains d))

/-- CTRL derives the requests from the configuration. -/
def State.pdReview (s : State) : State := s.domAskAll s.domWanted

/-- CTRL, once it runs, switches the VS_POWER-fed part of PD67 on (Table 2.25). -/
def State.ioAsk (s : State) : State := s.mPow fun p => { p with ioVpUp := if p.ioVpOn then none else some s.clk.upNs }

/-- Domain `d` is to come on: an attempt runs, and its supply serves it. -/
def State.domComing (s : State) (d : Nat) : Bool :=
  s.awake && (s.pow.asked d).isSome && !s.domOn d && (s.pow.vpOk || !vpFed d)

/-- The attempt of domain `d` has lasted 1 ms (R61); without VS_POWER no time counts (R62). -/
def State.domLate (s : State) (d : Nat) : Bool :=
  match s.pow.asked d with
  | some t => decide (ms 1 ≤ s.since (if vpFed d then max t s.pow.vpUp else t))
  | none => false

/-- The VS_POWER-fed part of PD67 is to come on, PD67 itself being on. -/
def State.ioComing (s : State) : Bool := s.awake && s.domOn 67 && s.pow.ioVpUp.isSome && !s.pow.ioVpOn && s.pow.vpOk

/-- Its attempt has lasted 1 ms. -/
def State.ioLate (s : State) : Bool :=
  match s.pow.ioVpUp with
  | some t => decide (ms 1 ≤ s.since (max t s.pow.vpUp))
  | none => false

/-- Channels of a domain that failed report themselves unavailable (R61). -/
def State.domLost (s : State) (d : Nat) : State :=
  let s := match idx? 32 (d - 13) with
    | some n => if 13 ≤ d then s.toPhase n .unavailable else s
    | none => s
  s.fansSettle.loopsSettle

/-- Spore mode is entered with CAUSE `c` (R797): no one holds the needle, no lichen mode, and the outputs stay in the power-up state. -/
def State.toSpore (s : State) (c : Nat) : State :=
  ((s.mPow fun p => { p with stage := .spore }).mHo fun h => { h with spore := c }).logE 0x0B 0x16 (leBytes 1 c)

/-- PD_FAULT is set for domain `d`, and a log entry made (R61, Table 16.4). -/
def State.pdFaulted (s : State) (d : Nat) : State :=
  let s := s.mPow fun p => { p with pdFaultId := d, pdFault := p.pdFault.raise }
  (s.logHw 0x0002 d 1 6 (leBytes 1 d)).detected 0x0002 d 0xFF

/-- The VS_POWER-fed part of PD67 has failed to come on; the node stays awake (R62). -/
def State.ioFailed (s : State) : State := (s.mPow fun p => { p with ioVpDead := true, ioVpUp := none }).pdFaulted 67

/-- Domain `d` has failed to come on (R61); in a start, a fixed one leads to spore mode (R62). -/
def State.domFailed (s : State) (d : Nat) : State :=
  let m := 1#68 <<< d
  let s := (s.mPow fun p => { p.attempt d none with pdDead := p.pdDead ||| m }).pdFaulted d
  let s := s.domLost d
  if s.pow.stage == .boot && baseDomains.contains d then s.toSpore 3 else s

/-! ### Supplies (R51 to R56) -/

/-- VCORE, as the log entries of class 0x01 carry it. -/
def State.vcoreByte (s : State) : List Byte := leBytes 1 s.sys.vcore

/-- VS_POWER has left its range (R55): the permit, the drivers, the fans and the loop outputs go off in hardware. -/
def State.vpLost (s : State) (high : Bool) : State :=
  if !s.awake then s.mPow fun p => { p with vpOk := false }
  else
    let inj := !high && s.injOn 0x0001 0
    let s := s.mPow fun p => { p with vpOk := false, vpUv := p.vpUv.raiseIf (!high), vpOv := p.vpOv.raiseIf high }
    let s := s.removePermit 0x0E none inj
    let s := (((s.releaseAll).mDrv fun d => { d with boostOn := false, chgOn := false }).fansSettle).loopsSettle
    let s := s.logAs 3 1 (if high then 5 else 4) inj s.vcoreByte
    if high then s else s.detected 0x0001 0 0xFF

/-- Every fan and loop output off, as their supply goes (Tables 2.22 and 2.26). -/
def State.outputsGone (s : State) : State :=
  (s.mFan fun x => { x with ch := x.ch.map fun f => { f with state := .off, duty := 0, target := 0, ending := false } }).mLoop
    fun v => v.map LoopOut.zero

/-- VS_POWER serves the outputs again (R56). -/
def State.vpBack (s : State) : State :=
  if s.pow.vpOk || s.injOn 0x0001 0 then s
  else if !s.awake then s.mPow fun p => { p with vpOk := true, vpUp := s.clk.upNs }
  else
    let s := s.mPow fun p => { p with vpOk := true, vpUp := s.clk.upNs }
    (((s.mDrv fun d => { d with boostOn := !s.therm.shut }).chargeReview).fansSettle).loopsSettle

/-! ### The core supply (R30, R31) -/

/-- One step of the core supply, at most once in 100 µs (R30); insufficient margin at 0.95 V sets AVS_LIMIT whenever it is reported (R31). -/
def State.avsStep (s : State) (up : Bool) : State :=
  let up := up || s.injOn 0x0003 0
  let free := match s.sys.lastAvs with
    | some u => decide (100000 ≤ s.since u)
    | none => true
  if !s.awake then s
  else if up && decide (0x32 ≤ s.sys.vcore) then
    ((s.mSys fun x => { x with avsLimit := x.avsLimit.raise }).logHw 0x0003 0 1 7 s.vcoreByte).detected 0x0003 0 0xFF
  else if !free then s
  else s.mSys fun x => { x with vcore := if up then x.vcore + 1 else x.vcore - 1, lastAvs := some s.clk.upNs }

/-! ### The clock monitor (R28, R29) -/

/-- The clock monitor trips: permit open and drivers released in hardware, a full reset 1 ms later. SM records it after that reset
(Table 15.7). A reset that is due already keeps its instant and its CAUSE (log entry 111). -/
def State.clockTrip (s : State) : State :=
  if !s.awake then s
  else
    let on := s.permitOn || s.safe.clockDue == some true
    let s := if s.permitOn then s.mCnt fun c => { c with heatUs := c.heatUs + s.since s.safe.grantUp / 1000 } else s
    let s := s.mSafe fun x => { x with clockDue := some on, aCmd := false, bCmd := false,
                                       permit := if x.anyLatch then .locked else .off }
    let s := s.mSys fun x => { x with clkFault := x.clkFault.raise, resetDue := x.resetDue.orElse fun _ => some (s.clk.upNs + ms 1, 3) }
    (s.releaseAll).logAs 3 1 8 false s.vcoreByte

/-! ### Registers (Tables 1.9 to 1.12, 2.15 to 2.21), by offset -/

/-- A register of the system block below 0x0100. -/
def State.regSys (s : State) (o : Nat) : Nat :=
  let x := s.sys
  let p := s.pow
  match o with
  | 0x10 => pack [(1, x.active), (1, bit x.stbyUp), (1, bit x.stbyWr.set), (5, 0), (8, x.stbyWr.cnt)]
  | 0x14 => pack [(1, 0), (1, bit x.overrun.set), (6, 0), (8, x.overrun.cnt), (5, x.missRun)]
  | 0x18 => pack [(1, bit (s.clk.ctValid && !x.holdover)), (1, bit x.holdover), (1, bit x.clkFault.set), (5, 0), (8, x.clkFault.cnt),
                  (12, x.trim)]
  | 0x1C => pack [(6, x.vcore), (1, bit x.avsLimit.set), (1, 0), (8, x.avsLimit.cnt)]
  | 0x40 => p.pdReq.toNat % 2 ^ 32
  | 0x44 => p.pdReq.toNat / 2 ^ 32 % 2 ^ 32
  | 0x48 => p.pdReq.toNat / 2 ^ 64
  | 0x50 => p.pdOn.toNat % 2 ^ 32
  | 0x54 => p.pdOn.toNat / 2 ^ 32 % 2 ^ 32
  | 0x58 => p.pdOn.toNat / 2 ^ 64
  | 0x5C => pack [(7, p.pdFaultId), (1, bit p.pdFault.set), (8, p.pdFault.cnt)]
  | 0x60 => pack [(1, bit p.vlOk), (1, bit p.vpOk), (1, bit p.vpUv.set), (1, bit p.vpOv.set), (4, 0), (8, p.vpUv.cnt), (8, p.vpOv.cnt)]
  | 0x64 => p.wakeCfg
  | 0x68 => maskOf 4 fun i => if h : i < 4 then (p.wakeSrc[(⟨i, h⟩ : Fin 4)]).set else false
  | 0x6C => p.rstCause
  | 0x70 => pack (p.wakeSrc.toList.map fun f => (8, f.cnt))
  | _ => 0

/-! ### The commands -/

/-- VS_POWER falls below 9.5 V (R55). -/
def execVsPowerUndervoltage (dt : Nat) (s : State) : Host.Outcome State Fault Refusal := .next ((s.advance dt).vpLost false)

/-- VS_POWER rises above 33.5 V (R55). -/
def execVsPowerOvervoltage (dt : Nat) (s : State) : Host.Outcome State Fault Refusal := .next ((s.advance dt).vpLost true)

/-- VS_POWER has been back in range for 100 ms (R56). -/
def execVsPowerRestored (dt : Nat) (s : State) : Host.Outcome State Fault Refusal := .next (s.advance dt).vpBack

/-- Domain `d` is on: what it serves is available (R61). -/
def State.domReached (s : State) (d : Nat) : State :=
  let s := s.mPow fun p => { p.attempt d none with pdOn := p.pdOn ||| (1#68 <<< d) }
  let s := match idx? 32 (d - 13) with
    | some n => if 13 ≤ d then s.mDrvCh n fun x => { x with bleedUp := none } else s
    | none => s
  (s.domAgain d).chargeReview

/-- A requested domain is not on within 1 ms (R61). PD67, once on, names its VS_POWER-fed part (R62). -/
def execPdOnTimeout (dt pd : Nat) (s : State) : Host.Outcome State Fault Refusal :=
  let s := s.advance dt
  .next (if s.domComing pd && s.domLate pd then s.domFailed pd
    else if pd == 67 && s.ioComing && s.ioLate then s.ioFailed else s)

/-- A requested domain reaches its on state (R61). PD67, once on, names its VS_POWER-fed part (R62). -/
def execDomainOnReached (dt pd : Nat) (s : State) : Host.Outcome State Fault Refusal :=
  let s := s.advance dt
  .next (if s.injOn 0x0002 pd then s
    else if s.domComing pd then s.domReached pd
    else if pd == 67 && s.ioComing then s.mPow fun p => { p with ioVpOn := true, ioVpDead := false, ioVpUp := none } else s)

/-- The channel's release or ramp-down has completed and its domain goes off (R60). -/
def execDomainOffAfterRelease (dt pd : Nat) (s : State) : Host.Outcome State Fault Refusal :=
  let s := s.advance dt
  .next (if pd < 68 && s.pow.pdOff.getLsbD pd && !s.domActive pd then
    (s.domGone pd).chargeReview
  else s)

/-- The clock monitor trips (R28, R29). -/
def execClkFault (dt : Nat) (s : State) : Host.Outcome State Fault Refusal := .next (s.advance dt).clockTrip

/-- The supply controller moves the core supply by one step (R30, R31). -/
def execAvsAdjust (dt : Nat) (up : Bool) (s : State) : Host.Outcome State Fault Refusal := .next ((s.advance dt).avsStep up)

end Sys2Proof.Machine
end

