-- ==== Sys2Proof/Machine/Start.lean ====
section
/-! DEFINITION. Starts, resets, power-down, moss state and wake (R64 to R79, and what each chapter says of power-up, any reset and a
wake from moss state). The stages follow one another in the order of Table 2.24; its times are not modelled. -/

namespace Sys2Proof.Machine

/-! ### What a start keeps -/

/-- The log unit writes everything that was handed to it before the store closes (Tables 2.22 and 2.26). -/
def State.logFlush (s : State) : State :=
  s.mLog fun l => { l.queue.foldl (fun x _ => x.take false) l with accepted := 0 }

/-- The time awake since the last start goes into LIFE_H (R687). -/
def State.countAwake (s : State) : State :=
  if s.awake then s.mCnt fun c => { c with lifeUs := c.lifeUs + s.clk.upNs / 1000 } else s

/-- The probe port's stored settings and calibration (R364 to R370); its measurements are lost (R381). -/
def ProbePort.stored (p : ProbePort) : ProbePort :=
  { en := p.en, tch := p.tch, crop := p.crop, c0 := p.c0, cStray := p.cStray, gStray := p.gStray, gain := p.gain, ofs := p.ofs,
    pts := p.pts, calgen := p.calgen }

/-- The valid copy of the stored set with the higher generation (R200). -/
def CfgStore.best (c : CfgStore) : Option CfgCopy :=
  let a := c.copy[0]
  let b := c.copy[1]
  if a.valid && (!b.valid || b.gen ≤ a.gen) then some a else if b.valid then some b else none

/-- The image of type `t` is on trial. -/
def State.onTrial (s : State) (t : ImgType) : Bool :=
  match s.bankOf t.ix with
  | some b => (s.upd.dir[b]).trial
  | none => false

/-- Every image type. -/
def ImgType.all : List ImgType := [.ctrl, .safe, .port, .cal]

/-- A bank under transfer is emptied (R737). A trial that a start cuts off falls back with FB_CAUSE 0x06 (R785); after UPDATE_COMMIT in
spore mode (CAUSE 0x7) the trial stands (R801). Each bank's hash is checked. -/
def State.startBanks (s : State) (cause : Nat) : State :=
  let s := s.mUpd fun u => { u with dir := u.dir.map fun d =>
    if d.state == .transfer || d.state == .verified then Bank.empty d else d }
  let s := s.each ImgType.all fun s t =>
    if cause != 7 && s.onTrial t then
      ((s.failBank t.ix).mHo fun h => { h with typ := some t, tid := s.upd.tidCnt, result := 1, fbCause := 6, lastFb := 6,
                                                fallback := h.fallback.raise }).logUpd 0x13 (leBytes 2 s.upd.tidCnt ++ leBytes 1 t.code ++ leBytes 1 6)
    else s
  s.mUpd fun u => { u with dir := Vector.ofFn fun i : Fin 8 =>
    { u.dir[i] with hashOk := (u.dir[i]).state != .empty && s.hashPasses i } }

/-- A bank of type place `t` passes its hash. -/
def State.passes (s : State) (t : Nat) : Bool := (List.finRange 8).any fun i => i.val / 2 == t && (s.upd.dir[i]).hashOk

/-- Where the image in service of type place `t` fails its hash and the resident one passes, the resident one is put in service. -/
def State.startOn (s : State) (t : Nat) : State :=
  match s.bankOf t with
  | some b =>
    if (s.upd.dir[b]).hashOk || !s.passes t then s
    else s.mUpd fun u => { u with dir := Vector.ofFn fun i : Fin 8 =>
      let d := u.dir[i]
      if i.val / 2 != t then d else if i == b then Bank.empty d else { d with state := .inService } }
  | none => s

/-- A spore cause known at the start (Table 19.5). -/
def State.sporeCause (s : State) (cause : Nat) : Option Nat :=
  if cause == 6 then some 2 else if !s.passes 0 then some 4 else if !s.passes 2 then some 5 else none

/-- The state right after a start with CAUSE `cause`: the ferroelectric store, the flash and, on a wake, the wake registers are kept
(R64, R65); the sequencer switches the fixed domains on, though no request stands yet (Tables 2.15 and 2.24), and the reservoirs go on
bleeding (R392); everything else is at its reset value (R9, R163, R176, R234, R296, R381, R406, R427, R467, R489, R508, R561, R584, R609,
R675, R732, R767). -/
def State.fresh (s : State) (cause : Nat) : State :=
  let wake := cause == 4
  { sys := { clkFault := { set := s.safe.clockDue.isSome && s.sys.clkFault.set } },
    pow := { stage := .boot, wakeBoot := wake, vlOk := true, vpOk := s.pow.vpOk, rstCause := cause,
             pdReqUp := Vector.ofFn fun i : Fin 68 => if baseDomains.contains i.val then some 0 else none,
             wakeCfg := if wake then s.pow.wakeCfg else 7,
             wakeSrc := if wake then s.pow.wakeSrc else Vector.replicate 4 {} },
    ring := { rate := s.ring.rate, pinStore := s.ring.pinStore, ca := { rate := s.ring.rate }, cb := { rate := s.ring.rate } },
    frm := { hostTo := s.frm.hostTo },
    auth := { keyVer := s.auth.keyVer, key := s.auth.key, nonceCnt := s.auth.nonceCnt, nextId := s.auth.nextId },
    cfgs := { copy := s.cfgs.copy, saves := s.cfgs.saves },
    fe := { calOk := s.fe.calOk },
    tab := { stored := s.tab.stored, eff := s.tab.stored },
    die := { port := s.die.port.map ProbePort.stored, crop := s.die.crop, period := s.die.period, startOfs := s.die.startOfs },
    drv := { ch := Vector.replicate 32 { bleedUp := some 0 } },
    fan := { tbl := s.fan.tbl },
    prog := { kind := s.prog.kind, items := s.prog.items, storeParcels := s.prog.storeParcels, storeKdry := s.prog.storeKdry },
    lich := { cfg := s.lich.cfg },
    safe := { s.safe.boot with clockDue := s.safe.clockDue, dayUp := 0 },
    log := s.log, cnt := s.cnt,
    upd := { dir := s.dirCut, tidCnt := s.upd.tidCnt, fused := s.upd.fused },
    mem := memClear s.mem 0 0x30000000,
    free := s.free, pending := s.pending }

/-- The start entry (Table 16.4), after the entries whose commit word is missing are discarded (R79). -/
def State.logStart (s : State) (cause : Nat) : State :=
  let d := s.log.discard
  (s.mLog fun _ => d.1).logE 1 1
    (leBytes 1 cause ++ leBytes 1 (s.regSys 0x68) ++ leBytes 2 (satTo 0xFFFF d.2) ++ leBytes 4 (s.version 0))

/-- The core whose CTRL bank is in service is the active one (R785); the CAL image in service is checked, but for a wake (Table 2.24). -/
def State.startImages (s : State) (cause : Nat) : State :=
  let s := ((s.startBanks cause).startOn 0).startOn 2
  let s := s.mFe fun x => { x with calHash := s.calImage, calOk := if cause == 4 then x.calOk else s.calPasses }
  s.mSys fun x => { x with active := (match s.bankOf 0 with
    | some b => b.val % 2
    | none => 0) }

/-- The node starts with CAUSE `cause` (Table 2.24). -/
def State.restart (s : State) (cause : Nat) : State :=
  let s := ((s.sessionEnd .start).countAwake).logFlush
  let s := (s.fresh cause).mCnt fun c => { c with starts := inc32 c.starts }
  let s := (s.startImages cause).logStart cause
  match s.sporeCause cause with
  | some c => s.toSpore c
  | none => s

/-! ### The stages of Table 2.24 -/

/-- SM starts SAFE (R659), in spore mode too when a SAFE bank passes its hash (R798). A clock fault is recorded now (Table 15.7). -/
def State.smBoot (s : State) (selfOk : Bool) : State :=
  if (s.pow.stage == .boot || s.pow.stage == .spore) && !s.pow.smUp && s.passes 1 && !s.domDead 64 then
    let due := s.safe.clockDue
    let s := s.smStart selfOk
    match due with
    | none => s
    | some on =>
      let s := s.setLatch .clock 0x0F false
      if on then
        let s := s.mSafe fun x => { x with lastReason := 0x0F, lastT := s.ctUs, removeCnt := inc16 x.removeCnt }
        s.logSm 2 false (leBytes 1 0x0F ++ leBytes 1 Latch.clock.bit.val)
      else s
  else s

/-- A port as its engine finds it when the bypass has opened: locked and ranged, or never locked since the start (R106, R108). -/
def Port.opened (p : Port) (locked : Bool) (now : Nat) : Port :=
  { p with lock := locked, turn := !locked, ranged := locked, cause := 4, linkDown := !locked, lockUp := if locked then some now else none,
           rateUp := now, everLocked := locked }

/-- SM has started, as it does before ring-ready in the order of Table 2.24, or it cannot start: no SAFE bank passes its hash, or PD64 failed. -/
def State.smPast (s : State) : Bool := s.pow.smUp || !s.passes 1 || s.domDead 64

/-- Ring-ready: the bypass opens, the node takes its pinned address or 0x00 (R94, R132), chain time counts from 0 (R124). In spore mode
the node serves the ring from here on, and stays in spore mode (R799). -/
def State.ringUp (s : State) (a b : Bool) : State :=
  if (s.pow.stage == .boot || s.pow.stage == .spore) && !s.pow.bypassOpen && s.passes 2 && !s.domDead 59 && !s.domDead 60 && s.smPast then
    let s := s.mPow fun p => { p with stage := if p.stage == .boot then .ringReady else p.stage, bypassOpen := true,
                                      pdOn := p.pdOn ||| (baseMask &&& ~~~p.pdDead), pdReqUp := Vector.replicate 68 none }
    let s := s.mRing fun r => { r with addr := r.pinStore.getD 0, pinned := r.pinStore.isSome,
                                       ca := r.ca.opened a s.clk.upNs, cb := r.cb.opened b s.clk.upNs }
    s.mClk fun c => { c with ctNs := 0, slew := 0, lastMark := s.clk.upNs }
  else s

/-- The stored configuration is put in force as the chapters say of CTRL running (R242, R293, R296, R427, R467, R508, R609). -/
def State.loadRun (s : State) (r : RunCfg) : State :=
  let s := s.mRun fun _ => r
  let s := s.each (List.finRange 4) fun s g => s.adoptGroup g
  let s := s.each (List.finRange 32) fun s n =>
    (s.mDiag n fun g => { g with retryLeft := (r.diag[n]).retryMax, offFrom := s.clk.upNs }).retarget n
  let s := s.each (List.finRange 12) fun s n =>
    let s := s.mFanCh n fun f => { f with retryLeft := (r.fan[n]).retryMax }
    if (r.fan[n]).mode == 0 then s else (s.fanTo n .stopped).fanSettle n
  (s.mTherm fun x => { x with cfg := r.therm, ts7Timer := s.clk.upNs }).loopsSettle.rebudget

/-- The bank on trial after a commit in spore mode enters its trial window (R801). -/
def State.sporeTrial (s : State) : State :=
  match ImgType.all.find? s.onTrial with
  | some t => (s.mHo fun h => { h with typ := some t, tid := s.upd.tidCnt, ticket := 0, applied := s.clk.upNs }).hoTrial
  | none => s

/-- CTRL runs (R74, R293, R381, R533, R786). -/
def State.ctrlUp (s : State) : State :=
  if s.pow.stage != .ringReady then s
  else
    let s := (s.mPow fun p => { p with stage := .running }).mFrm fun x => { x with eventUp := s.clk.upNs }
    let s := s.mSnap fun x => { x with lastBidx := some (lastBoundary s.clk.ctNs) }
    let s := match s.cfgs.best with
      | some c => s.loadRun c.set
      | none => (s.loadRun RunCfg.factory).mCfgs fun c => { c with fault := true }
    let other := (List.finRange 8).any fun i =>
      let d : Bank := s.upd.dir[i]
      i.val < 2 && d.state == .resident && d.hashOk && decide (s.upd.fused ≤ d.epoch)
    let s := s.mSys fun x => { x with stbyUp := other }
    let s := s.mDie fun d => { d with cycPeriod := d.period, cycOfs := d.startOfs }
    let s := s.mProg fun p => { p with parcels := p.storeParcels, kdry := p.storeKdry, restored := !p.storeParcels.isEmpty }
    let s := s.mEnergy fun e => { e with winStart := Vector.replicate 3 s.ctUs, winUp := Vector.replicate 3 s.clk.upNs }
    (((s.sporeTrial).pdReview).ioAsk).chargeReview

/-! ### Power-down (Table 2.26) -/

/-- Every switched domain off, PD67's VS_POWER-fed part with it; SM stopped, the bypass closed. -/
def Power.dark (p : Power) : Power :=
  { p with pdOn := 0, pdOff := 0, pdReqUp := Vector.replicate 68 none, ioVpOn := false, ioVpUp := none, smUp := false, bypassOpen := false }

/-- The outputs lose their supply or their domains: the permit opens, the drivers release, fans and loop outputs are off (Tables 2.22 and
2.26). No finding of SM's is recorded. -/
def State.supplyGone (s : State) : State :=
  let s := if s.permitOn then s.mCnt fun c => { c with heatUs := c.heatUs + s.since s.safe.grantUp / 1000 } else s
  let s := s.mSafe fun x => { x with permit := if x.anyLatch then .locked else .off, aCmd := false, bCmd := false }
  s.releaseAll.outputsGone

/-- VS_LOGIC falls below 9.8 V: the permit opens and every output goes off in hardware, a log entry gives the cause, the store closes. In
moss state the outputs, the store and the bypass are as the sequence leaves them already, and the node is simply off: the spec does not
speak of that case (log entry 68). -/
def State.powerDown (s : State) : State :=
  match s.pow.stage with
  | .off => s
  | .powerDown => s
  | .moss => s.mPow fun p => { p with stage := .off, vlOk := false }
  | _ =>
    let s := ((s.supplyGone.mSafe fun x => { x with clockDue := none }).countAwake).logE 1 2 s.vcoreByte
    let s := s.logFlush
    s.mPow fun p => { p.dark with stage := .powerDown, vlOk := false, downUp := s.clk.upNs }

/-! ### Moss state (R65 to R71) -/

/-- A driver, fan or loop output is active (R66). -/
def State.outputsActive (s : State) : Bool :=
  (List.finRange 32).any (fun n => (s.drv.dg[n]).direct.isSome || match (s.drv.ch[n]).phase with
    | .idle | .fault | .unavailable => false
    | _ => true) ||
  s.fan.ch.toList.any (fun f => f.state.driven || f.ending) || s.loop.toList.any fun o => 0 < o.now

/-- R66 refuses. -/
def State.mossRefused (s : State) : Bool :=
  s.permitOn || s.outputsActive || s.progOn || s.updOpen || s.inj.isOpen || s.frm.holder == .lichen

/-- MOSS_ENTER (R66, R67, R191). Moss entry runs from its OK reply (R68). -/
def mossEnter : Op :=
  { Op.order 0x0F .node fun _ s =>
      if !s.ctrlRuns then .bad .badState s
      else if s.pow.wakeCfg % 8 == 0 then .bad .badParam s
      else if s.mossRefused then .bad .badState s
      else .ok [] s
    with anyHolder := fun s => !s.ctrlRuns }

/-- A wake from moss state (R64, R65). -/
def State.wakeUp (s : State) : State := s.restart 4

/-- A wake event of source `i` of Table 2.19, where it is enabled (R69, R71): from moss state the node wakes; from the moss reply on it is
captured; one at the instant of the wake is latched beside it. -/
def State.wakeEvent (s : State) (i : Fin 4) (enabled : Bool) : State :=
  if !enabled then s
  else
    let latch := s.mPow fun p => { p with wakeSrc := vmod p.wakeSrc i Flag.raise }
    if s.pow.stage == .moss then latch.wakeUp
    else if s.pow.mossAt.isSome then latch.mPow fun p => { p with mossWake := p.mossWake ||| 2 ^ i.val }
    else if s.pow.stage == .boot && s.pow.wakeBoot && s.clk.upNs == 0 && !(s.pow.wakeSrc[i]).set then latch
    else s

/-- Moss state is reached (Table 2.22): the moss-entry entry of the boundary, domains off, bypass closed. A wake event captured on the way
starts the wake sequence at once (R69). -/
def State.mossReached (s : State) : State :=
  match s.pow.mossAt with
  | none => s
  | some b =>
    if s.ctUs < b + 3000 then s
    else
      let s := (s.sessionEnd .start).logE 1 3 s.vcoreByte
      let s := s.mLog fun l => { l with queue := l.queue.map fun e => if e.cls == 1 && e.code == 3 then { e with time := b } else e }
      let s := (s.supplyGone.countAwake).logFlush
      let s := s.mCnt fun c => { c with moss := inc32 c.moss }
      let woken := s.pow.mossWake != 0
      let s := s.mPow fun p => { p.dark with stage := .moss, mossAt := none, mossWake := 0, pdReq := 0 }
      if woken then s.wakeUp else s

/-! ### The commands -/

/-- VS_LOGIC rises above 10.3 V (R72). -/
def execVsLogicPowerUp (dt : Nat) (s : State) : Host.Outcome State Fault Refusal :=
  let s := s.advance dt
  .next (if s.pow.stage == .off || (s.pow.stage == .powerDown && decide (ms 3 ≤ s.since s.pow.downUp)) then s.restart 1 else s)

/-- The SPORE strap, sampled from 2 ms to 12 ms (R39). -/
def execSporeSample (dt : Nat) (high : Bool) (s : State) : Host.Outcome State Fault Refusal :=
  let s := s.advance dt
  .next (if s.pow.stage == .boot && high then s.toSpore 1 else s)

/-- SM starts SAFE. -/
def execSmStart (dt : Nat) (selfOk : Bool) (s : State) : Host.Outcome State Fault Refusal := .next ((s.advance dt).smBoot selfOk)

/-- Ring-ready. -/
def execRingReady (dt : Nat) (lockA lockB : Bool) (s : State) : Host.Outcome State Fault Refusal :=
  .next ((s.advance dt).ringUp lockA lockB)

/-- CTRL runs on the active core. -/
def execCtrlRunning (dt : Nat) (s : State) : Host.Outcome State Fault Refusal := .next (s.advance dt).ctrlUp

/-- VS_LOGIC falls below 9.8 V (R77). -/
def execVsLogicPowerDown (dt : Nat) (s : State) : Host.Outcome State Fault Refusal := .next (s.advance dt).powerDown

/-- VS_LOGIC recovers before the power-down sequence ends; the sequence completes, and a cold power-up follows (R78). -/
def execVsLogicRecoverInPowerDown (dt : Nat) (s : State) : Host.Outcome State Fault Refusal :=
  let s := s.advance dt
  .next (if s.pow.stage == .powerDown && decide (s.since s.pow.downUp < ms 3) then s.restart 2 else s)

/-- The full reset that is due (R29, R192, R801, R804). -/
def execFullReset (dt : Nat) (s : State) : Host.Outcome State Fault Refusal :=
  let s := s.advance dt
  .next (match s.sys.resetDue with
    | some (due, cause) => if due ≤ s.clk.upNs then s.restart cause else s
    | none => s)

/-- MOSS_ENTER. -/
def execMossEnter (q : Req) (s : State) : Host.Outcome State Fault Refusal := .next (mossEnter.serve q s)

/-- Moss state is reached (R68, R69). -/
def execMossShutdown (dt : Nat) (s : State) : Host.Outcome State Fault Refusal := .next (s.advance dt).mossReached

/-- A wake symbol at a ring port. -/
def execWakeSymbolRx (dt : Nat) (port : PortId) (s : State) : Host.Outcome State Fault Refusal :=
  let s := s.advance dt
  .next (s.wakeEvent (if port == .ca then 0 else 1) (bitOf s.pow.wakeCfg 0))

/-- DI00 crosses its threshold and holds for 1 ms. -/
def execDi00Wake (dt : Nat) (rising : Bool) (s : State) : Host.Outcome State Fault Refusal :=
  let s := s.advance dt
  .next (s.wakeEvent 2 (bitOf s.pow.wakeCfg 1 && rising != bitOf s.pow.wakeCfg 3))

/-- A transition on the service-port pair. -/
def execSvcWake (dt : Nat) (s : State) : Host.Outcome State Fault Refusal :=
  let s := s.advance dt
  .next (s.wakeEvent 3 (bitOf s.pow.wakeCfg 2))

end Sys2Proof.Machine
end

