-- ==== Sys2Proof/Machine/Ring.lean ====
section
/-! DEFINITION. The ring ports, links, turnaround and rate, and the ring opcodes (R84 to R112, R128 to R146). -/

namespace Sys2Proof.Machine

/-! ### Turnaround (R105 to R112) -/

/-- The port's link engine runs: the bypass is open. -/
def State.linkRuns (s : State) : Bool := s.pow.bypassOpen && s.awake

/-- Port `p` enters turnaround with `cause` (R106): it holds no lock, knows no partner, and sends LINK_DOWN. A spell of low EYE ends here, so
that the 1 s of R90 starts afresh with the first EQ_ADAPT after it: the spec says nothing on it, and this is the model's choice (log
entry 125). -/
def State.toTurn (s : State) (p : PortId) (cause : Nat) : State :=
  (s.mRp p fun x => { x with lock := false, turn := true, linkDown := true, cause := cause, lockUp := none, linkId := none, ranged := false,
                             eyeLow := none, eyeDone := false }).turnKept p cause

/-- REASON codes of a loss (R108). -/
def lossCode : LossCause → Nat
  | .silence => 1
  | .violations => 2
  | .linkDown => 3

/-- R105: `ns` without a valid symbol, or `n` code violations within `ns`, or LINK_DOWN make a loss of lock; an injected one always does. -/
def lossMade (c : LossCause) (ns n : Nat) : Bool :=
  match c with
  | .silence => 12800 ≤ ns
  | .violations => 32 ≤ n && ns ≤ 100000
  | .linkDown => true

/-- Port `p` sees `n` code violations: they are counted, and the time without one starts afresh (R111). -/
def Port.violated (p : Port) (n now : Nat) : Port :=
  if n == 0 then p else { p with codeErr := satTo 0xFFF (p.codeErr + n), lockUp := p.lockUp.map fun _ => now }

/-- Port `p` declares loss of lock (R105, R106, R111). -/
def State.loseLock (s : State) (p : PortId) (c : LossCause) : State :=
  if !(s.linkRuns && (s.port p).lock) then s
  else
    let now := s.clk.upNs
    let s := s.mRp p fun x =>
      { x with lol := x.lol.raise, peerDown := x.peerDown.raiseIf (c == .linkDown),
               losses := now :: x.losses.filter fun u => decide (now - u < sec 10) }
    let s := s.toTurn p (lossCode c)
    (s.logHw 0x0101 (portIx p) 2 1 (leBytes 1 (portIx p) ++ leBytes 1 (lossCode c))).detected 0x0101 (portIx p) 0xFF

/-- A port put to rate `r`: where that changes its rate, its search for one starts afresh. -/
def Port.toRate (p : Port) (r now : Nat) : Port := { p with rate := r, rateUp := if p.rate == r then p.rateUp else now }

/-- The ring rate becomes `r`: stored, and applied to both ports (R128, R129); a rate stored before is not logged again. -/
def State.setRate (s : State) (p : PortId) (r : Nat) : State :=
  let t := s.mRing fun x => { x with rate := r, ca := x.ca.toRate r s.clk.upNs, cb := x.cb.toRate r s.clk.upNs }
  if s.ring.rate == r then t else t.logE 2 3 (leBytes 1 (portIx p) ++ leBytes 1 5)

/-- Port `p` has lock again, at its rate (R112, R129). -/
def State.relock (s : State) (p : PortId) : State :=
  if s.linkRuns && !(s.port p).lock && !s.injOn 0x0101 (portIx p) then
    (s.mRp p fun x => { x with lock := true, lockUp := some s.clk.upNs, ranged := false, rangeOnce := true, everLocked := true }).setRate p
      (s.port p).rate
  else s

/-- How long lock must be held before turnaround ends (R111). -/
def Port.holdNs (p : Port) : Nat := if 3 ≤ p.losses.length then sec 1 else ms 10

/-- Port `p` leaves turnaround (R111). -/
def State.leaveTurn (s : State) (p : PortId) : State :=
  let x := s.port p
  if x.turn && x.lock && x.ranged && s.lasted x.lockUp x.holdNs then s.mRp p fun x => { x with turn := false, linkDown := false } else s

/-- The cause of a port that switches rate: the partner of one that never locked since the start still has never locked (R108). -/
def Port.switchCause (p : Port) : Nat := if p.everLocked then 5 else 4

/-- Both ports switch to rate `r` (R130). -/
def State.switchRate (s : State) (r : Nat) : State :=
  let s := s.mRing fun x => { x with rateDue := none }
  if s.ring.rate == r then s
  else
    let s := ((s.toTurn .ca s.ring.ca.switchCause).toTurn .cb s.ring.cb.switchCause).setRate .ca r
    (s.mRp .ca fun x => { x with rateUp := s.clk.upNs }).mRp .cb fun x => { x with rateUp := s.clk.upNs }

/-! ### LINK_ID and ranging (R87 to R93) -/

/-- The data bytes of a LINK_ID. -/
def LinkId.toBytes (k : LinkId) : List Byte :=
  let b := leBytes 1 k.type ++ leBytes 1 k.addr ++ leBytes 1 k.lcfg
  b ++ leBytes 1 (xor8 b)

/-- A LINK_ID read; none where it is not valid. -/
def linkIdOf (b : List Byte) : Option LinkId :=
  let k : LinkId := { type := fieldAt b 0 1, addr := fieldAt b 1 1, lcfg := fieldAt b 2 1 }
  if b.length == 4 && xor8 (b.take 3) == fieldAt b 3 1 && inR 1 k.type 3 && k.lcfg < 16 then some k else none

/-- The LINK_ID that the node sends out of port `p`. -/
def State.ownLinkId (s : State) (p : PortId) : LinkId :=
  { type := 1, addr := s.ring.addr, lcfg := pack [(3, (s.port p).peReq), (1, (s.port p).rate)] }

/-- A RANGE's data bytes: RKIND, RTURN and the CHK of R837. -/
def rangeBytes (kind rturn : Nat) : List Byte :=
  let b := leBytes 1 kind ++ leBytes 2 rturn
  b ++ leBytes 1 (xor8 b)

/-- A valid RANGE: RKIND and RTURN, with the CHK of R837 after them. -/
def rangeOf (b : List Byte) : Option (Nat × Nat) :=
  if b.length == 4 && xor8 (b.take 3) == fieldAt b 3 1 then some (fieldAt b 0 1, fieldAt b 1 2) else none

/-- The longest segment that is not LONG, in m (R93). -/
def longLimit (rate : Nat) : Nat := if rate == 0 then 165 else 440

/-- An exchange of `rtt` ns ends: SEG_DLY, LEN_M and LONG (R92, R93). Both are rounded down: the spec gives no rounding of them, and this is
the model's choice (log entry 74). -/
def Port.exchange (p : Port) (rtt : Nat) : Port :=
  let l := (rtt :: p.rtt).take 8
  let d := satTo 0xFFFFF (l.sum / (2 * l.length))
  { p with rtt := l, ranged := true, segDly := d, lenM := satTo 0xFFF (d / 5), long := p.long.raiseIf (longLimit p.rate < d / 5) }

/-! ### Registers (Tables 3.4 to 3.11) -/

/-- RING.ADDR. -/
def State.regAddr (s : State) : Nat :=
  pack [(8, s.ring.addr), (1, bit s.ring.pinned), (1, bit (s.ring.ca.partner == 2)), (1, bit (s.ring.cb.partner == 3)), (1, s.ring.rate), (4, 0),
        (8, s.ring.pos)]

/-- The five registers of a port: LINK, EQ, DLY, ERR, CNT. -/
def Port.reg (p : Port) (k : Nat) : Nat :=
  match k with
  | 0 => pack [(1, bit p.lock), (1, bit p.turn), (1, bit p.lol.set), (1, bit p.peerDown.set), (1, bit p.long.set), (1, bit p.marginLow.set),
               (1, bit p.wakeSeen.set), (1, 0), (2, p.partner)]
  | 1 => pack [(5, p.eq), (3, p.pe), (8, p.eye), (12, p.lenM)]
  | 2 => p.segDly
  | 3 => pack [(12, p.codeErr), (8, p.crcErr), (6, p.drop), (6, p.turned)]
  | _ => pack [(8, p.lol.cnt), (8, p.peerDown.cnt), (8, p.long.cnt), (8, p.wakeSeen.cnt)]

/-- CT_STAT. -/
def State.regCtStat (s : State) : Nat :=
  let c := s.clk
  pack [(1, bit c.ctValid), (1, c.src), (1, bit s.aligned), (1, bit c.step.set), (1, bit c.markDiff.set), (1, bit c.ctSat), (2, 0), (8, c.step.cnt),
        (8, c.markDiff.cnt), (8, twos 8 c.lastErr)]

/-- A register of the ring block, by offset. -/
def State.regRing (s : State) (o : Nat) : Nat :=
  if o == 0 then s.regAddr
  else if inR 0x10 o 0x20 then s.ring.ca.reg ((o - 0x10) / 4)
  else if inR 0x30 o 0x40 then s.ring.cb.reg ((o - 0x30) / 4)
  else match o with
    | 0x80 => s.ctUs % 2 ^ 32
    | 0x84 => s.clk.ctHi
    | 0x88 => s.regCtStat
    | 0x8C => s.clk.primary
    | 0x90 => pack [(8, s.ring.ca.marginLow.cnt), (8, s.ring.cb.marginLow.cnt)]
    | _ => 0

/-- A read of CT_LO latches CT_HI (R691). -/
def State.latchHi (s : State) : State := s.mClk fun c => { c with ctHi := s.ctUs / 2 ^ 32 }

/-! ### Opcodes (Table 3.3) -/

/-- RING_STATUS. -/
def ringStatus : Op :=
  Op.read 0x00 fun _ s =>
    let s := s.latchHi
    .ok (leBytes 4 s.regAddr ++ (List.range 5).flatMap (fun k => leBytes 4 (s.ring.ca.reg k)) ++
      (List.range 5).flatMap (fun k => leBytes 4 (s.ring.cb.reg k)) ++ leBytes 4 s.regCtStat ++ leBytes 4 (s.regRing 0x80) ++ leBytes 4 (s.regRing 0x84)) s

/-- The address becomes `a`; PINNED shows whether it is the pinned one. -/
def State.setAddr (s : State) (a : Nat) : State := s.mRing fun r => { r with addr := a, pinned := r.pinStore == some a }

/-- The pinned address in the store becomes `a`. -/
def State.setPin (s : State) (a : Option Nat) : State :=
  s.mRing fun r => { r with pinStore := a, pinned := a == some r.addr }

/-- The data of a CAST_ON reply. -/
def State.castReply (s : State) : List Byte :=
  leBytes 1 s.ring.addr ++ leBytes 1 s.ring.pos ++ leBytes 1 (bit s.ring.pinned) ++ leBytes 8 Config.serial.toNat ++ hwBytes ++
    leBytes 4 (s.version 0) ++ leBytes 4 (s.version 1) ++ leBytes 4 (s.version 2)

/-- CAST_ON (R126, R134, R135, R138). -/
def castOn (base mode : Nat) : Op :=
  { opc := 0x01, bcast := true, prot := if mode == 1 then .tagOrHolder else .free,
    run := fun q _ s =>
      if s.frm.holder != .none && s.frm.holder != senderHolder q.sender then .bad .noNeedle s
      else if 1 < mode then .bad .badParam s
      else
        let pos := satTo 0xFF (q.hop + 1)
        let s := (s.mClk fun c => { c with ctValid := false }).mRing fun r => { r with pos := pos }
        match (if mode == 0 then s.ring.pinStore else none) with
        | some a =>
          let s := s.setAddr a
          .ok s.castReply s
        | none =>
          if 0x3C + 1 < base + pos then
            let s := s.setAddr 0
            { status := .badParam, data := s.castReply, s := s }
          else
            let s := s.setAddr (base + pos - 1)
            .ok s.castReply s }

/-- ADDR_ASSIGN: only the node that the serial names answers (R138). PIN 0 leaves a pinned address in the store. An ADDR outside 0x01 to 0x3C
gets BAD_PARAM: Table 3.3 lists no range for it, and this is the model's choice, after R135 (log entry 126). -/
def addrAssign (serial addr pin : Nat) : Op :=
  { opc := 0x02, needle := true, anyHolder := fun _ => serial != Config.serial.toNat, bcast := true, prot := .tagOrHolder, targets := fun _ => [(.node, false)],
    run := fun _ _ s =>
      if serial != Config.serial.toNat then { Res.ok [] s with silent := true }
      else if !inR 1 addr 0x3C || 1 < pin then .bad .badParam s
      else
        let s := s.setAddr addr
        let s := if pin == 1 then s.setPin (some addr) else s
        .ok (leBytes 1 addr ++ leBytes 1 (bit s.ring.pinned)) s }

/-- ADDR_PIN. A node at 0x00 has no address to pin. -/
def addrPin (pin : Nat) : Op :=
  Op.order 0x03 .node fun _ s =>
    if 1 < pin || (pin == 1 && s.ring.addr == 0) then .bad .badParam s
    else
      let s := s.setPin (if pin == 1 then some s.ring.addr else none)
      .ok (leBytes 1 s.ring.addr ++ leBytes 1 (bit s.ring.pinned)) s

/-- BIND_OFF (R140, R141). -/
def bindOff (flags : Nat) : Op :=
  Op.order 0x04 .node fun _ s =>
    if 3 < flags then .bad .badParam s
    else if s.mossRefused then .bad .badState s
    else
      let s := if bitOf flags 1 then s else s.mPow fun p => { p with wakeCfg := p.wakeCfg - p.wakeCfg % 2 }
      .ok [] (if bitOf flags 0 then s.setPin none else s)

/-- Chain time in µs at the final CRC byte of the order under judgement. -/
def State.crcUs (s : State) : Nat := (s.clk.ctNs - (s.clk.upNs - s.crcUp)) / 1000

/-- RING_RATE (R130, R139). -/
def ringRate (rate bidx : Nat) : Op :=
  { opc := 0x05, needle := true, bcast := true, prot := .tagOrHolder, targets := fun _ => [(.node, false)],
    run := fun _ _ s =>
      if 1 < rate then .bad .badParam s
      else
        let b := s.crcUs / 10000
        let d := (bidx + 2 ^ 32 - b % 2 ^ 32) % 2 ^ 32
        if d < 2 || 2 ^ 31 ≤ d then .bad .late s
        else .ok [] (s.mRing fun r => { r with rateDue := some ((b + d) * 10000 + 2000, rate) }) }

/-- WAKE_SEND (R131). -/
def wakeSend (port : Nat) : Op :=
  Op.order 0x06 .node fun _ s =>
    match port with
    | 0 => .ok [] (s.mRp .ca fun p => { p with wakeDue := true })
    | 1 => .ok [] (s.mRp .cb fun p => { p with wakeDue := true })
    | _ => .bad .badParam s

/-! ### The commands -/

/-- A LINK_ID is sent between frames, once per millisecond (R87). -/
def execLinkIdSend (dt : Nat) (port : PortId) (s : State) : Host.Outcome State Fault Refusal :=
  let s := s.advance dt
  let due := match (s.port port).linkUp with
    | some u => decide (ms 1 ≤ s.since u)
    | none => true
  .next (if s.linkRuns && due && (s.port port).gap s.clk.upNs then s.mRp port fun p => { p with linkSent := some (s.ownLinkId port), linkUp := some s.clk.upNs } else s)

/-- A LINK_ID of the partner arrives (R87, R89). -/
def execLinkIdReceive (dt : Nat) (port : PortId) (bytes : List Byte) (s : State) : Host.Outcome State Fault Refusal :=
  let s := s.advance dt
  .next (match linkIdOf bytes with
    | some k => if s.linkRuns then s.mRp port fun p => { p with linkId := some k } else s
    | none => s)

/-- The port asks its partner for pre-emphasis `pe`: PE_REQ changes at most once per 100 ms (R88). -/
def Port.wantPe (p : Port) (pe now : Nat) : Port :=
  let free := match p.peReqUp with
    | some u => decide (ms 100 ≤ now - u)
    | none => true
  if pe == p.peReq || !free then p else { p with peReq := pe, peReqUp := some now }

/-- The equaliser moves by a step at most towards the setting `best` that gives the highest margin, at most once per millisecond, EYE is
what it finds, and the port wants pre-emphasis `pe` (R88, R90). -/
def execEqAdapt (dt : Nat) (port : PortId) (best : Nat) (eye : Nat) (pe : Nat) (s : State) : Host.Outcome State Fault Refusal :=
  let s := s.advance dt
  let due := match (s.port port).eqUp with
    | some u => decide (ms 1 ≤ s.since u)
    | none => true
  .next (if s.linkRuns && due then
    s.mRp port fun p =>
      { p.wantPe pe s.clk.upNs with
               eq := if p.eq < best then min 31 (p.eq + 1) else if best < p.eq then p.eq - 1 else p.eq, eye := satTo 0xFF eye, eqUp := some s.clk.upNs,
               eyeLow := if eye < 32 then some (p.eyeLow.getD s.clk.upNs) else none, eyeDone := p.eyeDone && decide (eye < 32) }
  else s)

/-- EYE has been below 32 for 1 s (R90). -/
def execMarginLowDetect (dt : Nat) (port : PortId) (s : State) : Host.Outcome State Fault Refusal :=
  let s := s.advance dt
  .next (if s.lasted (s.port port).eyeLow (sec 1) && !(s.port port).eyeDone then
    s.mRp port fun p => { p with marginLow := p.marginLow.raise, eyeDone := true }
  else s)

/-- A RANGE request is sent: every 100 ms, and once more directly after a relock (R91). -/
def execRangeRequestSend (dt : Nat) (port : PortId) (s : State) : Host.Outcome State Fault Refusal :=
  let s := s.advance dt
  let p := s.port port
  let due := match p.rangeUp with
    | some u => decide (ms 100 ≤ s.since u) || p.rangeOnce
    | none => true
  .next (if s.linkRuns && p.lock && due then
    s.mRp port fun p => { p with rangeUp := some s.clk.upNs, rangeOnce := false, rangeSent := rangeBytes 1 0 }
  else s)

/-- A RANGE arrives: a request is answered `elapsed` ns after it arrived (R91); an answer ends an exchange whose round trip took `elapsed`
ns less the port's own latencies (R92, R93). -/
def execRangeReceive (dt : Nat) (port : PortId) (bytes : List Byte) (elapsed : Nat) (s : State) : Host.Outcome State Fault Refusal :=
  let s := s.advance dt
  .next (if s.linkRuns && (s.port port).lock then
    match rangeOf bytes with
    | some (1, _) => s.mRp port fun p => { p with rangeReply := some (satTo 0xFFFF elapsed), rangeSent := rangeBytes 2 (satTo 0xFFFF elapsed) }
    | some (2, rturn) => s.mRp port fun p => p.exchange (elapsed - rturn)
    | _ => s
  else s)

/-- A port finds `ns` without a valid symbol, `n` code violations within `ns`, or LINK_DOWN, and declares loss of lock where R105 calls it
one. -/
def execLossOfLock (dt : Nat) (port : PortId) (cause : LossCause) (ns n : Nat) (s : State) : Host.Outcome State Fault Refusal :=
  let s := s.advance dt
  let s := if cause == .violations && s.linkRuns && (s.port port).lock then s.mRp port fun x => x.violated n s.clk.upNs else s
  .next (if lossMade cause ns n || s.injOn 0x0101 (portIx port) then s.loseLock port cause else s)

/-- A port relocks. -/
def execRelock (dt : Nat) (port : PortId) (s : State) : Host.Outcome State Fault Refusal := .next ((s.advance dt).relock port)

/-- A port leaves turnaround. -/
def execTurnaroundExit (dt : Nat) (port : PortId) (s : State) : Host.Outcome State Fault Refusal := .next ((s.advance dt).leaveTurn port)

/-- A port that has not locked since the bypass opened tries the other rate (R129). -/
def execRateSearchSwitch (dt : Nat) (port : PortId) (s : State) : Host.Outcome State Fault Refusal :=
  let s := s.advance dt
  let p := s.port port
  .next (if s.linkRuns && !p.lock && !p.everLocked && decide (ms 100 ≤ s.since p.rateUp) then
    s.mRp port fun p => { p with rate := 1 - p.rate, rateUp := s.clk.upNs }
  else s)

/-- Both ports switch rate 2 ms after the boundary that RING_RATE named. -/
def execRingRateSwitch (dt : Nat) (s : State) : Host.Outcome State Fault Refusal :=
  let s := s.advance dt
  .next (match s.ring.rateDue with
    | some (t, r) => if t ≤ s.ctUs then s.switchRate r else s
    | none => s)

/-- A wake symbol of 8 µs goes out in a gap between frames (R131). -/
def execWakeSymbolSend (dt : Nat) (port : PortId) (s : State) : Host.Outcome State Fault Refusal :=
  let s := s.advance dt
  .next (if s.linkRuns && (s.port port).wakeDue && (s.port port).gap s.clk.upNs then
    s.mRp port fun p => { p with wakeDue := false, wakeSent := p.wakeSent + 1, txEnd := s.clk.upNs + 8000 }
  else s)

/-- An awake port receives a wake symbol: at most ten code violations, a free number of them, and lock is kept (R131). A violation restarts
the time of R111. -/
def execWakeSeen (dt : Nat) (port : PortId) (s : State) : Host.Outcome State Fault Refusal :=
  let s := s.advance dt
  .next (if s.linkRuns && (s.port port).lock then
    s.drew.mRp port fun p => ({ p with wakeSeen := p.wakeSeen.raise } : Port).violated (s.freeNat 32 % 11) s.clk.upNs
  else s)

/-- RING_STATUS. -/
def execRingStatus (q : Req) (s : State) : Host.Outcome State Fault Refusal := .next (ringStatus.serve q s)

/-- CAST_ON. -/
def execCastOn (q : Req) (base mode : Byte) (s : State) : Host.Outcome State Fault Refusal := .next ((castOn base.toNat mode.toNat).serve q s)

/-- ADDR_ASSIGN. -/
def execAddrAssign (q : Req) (serial : BitVec 64) (addr pin : Byte) (s : State) : Host.Outcome State Fault Refusal :=
  .next ((addrAssign serial.toNat addr.toNat pin.toNat).serve q s)

/-- ADDR_PIN. -/
def execAddrPin (q : Req) (pin : Byte) (s : State) : Host.Outcome State Fault Refusal := .next ((addrPin pin.toNat).serve q s)

/-- BIND_OFF. -/
def execBindOff (q : Req) (unpin : Byte) (s : State) : Host.Outcome State Fault Refusal := .next ((bindOff unpin.toNat).serve q s)

/-- RING_RATE. -/
def execRingRate (q : Req) (rate : Byte) (bidx : Word) (s : State) : Host.Outcome State Fault Refusal :=
  .next ((ringRate rate.toNat bidx.toNat).serve q s)

/-- WAKE_SEND. -/
def execWakeSend (q : Req) (portN : Byte) (s : State) : Host.Outcome State Fault Refusal := .next ((wakeSend portN.toNat).serve q s)

end Sys2Proof.Machine
end

