-- ==== Sys2Proof/Machine/Stitch.lean ====
section
/-! DEFINITION. The stitch list of chapter 12: entries, their execution, late handling and opcodes. -/

namespace Sys2Proof.Machine

/-! ### Entries (Tables 12.6 and 12.7) -/

/-- The 16 bytes of an entry. -/
def Stitch.toBytes (x : Stitch) : List Byte :=
  leBytes 6 x.time ++ leBytes 1 x.kind ++ leBytes 1 x.tgt ++ leBytes 2 x.arg ++
    leBytes 1 (pack [(1, bit x.lateRun), (1, bit x.repeat_)]) ++ leBytes 1 x.lateMax ++ leBytes 4 x.period

/-- The fields of an entry. -/
def Stitch.ofBytes (b : List Byte) : Stitch :=
  let f := fieldAt b 10 1
  { time := fieldAt b 0 6, kind := fieldAt b 6 1, tgt := fieldAt b 7 1, arg := fieldAt b 8 2, lateRun := bitOf f 0, repeat_ := bitOf f 1,
    lateMax := fieldAt b 11 1, period := fieldAt b 12 4, state := .pending }

/-- STATE codes of STITCH_STATUS. -/
def StitchState.code : StitchState → Nat
  | .empty => 0
  | .pending => 1
  | .done => 2
  | .skipped => 3
  | .refused => 4
  | .cancelled => 5

/-- An entry keeps Tables 12.6 and 12.7 (R559); a target that Table 12.7 wants in MODE MANUAL is in it (log entry 42). -/
def State.stitchOk (s : State) (b : List Byte) : Bool :=
  let x := Stitch.ofBytes b
  fieldAt b 10 1 < 4 && (if x.repeat_ then inR 1 x.period 86400000 else x.period == 0) &&
    if isDrvKind x.kind then
      match idx? 32 x.tgt with
      | some n => argOk x.kind x.arg (s.prof n).propMax
      | none => false
    else if x.kind == 0x10 then
      match idx? 12 x.tgt with
      | some n => x.arg ≤ 1000 && (s.fanCfg n).mode == 1
      | none => false
    else if x.kind == 0x20 then
      match idx? 8 x.tgt with
      | some n => x.arg ≤ 24000 && (s.loCfg n).mode == 2
      | none => false
    else false

/-- The entry's target has another user: the programme or the conveyor line (R543). -/
def State.stitchConflict (s : State) (x : Stitch) : Bool :=
  if isDrvKind x.kind then s.drvOwned x.tgt
  else if x.kind == 0x10 then s.fanOwned x.tgt
  else s.loopOwned x.tgt

/-! ### Execution (R546 to R550) -/

/-- The action of an entry on a driver channel: the effect of the order of the same name (R546). -/
def State.stitchDrv (s : State) (n : Fin 32) (code arg : Nat) : State :=
  match actionOf code arg with
  | some (.setI ma) => s.setI n ma
  | some a => s.energise n a
  | none => if s.paired n && n.val % 2 == 1 then s else s.release n false

/-- The state after an entry's action, or none where the executor refuses it (R548). -/
def State.stitchAct (s : State) (x : Stitch) : Option State :=
  if isDrvKind x.kind then
    match idx? 32 x.tgt with
    | some n => if s.drvRefuses n x.kind || !argOk x.kind x.arg (s.prof n).propMax then none else some (s.stitchDrv n x.kind x.arg)
    | none => none
  else if x.kind == 0x10 then
    match idx? 12 x.tgt with
    | some n => if (s.fanCfg n).mode != 1 || s.therm.shut then none else some (s.mFanCh n fun f => { f with manual := x.arg })
    | none => none
  else match idx? 8 x.tgt with
    | some n =>
      if (s.loCfg n).mode != 2 || ((s.loCfg n).heat && !s.permitOn) || s.therm.shut then none else some (s.loAct n 1 x.arg)
    | none => none

/-- Entry `i` changed by `f`. -/
def State.mEntry (s : State) (i : Fin 256) (f : Stitch → Stitch) : State := s.mStitch fun t => { t with e := vmod t.e i f }

/-- Entry `i` is carried out or refused now; a REPEAT entry stays pending with its next TIME given by `next` (R546, R548, R550). -/
def State.stitchRun (s : State) (i : Fin 256) (next : Nat) : State :=
  let x := s.stitch.e[i]
  match s.stitchAct x with
  | some s =>
    s.mEntry i fun y => { y with exec := (y.exec + 1) % 256, time := if y.repeat_ then next else y.time,
                                 state := if y.repeat_ then y.state else .done }
  | none =>
    (s.mEntry i fun y => { y with time := if y.repeat_ then next else y.time, state := if y.repeat_ then y.state else .refused }).mStitch
      fun t => { t with refuse := t.refuse.raise }

/-- The pending entry with the earliest TIME, the lowest index first. -/
def Stitches.first (t : Stitches) : Option (Fin 256) :=
  ((List.finRange 256).filter fun i => (t.e[i]).state == .pending).foldl
    (fun best i => match best with
      | none => some i
      | some b => if (t.e[i]).time < (t.e[b]).time then some i else some b) none

/-- The first TIME of a REPEAT entry that is later than `t` µs (R551). -/
def Stitch.after (x : Stitch) (t : Nat) : Nat :=
  let p := 1000 * x.period
  x.time + ((t - x.time) / p + 1) * p

/-- A pending entry whose TIME a step to `t` µs has passed (R551). -/
def State.stitchLateOne (s : State) (i : Fin 256) (t : Nat) : State :=
  let x := s.stitch.e[i]
  if x.state != .pending || t ≤ x.time then s
  else if x.lateRun && t - x.time ≤ 1000 * x.lateMax then
    (s.stitchRun i (x.after t)).mStitch fun y => { y with lateRunCnt := inc8 y.lateRunCnt }
  else
    (s.mEntry i fun y => { y with time := if y.repeat_ then x.after t else y.time, state := if y.repeat_ then y.state else .skipped }).mStitch
      fun y => { y with skip := y.skip.raise }

/-- Late entries in index order, after a forward step or load of chain time to `t` µs (R551). -/
def State.stitchLate (s : State) (t : Nat) : State := s.each (List.finRange 256) fun s i => s.stitchLateOne i t

/-! ### Opcodes (Table 12.9) -/

/-- Pending entries. -/
def Stitches.pending (t : Stitches) : Nat := (t.e.toList.filter fun x => x.state == .pending).length

/-- The boundary at which an order is applied, in µs: the one that the merge names, else the next at or after now (R553). -/
def State.applyAt (s : State) : Nat := s.frm.applyUs.getD ((s.ctUs + 999) / 1000 * 1000)

/-- The entries that a STITCH_WRITE carries, with their places. -/
def entriesOf (first count : Nat) (b : List Byte) : List (Nat × List Byte) :=
  (List.range count).map fun k => (first + k, (b.drop (16 * k)).take 16)

/-- STITCH_WRITE (R543, R553, R559). -/
def stitchWrite (first count : Nat) (b : List Byte) : Op :=
  { opc := 0x67, needle := true, prot := .tagOrHolder, bcast := true, lenOk := b.length == 16 * count,
    targets := fun _ => (List.range count).map fun k => (Target.stitch (first + k), false),
    run := fun _ keep s =>
      let l := entriesOf first count b
      if !inR 1 count 32 || first + count > 256 || !l.all (fun x => s.stitchOk x.2) then .bad .badParam s
      else if l.any fun x => s.stitchConflict (Stitch.ofBytes x.2) then .bad .badState s
      else
        let late := fun (x : Nat × List Byte) => decide ((Stitch.ofBytes x.2).time < s.applyAt + 1000)
        let s' := s.each l fun s x =>
          match idx? 256 x.1 with
          | some i => if late x || !keep (.stitch x.1) then s else s.mEntry i fun _ => Stitch.ofBytes x.2
          | none => s
        { status := if l.any late then .late else .ok,
          data := leBytes 1 first ++ leBytes 1 count ++ l.flatMap (fun x => leBytes 1 (bit (late x))), s := s' } }

/-- STITCH_CLEAR. -/
def stitchClear (first count : Nat) : Op :=
  { opc := 0x68, needle := true, prot := .tagOrHolder, bcast := true,
    targets := fun _ => (List.range (min count 256)).map fun k => (Target.stitch (first + k), false),
    run := fun _ keep s =>
      if !inR 1 count 256 || first + count > 256 then .bad .badParam s
      else .ok (leBytes 1 first ++ leBytes 2 count)
        (s.each (span 256 first count) fun s i => if keep (.stitch i.val) then s.mEntry i fun _ => {} else s) }

/-- STITCH_STATUS. -/
def stitchStatus (first count : Nat) : Op :=
  Op.read 0x69 fun _ s =>
    if !inR 1 count 56 || first + count > 256 then .bad .badParam s
    else
      let nt := match s.stitch.first with
        | some i => (s.stitch.e[i]).time
        | none => 0xFFFFFFFFFFFF
      .ok (leBytes 2 s.stitch.pending ++ leBytes 6 nt ++
        (span 256 first count).flatMap fun i => (s.stitch.e[i]).toBytes ++ leBytes 1 (s.stitch.e[i]).state.code ++ leBytes 1 (s.stitch.e[i]).exec) s

/-- SYS.STITCH_STAT and SYS.STITCH_CNT (Table 12.12), by word. -/
def State.regStitch (s : State) (k : Nat) : Nat :=
  let t := s.stitch
  match k with
  | 0 => pack [(9, t.pending), (7, 0), (1, bit t.skip.set), (1, bit t.refuse.set), (1, bit t.cancel.set)]
  | _ => pack [(8, t.skip.cnt), (8, t.refuse.cnt), (8, t.cancel.cnt), (8, t.lateRunCnt)]

/-! ### The commands -/

/-- STITCH_WRITE. -/
def execStitchWrite (q : Req) (first count : Byte) (entries : List Byte) (s : State) : Host.Outcome State Fault Refusal :=
  .next ((stitchWrite first.toNat count.toNat entries).serve q s)

/-- STITCH_CLEAR. -/
def execStitchClear (q : Req) (first : Byte) (count : Half) (s : State) : Host.Outcome State Fault Refusal :=
  .next ((stitchClear first.toNat count.toNat).serve q s)

/-- STITCH_STATUS. -/
def execStitchStatus (q : Req) (first count : Byte) (s : State) : Host.Outcome State Fault Refusal :=
  .next ((stitchStatus first.toNat count.toNat).serve q s)

/-- The control tick of this microsecond is still to come: the live outputs take their staged values first (R547). -/
def State.tickFirst (s : State) : Bool := s.ctUs % 1000 == 0 && s.clk.lastTick != some (s.clk.ctNs / 1000000)

/-- The earliest pending entry falls due and is carried out or refused (R546 to R550). -/
def execStitchExecute (dt : Nat) (s : State) : Host.Outcome State Fault Refusal :=
  let s := s.advance dt
  .next <|
    match s.stitch.first with
    | some i =>
      let x := s.stitch.e[i]
      if s.ctrlRuns && (x.time < s.ctUs || (x.time == s.ctUs && !s.tickFirst)) then s.stitchRun i (x.time + 1000 * x.period) else s
    | none => s

end Sys2Proof.Machine
end

