-- ==== Sys2Proof/Machine/Marks.lean ====
section
/-! DEFINITION. Time marks: judgement, forwarding, correction of chain time, the oscillator trim (R26, R114 to R127, R838, R846). -/

namespace Sys2Proof.Machine

/-! ### A MARK's bytes -/

/-- A MARK's data bytes, read. -/
structure Mark where
  time : Nat
  adly : Nat
  srcB : Bool
  srcf : Nat
  hops : Nat
  chk : Bool
  valid : Bool
  deriving DecidableEq, Repr

/-- The twelve data bytes read; valid under R117. -/
def Mark.ofBytes (b : List Byte) : Mark :=
  let t := fieldAt b 0 6
  let c := b.length == 12 && crc8 (b.take 11) == fieldAt b 11 1
  { time := t, adly := fieldAt b 6 3, srcB := bitOf (fieldAt b 9 1) 0, srcf := fieldAt b 9 1, hops := fieldAt b 10 1,
    chk := c, valid := c && t % 10000 == 0 }

/-- Forwarding latency in ns (Table 3.1). -/
def forwardNs (rate : Nat) : Nat := if rate == 0 then 960 else 3840

/-- The MARK as it goes on (R115, R838). One whose CHK failed goes on with a CHK that fails too, so that every node beyond discards it (R117;
log entry 72). -/
def Mark.forward (m : Mark) (add : Nat) : List Byte :=
  let sum := m.adly + add
  let b := leBytes 6 m.time ++ leBytes 3 sum ++ leBytes 1 m.srcf ++ leBytes 1 (m.hops + 1)
  b ++ leBytes 1 (if 0xFFFFFF < sum || !m.chk then 0xFF - crc8 b else crc8 b)

/-! ### Correction (R120, R121) -/

/-- What is dated in chain time moves with it by `d` µs, so that the time gone by since stays what it was (R270, R298, R352, R354, R356). -/
def State.rebase (s : State) (d : Int) : State :=
  let s := s.mFe fun x =>
    { x with ch := x.ch.map fun c => { c with past := c.past.map fun y => (y.1 + d, y.2), midA := c.midA + d },
             grp := x.grp.map fun g => { g with ended := g.ended + d },
             calWas := x.calWas.map fun y => ((y.1 + d).toNat, y.2) }
  s.mDie fun x =>
    { x with actUs := x.actUs + d,
             port := x.port.map fun p => { p with started := p.started.map (· + d), ready := p.ready + d, ended := p.ended + d,
                                                  olderEnded := p.olderEnded + d } }

/-- Chain time jumps to `ns`, or to its last value where that lies beyond it (R127): what follows boundaries of chain time starts afresh (R312, R551). -/
def State.jumpTo (s : State) (ns : Nat) : State :=
  let ns := min ns (ctMax * 1000)
  let s := s.rebase ((ns / 1000 : Nat) - s.ctUs)
  let s := s.mClk fun c => { c with ctNs := ns, slew := 0, ctSat := false, lastTick := none, lastProc := none }
  let s := (s.mTab fun x => x.restart (ns / 1000)).timersJump (ns / 1000)
  (s.mSnap fun x => { x with lastBidx := some (lastBoundary ns) }).stitchLate (ns / 1000)

/-- The mark of source `srcB` counts as used, with error `e` ns (R118, R121). -/
def Clock.used (c : Clock) (srcB : Bool) (e : Int) : Clock :=
  { c with src := bit srcB, lastUsed := some c.upNs, lastCorr := e.natAbs }

/-- LAST_ERR of an error of `e` ns. -/
def lastErrOf (e : Int) : Int := clampI (-128) 127 (roundDiv e 10)

/-- The frequency offset between two MARKs taken, in cycles × 1,000 and the span in cycles × 1,000 (R846). -/
def freqOffset (a b : MarkTaken) : Int × Int :=
  let span : Int := 64000 * ((b.time : Int) - a.time)
  (1000 * ((b.cyc : Int) - a.cyc) - 64 * ((b.dly : Int) - a.dly) - span, span)

/-- TRIM after a MARK taken (R25, R846): one step against an offset of at least 1 ppm, within 1,000 steps of nominal. -/
def trimAfter (trim : Nat) (old : Option MarkTaken) (new : MarkTaken) : Nat :=
  match old with
  | none => trim
  | some a =>
    let o := freqOffset a new
    if o.2 ≤ 0 || ms 100 < new.upNs - a.upNs || o.1.natAbs * 1000000 < o.2.natAbs then trim
    else if decide (0 < o.1) == Config.trimUpFaster then max (0x800 - 1000) (trim - 1)
    else min (0x800 + 1000) (trim + 1)

/-- TRIM after a MARK taken now: one step at most in 10 ms of the core clock (R25, R846). -/
def State.trimBy (s : State) (new : MarkTaken) : State :=
  let t := trimAfter s.sys.trim s.clk.taken new
  let free := match s.sys.trimUp with
    | some u => decide (ms 10 ≤ s.since u)
    | none => true
  if t == s.sys.trim || !free then s else s.mSys fun y => { y with trim := t, trimUp := some s.clk.upNs }

/-- The MARK `x` of source `srcB` is taken for boundary `time` µs (R118, R120). A MARK that loads or steps chain time moves TRIM not at all
and starts no frequency measurement: the spec is silent on it, and this is the model's choice (log entry 56). After a load ALIGNED and
LAST_ERR show the error as it was found, although the boundary counts as one judged with |e| = 0: the spec leaves open what they show,
and this is the model's choice (log entry 120). -/
def State.takeMark (s : State) (time : Nat) (srcB : Bool) (x : MarkSeen) : State :=
  let now := s.clk.upNs
  let implied : Int := (time * 1000 : Nat) + ((now : Int) - x.place)
  let e := implied - s.clk.ctNs
  let new : MarkTaken := { cyc := x.cyc, dly := x.dly, time := time, upNs := now }
  let s := s.mClk fun c => { c with lastErr := lastErrOf e, bnd := c.bnd.map fun b => { b with decided := true } }
  if !s.clk.ctValid then
    (s.mClk fun c => { c.used srcB e with ctValid := true, taken := none, judgedBad := some false }).jumpTo implied.toNat
  else if e.natAbs ≤ 100000 then
    let s := s.trimBy new
    s.mClk fun c => { c.used srcB e with slew := clampI (-10000) 10000 e, taken := some new, judgedBad := some false }
  else if s.clk.judgedBad == some true then
    let s := s.mClk fun c => { c.used srcB e with step := c.step.raise, taken := none, judgedBad := some true }
    let s := (s.jumpTo implied.toNat).snapClear
    s.logAs 3 2 2 false (leInt 4 (clampI (-(2 ^ 31)) (2 ^ 31 - 1) (roundDiv e 1000)) ++ leBytes 6 s.ctUs)
  else
    let s := s.trimBy new
    s.mClk fun c => { c with slew := 0, taken := some new, judgedBad := some true }

/-! ### Reception (R115 to R119) -/

/-- What has been heard of the boundary `time`, where a MARK with that TIME comes in that places it at `place`. -/
def Clock.boundary (c : Clock) (time : Nat) (place : Int) : MarkBoundary :=
  match c.bnd with
  | some b => if b.time == time then b else { time := time, first := place }
  | none => { time := time, first := place }

/-- The times that the two MARKs imply differ by more than 2 µs (R119). They are compared where they have the same TIME or arrived within 1 ms
of each other (log entry 123). -/
def MarkHeard.differs (x y : MarkHeard) : Bool :=
  (x.time == y.time || decide (x.upNs - y.upNs ≤ ms 1)) &&
    decide (2000 < (((x.time * 1000 : Nat) - x.place : Int) - ((y.time * 1000 : Nat) - y.place : Int)).natAbs)

/-- A valid MARK of a source is compared with the other source's last one (R119). -/
def State.compareMark (s : State) (srcB : Bool) (x : MarkHeard) : State :=
  s.mClk fun c =>
    let differ := ((if srcB then c.heardA else c.heardB).map x.differs).getD false
    { c with markDiff := c.markDiff.raiseIf differ, heardA := if srcB then c.heardA else some x, heardB := if srcB then some x else c.heardB }

/-- A valid MARK is judged: the primary source's is taken at once, the other's waits for the primary (R118, R119). -/
def State.judgeMark (s : State) (m : Mark) (x : MarkSeen) : State :=
  let s := s.compareMark m.srcB { time := m.time, place := x.place, upNs := s.clk.upNs }
  let b := s.clk.boundary m.time x.place
  let mine := if m.srcB then b.b else b.a
  if mine.isSome then s
  else
    let b := if m.srcB then { b with b := some x } else { b with a := some x }
    let s := s.mClk fun c => { c with bnd := some b }
    if !b.decided && x.dly < 1000000 && m.srcB == (s.clk.primary == 1) then s.takeMark m.time m.srcB x else s

/-- A MARK arrives at port `p`, `cyc` core clock cycles into the count. It goes on along its lane, also where the other port is in turnaround:
R106 turns frames back and no MARK. -/
def State.markIn (s : State) (p : PortId) (bytes : List Byte) (cyc : Nat) : State :=
  if !s.linkRuns then s
  else
    let m := Mark.ofBytes bytes
    let d := (s.port p).segDly
    let s := s.mRp (portOther p) fun x => { x with mark := m.forward (d + forwardNs (s.port p).rate) }
    if !m.valid then s
    else
      let s := (s.mClk fun c => { c with lastMark := c.upNs }).mSys fun x => { x with holdover := false }
      s.judgeMark m { place := (s.clk.upNs : Int) - (m.adly + d : Nat), cyc := cyc, dly := m.adly + d }

/-- No MARK of the primary source by 1 ms after the boundary: the other source's is used (R118). -/
def State.markWait (s : State) : State :=
  match s.clk.bnd with
  | none => s
  | some b =>
    let other := if s.clk.primary == 1 then b.a else b.b
    if b.decided || (s.clk.upNs : Int) < b.first + ms 1 then s
    else match other with
      | some x => if x.dly < 1000000 then s.takeMark b.time (s.clk.primary != 1) x else s
      | none => s

/-! ### The commands -/

/-- A MARK arrives. -/
def execMarkReceive (dt : Nat) (port : PortId) (mark : List Byte) (cyc : Nat) (s : State) : Host.Outcome State Fault Refusal :=
  .next ((s.advance dt).markIn port mark cyc)

/-- The primary source's MARK has not come. -/
def execMarkSourceTimeout (dt : Nat) (s : State) : Host.Outcome State Fault Refusal := .next (s.advance dt).markWait

/-- No time mark for 100 ms: the trim is held (R26). -/
def execMarkHoldover (dt : Nat) (s : State) : Host.Outcome State Fault Refusal :=
  let s := s.advance dt
  .next (if s.linkRuns && decide (ms 100 ≤ s.since s.clk.lastMark) then s.mSys fun x => { x with holdover := true } else s)

/-- Chain time has reached its last value (R127). -/
def execCtSaturate (dt : Nat) (s : State) : Host.Outcome State Fault Refusal :=
  let s := s.advance dt
  .next (if ctMax ≤ s.ctUs then s.mClk fun c => { c with ctSat := true } else s)

/-- CT_LO is read (R691). -/
def execCtLoRead (dt : Nat) (s : State) : Host.Outcome State Fault Refusal := .next (s.advance dt).latchHi

end Sys2Proof.Machine
end

