-- ==== Sys2Proof/Machine/Sessions.lean ====
section
/-! DEFINITION. Keys, sessions and authenticated frames (chapter 5). -/

namespace Sys2Proof.Machine

/-! ### Key derivation and tags -/

/-- The label of Table 5.2. -/
def sessLabel : List Byte := [0x4C, 0x4E, 0x47, 0x2D, 0x53, 0x45, 0x53, 0x53]

/-- The unit serial, least significant byte first. -/
def serialBytes : List Byte := leBytes 8 Config.serial.toNat

/-- Output block `i` of the key derivation (R212, Table 5.2). -/
def sessKey (key nh nn : List Byte) (src i : Nat) : List Byte :=
  cmac key (leBytes 1 i ++ sessLabel ++ leBytes 1 0 ++ nh ++ nn ++ leBytes 1 src ++ serialBytes ++ [0x01, 0x80])

/-- A frame body with HOP taken as 0 (R101, R148, R219). -/
def zeroHop (body : List Byte) : List Byte := body.set 10 0

/-- TAG over the body up to the last byte of MCTR (R219). -/
def tagOf (key body : List Byte) : List Byte := (cmac key (zeroHop body)).take 8

/-! ### Sessions -/

/-- RX_LAST or TX_LAST lies in the refusal zone (R229). -/
def Session.inZone (x : Session) : Bool := 0xFFFFFFF0 ≤ x.txLast || 0xFFFFFFF0 ≤ x.rxLast

/-- REKEY_DUE after a change of a counter (R228). -/
def Session.review (x : Session) : Session := { x with rekeyDue := x.rekeyDue || 0x80000000 ≤ x.rxLast || 0x80000000 ≤ x.txLast }

/-- The open and pending sessions. -/
def Auth.sessions (a : Auth) : List Session := (a.openS.toList ++ a.pendS.toList).filterMap id

/-- Every session that `p` admits ends. -/
def Auth.drop (a : Auth) (p : Session → Bool) : Auth :=
  let f : Option Session → Option Session := fun x => match x with
    | some y => if p y then none else some y
    | none => none
  { a with openS := a.openS.map f, pendS := a.pendS.map f }

/-- The session with identity `i` changed by `f`. -/
def Auth.mSess (a : Auth) (i : Nat) (f : Session → Session) : Auth :=
  let g : Option Session → Option Session := fun x => x.map fun y => if y.id == i then f y else y
  { a with openS := a.openS.map g, pendS := a.pendS.map g }

/-- The pending session `i` of a sender becomes its open session, and the one before it ends (R215). -/
def Auth.promote (a : Auth) (who : Fin 3) (i : Nat) : Auth :=
  match a.pendS[who] with
  | some y => if y.id == i then { a with openS := vmod a.openS who fun _ => some y, pendS := vmod a.pendS who fun _ => none } else a
  | none => a

/-- A session consumes MCTR `m`: RX_LAST never goes back, though an order that waited for the merge enters the window after requests received
later (log entry 132). -/
def Session.consume (x : Session) (m : Nat) : Session := ({ x with rxLast := max x.rxLast m } : Session).review

/-- Session `i` of a sender consumes MCTR `m`, and becomes the open one where it was pending (R215, R220, R228). -/
def Auth.consume (a : Auth) (who : Fin 3) (i m : Nat) : Auth := (a.mSess i fun x => x.consume m).promote who i

/-- The session that carries the order under judgement. -/
def State.carrier (s : State) (q : Req) : Option Session :=
  match s.frm.orderCarrier, s.frm.orderSess with
  | some x, _ => some x
  | none, some i => s.auth.sessions.find? fun x => x.id == i
  | none, none => if q.auth then s.auth.openS[senderIx q.sender] else none

/-- A tag failed at step 6 (R224, R240). -/
def State.tagFailed (s : State) (who : Sender) : State :=
  let n := satTo 0xFFFF (s.auth.failSince + 1)
  let due := match s.auth.failUp with
    | some u => decide (sec 10 ≤ s.since u)
    | none => true
  let s := s.mAuth fun a => { a with tagFail := a.tagFail.raise, failSince := if due then 0 else n,
                                     failUp := if due then some s.clk.upNs else a.failUp }
  if due then s.logE 3 2 (leBytes 1 (senderCode who) ++ leBytes 2 n) else s

/-! ### Opcodes (Table 5.5) -/

/-- SESSION_OPEN (R210 to R218, R684). NN carries the count as increased (log entry 49); its last four bytes are free (log entry 1). -/
def sessionOpen (slot : Nat) (nh : List Byte) : Op :=
  { opc := 0x09, lenOk := nh.length == 8,
    run := fun q _ s =>
      match idx? 3 slot with
      | none => .bad .badParam s
      | some k =>
        let a := s.auth
        if slot == 2 && q.sender != .svc then .bad .badParam s
        else if a.keyVer[k] == 0 || a.nonceCnt ≥ 0xFFFFFFFF then .bad .badState s
        else
          let recent := a.opened.filter fun u => s.since u < sec 1
          if recent.length ≥ 10 then .bad .busy s
          else
            let nn := leBytes 4 (a.nonceCnt + 1) ++ leBytes 4 (s.freeNat 32)
            let key := a.key[k]
            let src := senderCode q.sender
            let new : Session := { id := a.nextId, slot := slot, kReq := sessKey key nh nn src 1, kRep := sessKey key nh nn src 2,
                                   kWrap := sessKey key nh nn src 3, nonce := a.nonceCnt + 1 }
            let kv := leBytes 2 a.keyVer[k]
            let proof := (cmac new.kRep (nh ++ nn ++ leBytes 1 slot ++ kv)).take 8
            .ok (nn ++ leBytes 1 slot ++ kv ++ proof) (s.drew.mAuth fun a =>
              { a with nonceCnt := a.nonceCnt + 1, nextId := a.nextId + 1, opened := s.clk.upNs :: recent,
                       pendS := vmod a.pendS (senderIx q.sender) fun _ => some new }) }

/-- SESSION_CLOSE (R237). -/
def sessionClose : Op :=
  Op.readTagged 0x0A fun q s => if (s.auth.openS[senderIx q.sender]).isNone then .bad .badState s else .ok [] s

/-- The first 3 bytes of the encryption of a zero block: KCV. -/
def kcv (key : List Byte) : List Byte := (aes128 key zeros16).take 3

/-- A slot takes a key, or is erased with KEYVER 0. -/
def State.setKey (s : State) (k : Fin 3) (ver : Nat) (key : List Byte) : State :=
  (s.mAuth fun a => { a with keyVer := vmod a.keyVer k fun _ => ver, key := vmod a.key k fun _ => key }).logE 3 3
    (leBytes 1 k.val ++ leBytes 2 ver)

/-- KEY_LOAD (R203 to R209). The KEY of FORM 2 is zero. -/
def keyLoad (slot form ver : Nat) (b : List Byte) : Op :=
  Op.orderLen 0x0B (.keySlot slot) (b.length == 16) fun q s =>
    match idx? 3 slot with
    | none => .bad .badParam s
    | some k =>
      let done := fun (key : List Byte) => Res.ok (leBytes 1 slot ++ leBytes 2 ver ++ kcv key) (s.setKey k ver key)
      match form with
      | 0 => if ver == 0 then .bad .badParam s else if s.guarded then .bad .badState s else done b
      | 1 =>
        if ver == 0 then .bad .badParam s
        else match s.carrier q with
          | some x => done (aes128Inv x.kWrap b)
          | none => .bad .authFail s
      | 2 =>
        if !allZero b then .bad .badParam s
        else if (s.carrier q).isNone then .bad .authFail s
        else .ok (leBytes 1 slot ++ leBytes 5 0) (s.setKey k 0 [])
      | _ => .bad .badParam s

/-- One sender's part of SESSION_STATUS. -/
def State.sessEntry (s : State) (who : Fin 3) : List Byte :=
  let o := s.auth.openS[who]
  let p := s.auth.pendS[who]
  let st := match o, p with
    | none, none => 0
    | some _, none => 1
    | none, some _ => 2
    | some _, some _ => 3
  match o.or p with
  | some x =>
    leBytes 1 st ++ leBytes 1 x.slot ++ leBytes 1 (pack [(1, bit x.rekeyDue), (1, bit x.inZone)]) ++ leBytes 4 x.rxLast ++ leBytes 4 x.txLast
  | none => List.replicate 11 0

/-- SYS.AUTH_STAT, AUTH_EVT, AUTH_EVENTS and AUTH_EVENTS2 (Tables 5.6 and 5.7), by word. -/
def State.regAuth (s : State) (k : Nat) : Nat :=
  let a := s.auth
  match k with
  | 0 => pack [(1, bit s.guarded), (1, bit a.openS[0].isSome), (1, bit a.openS[1].isSome), (1, bit a.openS[2].isSome),
               (1, bit (a.sessions.any fun x => x.rekeyDue)), (1, bit (a.sessions.any Session.inZone)), (1, bit s.frm.ndlAuth), (1, 0),
               (3, maskOf 3 fun i => a.keyVer.toList.getD i 0 != 0)]
  | 1 => pack [(1, bit a.tagFail.set), (1, bit a.stale.set), (1, bit a.missing.set), (1, bit a.zone.set), (1, bit a.rate.set)]
  | 2 => pack [(8, a.tagFail.cnt), (8, a.stale.cnt), (8, a.missing.cnt), (8, a.zone.cnt)]
  | _ => pack [(8, a.rate.cnt)]

/-- SESSION_STATUS. -/
def sessionStatus : Op :=
  Op.read 0x12 fun _ s =>
    .ok (leBytes 1 (bit s.guarded) ++ s.auth.keyVer.toList.flatMap (fun v => leBytes 2 v) ++ s.sessEntry 0 ++ s.sessEntry 1 ++ s.sessEntry 2 ++
      leBytes 4 (s.regAuth 2) ++ leBytes 4 (s.regAuth 3) ++ leBytes 4 s.auth.nonceCnt) s

/-! ### The commands -/

/-- SESSION_OPEN. -/
def execSessionOpen (q : Req) (slot : Byte) (nonceH : List Byte) (s : State) : Host.Outcome State Fault Refusal :=
  .next ((sessionOpen slot.toNat nonceH).serve q s)

/-- SESSION_CLOSE. -/
def execSessionClose (q : Req) (s : State) : Host.Outcome State Fault Refusal := .next (sessionClose.serve q s)

/-- KEY_LOAD with FORM 0. -/
def execKeyLoadPlain (q : Req) (slot : Byte) (keyver : Half) (key : List Byte) (s : State) : Host.Outcome State Fault Refusal :=
  .next ((keyLoad slot.toNat 0 keyver.toNat key).serve q s)

/-- KEY_LOAD with FORM 1. -/
def execKeyLoadWrapped (q : Req) (slot : Byte) (keyver : Half) (wrapped : List Byte) (s : State) : Host.Outcome State Fault Refusal :=
  .next ((keyLoad slot.toNat 1 keyver.toNat wrapped).serve q s)

/-- KEY_LOAD with FORM 2. -/
def execKeyLoadErase (q : Req) (slot : Byte) (keyver : Half) (s : State) : Host.Outcome State Fault Refusal :=
  .next ((keyLoad slot.toNat 2 keyver.toNat zeros16).serve q s)

/-- SESSION_STATUS. -/
def execSessionStatus (q : Req) (s : State) : Host.Outcome State Fault Refusal := .next (sessionStatus.serve q s)

/-- A pending session has not become open within 10 s of its SESSION_OPEN reply (R216). -/
def execPendingSessionExpire (dt : Nat) (sender : Sender) (s : State) : Host.Outcome State Fault Refusal :=
  let s := s.advance dt
  .next (match s.auth.pendS[senderIx sender] with
    | some x => if x.replied && decide (sec 10 ≤ s.since x.bornUp) then s.mAuth fun a => { a with pendS := vmod a.pendS (senderIx sender) fun _ => none } else s
    | none => s)

end Sys2Proof.Machine
end

