-- ==== Sys2Proof/Machine/Bus.lean ====
section
/-! DEFINITION. The address space as MEM_READ, MEM_WRITE, FLAG_CLEAR and the stream engine see it: the registers of every block, what the
host may write (Tables 17.1 to 17.6, R6, R673 to R677, R689 to R700). -/

namespace Sys2Proof.Machine

/-! ### Reading registers (R691) -/

/-- The word at offset `o` of a byte area. -/
def areaWord (b : List Byte) (o : Nat) : Nat := fieldAt b o 4

/-- A register of the system block. -/
def State.regSystem (s : State) (o : Nat) : Nat :=
  if o < 0x100 then s.regSys o
  else if inR 0x100 o 0x10C then s.regFrames ((o - 0x100) / 4)
  else if inR 0x120 o 0x12C then s.regAuth ((o - 0x120) / 4)
  else if inR 0x210 o 0x218 then s.regLichen ((o - 0x210) / 4)
  else match o with
    | 0x200 => s.regPrgStat
    | 0x204 => s.regConvStat
    | 0x208 => s.regStitch 0
    | 0x20C => s.regStitch 1
    | 0x220 => s.regLog
    | 0x230 => s.regUpd 0
    | 0x234 => s.regUpd 1
    | 0x240 => s.regHo 0
    | 0x244 => s.regHo 1
    | 0x248 => s.regHo 2
    | _ => 0

/-- A register of the front-end block. -/
def State.regFe (s : State) (o : Nat) : Nat :=
  let g : Fin 4 := ⟨o / 4 % 4, Nat.mod_lt _ (by decide)⟩
  if o < 0x10 then s.regScanCfg g
  else if o < 0x20 then s.regScanT g
  else if o < 0x30 then s.regGrpStat g
  else if inR 0x40 o 0x5F then s.regCj ⟨o / 4 % 8, Nat.mod_lt _ (by decide)⟩
  else if inR 0x100 o 0x2FF then
    let n : Fin 64 := ⟨(o - 0x100) / 8 % 64, Nat.mod_lt _ (by decide)⟩
    if o % 8 == 0 then s.regChCfg n else s.regChCfg2 n
  else if inR 0x300 o 0x3FF then s.regChEvt ⟨o / 4 % 64, Nat.mod_lt _ (by decide)⟩
  else if o == 0x400 then s.regSnap 0
  else if o == 0x404 then s.regSnap 1
  else 0

/-- A register of the dielectric block. -/
def State.regDie (s : State) (o : Nat) : Nat :=
  if o == 0 then s.regDieStat
  else if o == 4 then s.regDieCyc
  else if inR 0x10 o 0x4F then
    let n : Fin 8 := ⟨(o - 0x10) / 8 % 8, Nat.mod_lt _ (by decide)⟩
    if o % 8 == 0 then s.regDieEvt n else s.regDieCnt n
  else 0

/-- A register of the driver block; the profile images from 0x1000 on. -/
def State.regDrv (s : State) (o : Nat) : Nat :=
  if o < 0x14 then s.regDrvTop (o / 4)
  else if inR 0x100 o 0x8FF then s.regDrvCh ⟨(o - 0x100) / 0x40 % 32, Nat.mod_lt _ (by decide)⟩ (o % 0x40 / 4)
  else if inR 0x1000 o 0x13FF then
    let n : Fin 32 := ⟨o / 0x20 % 32, Nat.mod_lt _ (by decide)⟩
    areaWord ((s.run.prof[n]).toBytes n.val) (o % 0x20)
  else if inR 0x2000 o 0x23FF then s.regDrvDg ⟨o / 0x20 % 32, Nat.mod_lt _ (by decide)⟩ (o % 0x20 / 4)
  else 0

/-- A register of the fan block; the configuration images from 0x1000 on and the fan tables from 0x2000 on (R518). -/
def State.regFan (s : State) (o : Nat) : Nat :=
  if o < 0x10 then s.regFanGrp ⟨o / 4 % 4, Nat.mod_lt _ (by decide)⟩
  else if o == 0x10 then s.regFanSum
  else if inR 0x100 o 0x27F then
    match idx? 12 ((o - 0x100) / 0x20) with
    | some n => s.regFanCh n (o % 0x20 / 4)
    | none => 0
  else if inR 0x1000 o 0x117F then
    match idx? 12 ((o - 0x1000) / 0x20) with
    | some n => areaWord ((s.run.fan[n]).toBytes n.val) (o % 0x20)
    | none => 0
  else if inR 0x2000 o 0x23FF then areaWord (s.fan.tbl[(⟨o / 0x80 % 8, Nat.mod_lt _ (by decide)⟩ : Fin 8)]) (o % 0x80)
  else 0

/-- A register of the loop-output block; the configuration images from 0x0100 on. Before CTRL runs no LOOP_CONFIG payload is in force, and
the byte of its number reads its reset value 0x00 (Table 7.13). -/
def State.regLoopBlk (s : State) (o : Nat) : Nat :=
  let n : Fin 8 := ⟨o / 4 % 8, Nat.mod_lt _ (by decide)⟩
  if o < 0x60 then s.regLoop n (o / 0x20)
  else if inR 0x100 o 0x17F then
    let k : Fin 8 := ⟨o / 0x10 % 8, Nat.mod_lt _ (by decide)⟩
    areaWord ((s.run.loop[k]).toBytes (if s.ctrlRuns then k.val else 0)) (o % 0x10)
  else 0

/-- A register of the safety block. -/
def State.regSafe (s : State) (o : Nat) : Nat :=
  match o with
  | 0x00 => s.regSafeStat
  | 0x04 => s.regSafeSi
  | 0x08 => maskOf 14 fun i => if h : i < 14 then (s.safe.latch[(⟨i, h⟩ : Fin 14)]).set else false
  | 0x0C => s.regSafeHp
  | 0x10 => s.regSafeHl
  | 0x14 => s.dio.di.toNat
  | 0x18 => s.regSafeCnt 0
  | 0x1C => s.regSafeCnt 1
  | 0x20 => s.regSafeCnt 2
  | 0x24 => s.regSafeCnt 3
  | 0x28 => s.safe.cfg.scrc
  | 0x2C => s.regSafePt
  | _ => 0

/-- The register at the aligned address `a` of a peripheral block; 0 where no table defines one. -/
def State.reg (s : State) (a : Nat) : Nat :=
  let o := a % 0x10000
  match a / 0x10000 with
  | 0x4000 => s.regSystem o
  | 0x4001 => s.regRing o
  | 0x4002 => s.regFe o
  | 0x4003 => s.regDie o
  | 0x4004 => s.regDrv o
  | 0x4005 => s.regFan o
  | 0x4006 => s.regLoopBlk o
  | 0x4007 => s.regSe o
  | 0x4008 => s.regTherm (o / 4)
  | 0x4009 => s.regSafe o
  | 0x400A => s.regInj o
  | _ => 0

/-! ### Reading bytes (R689 to R698) -/

/-- A free byte is drawn (log entry 1). -/
def State.freeRead (s : State) : Byte × State := (BitVec.ofNat 8 (s.freeNat 8), s.drew)

/-- A byte of the snapshot slots' storage: the window's bytes, but for a slot that a publication may be filling (Table 17.2). -/
def State.slotByte (s : State) (o : Nat) : Byte × State :=
  if s.pubNow.isSome && o / 0x800 == s.snap.nextSlot then s.freeRead else (s.snapByte o, s)

/-- A byte of SRAM (Table 17.2): the host buffer area holds what was written; the snapshot slots' storage; the rest is not laid down. -/
def State.sramByte (s : State) (a : Nat) : Byte × State :=
  if 0x10070000 ≤ a then (memGet s.mem a, s)
  else if 0x10069000 ≤ a && a < 0x1006D000 then s.slotByte (a - 0x10069000)
  else s.freeRead

/-- A byte of the ferroelectric store (Table 17.3). -/
def State.storeByte (s : State) (a : Nat) : Byte × State :=
  let o := a - 0x20000000
  if o < 0x10000 then s.freeRead
  else if o < 0x13000 then
    ((match idx? 24 ((o - 0x10000) / 0x200) with
      | some t => (s.tab.stored[t]).getD (o % 0x200) 0
      | none => 0), s)
  else if o < 0x20000 then s.freeRead
  else if o < 0x30000 then (s.logByte (o - 0x20000), s)
  else (0, s)

/-- A byte of image flash (Table 17.4); the directory's own layout is not laid down. -/
def State.flashByte (s : State) (a : Nat) : Byte × State :=
  match (List.finRange 8).find? fun b => bankBase b.val ≤ a && a < bankBase b.val + bankSize b.val with
  | some b => (s.bankByte b (a - bankBase b.val), s)
  | none => s.freeRead

/-- The register at `a`, with R145's latching of CT_HI by a read of CT_LO. What DS0 to DS15 hold is not laid down. -/
def State.readWord (s : State) (a : Nat) : Nat × State :=
  if a == 0x40010080 then (s.reg a, s.latchHi)
  else if inR 0x40071000 a 0x400711FF then (s.freeNat 32, s.drew)
  else (s.reg a, s)

/-- The byte at `a`, outside the peripheral blocks. -/
def State.readByte (s : State) (a : Nat) : Byte × State :=
  if a < 0x20000000 then (if a < 0x10000000 then (Config.freeByte a, s) else s.sramByte a)
  else if a < 0x30000000 then s.storeByte a
  else if a < 0x40000000 then s.flashByte a
  else (s.snapByte (a - 0x50000000), s)

/-- `n` bytes from `a` on, outside the peripheral blocks. -/
def State.readBytes (s : State) (a : Nat) : Nat → List Byte × State
  | 0 => ([], s)
  | n + 1 =>
    let x := s.readByte a
    let y := x.2.readBytes (a + 1) n
    (x.1 :: y.1, y.2)

/-- `n` registers from `a` on. -/
def State.readWords (s : State) (a : Nat) : Nat → List Byte × State
  | 0 => ([], s)
  | n + 1 =>
    let x := s.readWord a
    let y := x.2.readWords (a + 4) n
    (leBytes 4 x.1 ++ y.1, y.2)

/-- `n` bytes from `a` on. -/
def State.readSpan (s : State) (a n : Nat) : List Byte × State := if isPeriph a then s.readWords a (n / 4) else s.readBytes a n

/-! ### Writing registers (R6, R673 to R677, R692, R693) -/

/-- A register that the host may write (Table 17.6): its W1C, RW and WO bits, and every bit that a field has. -/
structure RegInfo where
  w1c : Nat := 0
  rw : Nat := 0
  wo : Nat := 0
  fields : Nat
  deriving DecidableEq, Repr

/-- A register with W1C bits `w`. -/
def w1cReg (w fields : Nat) : Option RegInfo := some { w1c := w, fields := fields }

/-- Registers of the system block. -/
def sysInfo (o : Nat) : Option RegInfo :=
  match o with
  | 0x010 => w1cReg 0x4 0xFF07
  | 0x014 => some { w1c := 0x2, wo := 0x1, fields := 0x1FFF03 }
  | 0x018 => w1cReg 0x4 0x0FFFFF07
  | 0x01C => w1cReg 0x40 0xFF7F
  | 0x05C => w1cReg 0x80 0xFFFF
  | 0x060 => w1cReg 0xC 0xFFFF0F
  | 0x064 => some { rw := 0xF, fields := 0xF }
  | 0x068 => w1cReg 0xF 0xF
  | 0x100 => w1cReg 0x100 0xFF01FF
  | 0x124 => w1cReg 0x1F 0x1F
  | 0x200 => w1cReg 0x2000 0xFF0F3FFF
  | 0x204 => w1cReg 0x10 0xFFFFFF17
  | 0x208 => w1cReg 0x70000 0x701FF
  | 0x210 => w1cReg 0x30 0xFFFF3F
  | 0x220 => w1cReg 0x3000 0xFFFF37FF
  | 0x230 => w1cReg 0x30000 0x3FFF7
  | 0x240 => w1cReg 0x30000 0x3FF77
  | _ => none

/-- Registers of the front-end block. -/
def feInfo (o : Nat) : Option RegInfo :=
  if inR 0x20 o 0x2C then w1cReg 0x6 0xFFFF07
  else if inR 0x40 o 0x5C then w1cReg 0x20000 0xFF03FFFF
  else if inR 0x300 o 0x3FC then w1cReg 0x3 0xFFFF03
  else none

/-- Registers of the driver block; DG_STATn is not the host's (R464). -/
def drvInfo (o : Nat) : Option RegInfo :=
  if o == 0xC then w1cReg 0x100 0xFF01FF
  else if inR 0x100 o 0x8C0 && o % 0x40 == 0 then w1cReg 0x3F00 0x3F7F
  else none

/-- Registers of the fan block. -/
def fanInfo (o : Nat) : Option RegInfo :=
  if o < 0x10 then w1cReg 0x4000 0x0FFF7FFF
  else if inR 0x100 o 0x260 && o % 0x20 == 0 then w1cReg 0x3F00 0xF73FFF
  else none

/-- Registers of the stream-engine block. -/
def seInfo (o : Nat) : Option RegInfo :=
  if o < 0x100 && o % 16 == 0 then w1cReg 0xF0000 0xFF03F7
  else if inR 0x200 o 0x27C && o % 0x20 == 0x0C then some { rw := 0xFFFFFFFF, fields := 0xFFFFFFFF }
  else if inR 0x200 o 0x27C && o % 0x20 == 0x1C then w1cReg 0x7 0xFFFFFF0F
  else none

/-- What Table 17.6 lets the host write at the aligned address `a`. -/
def regInfo (a : Nat) : Option RegInfo :=
  let o := a % 0x10000
  match a / 0x10000 with
  | 0x4000 => sysInfo o
  | 0x4001 =>
    match o with
    | 0x10 => w1cReg 0x7C 0x37F
    | 0x30 => w1cReg 0x7C 0x37F
    | 0x88 => w1cReg 0x18 0xFFFFFF3F
    | 0x8C => some { rw := 0x1, fields := 0x1 }
    | _ => none
  | 0x4002 => feInfo o
  | 0x4003 => if inR 0x10 o 0x48 && o % 8 == 0 then w1cReg 0xF 0xF else none
  | 0x4004 => drvInfo o
  | 0x4005 => fanInfo o
  | 0x4006 => if o < 0x20 then w1cReg 0xF0 0xFFFFFFF7 else none
  | 0x4007 => seInfo o
  | 0x4008 => if o == 0x24 then w1cReg 0xF 0xF else none
  | 0x400A => if o == 8 then w1cReg 0x1 0xFF01 else none
  | _ => none

/-- Flag `f` cleared where bit `i` of `m` is 1. -/
def Flag.w1c (f : Flag) (m i : Nat) : Flag := f.clearIf (bitOf m i)

/-- W1C writes to the system block. -/
def State.w1cSys (s : State) (o m : Nat) : State :=
  match o with
  | 0x010 => s.mSys fun x => { x with stbyWr := x.stbyWr.w1c m 2 }
  | 0x014 => s.mSys fun x => { x with overrun := x.overrun.w1c m 1 }
  | 0x018 => s.mSys fun x => { x with clkFault := x.clkFault.w1c m 2 }
  | 0x01C => s.mSys fun x => { x with avsLimit := x.avsLimit.w1c m 6 }
  | 0x05C => s.mPow fun x => { x with pdFault := x.pdFault.w1c m 7 }
  | 0x060 => s.mPow fun x => { x with vpUv := x.vpUv.w1c m 2, vpOv := x.vpOv.w1c m 3 }
  | 0x068 => s.mPow fun x => { x with wakeSrc := Vector.ofFn fun i : Fin 4 => (x.wakeSrc[i]).w1c m i.val }
  | 0x100 => s.mFrm fun x => { x with lost := x.lost.w1c m 8 }
  | 0x124 => s.mAuth fun x => { x with tagFail := x.tagFail.w1c m 0, stale := x.stale.w1c m 1, missing := x.missing.w1c m 2,
                                       zone := x.zone.w1c m 3, rate := x.rate.w1c m 4 }
  | 0x200 => s.mProg fun x => { x with holdEvt := x.holdEvt.w1c m 13 }
  | 0x204 => s.mConv fun x => { x with faultEvt := x.faultEvt.w1c m 4 }
  | 0x208 => s.mStitch fun x => { x with skip := x.skip.w1c m 16, refuse := x.refuse.w1c m 17, cancel := x.cancel.w1c m 18 }
  | 0x210 => s.mLich fun x => { x with entry := x.entry.w1c m 4, heatEnd := x.heatEnd.w1c m 5 }
  | 0x220 => s.mLog fun x => { x with ovr := x.ovr.w1c m 12, drop := x.drop.w1c m 13 }
  | 0x230 => s.mUpd fun x => { x with taint := x.taint.w1c m 16, vfail := x.vfail.w1c m 17 }
  | 0x240 => s.mHo fun x => { x with fallback := x.fallback.w1c m 16, abandon := x.abandon.w1c m 17 }
  | _ => s

/-- W1C writes to a ring port's LINK register. -/
def Port.w1c (p : Port) (m : Nat) : Port :=
  { p with lol := p.lol.w1c m 2, peerDown := p.peerDown.w1c m 3, long := p.long.w1c m 4, marginLow := p.marginLow.w1c m 5,
           wakeSeen := p.wakeSeen.w1c m 6 }

/-- W1C writes to the ring block. -/
def State.w1cRing (s : State) (o m : Nat) : State :=
  match o with
  | 0x10 => s.mRing fun r => { r with ca := r.ca.w1c m }
  | 0x30 => s.mRing fun r => { r with cb := r.cb.w1c m }
  | 0x88 => s.mClk fun c => { c with step := c.step.w1c m 3, markDiff := c.markDiff.w1c m 4 }
  | _ => s

/-- W1C writes to the front-end block. -/
def State.w1cFe (s : State) (o m : Nat) : State :=
  if inR 0x20 o 0x2C then
    s.mGrp ⟨o / 4 % 4, Nat.mod_lt _ (by decide)⟩ fun g => { g with scanSlip := g.scanSlip.w1c m 1, checkFail := g.checkFail.w1c m 2 }
  else if inR 0x40 o 0x5C then
    s.mFe fun x => { x with cj := vmod x.cj ⟨o / 4 % 8, Nat.mod_lt _ (by decide)⟩ fun c => { c with flt := c.flt.w1c m 17 } }
  else if inR 0x300 o 0x3FC then
    s.mCh ⟨o / 4 % 64, Nat.mod_lt _ (by decide)⟩ fun c => { c with ovr := c.ovr.w1c m 0, burn := c.burn.w1c m 1 }
  else s

/-- W1C writes to the driver block. -/
def State.w1cDrv (s : State) (o m : Nat) : State :=
  if o == 0xC then s.mDrv fun x => { x with overEvt := x.overEvt.w1c m 8 }
  else if inR 0x100 o 0x8C0 && o % 0x40 == 0 then
    s.mDrvCh ⟨(o - 0x100) / 0x40 % 32, Nat.mod_lt _ (by decide)⟩ fun d =>
      { d with pullinFail := d.pullinFail.w1c m 8, goalMiss := d.goalMiss.w1c m 9, fitReject := d.fitReject.w1c m 10,
               boostNr := d.boostNr.w1c m 11, holdTo := d.holdTo.w1c m 12, heatRel := d.heatRel.w1c m 13 }
  else s

/-- W1C writes to the fan block. -/
def State.w1cFan (s : State) (o m : Nat) : State :=
  if o < 0x10 then s.mFanGrp ⟨o / 4 % 4, Nat.mod_lt _ (by decide)⟩ fun g => { g with foEvt := g.foEvt.w1c m 14 }
  else if inR 0x100 o 0x260 && o % 0x20 == 0 then
    match idx? 12 ((o - 0x100) / 0x20) with
    | some n => s.mFanCh n fun f =>
        { f with stall := f.stall.w1c m 8, shootBlock := f.shootBlock.w1c m 9, overcurrent := f.overcurrent.w1c m 10,
                 short := f.short.w1c m 11, overtemp := f.overtemp.w1c m 12, srcFault := f.srcFault.w1c m 13 }
    | none => s
  else s

/-- W1C writes to the stream-engine block. -/
def State.w1cSe (s : State) (o m : Nat) : State :=
  if o < 0x100 && o % 16 == 0 then
    s.mSc ⟨o / 16 % 16, Nat.mod_lt _ (by decide)⟩ fun c =>
      { c with doneEvt := c.doneEvt.w1c m 16, err := c.err.w1c m 17, trigMiss := c.trigMiss.w1c m 18, skip := c.skip.w1c m 19 }
  else if inR 0x200 o 0x27C && o % 0x20 == 0x1C then
    s.mRb ⟨o / 0x20 % 4, Nat.mod_lt _ (by decide)⟩ fun r =>
      { r with hiEvt := r.hiEvt.w1c m 0, loEvt := r.loEvt.w1c m 1, ovf := r.ovf.w1c m 2 }
  else s

/-- The flags of the register at `a` that stand at the 1 bits of `m` are cleared (R675, R676). -/
def State.clearFlags (s : State) (a m : Nat) : State :=
  let o := a % 0x10000
  let b := a / 0x10000
  if b == 0x4000 then s.w1cSys o m
  else if b == 0x4001 then s.w1cRing o m
  else if b == 0x4002 then s.w1cFe o m
  else if b == 0x4003 then s.mPort ⟨(o - 0x10) / 8 % 8, Nat.mod_lt _ (by decide)⟩ fun p =>
      { p with evOpen := p.evOpen.w1c m 0, evShort := p.evShort.w1c m 1, evGuard := p.evGuard.w1c m 2, evRange := p.evRange.w1c m 3 }
  else if b == 0x4004 then s.w1cDrv o m
  else if b == 0x4005 then s.w1cFan o m
  else if b == 0x4006 then s.mLo ⟨o / 4 % 8, Nat.mod_lt _ (by decide)⟩ fun x =>
      { x with opn := x.opn.w1c m 4, short := x.short.w1c m 5, dev := x.dev.w1c m 6, faultLvl := x.faultLvl.w1c m 7 }
  else if b == 0x4007 then s.w1cSe o m
  else if b == 0x4008 then s.mTherm fun x => { x with evStepUp := x.evStepUp.w1c m 0, evShut := x.evShut.w1c m 1, evTs := x.evTs.w1c m 2, evAmb := x.evAmb.w1c m 3 }
  else if b == 0x400A then s.mInj fun x => { x with det := x.det.w1c m 0 }
  else s

/-! ### SE.RBn_RD (R719) -/

/-- The ring whose RD register stands at `a`. -/
def rdRing (a : Nat) : Option (Fin 4) :=
  if inR 0x4007020C a 0x4007026C && a % 0x20 == 0x0C then idx? 4 ((a - 0x4007020C) / 0x20) else none

/-- How far a write of `v` moves RD of ring `b`. -/
def State.rdMove (s : State) (b : Fin 4) (v : Nat) : Nat :=
  let size := (s.run.rb[b]).size
  (v + size - (s.se.rb[b]).rd) % size

/-- The status of a write of `v` to RD of ring `b`. -/
def State.rdCheck (s : State) (b : Fin 4) (v : Nat) : Status :=
  if (s.run.rb[b]).size ≤ v || (s.se.rb[b]).fill < s.rdMove b v then .badParam
  else if s.run.readsRing b then .badState
  else .ok

/-- RD of ring `b` moves to `v`, and FILL falls by the distance. -/
def State.rdWrite (s : State) (b : Fin 4) (v : Nat) : State :=
  let f := (s.se.rb[b]).fill - s.rdMove b v
  (s.mRb b fun r => { r with rd := v }).setFill b f

/-- A write of `v` to the register of Table 17.6 at `a`: its W1C and RW fields. -/
def State.regWrite (s : State) (a v : Nat) : State :=
  match rdRing a with
  | some b => s.rdWrite b v
  | none =>
    match a with
    | 0x40000064 => s.mPow fun p => { p with wakeCfg := v % 16 }
    | 0x4001008C => s.mClk fun c => { c with primary := v % 2 }
    | _ => s.clearFlags a v

/-! ### MEM_READ, MEM_WRITE, FLAG_CLEAR -/

/-- A bank that is being erased or programmed holds a byte of the span (R696). -/
def State.flashBusy (s : State) (a n : Nat) : Bool :=
  let b := s.xferBank.val
  (s.upd.state == .erasing || !s.upd.queue.isEmpty) && a < bankBase b + bankSize b && bankBase b < a + n

/-- The state of which a MEM_READ shows the snapshot window: a read of the slot that a publication is filling waits for it (R698). -/
def State.windowView (s : State) (a : Nat) : State :=
  match s.pubNow with
  | some b => if (a - 0x50000000) / 0x800 == s.snap.nextSlot then s.publish (b * 10000) else s
  | none => s

/-- MEM_READ of `n` bytes at `a` (R695 to R698). -/
def memRead (a n : Nat) : Op :=
  { opc := 0x00, mem := true, prot := .tagged,
    run := fun _ _ s =>
      if !inR 1 n 1016 then .bad .badParam s
      else if !mayRead a n then .bad .rangeFault s
      else if isPeriph a && !(a % 4 == 0 && n % 4 == 0) then .bad .badParam s
      else if s.flashBusy a n then .bad .busy s
      else
        let head := leBytes 4 a ++ leBytes 2 n
        if isWindow a then .ok (head ++ ((s.windowView a).readBytes a n).1) s
        else
          let x := s.readSpan a n
          { status := .ok, data := head ++ x.1, s := x.2, unsync := true } }

/-- The words that `n` bytes from `a` on touch. -/
def wordsOf (a n : Nat) : List Nat := if n == 0 then [] else (List.range ((a + n - 1) / 4 - a / 4 + 1)).map fun i => 4 * (a / 4 + i)

/-- The bytes that a write of `p` from `a` on puts into the word at `w`, its other bytes 0. -/
def wordPart (a : Nat) (p : List Byte) (w : Nat) : Nat :=
  leNat ((List.range 4).map fun i => if a ≤ w + i then p.getD (w + i - a) 0 else 0)

/-- Step 3 of R695 for MEM_WRITE: only bytes of the host buffer area or registers of Table 17.6, no 1 into a WO field. -/
def mayWrite (a : Nat) (p : List Byte) : Bool :=
  inHostBuf a p.length ||
    (isPeriph a && mayRead a p.length && (wordsOf a p.length).all fun w =>
      match regInfo w with
      | some r => wordPart a p w &&& r.wo == 0
      | none => false)

/-- Step 5 of R695 for one register. -/
def State.writeCheck (s : State) (w v : Nat) : Status :=
  match regInfo w with
  | none => .rangeFault
  | some r =>
    if v &&& r.fields != v then .badParam
    else match rdRing w with
      | some b => s.rdCheck b v
      | none => .ok

/-- MEM_WRITE, its whole payload given (R692 to R695, R699). -/
def memWrite (b : List Byte) : Op :=
  let a := fieldAt b 0 4
  let n := fieldAt b 4 2
  let p := b.drop 6
  { opc := 0x01, mem := true, needle := true, prot := .tagged, lenOk := 6 ≤ b.length && p.length == n,
    targets := fun _ => (wordsOf a n).map fun w => (.word w, false),
    run := fun _ keep s =>
      if !inR 1 n 1016 then .bad .badParam s
      else if !mayWrite a p then .bad .rangeFault s
      else if isPeriph a then
        if !(a % 4 == 0 && n % 4 == 0) then .bad .badParam s
        else
          let ws := wordsOf a n
          match ws.find? (fun w => s.writeCheck w (wordPart a p w) != .ok) with
          | some w => .bad (s.writeCheck w (wordPart a p w)) s
          | none =>
            .ok (b.take 6) (s.each ws fun s w => if keep (.word w) then s.regWrite w (wordPart a p w) else s)
      else
        .ok (b.take 6) (s.each (List.range n) fun s i =>
          if keep (.word ((a + i) / 4 * 4)) then s.mMem fun m => memPut m (a + i) (p.getD i 0) else s) }

/-- FLAG_CLEAR (R676, R677). Its target is the register's word, as MEM_WRITE's is (log entry 60). -/
def flagClear (a m : Nat) : Op :=
  Op.orderMem 0x23 (.word a) fun _ s =>
    if !(isPeriph a && a % 4 == 0) then .bad .rangeFault s
    else match regInfo a with
      | none => .bad .rangeFault s
      | some r =>
        if r.w1c == 0 then .bad .rangeFault s
        else if m &&& r.w1c != m then .bad .badParam s
        else
          let s := s.clearFlags a m
          .ok (leBytes 4 a ++ leBytes 4 (s.reg a)) s

/-! ### Writes on the bus (R6, R13, R23, R693) -/

/-- COMMIT is written: staging is complete for the tick (R23). The WDOG injection withholds it (Table 16.1). -/
def State.commitTick (s : State) : State :=
  if s.injOn 0x0907 0 then s else s.mSys fun x => { x with commit := true }

/-- The bits that the byte strobes of a bus write admit. -/
def strobeMask (b : BitVec 4) : Nat := (if b.getLsbD 0 then 0xFF else 0) + (if b.getLsbD 1 then 0xFF00 else 0) +
  (if b.getLsbD 2 then 0xFF0000 else 0) + (if b.getLsbD 3 then 0xFF000000 else 0)

/-- A bus write of `v` under byte strobes `m` to the register at `a`. FE.SCAN_CFGg, CH_CFGn and CH_CFG2n change only through their
opcodes (R295), DRV.DG_STATn only through DRV_FAULT_CLEAR (R464). -/
def State.busWrite (s : State) (a v m : Nat) : State :=
  match rdRing a with
  | some b =>
    let w := (s.se.rb[b]).rd &&& (0xFFFFFFFF - m) ||| v &&& m
    if s.rdCheck b w == .ok then s.rdWrite b w else s
  | none =>
    match a with
    | 0x40000014 =>
      let s := s.clearFlags a (v &&& m)
      if bitOf (v &&& m) 0 then s.commitTick else s
    | 0x40000040 => s.domAskAll fun d => if d < 32 && bitOf m d then bitOf v d else s.pow.pdReq.getLsbD d
    | 0x40000044 => s.domAskAll fun d => if inR 32 d 63 && bitOf m (d - 32) then bitOf v (d - 32) else s.pow.pdReq.getLsbD d
    | 0x40000048 => s.domAskAll fun d => if 64 ≤ d && bitOf m (d - 64) then bitOf v (d - 64) else s.pow.pdReq.getLsbD d
    | 0x40000064 => if bitOf m 0 then s.mPow fun p => { p with wakeCfg := v % 16 } else s
    | 0x4001008C => if bitOf m 0 then s.mClk fun c => { c with primary := v % 2 } else s
    | _ => if (regInfo a).isSome then s.clearFlags a (v &&& m) else s

/-! ### The commands -/

/-- MEM_READ. -/
def execMemRead (q : Req) (addr : Word) (len : Half) (s : State) : Host.Outcome State Fault Refusal :=
  .next ((memRead addr.toNat len.toNat).serve q s)

/-- MEM_WRITE. -/
def execMemWrite (q : Req) (addr : Word) (bytes : List Byte) (s : State) : Host.Outcome State Fault Refusal :=
  .next ((memWrite (leBytes 4 addr.toNat ++ leBytes 2 bytes.length ++ bytes)).serve q s)

/-- FLAG_CLEAR. -/
def execFlagClear (q : Req) (addr mask : Word) (s : State) : Host.Outcome State Fault Refusal :=
  .next ((flagClear addr.toNat mask.toNat).serve q s)

/-- A write to a register on the bus. -/
def execRegisterWrite (dt addr : Nat) (value : Word) (strobes : BitVec 4) (s : State) : Host.Outcome State Fault Refusal :=
  let s := s.advance dt
  .next (if s.awake && addr % 4 == 0 then s.busWrite addr value.toNat (strobeMask strobes) else s)

/-- A write of SE.RBn_RD. -/
def execRbRdWrite (dt : Nat) (b : Fin 4) (value : Word) (s : State) : Host.Outcome State Fault Refusal :=
  let s := s.advance dt
  .next (if s.awake && s.rdCheck b value.toNat == .ok then s.rdWrite b value.toNat else s)

end Sys2Proof.Machine
end

