-- ==== Sys2Proof/Machine/EnergyMeter.lean ====
section
/-! DEFINITION. The energy figures of Table 12.8 and ENERGY_READ. -/

namespace Sys2Proof.Machine

/-- `a / b` rounded to the nearest, saturating at 32 bits. -/
def ratio32 (a b : Nat) : Nat := satTo 0xFFFFFFFF ((2 * a + b) / (2 * b))

/-- A mean per event; free where there was none (log entry 1). -/
def State.perEvent (s : State) (e n : Nat) : Nat := if n == 0 then s.freeNat 32 else ratio32 e n

/-- SE_THERM or SE_ELEC in kJ/kg × 1,000, for an energy in J / `u` over water in g × 10^6; 0xFFFF_FFFF while W_REM is below 1 kg. -/
def specific (e : Int) (u : Nat) (w : Int) : Nat :=
  if w < 1000000000 then 0xFFFFFFFF else ratio32 (e.toNat * 1000000000) (u * w.toNat)

/-- The figures of a window from `a` to `b`. -/
def State.energyFigures (s : State) (a b : Meters) (start up : Nat) : List Byte :=
  let w := b.wRem - a.wRem
  leBytes 6 start ++ leBytes 4 (satTo 0xFFFFFFFF (s.since up / sec 1)) ++ leBytes 4 (s.perEvent (b.actE - a.actE) (b.actN - a.actN)) ++
    leBytes 4 (satTo 0xFFFFFFFF (b.actN - a.actN)) ++ leBytes 4 (s.drew.perEvent (b.convE - a.convE) (b.convN - a.convN)) ++
    leBytes 4 (satTo 0xFFFFFFFF (b.convN - a.convN)) ++ leBytes 4 (ratio32 (b.elecE - a.elecE) 1000000) ++
    leBytes 4 (ratio32 (b.thermE - a.thermE).toNat 36000000) ++ leBytes 4 (waterField w) ++
    leBytes 4 (specific (b.thermE - a.thermE) 36000 w) ++ leBytes 4 (specific (b.elecE - a.elecE) 1000000 w)

/-- ENERGY_READ of the sender's window; MODE 1 restarts it (R554). -/
def energyRead (mode : Nat) : Op :=
  Op.read 0x6A fun q s =>
    let i := senderIx q.sender
    if 1 < mode then .bad .badParam s
    else
      let d := s.energyFigures s.energy.win[i] s.energy.now s.energy.winStart[i] s.energy.winUp[i]
      let s := s.drew.drew
      .ok d (if mode == 1 then
        s.mEnergy fun e => { e with win := e.win.set i e.now, winStart := e.winStart.set i s.ctUs, winUp := e.winUp.set i s.clk.upNs }
      else s)

/-- ENERGY_READ with MODE 0. -/
def execEnergyRead (q : Req) (s : State) : Host.Outcome State Fault Refusal := .next ((energyRead 0).serve q s)

/-- ENERGY_READ with MODE 1. -/
def execEnergyReadRestart (q : Req) (s : State) : Host.Outcome State Fault Refusal := .next ((energyRead 1).serve q s)

end Sys2Proof.Machine
end

