-- ==== Sys2Proof/Machine/StreamRun.lean ====
section
/-! DEFINITION. The stream engine at work: the bytes that a descriptor moves, its completion, bus errors and retries, the SNAP deadline,
SC_STOP (R707 to R714, R721 to R724, R730). -/

namespace Sys2Proof.Machine

/-! ### The bytes that a descriptor moves (R708 to R711) -/

/-- The bytes at a list of addresses outside the peripheral blocks. -/
def State.readAt (s : State) : List Nat → List Byte × State
  | [] => ([], s)
  | a :: r =>
    let x := s.readByte a
    let y := x.2.readAt r
    (x.1 :: y.1, y.2)

/-- One register read `n` times. -/
def State.readFixed (s : State) (a : Nat) : Nat → List Byte × State
  | 0 => ([], s)
  | n + 1 =>
    let x := s.readWord a
    let y := x.2.readFixed a n
    (leBytes 4 x.1 ++ y.1, y.2)

/-- `n` free bytes. -/
def State.freeBytes (s : State) : Nat → List Byte × State
  | 0 => ([], s)
  | n + 1 =>
    let x := s.freeRead
    let y := x.2.freeBytes n
    (x.1 :: y.1, y.2)

/-- Addresses `m` long of ring `b`, from `o` bytes after offset `p` on, wrapping at its end. -/
def ringAddrs (c : RbCfg) (p m : Nat) : List Nat := (List.range m).map fun i => c.base + (p + i) % c.size

/-- The `m` source bytes of descriptor `d` from its byte `o` on, for channel `n`. A ring that is not configured gives free bytes. -/
def State.source (s : State) (n : Fin 8) (d : List Byte) (o m : Nat) : List Byte × State :=
  let a := dSrc d
  match dSmode d with
  | 3 => s.readAt ((List.range m).map fun i => 0x50000000 + 0x800 * (s.scOf n).snapSlot.getD 0 + a + o + i)
  | 2 =>
    let b := dSrb d
    let c := s.run.rb[b]
    if c.size == 0 then s.freeBytes m else s.readAt (ringAddrs c ((s.se.rb[b]).rd + (s.scOf n).rdPend[b]) m)
  | 1 => if isPeriph a then s.readFixed a (m / 4) else s.readAt ((List.range m).map fun i => a + (o + i) % 4)
  | _ => s.readSpan (a + o) m

/-- The `m` destination addresses of descriptor `d` from its byte `o` on, for channel `n`. -/
def State.dest (s : State) (n : Fin 8) (d : List Byte) (o m : Nat) : List Nat :=
  match dDmode d with
  | 2 =>
    let b := dDrb d
    let c := s.run.rb[b]
    if c.size == 0 then [] else ringAddrs c ((s.se.rb[b]).wr + (s.scOf n).wrPend[b]) m
  | 1 => (List.range m).map fun i => dDst d + (o + i) % 4
  | _ => (List.range m).map fun i => dDst d + o + i

/-- Bytes put at a list of addresses. -/
def State.putAt (s : State) (as : List Nat) (p : List Byte) : State :=
  s.mMem fun m => (as.zip p).foldl (fun m x => memPut m x.1 x.2) m

/-- The descriptor in hand moves whole words only: a FIXED address or a peripheral source. -/
def wordsOnly (d : List Byte) : Bool := dSmode d == 1 || dDmode d == 1 || (dSmode d == 0 && isPeriph (dSrc d))

/-- The descriptor that channel `n` runs, or ran last. -/
def State.curDesc (s : State) (n : Fin 8) : List Byte := s.run.slot (s.scOf n).cur

/-- The descriptor in hand moves its bytes up to byte `e`. What it reads from or writes to a ring stays uncommitted (R714). -/
def State.scMove (s : State) (n : Fin 8) (e : Nat) : State :=
  let c := s.scOf n
  let d := s.curDesc n
  let m := e - c.offset
  let x := s.source n d c.offset m
  (x.2.putAt (s.dest n d c.offset m) x.1).mSc (hostChan n) fun y =>
    { y with offset := c.offset + m,
             wrPend := if dDmode d == 2 then vmod y.wrPend (dDrb d) fun k => k + m else y.wrPend,
             rdPend := if dSmode d == 2 then vmod y.rdPend (dSrb d) fun k => k + m else y.rdPend }

/-- The bytes of the burst that begins where the channel stands hold free values while that burst is not complete (log entry 61). -/
def State.scramble (s : State) (n : Fin 8) : State :=
  let o := (s.scOf n).offset
  let d := s.curDesc n
  let m := min (4 * (dBurst d + 1)) (dLen d - o)
  let x := s.freeBytes m
  x.2.putAt (s.dest n d o m) x.1

/-- The chain moves on to a byte of its descriptor that is not known: it is stopped between two bursts (log entry 62). -/
def State.scPart (s : State) (n : Fin 8) : State :=
  let o := (s.scOf n).offset
  let d := s.curDesc n
  let k := s.freeNat 32 % (dLen d - o + 1)
  s.drew.scMove n (o + if wordsOnly d then k / 4 * 4 else k)

/-! ### Completion, errors, deadline -/

/-- SNAP reads of the chain of `n` are still to come 20 µs after its trigger (R710). -/
def State.snapLate (s : State) (n : Fin 8) : Bool := s.snapLeft n (s.scOf n).cur && 20000 < s.since (s.scOf n).trigUp

/-- The descriptor in hand is DONE; the next begins, or the chain ends (R721). -/
def State.descDone (s : State) (n : Fin 8) : State :=
  let c := s.scOf n
  if !c.underWay || c.failUp.isSome then s
  else if s.snapLate n then s.scHalt n 3
  else
    let d := s.curDesc n
    let s := s.scMove n (dLen d)
    if dNext d == 0xFF then s.scFinish n else s.scEnter n (dNext d)

/-- A beat of the burst that begins at byte `o` of the descriptor in hand fails at address `a` (R723). -/
def State.burstFails (s : State) (n : Fin 8) (o a : Nat) : State :=
  let c := s.scOf n
  let d := s.curDesc n
  if !c.underWay || c.failUp.isSome || o < c.offset || dLen d ≤ o || (wordsOnly d && o % 4 != 0) then s
  else if s.snapLate n then s.scHalt n 3
  else
    let tries := if o == c.offset then c.retries else 0
    let s := (s.scMove n o).scramble n
    if tries < dRetry d then s.mSc (hostChan n) fun y => { y with failUp := some s.clk.upNs, retries := tries }
    else (s.scHalt n 1).mSc (hostChan n) fun y => { y with eaddr := a, retries := tries }

/-- The failed burst is repeated 1 µs after the error. -/
def State.burstAgain (s : State) (n : Fin 8) : State :=
  let c := s.scOf n
  if !c.underWay || !s.lasted c.failUp 1000 then s
  else if s.snapLate n then s.scHalt n 3
  else s.mSc (hostChan n) fun y => { y with failUp := none, retries := y.retries + 1 }

/-- A chain whose SNAP reads have not ended 20 µs after its trigger halts (R710). -/
def State.snapEnd (s : State) (n : Fin 8) : State :=
  let c := s.scOf n
  if c.underWay && s.snapLeft n c.cur && 20000 ≤ s.since c.trigUp then (if c.failUp.isSome then s else s.scPart n).scHalt n 3 else s

/-- No chain still reads a slot when a snapshot is published into it (R316, R710). -/
def State.snapEnds (s : State) : State := s.each (List.finRange 8) fun s n => s.snapEnd n

/-! ### SC_STOP (R724, R726, R730) -/

/-- SC_STOP MODE 0x01: the running chain completes. -/
def State.scStopChain (s : State) (n : Fin 8) : State :=
  s.mSc (hostChan n) fun c => { c with state := match c.state with
    | .run => .stopping
    | .stopping => .stopping
    | _ => .idle }

/-- SC_STOP MODE 0x02: the chain ends at the end of its burst, without commit. -/
def State.scStopBurst (s : State) (n : Fin 8) : State :=
  let c := s.scOf n
  let s := if c.underWay && c.failUp.isNone then s.scPart n else s
  s.mSc (hostChan n) fun c => { c with state := .idle, failUp := none }

/-- SC_STOP. -/
def scStop (ch mode : Nat) : Op :=
  Op.orderMem 0x04 (.scChan ch) fun _ s =>
    if !(8 ≤ ch && inR 1 mode 2) then .bad .badParam s
    else match idx? 8 (ch - 8) with
      | none => .bad .badParam s
      | some n =>
        let s := if mode == 1 then s.scStopChain n else s.scStopBurst n
        .ok (leBytes 1 ch ++ leBytes 1 (s.scOf n).state.code) s

/-! ### The commands -/

/-- The host channel that `ch` is, where it is one. -/
def hostOf (ch : Fin 16) : Option (Fin 8) := if 8 ≤ ch.val then idx? 8 (ch.val - 8) else none

/-- A change of the state of host channel `ch`; the node's own channels run within the commands they serve. -/
def State.onHost (s : State) (ch : Fin 16) (f : State → Fin 8 → State) : State :=
  match hostOf ch with
  | some n => f s n
  | none => s

/-- A descriptor is DONE. Whose bursts the fabric took in between (R720) is what the order of these rows shows (log entry 144). -/
def execDescriptorDone (dt : Nat) (ch : Fin 16) (s : State) : Host.Outcome State Fault Refusal :=
  .next ((s.advance dt).onHost ch State.descDone)

/-- The fabric signals an error. -/
def execBurstBusError (dt : Nat) (ch : Fin 16) (offset addr : Nat) (s : State) : Host.Outcome State Fault Refusal :=
  .next ((s.advance dt).onHost ch fun s n => s.burstFails n offset addr)

/-- The failed burst is repeated. -/
def execBurstRetry (dt : Nat) (ch : Fin 16) (s : State) : Host.Outcome State Fault Refusal :=
  .next ((s.advance dt).onHost ch State.burstAgain)

/-- The 20 µs of R710 are over. -/
def execSnapDeadline (dt : Nat) (ch : Fin 16) (s : State) : Host.Outcome State Fault Refusal :=
  .next ((s.advance dt).onHost ch State.snapEnd)

/-- SC_STOP MODE 0x01. -/
def execScStopChainEnd (q : Req) (chN : Byte) (s : State) : Host.Outcome State Fault Refusal := .next ((scStop chN.toNat 1).serve q s)

/-- SC_STOP MODE 0x02. -/
def execScStopBurstEnd (q : Req) (chN : Byte) (s : State) : Host.Outcome State Fault Refusal := .next ((scStop chN.toNat 2).serve q s)

end Sys2Proof.Machine
end

