-- ==== Sys2Proof/Machine/Orders.lean ====
section
/-! DEFINITION. From an opcode and its payload bytes to the opcode's meaning: the payload layouts of the chapters' tables, for every
opcode of Tables 4.11 and 4.12 but CFG_READ, CFG_WRITE and CFG_SAVE. -/

namespace Sys2Proof.Machine

/-- The opcode `o` where its payload `p` has `n` bytes (Table 4.4 step 12). -/
def Op.sized (o : Op) (p : List Byte) (n : Nat) : Op := { o with lenOk := o.lenOk && p.length == n }

/-- The opcode `o` where its payload `p` has at least `n` bytes. -/
def Op.least (o : Op) (p : List Byte) (n : Nat) : Op := { o with lenOk := o.lenOk && n ≤ p.length }

/-- An opcode whose KIND, MODE or FORM byte is none that its table lists. -/
def Op.noKind (o : Op) (p : List Byte) : Op :=
  { o with lenOk := !p.isEmpty, targets := fun _ => [], run := fun _ _ s => .bad .badParam s }

/-- Byte `i` of a payload. -/
def b1 (p : List Byte) (i : Nat) : Nat := fieldAt p i 1

/-- KEY_LOAD (R203 to R208). -/
def keyLoadOf (p : List Byte) : Op := (keyLoad (b1 p 0) (b1 p 1) (fieldAt p 2 2) (p.drop 4)).sized p 20

/-- PROBE_READ (R376). -/
def probeReadOf (p : List Byte) : Op :=
  match b1 p 0 with
  | 0 => (probeReadSnapshot (fieldAt p 1 4) (b1 p 5) (b1 p 6)).sized p 7
  | 1 => (probeReadConfig (b1 p 1) (b1 p 2)).sized p 3
  | 2 => (probeReadCrop (b1 p 1)).sized p 2
  | _ => (probeReadCrop 0).noKind p

/-- PROBE_CONFIG (R376 to R378). -/
def probeConfigOf (p : List Byte) : Op :=
  match b1 p 0 with
  | 1 => (probeConfigPort (b1 p 1) (b1 p 2) (b1 p 3) (b1 p 4) (fieldAt p 5 2)).sized p 7
  | 2 => (probeConfigCrop (b1 p 1) (p.drop 2)).least p 2
  | 3 => (probeConfigErase (b1 p 1)).sized p 2
  | 4 => (probeConfigCycle (b1 p 1) (fieldAt p 2 2)).sized p 4
  | _ => (probeConfigErase 0).noKind p

/-- PROBE_CAL (R376). -/
def probeCalOf (p : List Byte) : Op :=
  let n := b1 p 0
  match b1 p 1 with
  | 1 => (probeCalAir n).sized p 2
  | 2 => (probeCalSample n (fieldAt p 2 4) (fieldAt p 6 4) (b1 p 10)).sized p 11
  | 3 => (probeCalApply n).sized p 2
  | 4 => (probeCalReset n).sized p 2
  | 5 => (probeCalDiscard n).sized p 2
  | _ => { ((probeCalReset n).noKind p) with lenOk := 2 ≤ p.length }

/-- DRV_PAIR (R417). -/
def drvPairOf (p : List Byte) : Op :=
  match b1 p 1 with
  | 0 => (drvPair (b1 p 0) false).sized p 2
  | 1 => (drvPair (b1 p 0) true).sized p 2
  | _ => ({ drvPair (b1 p 0) false with run := fun _ _ s => .bad .badParam s } : Op).sized p 2

/-- DRV_DIAG (R470, R471). -/
def drvDiagOf (p : List Byte) : Op :=
  match b1 p 0 with
  | 1 => (drvDiagConfig (b1 p 1) (b1 p 2) (b1 p 3) (b1 p 4) (b1 p 5) (b1 p 6)).sized p 7
  | 2 => (drvDiagDirect (b1 p 1) (b1 p 2) (b1 p 3)).sized p 4
  | _ => (drvDiagDirect 0 0 0).noKind p

/-- PROG_STATUS (R555). -/
def progStatusOf (p : List Byte) : Op :=
  match b1 p 0 with
  | 0 => progStatusSummary.sized p 1
  | 1 => (progStatusParcels (b1 p 1) (b1 p 2)).sized p 3
  | _ => progStatusSummary.noKind p

/-- SAFE_CONFIG (R653, R654). -/
def safeConfigOf (p : List Byte) : Op :=
  match b1 p 0 with
  | 1 => (safeConfigWrite (p.drop 1)).least p 1
  | 2 => (safeConfigConfirm (fieldAt p 1 4)).sized p 5
  | _ => (safeConfigConfirm 0).noKind p

/-- Opcodes 0x00 to 0x0F of the control page. -/
def ctrlOp0 (opc : Nat) (p : List Byte) : Option Op :=
  match opc with
  | 0x00 => some (ringStatus.sized p 0)
  | 0x01 => some ((castOn (b1 p 0) (b1 p 1)).sized p 2)
  | 0x02 => some ((addrAssign (fieldAt p 0 8) (b1 p 8) (b1 p 9)).sized p 10)
  | 0x03 => some ((addrPin (b1 p 0)).sized p 1)
  | 0x04 => some ((bindOff (b1 p 0)).sized p 1)
  | 0x05 => some ((ringRate (b1 p 0) (fieldAt p 1 4)).sized p 5)
  | 0x06 => some ((wakeSend (b1 p 0)).sized p 1)
  | 0x07 => some ((sweep (fieldAt p 0 4)).sized p 4)
  | 0x08 => some ((sweepResume (fieldAt p 0 4)).sized p 4)
  | 0x09 => some ((sessionOpen (b1 p 0) (p.drop 1)).sized p 9)
  | 0x0A => some (sessionClose.sized p 0)
  | 0x0B => some (keyLoadOf p)
  | 0x0C => some ((needleTake (b1 p 0) (fieldAt p 1 2)).sized p 3)
  | 0x0D => some ((needleGive (b1 p 0)).sized p 1)
  | 0x0E => some ((pollResult (fieldAt p 0 2)).sized p 2)
  | 0x0F => some (mossEnter.sized p 0)
  | _ => none

/-- Opcodes 0x10 to 0x2F of the control page. -/
def ctrlOp1 (opc : Nat) (p : List Byte) : Option Op :=
  match opc with
  | 0x10 => some (identify.sized p 0)
  | 0x11 => some (statusRead.sized p 0)
  | 0x12 => some (sessionStatus.sized p 0)
  | 0x13 => some ((thermRead (b1 p 0)).sized p 1)
  | 0x14 => some ((resetOp (b1 p 0)).sized p 1)
  | 0x23 => some ((tableRead (b1 p 0)).sized p 1)
  | 0x24 => some ((tableWrite (b1 p 0) (p.drop 1)).least p 1)
  | 0x25 => some ((tableErase (b1 p 0)).sized p 1)
  | 0x26 => some ((thermConfig (b1 p 0) (fieldAt p 1 2) (b1 p 3)).sized p 4)
  | 0x27 => some (lichenConfig p)
  | _ => none

/-- Opcodes 0x30 to 0x4F of the control page. -/
def ctrlOp2 (opc : Nat) (p : List Byte) : Option Op :=
  match opc with
  | 0x30 => some ((readResults (fieldAt p 0 4) (b1 p 4) (b1 p 5)).sized p 6)
  | 0x31 => some ((readResultsFull (fieldAt p 0 4) (b1 p 4) (b1 p 5)).sized p 6)
  | 0x32 => some (chConfig p)
  | 0x33 => some ((chStatus (b1 p 0) (b1 p 1)).sized p 2)
  | 0x34 => some ((scanConfig (b1 p 0) (b1 p 1) (b1 p 2)).sized p 3)
  | 0x35 => some (probeReadOf p)
  | 0x36 => some (probeConfigOf p)
  | 0x37 => some (probeCalOf p)
  | 0x40 => some ((drvCmd (b1 p 0) (b1 p 1) (fieldAt p 2 2) (fieldAt p 4 4)).sized p 8)
  | 0x41 => some ((drvProfile p).sized p 32)
  | 0x42 => some ((drvStatus (b1 p 0) (b1 p 1)).sized p 2)
  | 0x43 => some ((drvEnergy (b1 p 0) (b1 p 1)).sized p 2)
  | 0x44 => some (drvPairOf p)
  | 0x45 => some ((drvBudget (fieldAt p 0 2)).sized p 2)
  | 0x46 => some (drvDiagOf p)
  | 0x47 => some ((drvFaultClear (fieldAt p 0 4) (b1 p 4)).sized p 5)
  | _ => none

/-- Opcodes 0x50 to 0x6F of the control page. -/
def ctrlOp3 (opc : Nat) (p : List Byte) : Option Op :=
  match opc with
  | 0x50 => some ((fanCmd (b1 p 0) (b1 p 1) (fieldAt p 2 2) (fieldAt p 4 2)).sized p 6)
  | 0x51 => some ((fanConfig p).sized p 32)
  | 0x52 => some ((Machine.fanTable (b1 p 0) (p.drop 1)).least p 1)
  | 0x53 => some ((Machine.fanGroup (b1 p 0) (fieldAt p 1 2) (b1 p 3) (fieldAt p 4 2) (b1 p 6) (b1 p 7)).sized p 8)
  | 0x54 => some ((fanStatus (b1 p 0) (b1 p 1)).sized p 2)
  | 0x55 => some ((fanRetry (fieldAt p 0 2) (b1 p 2)).sized p 3)
  | 0x58 => some (loopConfig p)
  | 0x59 => some ((loopSet (b1 p 0) (b1 p 1) (fieldAt p 2 2)).sized p 4)
  | 0x5A => some ((loopStatus (b1 p 0) (b1 p 1)).sized p 2)
  | 0x60 => some ((progLoad (b1 p 0) (b1 p 1) (p.drop 2)).least p 2)
  | 0x61 => some ((progStart (b1 p 0)).sized p 1)
  | 0x62 => some ((progStop (b1 p 0)).sized p 1)
  | 0x63 => some (progStatusOf p)
  | 0x64 => some ((progSet (b1 p 0) (p.drop 1)).least p 1)
  | 0x65 => some ((convCmd (b1 p 0) (b1 p 1)).sized p 2)
  | 0x66 => some (convConfig p)
  | 0x67 => some ((stitchWrite (b1 p 0) (b1 p 1) (p.drop 2)).least p 2)
  | 0x68 => some ((stitchClear (b1 p 0) (fieldAt p 1 2)).sized p 3)
  | 0x69 => some ((stitchStatus (b1 p 0) (b1 p 1)).sized p 2)
  | 0x6A => some ((energyRead (b1 p 0)).sized p 1)
  | _ => none

/-- Opcodes 0x70 to 0x7F of the control page. -/
def ctrlOp4 (opc : Nat) (p : List Byte) : Option Op :=
  match opc with
  | 0x70 => some (safeStatus.sized p 0)
  | 0x71 => some (permitRequest.sized p 0)
  | 0x72 => some (permitDrop.sized p 0)
  | 0x73 => some (safeConfigOf p)
  | 0x74 => some ((safeConfigRead (b1 p 0)).sized p 1)
  | 0x75 => some ((proofTest (b1 p 0)).sized p 1)
  | 0x76 => some ((safeReset (fieldAt p 0 4)).sized p 4)
  | _ => none

/-- Opcodes 0x00 to 0x1F of the memory page. -/
def memOp0 (opc : Nat) (p : List Byte) : Option Op :=
  match opc with
  | 0x00 => some ((memRead (fieldAt p 0 4) (fieldAt p 4 2)).sized p 6)
  | 0x01 => some (memWrite p)
  | 0x02 => some (scConfig p)
  | 0x03 => some ((scStart (b1 p 0) (b1 p 1)).sized p 2)
  | 0x04 => some ((scStop (b1 p 0) (b1 p 1)).sized p 2)
  | 0x05 => some ((scStatus (b1 p 0) (b1 p 1)).sized p 2)
  | 0x10 => some (updateBegin p)
  | 0x11 => some (updateBlock p)
  | 0x12 => some ((updateVerify (fieldAt p 0 2)).sized p 2)
  | 0x13 => some ((updateCommit (fieldAt p 0 2)).sized p 2)
  | 0x14 => some ((updateAbort (fieldAt p 0 2)).sized p 2)
  | 0x15 => some (updateStatus.sized p 0)
  | 0x16 => some (imageInfo.sized p 0)
  | 0x17 => some (handoverStatus.sized p 0)
  | 0x18 => some ((sporeEnter (fieldAt p 0 2)).sized p 2)
  | _ => none

/-- Opcodes 0x20 to 0x3F of the memory page. -/
def memOp1 (opc : Nat) (p : List Byte) : Option Op :=
  match opc with
  | 0x20 => some ((logRead (fieldAt p 0 4) (b1 p 4)).sized p 5)
  | 0x21 => some (logInfo.sized p 0)
  | 0x22 => some (countersRead.sized p 0)
  | 0x23 => some ((flagClear (fieldAt p 0 4) (fieldAt p 4 4)).sized p 8)
  | 0x30 => some ((testOpen (b1 p 0) (fieldAt p 1 2)).sized p 3)
  | 0x31 => some ((inject (fieldAt p 0 2) (b1 p 2) (fieldAt p 3 2) (fieldAt p 5 2)).sized p 7)
  | 0x32 => some ((injectClear (b1 p 0)).sized p 1)
  | 0x33 => some (testClose.sized p 0)
  | _ => none

/-- The opcode `opc` of a page with payload `p`; none: unknown on that page. -/
def baseOp (mem : Bool) (opc : Nat) (p : List Byte) : Option Op :=
  if mem then (if opc < 0x20 then memOp0 opc p else memOp1 opc p)
  else match opc / 16 with
    | 0 => ctrlOp0 opc p
    | 1 | 2 => ctrlOp1 opc p
    | 3 | 4 => ctrlOp2 opc p
    | 5 | 6 => ctrlOp3 opc p
    | _ => ctrlOp4 opc p

end Sys2Proof.Machine
end

