-- ==== Sys2Proof/Machine/Items.lean ====
section
/-! DEFINITION. The configuration items: CFG_READ, CFG_WRITE, CFG_SAVE and the stored set (R195 to R200, Tables 4.15 and 4.16). -/

namespace Sys2Proof.Machine

/-! ### Items (Table 4.15) -/

/-- A class of Table 4.15: how many indices and from which, DATA's size, the opcode whose payload DATA is. -/
structure ItemClass where
  first : Nat
  count : Nat
  size : Nat
  opc : Nat
  mem : Bool := false
  deriving DecidableEq, Repr

/-- Table 4.15. Class 0x10 takes its indices from Table 12.10. -/
def itemClass (c : Nat) : Option ItemClass :=
  match c with
  | 0x01 => some { first := 0, count := 64, size := 12, opc := 0x32 }
  | 0x02 => some { first := 0, count := 4, size := 3, opc := 0x34 }
  | 0x03 => some { first := 0, count := 8, size := 7, opc := 0x36 }
  | 0x04 => some { first := 0, count := 1, size := 4, opc := 0x36 }
  | 0x05 => some { first := 0, count := 32, size := 32, opc := 0x41 }
  | 0x06 => some { first := 0, count := 16, size := 2, opc := 0x44 }
  | 0x07 => some { first := 0, count := 1, size := 2, opc := 0x45 }
  | 0x08 => some { first := 0, count := 32, size := 7, opc := 0x46 }
  | 0x09 => some { first := 0, count := 8, size := 16, opc := 0x58 }
  | 0x0A => some { first := 0, count := 12, size := 32, opc := 0x51 }
  | 0x0B => some { first := 0, count := 4, size := 8, opc := 0x53 }
  | 0x0C => some { first := 0, count := 8, size := 12, opc := 0x66 }
  | 0x0D => some { first := 0, count := 1, size := 7, opc := 0x66 }
  | 0x0E => some { first := 0, count := 1, size := 4, opc := 0x26 }
  | 0x0F => some { first := 0, count := 1, size := 12, opc := 0x27 }
  | 0x10 => some { first := 0, count := 65536, size := 7, opc := 0x64 }
  | 0x11 => some { first := 16, count := 48, size := 34, opc := 0x02, mem := true }
  | 0x12 => some { first := 0, count := 4, size := 10, opc := 0x02, mem := true }
  | 0x13 => some { first := 0, count := 4, size := 18, opc := 0x02, mem := true }
  | 0x14 => some { first := 8, count := 8, size := 3, opc := 0x02, mem := true }
  | _ => none

/-- INDEX is in the class's range; for class 0x10, a known item ID. -/
def ItemClass.has (k : ItemClass) (cls ix : Nat) : Bool :=
  k.first ≤ ix && ix < k.first + k.count && (cls != 0x10 || (itemRow ix).isSome)

/-- The KIND byte and index field inside DATA agree with CLASS and INDEX (R195). -/
def itemAgrees (cls ix : Nat) (d : List Byte) : Bool :=
  match cls with
  | 0x03 => b1 d 0 == 1 && b1 d 1 == ix
  | 0x04 => b1 d 0 == 4
  | 0x06 => b1 d 0 == 2 * ix
  | 0x07 => true
  | 0x08 => b1 d 0 == 1 && b1 d 1 == ix
  | 0x0C => b1 d 0 == 1 && b1 d 1 == ix
  | 0x0D => b1 d 0 == 2
  | 0x0E => true
  | 0x0F => true
  | 0x10 => b1 d 0 == 1 && fieldAt d 1 2 == ix
  | 0x11 => b1 d 0 == 1 && b1 d 1 == ix
  | 0x12 => b1 d 0 == 2 && b1 d 1 == ix
  | 0x13 => b1 d 0 == 3 && b1 d 1 == ix
  | 0x14 => b1 d 0 == 4 && b1 d 1 == ix
  | _ => b1 d 0 == ix

/-- DATA of DRV_DIAG KIND 0x01. -/
def DiagCfg.toBytes (n : Nat) (c : DiagCfg) : List Byte :=
  leBytes 1 1 ++ leBytes 1 n ++ leBytes 1 (bit c.offEn) ++ leBytes 1 c.retryMode ++ leBytes 1 c.retryMax ++ leBytes 1 c.retryT ++
    leBytes 1 c.pfLimit

/-- DATA of FAN_GROUP. -/
def FanGrpCfg.toBytes (g : Nat) (c : FanGrpCfg) : List Byte :=
  leBytes 1 g ++ leBytes 2 c.members ++ leBytes 1 c.nAir ++ leBytes 2 c.foDuty ++ leBytes 1 c.foHold ++ leBytes 1 0

/-- DATA of a running item of set `r`; empty where INDEX is out of range. -/
def RunCfg.item (r : RunCfg) (cls ix : Nat) : List Byte :=
  match cls with
  | 0x01 => match idx? 64 ix with
    | some n => (r.chan[n]).toBytes ix
    | none => []
  | 0x02 => match idx? 4 ix with
    | some n => (r.scan[n]).toBytes ix
    | none => []
  | 0x05 => match idx? 32 ix with
    | some n => (r.prof[n]).toBytes ix
    | none => []
  | 0x06 => match idx? 16 ix with
    | some n => leBytes 1 (2 * ix) ++ leBytes 1 (bit r.pair[n])
    | none => []
  | 0x07 => leBytes 2 r.budget
  | 0x08 => match idx? 32 ix with
    | some n => (r.diag[n]).toBytes ix
    | none => []
  | 0x09 => match idx? 8 ix with
    | some n => (r.loop[n]).toBytes ix
    | none => []
  | 0x0A => match idx? 12 ix with
    | some n => (r.fan[n]).toBytes ix
    | none => []
  | 0x0B => match idx? 4 ix with
    | some n => (r.fgrp[n]).toBytes ix
    | none => []
  | 0x0C => match idx? 8 ix with
    | some n => (r.stage[n]).toBytes ix
    | none => []
  | 0x0D => r.line.toBytes
  | 0x0E => leBytes 1 r.therm.tStart ++ leBytes 2 r.therm.ts7Period ++ leBytes 1 0
  | 0x11 => leBytes 1 1 ++ leBytes 1 ix ++ r.slot ix
  | 0x12 => match idx? 4 ix with
    | some n => leBytes 1 2 ++ leBytes 1 ix ++ leBytes 4 (r.tmr[n]).period ++ leBytes 4 (r.tmr[n]).phase
    | none => []
  | 0x13 => match idx? 4 ix with
    | some n => leBytes 1 3 ++ leBytes 1 ix ++ leBytes 4 (r.rb[n]).base ++ leBytes 4 (r.rb[n]).size ++ leBytes 4 (r.rb[n]).hi ++
        leBytes 4 (r.rb[n]).lo
    | none => []
  | 0x14 => match idx? 8 (ix - 8) with
    | some n => leBytes 1 4 ++ leBytes 1 ix ++ leBytes 1 (if r.firstSet[n] then r.first[n] else 0)
    | none => []
  | _ => []

/-- DATA of an item that its opcode stores at once, or of a running item of set `r`. -/
def State.itemData (s : State) (r : RunCfg) (cls ix : Nat) : List Byte :=
  match cls with
  | 0x03 => match idx? 8 ix with
    | some n =>
      let p := s.die.port[n]
      leBytes 1 1 ++ leBytes 1 ix ++ leBytes 1 (bit p.en) ++ leBytes 1 p.tch ++ leBytes 1 p.crop ++ leBytes 2 p.c0
    | none => []
  | 0x04 => leBytes 1 4 ++ leBytes 1 s.die.period ++ leBytes 2 s.die.startOfs
  | 0x0F => s.lich.cfg.toBytes
  | 0x10 => leBytes 1 1 ++ itemBytes (ix, itemOf s.prog.items ix)
  | _ => r.item cls ix

/-- The set that the node would load at its next start (R200). -/
def State.storedSet (s : State) : RunCfg :=
  match s.cfgs.best with
  | some c => c.set
  | none => RunCfg.factory

/-! ### Opcodes (Table 4.16) -/

/-- CFG_READ (R197). -/
def cfgRead (source cls ix : Nat) : Op :=
  Op.readTagged 0x20 fun _ s =>
    match itemClass cls with
    | none => .bad .badParam s
    | some k =>
      if 1 < source || !k.has cls ix then .bad .badParam s
      else .ok (leBytes 1 source ++ leBytes 1 cls ++ leBytes 2 ix ++ s.itemData (if source == 0 then s.run else s.storedSet) cls ix) s

/-- CFG_WRITE, its whole payload given: the owning opcode's checks, targets and effect (R196, R198). -/
def cfgWrite (p : List Byte) : Op :=
  let cls := b1 p 0
  let ix := fieldAt p 2 2
  let d := p.drop 4
  let bad : Op := { opc := 0x21, needle := true, prot := .tagged, lenOk := 1 ≤ p.length, run := fun _ _ s => .bad .badParam s }
  match itemClass cls with
  | none => bad
  | some k =>
    match baseOp k.mem k.opc d with
    | none => bad
    | some o =>
      { opc := 0x21, needle := true, prot := .tagged, lenOk := p.length == 4 + k.size,
        targets := o.targets,
        run := fun q keep s =>
          if !(b1 p 1 == 0 && k.has cls ix && itemAgrees cls ix d) then .bad .badParam s
          else if !o.lenOk then .bad .badLength s
          else
            let r := o.run q keep s
            { r with data := if r.status == .ok || r.status == .acceptedPending then leBytes 1 cls ++ leBytes 2 ix ++ r.data else r.data } }

/-- CFG_SAVE (R199). The set is captured once every order of its boundary has been applied. -/
def cfgSave (mode : Nat) : Op :=
  { Op.order 0x22 .stored (fun q s =>
      if mode != 1 then .bad .badParam s
      else if s.inHandover then .bad .badState s
      else if s.cfgs.saving.isSome || s.cfgs.capture.isSome then .bad .busy s
      else s.withTicket q 0x22 4 fun t s => s.mCfgs fun c => { c with capture := some t }) with pends := true }

/-- The running items are captured, where a save waits for it. -/
def State.cfgCapture (s : State) : State :=
  match s.cfgs.capture with
  | some t => s.mCfgs fun c => { c with capture := none, saving := some (t, s.run) }
  | none => s

/-- The copy that is not in force (R200). -/
def CfgStore.target (c : CfgStore) : Fin 2 :=
  let a := c.copy[0]
  let b := c.copy[1]
  if a.valid && (!b.valid || b.gen ≤ a.gen) then 1 else 0

/-- The set is written to the copy that is not in force and read back (R199, R200). SETCRC and SETLEN are free: the stored set's
layout is not laid down (log entry 63). A failed read-back leaves the stored set as it is. -/
def State.cfgSaved (s : State) (readOk : Bool) : State :=
  match s.cfgs.saving with
  | none => s
  | some (t, set) =>
    let s := s.mCfgs fun c => { c with saving := none }
    if readOk then
      let gen := ((s.cfgs.best).map fun c => c.gen).getD 0 + 1
      let s := s.mCfgs fun c =>
        { c with copy := vmod c.copy c.target (fun _ => { gen := gen, valid := true, set := set }), saves := inc32 c.saves, fault := false }
      s.drew.drew.finish t .ok (leBytes 4 s.cfgs.saves ++ leBytes 4 (s.freeNat 32) ++ leBytes 4 (s.drew.freeNat 32))
    else s.finish t .busError []

/-- The opcode `opc` of a page with payload `p`; none: unknown on that page (step 9 of Table 4.4). -/
def opOf (mem : Bool) (opc : Nat) (p : List Byte) : Option Op :=
  if mem then baseOp mem opc p
  else match opc with
    | 0x20 => some ((cfgRead (b1 p 0) (b1 p 1) (fieldAt p 2 2)).sized p 4)
    | 0x21 => some (cfgWrite p)
    | 0x22 => some ((cfgSave (b1 p 0)).sized p 1)
    | _ => baseOp mem opc p

/-! ### The commands -/

/-- CFG_READ. -/
def execCfgRead (q : Req) (source cls : Byte) (index : Half) (s : State) : Host.Outcome State Fault Refusal :=
  .next ((cfgRead source.toNat cls.toNat index.toNat).serve q s)

/-- CFG_WRITE. -/
def execCfgWrite (q : Req) (cls pad : Byte) (index : Half) (item : List Byte) (s : State) : Host.Outcome State Fault Refusal :=
  .next ((cfgWrite ([cls, pad] ++ leBytes 2 index.toNat ++ item)).serve q s)

/-- CFG_SAVE. -/
def execCfgSave (q : Req) (mode : Byte) (s : State) : Host.Outcome State Fault Refusal :=
  .next ((cfgSave mode.toNat).serve q s).cfgCapture

/-- The stored set is written and read back. -/
def execCfgSaveDone (dt : Nat) (readOk : Bool) (s : State) : Host.Outcome State Fault Refusal := .next ((s.advance dt).cfgSaved readOk)

end Sys2Proof.Machine
end

