-- ==== Sys2Proof/Machine/Merge.lean ====
section
/-! DEFINITION. The merge (R183 to R188): the orders of a closed window judged target by target, staged, and applied at the
control-tick boundary of R22. -/

namespace Sys2Proof.Machine

/-! ### One order -/

/-- What an order means; an opcode that is not known means BAD_OPCODE. -/
def Order.op (o : Order) : Op :=
  (opOf o.mem o.opc o.payload).getD { opc := o.opc, mem := o.mem, run := fun _ _ s => .bad .badOpcode s }

/-- NEEDLE_TAKE and NEEDLE_GIVE, which act on the holder at their place in the window (R184). -/
def Order.isNeedle (o : Order) : Bool := !o.mem && (o.opc == 0x0C || o.opc == 0x0D)

/-- The state as an order's own checks see it: its session, the time of its final CRC byte, the boundary at which it is applied. -/
def State.under (s : State) (o : Order) (applyUs : Option Nat) : State :=
  s.mFrm fun x => { x with orderSess := o.sess, crcUp := some o.up, applyUs := applyUs }

/-- The state after an order's own checks and effect. -/
def State.settled (s : State) : State := s.mFrm fun x => { x with orderSess := none, orderCarrier := none, crcUp := none, applyUs := none }

/-- The order run on the targets that `keep` admits. -/
def Order.run (o : Order) (keep : Target → Bool) (applyUs : Option Nat) (s : State) : Res :=
  let r := o.op.run o.q keep (s.under o applyUs)
  { r with s := r.s.settled }

/-- Statuses whose requests do not stay in the sequence window (R156, R159 with Table 4.4). -/
def Status.leavesWindow : Status → Bool
  | .counterStale | .rekeyRequired | .authFail | .busy | .badLength => true
  | _ => false

/-- The entry of a request in its sender's window goes. -/
def State.winForget (s : State) (who : Sender) (seq : Nat) : State :=
  s.mFrm fun x => { x with win := vmod x.win (senderIx who) fun l => l.filter fun e => e.seq != seq }

/-- Entries older than the newest 16 keep their reply only where its payload is at most 16 bytes (R161); at most 1,024 are held (R156). -/
def windowKeep (l : List WinEntry) : List WinEntry :=
  ((l.take 1024).zipIdx).map fun x =>
    if 16 ≤ x.2 then { x.1 with reply := x.1.reply.bind fun r => if r.payload.length ≤ 16 then some r else none } else x.1

/-- A request enters its sender's window, and its session consumes its MCTR (R156, R220). -/
def State.winEnter (s : State) (who : Sender) (seq crc : Nat) (sess : Option Nat) (mctr : Nat) : State :=
  let s := s.mFrm fun y => { y with win := vmod y.win (senderIx who) fun l => windowKeep ({ seq := seq, crc := crc } :: l) }
  match sess with
  | some i => s.mAuth fun a => a.consume (senderIx who) i mctr
  | none => s

/-- An order of the merge enters the window once its outcome is known; one that a fallback gave back to the merge is in it already (R156,
R782). -/
def State.winAdmit (s : State) (o : Order) : State :=
  if (s.frm.win[senderIx o.q.sender]).any fun e => e.seq == o.q.seq && e.pending then s
  else s.winEnter o.q.sender o.q.seq o.crc o.sess o.mctr

/-- The reply to an order of the window is queued; its request enters the sequence window now, or never (R155, R156). -/
def State.answer (s : State) (o : Order) (st : Status) (data : List Byte) (unsync : Bool) : State :=
  let s := s.countReply st
  let s := if st.leavesWindow then s.winForget o.q.sender o.q.seq else s.winAdmit o
  s.pushReply o.q.sender (decorate o.op st s data
    { replyOf o.mem o.opc o.q o.sess st data with unsync := unsync, win := !st.leavesWindow })

/-! ### Judging a window -/

/-- An order at its place in the window: whether its sender was the holder there, its targets, and the result it already has. -/
structure Placed where
  o : Order
  holder : Bool
  targets : List (Target × Bool)
  res : Option (Status × List Byte) := none

/-- The orders judged against the holder at each place, NEEDLE_TAKE and NEEDLE_GIVE carried out there (R184, R185). -/
def State.place (s : State) (l : List Order) : State × List Placed :=
  l.foldl (fun (a : State × List Placed) o =>
    let s := a.1
    let holder := s.frm.holder == senderHolder o.q.sender
    if o.isNeedle then
      let r := o.run (fun _ => true) none s
      (r.s, a.2 ++ [{ o := o, holder := holder, targets := [], res := some (r.status, r.data) }])
    else if o.op.mayRun o.q s then (s, a.2 ++ [{ o := o, holder := holder, targets := o.op.targets s }])
    else (s, a.2 ++ [{ o := o, holder := holder, targets := [], res := some (.noNeedle, []) }])) (s, [])

/-- The places of the orders that name target `t`: place, safe-direction there, from the holder. -/
def claims (l : List Placed) (t : Target) : List (Nat × Bool × Bool) :=
  l.zipIdx.filterMap fun x => (x.1.targets.find? fun y => y.1 == t).map fun y => (x.2, y.2, x.1.holder)

/-- The place of the order that stands on target `t` (R186). -/
def winner (l : List Placed) (t : Target) : Option Nat :=
  let c := claims l t
  let safe := c.filter fun x => x.2.1
  match safe.find? (fun x => x.2.2) with
  | some x => some x.1
  | none => match safe with
    | x :: _ => some x.1
    | [] => (c.getLast?).map fun x => x.1

/-- The targets on which the order at place `i` stands. -/
def standing (l : List Placed) (i : Nat) (p : Placed) : List Target :=
  (p.targets.map fun x => x.1).filter fun t => winner l t == some i

/-- One order of the window judged after those before it: `v` is the state as they leave it, `s` the real state, which gets the replies,
the tickets and the staged orders. An order that loses on every target is not run; one that loses on some is SUPERSEDED and stands on
the rest (R187). -/
def mergeOne (t : Nat) (l : List Placed) (a : State × State) (x : Placed × Nat) : State × State :=
  let s := a.1
  let v := a.2
  let p := x.1
  match p.res with
  | some (st, data) => (s.answer p.o st data false, v)
  | none =>
    let keep := standing l x.2 p
    let lost := decide (keep.length < p.targets.length)
    if lost && keep.isEmpty then (s.answer p.o .superseded [] false, v)
    else
      let ticket := v.frm.nextTicket
      let r := p.o.run (fun k => keep.contains k) (some t) v
      let good := r.status == .ok || r.status == .acceptedPending || r.status == .throttled
      let pended := r.status == .acceptedPending
      let staged : Staged := { o := p.o, keep := keep, good := good, ticket := if pended then ticket else 0, free := v.free,
                               carrier := (v.under p.o none).carrier p.o.q }
      let s := s.mFrm fun f =>
        { f with staged := if r.silent then f.staged else f.staged ++ [staged],
                 nextTicket := r.s.frm.nextTicket,
                 pend := if pended then f.pend ++ (r.s.frm.pend.filter fun e => e.ticket == ticket) else f.pend }
      let s := { s with free := max s.free r.s.free }
      if r.silent then (s.winAdmit p.o, r.s)
      else if lost then (s.answer p.o .superseded [] false, r.s)
      else (s.answer p.o r.status r.data r.unsync, r.s)

/-! ### Staged orders go live -/

/-- The reply of a staged order has not been sent yet. -/
def State.unsent (s : State) (x : Staged) : Bool :=
  (s.frm.replies[senderIx x.o.q.sender]).any fun r => r.win && r.seq == x.o.q.seq

/-- A staged order takes effect, on the targets on which it stands; an operation under its ticket starts, or ends with the status that the
order now gets. An order that was judged to fail leaves only what its failing leaves. -/
def State.applyOne (s : State) (t : Nat) (x : Staged) : State :=
  let next := s.frm.nextTicket
  let free := s.free
  let kept := s.frm.pend.filter fun e => e.ticket == x.ticket
  let v := (s.mFrm fun f => if x.ticket == 0 then f else
    { f with nextTicket := x.ticket, pend := f.pend.filter fun e => e.ticket != x.ticket }).mFrm fun f =>
    { f with orderCarrier := x.carrier }
  let r := x.o.run (fun k => x.keep.contains k) (some t) { v with free := x.free }
  let back := fun (u : State) => { (u.mFrm fun f => { f with nextTicket := next }) with free := max free u.free }
  if !x.good && (r.status == .ok || r.status == .acceptedPending || r.status == .throttled) then s
  else if x.ticket == 0 || r.status == .acceptedPending then back r.s
  else back ((r.s.mFrm fun f => { f with pend := f.pend ++ kept }).finish x.ticket r.status r.data)

/-- Lichen mode's entry actions, where they are due at this boundary (R565, R566). -/
def State.actsLive (s : State) : State :=
  if s.lich.actsDue == 2 then (s.mLich fun l => { l with actsDue := 0 }).lichenActs else s

/-- The orders `l` take effect at the boundary `t` µs, after lichen mode's entry actions; a waiting save then captures the running set
(R22, R199). -/
def State.applyAll (s : State) (t : Nat) (l : List Staged) : State := (s.actsLive.each l fun s x => s.applyOne t x).cfgCapture

/-- The staged orders go live. -/
def State.golive (s : State) (t : Nat) : State :=
  let l := s.frm.staged
  (s.mFrm fun x => { x with staged := [] }).applyAll t l

/-- The closed window is merged at the boundary `t` µs; its orders stand for the next boundary. Lichen mode's entry actions count as at
the head of it (R565). What an earlier tick left staged goes before them. A frame that ended at the boundary itself stays (R21). -/
def State.merge (s : State) (t : Nat) : State :=
  let l := s.frm.window.filter fun o => o.up < s.clk.upNs
  let s := s.mFrm fun x => { x with window := x.window.filter fun o => !(o.up < s.clk.upNs) }
  let s := s.mLich fun x => { x with actsDue := if x.actsDue == 1 then 2 else x.actsDue }
  let (s, p) := s.place l
  let v := s.applyAll (t + 1000) s.frm.staged
  (p.zipIdx.foldl (mergeOne (t + 1000) p) (s, { v with frm := { v.frm with nextTicket := s.frm.nextTicket } })).1

/-- A fallback gives back to the window the staged orders whose replies have not been sent, ahead of the frames received since (R782). -/
def State.remerge (s : State) : State :=
  let back := s.frm.staged.filter fun x => s.unsent x
  let rest := s.frm.staged.filter fun x => !s.unsent x
  let s := s.each back fun s x => s.mFrm fun f =>
    { f with replies := vmod f.replies (senderIx x.o.q.sender) fun l => l.filter fun r => !(r.win && r.seq == x.o.q.seq),
             pend := f.pend.filter fun e => x.ticket == 0 || e.ticket != x.ticket }
  s.mFrm fun f => { f with staged := rest, window := back.map (fun x => x.o) ++ f.window }

end Sys2Proof.Machine
end

