-- ==== Sys2Proof/Machine/Ticks.lean ====
section
/-! DEFINITION. The periodic activity of Table 1.5: the control tick (R21 to R24, Table 1.6), the process tick and snapshot publication. -/

namespace Sys2Proof.Machine

/-! ### Time -/

/-- Time runs to the next millisecond of chain time, slewed on the way (R120); a clock that stands on a millisecond whose tick has not run
stays there. At its last value chain time is held while the core clock runs on (R127). -/
def Clock.toTick (c : Clock) : Clock :=
  if c.ctNs % 1000000 == 0 && c.lastTick != some (c.ctNs / 1000000) then c
  else if ctMax * 1000 ≤ c.ctNs then { c with upNs := c.upNs + 1000000 }
  else
    let d := 1000000 - c.ctNs % 1000000
    if ctMax * 1000 ≤ c.ctNs + d then c.advance d
    else
      let lim : Int := (d / 1000 : Nat)
      let part := clampI (-lim) lim c.slew
      { c with upNs := c.upNs + (d - part).toNat, ctNs := c.ctNs + d, slew := c.slew - part }

/-! ### What is latched -/

/-- One reading of the hardware, latched. -/
def State.latchMeas (s : State) (m : Meas) : State :=
  match m with
  | .vsPower v => s.mPow fun p => { p with vsPower := v }
  | .vsLogic v => s.mPow fun p => { p with vsLogic := v }
  | .drvCurrent n ma => s.mDrvCh n fun d => { d with iMeas := s.seenMa n ma }
  | .drvReservoir n v => s.mDrvCh n fun d => { d with vRes := s.seenRes n v }
  | .drvHoldEnergy n uj => s.mDrvCh n fun d => { d with eHold := d.eHold + uj }
  | .drvReturned n uj => s.mDrvCh n fun d => { d with eRet := d.eRet + uj }
  | .drvTj n t => s.mDiag n fun d => { d with tj := t }
  | .chargeBus v => s.mDrv fun d => { d with vbus := v }
  | .fanOutput n ma v uj => s.mFanCh n fun f => { f with iOut := ma, vOut := v, eOut := f.eOut + uj }
  | .fanTj n t => s.mFanCh n fun f => { f with tj := t }
  | .loopOutput n ua v => s.mLo n fun o => { o with read := ua, vterm := v }
  | .frontEndEnergy uj => s.mEnergy fun e => { e with now := { e.now with convE := e.now.convE + uj } }
  | .supplyEnergy uj => s.mEnergy fun e => { e with now := { e.now with elecE := e.now.elecE + uj } }
  | .releaseAckBad bad => s.mSafe fun x => { x with relBad := bad }
  | .stbyUp up => s.mSys fun x => { x with stbyUp := up }
  | .journalLag n => s.mHo fun h => { h with lag := n }

/-! ### COMMIT (R22 to R24) -/

/-- The tick that ends without COMMIT: outputs hold, OVERRUN is set and counted (R23), and the fallback causes 3 and 4 are looked for
(Table 19.3). -/
def State.missed (s : State) : State :=
  let n := satTo 20 (s.sys.missRun + 1)
  let s := s.mSys fun x => { x with overrun := x.overrun.raise, missRun := n }
  if s.ho.phase == .trial && s.ho.typ == some .ctrl then
    let s := s.mHo fun h => { h with overruns := h.overruns + 1 }
    if 5 ≤ n then s.hoFail 3 else if 10 ≤ s.ho.overruns then s.hoFail 4 else s
  else s

/-- The live outputs keep their values at this boundary: the tick had no COMMIT (R23), or the active core has just changed (R777, R778).
Before CTRL runs there is no COMMIT to wait for. -/
def State.tickHeld (s : State) : Bool := s.ctrlRuns && s.sys.tickOpen && (s.ho.switched || !s.sys.commit)

/-- The staged orders at the boundary `t` µs: live where the tick was committed, held over a switch (R778) and over an overrun. -/
def State.outputLatch (s : State) (t : Nat) : State :=
  if !s.tickHeld then (s.mSys fun x => { x with missRun := if s.ctrlRuns && s.sys.tickOpen then 0 else x.missRun }).golive t
  else if s.ho.switched then s.mHo fun h => { h with switched := false }
  else s.missed

/-- A fallback that is due is carried out; the core that takes over merges again what has not been answered (R781, R782). -/
def State.fallbackTick (s : State) : State :=
  if s.ho.fbDue.isSome && s.ho.typ == some .ctrl then s.hoFallback.remerge else s.hoFallback

/-- The process tick at the boundary `t` µs: fan tables and the programme (Table 1.5, R521). -/
def State.processTick (s : State) (t : Nat) : State :=
  (((s.mClk fun c => { c with lastProc := some (t / 100000) }).fanTables t).progTick t)

/-- A process tick that fell in a tick without COMMIT is caught up (R23, log entry 119). -/
def State.processHeld (s : State) (t : Nat) : State :=
  if s.sys.procHeld then (s.mSys fun x => { x with procHeld := false }).processTick t else s

/-- What the hardware does each millisecond, before the boundary's orders go live (log entry 121): driver setpoints move (R408), fan speeds are formed,
late scans are seen. Loop outputs ramp unless the outputs are held (R328, R340). -/
def State.hardMs (s : State) (t : Nat) (held : Bool) : State :=
  let s := (s.driversMs.fanSpeeds).scanSlips t
  if held then s else s.loopsRamp

/-- The tick task's 1 ms work that sets outputs, at the boundary `t` µs (Tables 1.5 and 1.6): none of it reaches an output in a tick that
is held (R23, R340). -/
def State.coreMs (s : State) (t : Nat) : State := (((s.processHeld t).loopsTick t).convTick).pdReview

/-- The diagnostics of the loop outputs (R336), and the status record of this tick (R174). -/
def State.seenMs (s : State) : State :=
  let s := s.loopSpells
  s.mFrm fun x => { x with statusRec := s.statusRecord (s.ctUs / 10000) s.ctUs }

/-- The boundary `t` µs of a node that answers: activation, tables, the hardware's millisecond, output latch, merge, and with CTRL running
the 1 ms loops. -/
def State.tickWork (s : State) (t : Nat) : State :=
  let s := ((s.hoTick t).fallbackTick).mTab fun x => x.settle t
  let held := s.tickHeld
  let s := if s.ctrlRuns then s.hardMs t held else s
  let s := s.outputLatch t
  let s := s.mSys fun x => { x with commit := false, tickOpen := s.ctrlRuns, held := held }
  let s := s.merge t
  if s.ctrlRuns then (if held then s else s.coreMs t).seenMs else s

/-- A control-tick boundary with the readings latched at it. At a process-tick boundary the log's 100 ms interval begins afresh (R682). -/
def State.controlTick (s : State) (l : List Meas) : State :=
  let s := s.mClk Clock.toTick
  let t := s.ctUs
  let s := s.mClk fun c => { c with lastTick := some (c.ctNs / 1000000) }
  let s := if t % 100000 == 0 then s.mLog fun x => { x with accepted := 0 } else s
  if s.answers then (s.each l State.latchMeas).tickWork t else s

/-! ### The process tick and publication -/

/-- The boundary is a process tick whose work has not been done. -/
def State.procDue (s : State) : Bool :=
  s.atTick && s.ctUs % 100000 == 0 && s.clk.lastProc != some (s.ctUs / 100000)

/-- A snapshot of the boundary `t` µs is published (R313 to R319): no chain reads on in a slot (R710); tables (R312) and CAL constants
(R793) due take effect; SC0 to SC3 have ended (Table 17.8). -/
def State.publishAt (s : State) (t : Nat) : State :=
  let s := s.snapEnds.mTab fun x => x.settle t
  let s := ((s.publish t).progPublish t).calSwitch
  s.each [0, 1, 2, 3] State.scDone

/-! ### The commands -/

/-- A control-tick boundary (R22). -/
def execControlTick (meas : List Meas) (s : State) : Host.Outcome State Fault Refusal := .next (s.controlTick meas)

/-- The active core writes COMMIT (R23). -/
def execTickCommit (dt : Nat) (s : State) : Host.Outcome State Fault Refusal :=
  let s := s.advance dt
  .next (if s.ctrlRuns then s.commitTick else s)

/-- 20 consecutive ticks without COMMIT, outside a handover: SM latches WDOG and removes the permit (R24, Table 15.9); the injection that
withheld COMMIT ends (Table 16.1). -/
def execCoreWatchdogFail (dt : Nat) (s : State) : Host.Outcome State Fault Refusal :=
  let s := s.advance dt
  .next (if s.ctrlRuns && s.sys.missRun == 20 && !s.inHandover && s.pow.smUp && !(s.safe.latch[4]).set then
    let s := (s.removePermit 9 (some .wdog) (s.injOn 0x0907 0)).detected 0x0907 0 Latch.wdog.bit.val
    s.each ((List.finRange 8).filter fun i => (s.inj.slots[i]).act && (s.inj.slots[i]).id == 0x0907) State.injEnd
  else s)

/-- The standby core writes an output staging register: the write is dropped and STBY_WR set (R13). -/
def execStbyWriteDropped (dt : Nat) (s : State) : Host.Outcome State Fault Refusal :=
  let s := s.advance dt
  .next (if s.ctrlRuns && s.sys.stbyUp then s.mSys fun x => { x with stbyWr := x.stbyWr.raise } else s)

/-- The process tick: the CJ sensors are sampled again (R842); where the boundary's outputs are held the tick task's work waits for the next
committed tick (R23, log entry 119). -/
def execProcessTick (s : State) : Host.Outcome State Fault Refusal :=
  .next (if !s.procDue then s
    else if s.sys.held then
      (s.cjAsk.mClk fun c => { c with lastProc := some (s.ctUs / 100000) }).mSys fun x => { x with procHeld := true }
    else s.cjAsk.processTick s.ctUs)

/-- A snapshot is published at a 10 ms boundary, within 80 µs of it (R314). -/
def execSnapshotPublish (s : State) : Host.Outcome State Fault Refusal :=
  .next (match s.pubNow with
    | some b => s.publishAt (b * 10000)
    | none => s)

end Sys2Proof.Machine
end

