-- ==== Sys2Proof/Machine/FrameRx.lean ====
section
/-! DEFINITION. A frame received: forwarding and turning back (R96 to R110), the checks of Table 4.4, the sequence windows (R156 to R163),
tags and counters (R219 to R230); and a frame sent (R103, R107, R152, R153, R161, R162). -/

namespace Sys2Proof.Machine

/-! ### The frame body (Tables 4.1 and 4.2) -/

/-- A frame body read. -/
structure Frame where
  dest : Nat
  src : Nat
  seq : Nat
  opc : Nat
  flg : Nat
  len : Nat
  sweep : Nat
  hop : Nat
  rsvd : Nat
  payload : List Byte
  mctr : Nat
  tag : List Byte
  crc : Nat
  deriving DecidableEq, Repr

/-- The body `b` read. -/
def Frame.ofBytes (b : List Byte) : Frame :=
  let n := fieldAt b 6 2
  { dest := fieldAt b 0 1, src := fieldAt b 1 1, seq := fieldAt b 2 2, opc := fieldAt b 4 1, flg := fieldAt b 5 1, len := n,
    sweep := fieldAt b 8 2, hop := fieldAt b 10 1, rsvd := fieldAt b 11 1, payload := (b.drop 12).take n, mctr := fieldAt b (12 + n) 4,
    tag := (b.drop (16 + n)).take 8, crc := fieldAt b (b.length - 4) 4 }

/-- FLG.AUTH. -/
def Frame.auth (f : Frame) : Bool := bitOf f.flg 0

/-- FLG.MEM. -/
def Frame.mem (f : Frame) : Bool := bitOf f.flg 1

/-- LEN is at most 1,024 and the body's length matches it (Table 4.4 step 4). -/
def Frame.lengthOk (f : Frame) (b : List Byte) : Bool := f.len ≤ 1024 && b.length == 16 + f.len + if f.auth then 12 else 0

/-- The CRC-32 matches (R148). -/
def crcOk (b : List Byte) : Bool := crc32 (zeroHop (b.take (b.length - 4))) == fieldAt b (b.length - 4) 4

/-- The sender that SRC names on lane `l` (R150). A request with any SRC but 0xF0, 0xF1 and 0xF8 has no sender on any lane: R150 names only
those three, and this is the model's choice (log entry 128). -/
def senderOn (l : Lane) (src : Nat) : Option Sender :=
  match l, src with
  | .ca, 0xF0 => some .hostA
  | .cb, 0xF1 => some .hostB
  | .svc, 0xF8 => some .svc
  | _, _ => none

/-- The order's part of the frame as the opcodes see it. -/
def Frame.req (f : Frame) (who : Sender) : Req :=
  { sender := who, auth := f.auth, bcast := f.dest == 0xFF, seq := f.seq, sweep := f.sweep, hop := f.hop }

/-! ### Sequence windows (R156 to R161) -/

/-- The entry of the request's SEQ; an order that waits for the merge stands as one whose reply is pending. -/
def State.winFind (s : State) (who : Sender) (f : Frame) : Option WinEntry :=
  ((s.frm.win[senderIx who]).find? fun e => e.seq == f.seq).or
    ((s.frm.window.find? fun o => o.q.sender == who && o.q.seq == f.seq).map fun o => ({ seq := o.q.seq, crc := o.crc } : WinEntry))

/-! ### Replies to a request -/

/-- A reply with status `st` alone. -/
def plainReply (f : Frame) (who : Sender) (sess : Option Nat) (zero : Bool) (st : Status) : Reply :=
  { replyOf f.mem f.opc (f.req who) sess st [] with zero := zero }

/-- A reply is queued where its sender's queue has room; where not, the request is discarded without reply (R168). -/
def State.reply (s : State) (who : Sender) (r : Reply) : State := if s.queueFull who then s.countFull else s.pushReply who r

/-- A reply with status `st` alone is queued; the request does not enter the window. -/
def State.refuse (s : State) (f : Frame) (who : Sender) (sess : Option Nat) (zero : Bool) (st : Status) : State :=
  (s.countReply st).reply who (plainReply f who sess zero st)

/-- A request whose SEQ is in the window (R157 to R159). -/
def State.repeated (s : State) (f : Frame) (who : Sender) (sess : Option Nat) (e : WinEntry) : State :=
  if e.crc != f.crc then (s.mFrm fun x => { x with seqConflict := inc8 x.seqConflict }).refuse f who sess false .badParam
  else if s.queueFull who then s.countFull
  else if e.pending then s
  else
    let s := s.mFrm fun x => { x with retxCnt := inc16 x.retxCnt }
    s.pushReply who (match e.reply with
      | some r => { opc := r.opc, mem := r.mem, seq := r.seq, sweep := r.sweep, payload := r.payload, unsync := r.unsync, sess := sess,
                    retx := true }
      | none => { opc := f.opc, mem := f.mem, seq := f.seq, sweep := f.sweep, payload := leBytes 1 e.status, sess := sess,
                  retx := true, trunc := true })

/-! ### Tags, rate and counters -/

/-- The session of `who` under which the tag passes: the open one first, then the pending one. -/
def State.tagSession (s : State) (who : Sender) (f : Frame) (b : List Byte) : Option Session :=
  let ok := fun (x : Session) => tagOf x.kReq (b.take (16 + f.len)) == f.tag
  match s.auth.openS[senderIx who] with
  | some x => if ok x then some x else (s.auth.pendS[senderIx who]).filter ok
  | none => (s.auth.pendS[senderIx who]).filter ok

/-- The session that tags a reply to an authenticated request refused before its tag is checked (log entry 64). -/
def State.looseSession (s : State) (who : Sender) (f : Frame) : Option Nat :=
  if f.auth then ((s.auth.openS[senderIx who]).or s.auth.pendS[senderIx who]).map fun x => x.id else none

/-- An authenticated request is counted in its 10 ms interval (R225). -/
def State.rateCount (s : State) (who : Sender) : State :=
  let iv := s.ctUs / 10000
  s.mAuth fun a =>
    let c := if a.rateIv == iv then a.rateCnt else Vector.replicate 3 0
    { a with rateIv := iv, rateCnt := vmod c (senderIx who) (· + 1) }

/-- Step 8 of Table 4.4 (R226, R229). -/
def State.counterBad (s : State) (f : Frame) (x : Session) : Option (Status × State) :=
  if f.mctr ≤ x.rxLast then some (.counterStale, s.mAuth fun a => { a with stale := a.stale.raise })
  else if !(f.opc == 0x09 && !f.mem) && (0xFFFFFFF0 ≤ f.mctr || 0xFFFFFFF0 ≤ x.txLast) then
    some (.rekeyRequired, s.mAuth fun a => { a with zone := a.zone.raise })
  else none

/-! ### Steps 9 to 13 of Table 4.4 -/

/-- The reply to an order carried out at once, which enters the window unless its status keeps it out. -/
def State.served (s : State) (f : Frame) (who : Sender) (x : Option Session) (op : Op) (r : Res) : State :=
  let sess := x.map fun y => y.id
  let enters := !r.status.leavesWindow
  let s := if enters then s.winEnter who f.seq f.crc sess f.mctr else s
  if r.silent then s
  else (s.countReply r.status).pushReply who
    (decorate op r.status s r.data
      { replyOf f.mem f.opc (f.req who) sess r.status r.data with unsync := r.unsync, win := enters })

/-- Steps 9 to 13: an opcode that is not known, or refused, is answered; at step 11 a request whose sender's reply queue is full is discarded
(R168, log entry 105); an opcode that needs no merge is carried out; the others wait for the merge, and enter the sequence window with its
outcome. -/
def State.dispatch (s : State) (f : Frame) (who : Sender) (x : Option Session) : State :=
  let q := f.req who
  let o : Order := { q := q, mem := f.mem, opc := f.opc, payload := f.payload, up := s.clk.upNs, sess := x.map fun y => y.id,
                     crc := f.crc, mctr := f.mctr }
  match opOf f.mem f.opc f.payload with
  | none => if s.queueFull who then s.countFull else s.served f who x { opc := f.opc, run := fun _ _ s => .bad .badOpcode s } (.bad .badOpcode s)
  | some op =>
    if s.queueFull who then (((op.barred q s).map fun r => r.s).getD s).countFull
    else match op.screen q (s.under o none) with
    | some r => r.s.settled.served f who x op { r with s := r.s.settled }
    | none =>
      if op.needle then s.mFrm fun y => { y with window := y.window ++ [o] }
      else
        let r := o.run (fun _ => true) none s
        r.s.served f who x op r

/-! ### Steps 3 to 8 of Table 4.4 -/

/-- A request for this node whose CRC has passed. -/
def State.request (s : State) (l : Lane) (b : List Byte) : State :=
  let f := Frame.ofBytes b
  match senderOn l f.src with
  | none => s.mFrm fun x => { x with srcErr := inc8 x.srcErr }
  | some who =>
    let loose := s.looseSession who f
    if !f.lengthOk b then (s.mFrm fun x => { x with lenErr := inc8 x.lenErr }).refuse f who loose false .badLength
    else if f.rsvd != 0 || 4 ≤ f.flg || (l != .svc && f.dest == 0xFF && f.auth) then
      let fresh := (s.winFind who f).isNone
      let s := if fresh && !s.queueFull who then s.winEnter who f.seq f.crc none 0 else s
      s.reply who { plainReply f who loose false .badParam with win := fresh }
    else
      let x := if f.auth then s.tagSession who f b else none
      if f.auth && x.isNone then (s.tagFailed who).refuse f who none true .authFail
      else
        let s := s.noteValid who
        let s := if f.auth then s.rateCount who else s
        let sess := x.map fun y => y.id
        if f.auth && 20 < s.auth.rateCnt[senderIx who] then
          (s.mAuth fun a => { a with rate := a.rate.raise }).refuse f who none true .busy
        else match s.winFind who f with
          | some e => s.repeated f who sess e
          | none =>
            match x.bind fun y => s.counterBad f y with
            | some (st, s) => s.refuse f who sess false st
            | none => s.dispatch f who x

/-! ### Forwarding and turning back -/

/-- Symbols of a frame on the lane: SOF, body, TURN, EOF. -/
def TxFrame.symbols (f : TxFrame) : Nat := f.body.length + 2 + if f.turn.isEmpty then 0 else f.turn.length + 1

/-- The body as it goes on: HOP one higher (R101). -/
def hopOn (b : List Byte) : List Byte := b.set 10 (BitVec.ofNat 8 (posOf b))

/-- Port `p` sends frame `f`, which has just arrived whole on the other port; where it is sending a frame of the node's own, `f` waits in the
insertion buffer, or is discarded where that cannot hold it (R103, R104). The DROP of the port it arrived on counts it: R104 names no port,
and this is the model's choice (log entry 124). -/
def State.forward (s : State) (p : PortId) (f : TxFrame) : State :=
  let now := s.clk.upNs
  let s := s.mRp p fun x => x.flow now
  let x := s.port p
  let dur := f.symbols * symNs x.rate
  let start := now + forwardNs x.rate - dur
  if x.txEnd ≤ start then
    s.mRp p fun x => { x with txEnd := start + dur, lastTx := hopOn f.body, lastAbort := f.abort,
                              kept := if f.abort then x.kept else x.kept ++ [{ f with startNs := start, atNs := start + dur }] }
  else if 2048 < (x.held.map TxFrame.symbols).sum + f.symbols then
    s.mRp (portOther p) fun x => { x with drop := satTo 0x3F (x.drop + 1) }
  else
    s.mRp p fun x => { x with txEnd := x.txEnd + dur, lastTx := hopOn f.body, lastAbort := f.abort,
                              held := x.held ++ [{ f with startNs := x.txEnd, atNs := x.txEnd + dur }] }

/-- A frame is turned back: port `p` is to send it on its lane with a TURN (R99, R106, R108). -/
def State.turnBack (s : State) (p : PortId) (body : List Byte) (kind reason : Nat) : State :=
  s.mRp p fun x => { x with ownQ := x.ownQ ++ [{ body := body, turn := turnBytes kind s.ring.addr (posOf body) reason }] }

/-- The lane out of port `p` ends at a host port: the node is that lane's end node (R82). -/
def State.laneEnd (s : State) (p : PortId) : Bool :=
  match p with
  | .ca => (s.port .ca).partner == 2
  | .cb => (s.port .cb).partner == 3

/-- Port `p` ends the copy it has begun to forward of a frame of `n` body bytes with ABORT (R97): what had gone out of it is `sent`. A port that
was busy with another frame has begun no copy, nor has one in turnaround (R106) or one whose lane ends here (R99). The instant at which the
copy is cut is read from cut-through (log entry 122). -/
def State.cutCopy (s : State) (p : PortId) (sent : List Byte) (n : Nat) : State :=
  let x := s.port p
  let start := s.clk.upNs + forwardNs x.rate - (n + 2) * symNs x.rate
  if x.turn || s.laneEnd p || start < x.txEnd then s
  else s.mRp p fun x => { x with txEnd := start + (sent.length + 2) * symNs x.rate, lastTx := sent, lastAbort := true }

/-- The copy of a frame that fails, or that arrived ended by ABORT, goes on ended by ABORT (R98, R102). -/
def State.abortOn (s : State) (p : PortId) (f : TxFrame) : State :=
  if (s.port p).turn || (s.laneEnd p && !isHostAddr (f.body.headD 0)) then s else s.forward p { f with abort := true }

/-- What becomes of a whole frame that goes on along its lane, in at `p`: forwarded, turned back at the end or at a break, or discarded
where the host port it is for lies beyond a break (R96, R99, R106, R110). -/
def State.onward (s : State) (p : PortId) (body : List Byte) : State :=
  let o := portOther p
  let x := s.port o
  let host := isHostAddr (body.headD 0)
  if !host && s.laneEnd o then s.turnBack p body 1 0
  else if x.turn then
    if host then s.mRp p fun y => { y with drop := satTo 0x3F (y.drop + 1) }
    else (s.mRp o fun y => { y with turned := satTo 0x3F (y.turned + 1) }).turnBack p body 2 x.cause
  else s.forward o { body := body }

/-- A turned frame goes back towards its sender's host port; one that meets a break is turned back there as every frame is (R106). -/
def State.turnedOn (s : State) (p : PortId) (body turn : List Byte) : State :=
  let o := portOther p
  if (s.port o).turn then (s.mRp o fun y => { y with turned := satTo 0x3F (y.turned + 1) }).turnBack p body 2 (s.port o).cause
  else s.forward o { body := body, turn := turn }

/-- The node takes the frame alone (R97, R133). -/
def State.consumes (s : State) (f : Frame) : Bool :=
  if s.ring.addr == 0 then f.dest == 0 && (f.opc == 0x00 || f.opc == 0x01 || f.opc == 0x02) && !f.mem else f.dest == s.ring.addr && !isHostAddr (BitVec.ofNat 8 f.dest)

/-- The node takes a copy of the broadcast (R97, R133). -/
def State.copies (s : State) (f : Frame) : Bool := f.dest == 0xFF && (s.ring.addr != 0 || ((f.opc == 0x01 || f.opc == 0x02) && !f.mem))

/-- A slot whose frame-CRC injection fails the next frame of port `i` (Table 16.2). -/
def State.crcSlot (s : State) (i : Nat) : Option (Fin 8) :=
  if s.inj.isOpen then
    (List.finRange 8).find? fun k =>
      let x := s.inj.slots[k]
      x.act && x.id == 0x0102 && x.tgt == i && x.used < x.arg
  else none

/-- A frame whose CRC fails at port `p` is counted, and its copy goes on ended by ABORT (R102). -/
def State.crcFails (s : State) (p : PortId) (f : TxFrame) : State :=
  (s.mRp p fun x => { x with crcErr := satTo 0xFF (x.crcErr + 1) }).abortOn (portOther p) f

/-- The TURN of a frame that ended with one. -/
def turnOf : Ending → List Byte
  | .turned t => t
  | _ => []

/-- A frame for this node is delivered into SRAM by SC4 or SC5 (Table 17.8) and judged. -/
def State.deliver (s : State) (p : PortId) (b : List Byte) : State :=
  if s.answers then
    (s.scDone (match p with
      | .ca => 4
      | .cb => 5)).request (match p with
      | .ca => .ca
      | .cb => .cb) b
  else s

/-- How much of a frame the node has sent on when it finds that it consumes it (R97): nothing after SOF where DEST tells, the five bytes
before FLG where OPC and FLG do (R133). -/
def State.begun (s : State) (b : List Byte) : List Byte := if s.ring.addr == 0 then b.take 5 else []

/-- A frame arrives whole at ring port `p`. One with a TURN, on its way back, is neither consumed nor copied nor judged here, whatever its
DEST: the spec does not say so, and this is the model's choice (log entry 129). -/
def State.ringFrame (s : State) (p : PortId) (b : List Byte) (ending : Ending) : State :=
  let tx : TxFrame := { body := b, turn := turnOf ending }
  if !(s.linkRuns && (s.port p).lock) then s
  else if ending == .abort then s.abortOn (portOther p) tx
  else if b.length < 16 then s.mFrm fun x => { x with lenErr := inc8 x.lenErr }
  else match s.crcSlot (portIx p) with
    | some k =>
      ((s.mInj fun x => { x with slots := vmod x.slots k fun y => { y with used := y.used + 1 } }).crcFails p tx).detected 0x0102 (portIx p) 0xFF
    | none =>
      if !crcOk b then s.crcFails p tx
      else match ending with
        | .turned t => s.turnedOn p b t
        | _ =>
          let f := Frame.ofBytes b
          if s.consumes f then (s.cutCopy (portOther p) (s.begun b) b.length).deliver p b
          else if s.copies f then (s.deliver p b).onward p b
          else s.onward p b

/-- A frame arrives whole at the service port (R151). One whose DEST is another node's address is discarded and counted nowhere: R151 does not
say what becomes of it but that it never passes to the ring, and this is the model's choice (log entry 130). -/
def State.svcFrame (s : State) (b : List Byte) (ending : Ending) : State :=
  if !s.answers || ending != .done then s
  else if b.length < 16 then s.mFrm fun x => { x with lenErr := inc8 x.lenErr }
  else if !crcOk b then s
  else
    let f := Frame.ofBytes b
    if f.dest == s.ring.addr || f.dest == 0 || f.dest == 0xFF then (s.scDone 6).request .svc b else s

/-! ### Sending -/

/-- FLG of a reply. -/
def Reply.flg (r : Reply) (auth : Bool) : Nat := pack [(1, bit auth), (1, bit r.mem), (1, bit r.retx), (1, bit r.trunc), (1, bit r.unsync)]

/-- The session of the reply, where it has not ended. -/
def State.replySession (s : State) (r : Reply) : Option Session :=
  match r.sess with
  | some i => s.auth.sessions.find? fun x => x.id == i
  | none => none

/-- The reply has the zero form: an AUTH_FAIL of step 6, a BUSY of R225, or its session's TX_LAST is exhausted (R224). -/
def State.replyZero (s : State) (r : Reply) : Bool := r.zero || ((s.replySession r).map fun x => decide (0xFFFFFFFF ≤ x.txLast)).getD false

/-- The reply's body up to its payload (R152). FLG.AUTH is clear where no session is left that could tag it and R224 gives it no zero form
(log entry 64). -/
def State.replyHead (s : State) (who : Sender) (r : Reply) : List Byte :=
  leBytes 1 (senderCode who) ++ leBytes 1 s.ring.addr ++ leBytes 2 r.seq ++ leBytes 1 (r.opc % 128 + 128) ++
    leBytes 1 (r.flg ((s.replySession r).isSome || r.zero)) ++ leBytes 2 r.payload.length ++ leBytes 2 r.sweep ++ leBytes 2 0 ++ r.payload

/-- The reply's body, and the state with its counter taken (R152, R153, R221, R224). -/
def State.replyBody (s : State) (who : Sender) (r : Reply) : List Byte × State :=
  let head := s.replyHead who r
  let close := fun (b : List Byte) => b ++ leBytes 4 (crc32 b)
  if s.replyZero r then (close (head ++ List.replicate 12 0), s)
  else match s.replySession r with
    | some x =>
      let b := head ++ leBytes 4 (x.txLast + 1)
      (close (b ++ tagOf x.kRep b), s.mAuth fun a => a.mSess x.id fun y => ({ y with txLast := y.txLast + 1 } : Session).review)
    | none => (close head, s)

/-- The reply is no longer pending in its window: it is stored (R161). -/
def State.winStore (s : State) (who : Sender) (r : Reply) : State :=
  if !r.win then s
  else s.mFrm fun x => { x with win := vmod x.win (senderIx who) fun l => windowKeep (l.map fun e =>
    if e.seq == r.seq && e.pending then { e with pending := false, reply := some r, status := fieldAt r.payload 0 1 } else e) }

/-- The session that the SESSION_OPEN reply with NONCE_CNT `nonce` left pending, that reply sent at `up` (R216). -/
def Session.sent (x : Session) (nonce up : Nat) : Session :=
  if x.nonce == nonce && !x.replied then { x with replied := true, bornUp := up } else x

/-- The reply to a SESSION_OPEN has been sent: the 10 s of its pending session run from `up` (R216). -/
def State.openReplied (s : State) (who : Sender) (r : Reply) (up : Nat) : State :=
  let nonce := fieldAt r.payload 1 4
  if r.opc == 0x09 && !r.mem && fieldAt r.payload 0 1 == 0 then
    s.mAuth fun a => { a with pendS := vmod a.pendS (senderIx who) fun p => p.map fun x => x.sent nonce up }
  else s

/-- What follows a reply whose last symbol leaves `ns` from now: a full reset 1 ms later (R192), moss entry counted from its final CRC byte
(R68), the end of sessions (R207, R237). -/
def State.afterReply (s : State) (who : Sender) (r : Reply) (ns sym : Nat) : State :=
  let s := (s.winStore who r).openReplied who r (s.clk.upNs + ns)
  let s := match r.resetAfter with
    | some c => s.mSys fun x => { x with resetDue := some (s.clk.upNs + ns + ms 1, c) }
    | none => s
  let s := if r.mossAfter then
      let us := (s.clk.ctNs + ns - sym + 999) / 1000
      s.mPow fun p => { p with mossAt := some ((us + 9999) / 10000 * 10000), mossWake := 0 }
    else s
  let s := if r.endOpen then s.mAuth fun a => { a with openS := vmod a.openS (senderIx who) fun _ => none } else s
  match r.endSlot with
  | some k => s.mAuth fun a => a.drop fun x => x.slot == k
  | none => s

/-- The sender's oldest reply leaves its queue. -/
def State.popReply (s : State) (who : Sender) : State :=
  s.mFrm fun x => { x with replies := vmod x.replies (senderIx who) fun l => l.drop 1 }

/-- Port `p` sends frame `f` of the node's own, a turned one with the HOP it arrived with: R101 speaks of forwarding only, and this is the
model's choice (log entry 131). -/
def State.sendOwn (s : State) (p : PortId) (f : TxFrame) : State :=
  let now := s.clk.upNs
  s.mRp p fun x =>
    let e := now + f.symbols * symNs x.rate
    { x with txEnd := e, lastTx := f.body, lastAbort := false, kept := x.kept ++ [{ f with startNs := now, atNs := e }] }

/-- The sender that port `p` leads to (R81). -/
def portSender : PortId → Sender
  | .ca => .hostA
  | .cb => .hostB

/-- Ring port `p` sends what waits for a gap: turned frames first, then replies (R103). A turned frame that would leave through a port in
turnaround is turned back again (R106); a reply, which is for a host port, is discarded (R110), and the DROP of that port counts it (log entry
124). -/
def State.sendRing (s : State) (p : PortId) : State :=
  let s := s.mRp p fun x => x.flow s.clk.upNs
  let x := s.port p
  if !s.linkRuns || s.clk.upNs < x.txEnd + 8 * symNs x.rate then s
  else match x.ownQ with
    | f :: rest =>
      let s := s.mRp p fun y => { y with ownQ := rest }
      if x.turn then
        (s.mRp p fun y => { y with turned := satTo 0x3F (y.turned + 1) }).mRp (portOther p) fun y =>
          { y with ownQ := y.ownQ ++ [f.turned s.ring.addr x.cause] }
      else s.sendOwn p f
    | [] =>
      let who := portSender p
      match s.frm.replies[senderIx who] with
      | [] => s
      | r :: _ =>
        let s := s.popReply who
        if x.turn then (s.mRp p fun y => { y with drop := satTo 0x3F (y.drop + 1) }).afterReply who r 0 0
        else
          let (b, s) := s.replyBody who r
          (s.sendOwn p { body := b }).afterReply who r ((b.length + 2) * symNs x.rate) (symNs x.rate)

/-- The service port sends its oldest reply. -/
def State.sendSvc (s : State) : State :=
  match s.frm.replies[senderIx .svc] with
  | [] => s
  | r :: _ =>
    let (b, s) := (s.popReply .svc).replyBody .svc r
    (s.mFrm fun x => { x with svcTx := b }).afterReply .svc r 0 0

/-! ### The commands -/

/-- A frame arrives whole. -/
def execFrameReceive (dt : Nat) (lane : Lane) (body : List Byte) (hop : Nat) (ending : Ending) (s : State) :
    Host.Outcome State Fault Refusal :=
  let s := s.advance dt
  let b := body.set 10 (BitVec.ofNat 8 hop)
  .next (match lane with
    | .ca => s.ringFrame .ca b ending
    | .cb => s.ringFrame .cb b ending
    | .svc => s.svcFrame b ending)

/-- A reply or a turned frame is sent. -/
def execReplySend (dt : Nat) (lane : Lane) (s : State) : Host.Outcome State Fault Refusal :=
  let s := s.advance dt
  .next (match lane with
    | .ca => s.sendRing .ca
    | .cb => s.sendRing .cb
    | .svc => if s.answers then s.sendSvc else s)

/-- Frames sent 40 µs ago or earlier are kept no longer (R107). -/
def execKeptFrameRelease (dt : Nat) (port : PortId) (s : State) : Host.Outcome State Fault Refusal :=
  let s := s.advance dt
  .next (s.mRp port fun p => p.flow s.clk.upNs)

end Sys2Proof.Machine
end

