-- ==== Sys2Proof/Machine/Dispatch.lean ====
section
/-! DEFINITION. Which meaning each command has: one arm per row of the table. -/

namespace Sys2Proof.Machine

/-- The effect of a command on everything but the queue. -/
def exec (i : Instr) (s : State) : Host.Outcome State Fault Refusal :=
  match i with
  | .vsLogicPowerUp dt => Sys2Proof.Machine.execVsLogicPowerUp dt s
  | .sporeSample dt high => Sys2Proof.Machine.execSporeSample dt high s
  | .smStart dt selfOk => Sys2Proof.Machine.execSmStart dt selfOk s
  | .ringReady dt lockA lockB => Sys2Proof.Machine.execRingReady dt lockA lockB s
  | .ctrlRunning dt => Sys2Proof.Machine.execCtrlRunning dt s
  | .vsLogicPowerDown dt => Sys2Proof.Machine.execVsLogicPowerDown dt s
  | .vsLogicRecoverInPowerDown dt => Sys2Proof.Machine.execVsLogicRecoverInPowerDown dt s
  | .vsPowerUndervoltage dt => Sys2Proof.Machine.execVsPowerUndervoltage dt s
  | .vsPowerOvervoltage dt => Sys2Proof.Machine.execVsPowerOvervoltage dt s
  | .vsPowerRestored dt => Sys2Proof.Machine.execVsPowerRestored dt s
  | .pdOnTimeout dt pd => Sys2Proof.Machine.execPdOnTimeout dt pd s
  | .domainOffAfterRelease dt pd => Sys2Proof.Machine.execDomainOffAfterRelease dt pd s
  | .clkFault dt => Sys2Proof.Machine.execClkFault dt s
  | .fullReset dt => Sys2Proof.Machine.execFullReset dt s
  | .avsAdjust dt up => Sys2Proof.Machine.execAvsAdjust dt up s
  | .mossShutdown dt => Sys2Proof.Machine.execMossShutdown dt s
  | .wakeSymbolRx dt port => Sys2Proof.Machine.execWakeSymbolRx dt port s
  | .di00Wake dt rising => Sys2Proof.Machine.execDi00Wake dt rising s
  | .svcWake dt => Sys2Proof.Machine.execSvcWake dt s
  | .controlTick meas => Sys2Proof.Machine.execControlTick meas s
  | .tickCommit dt => Sys2Proof.Machine.execTickCommit dt s
  | .coreWatchdogFail dt => Sys2Proof.Machine.execCoreWatchdogFail dt s
  | .stbyWriteDropped dt => Sys2Proof.Machine.execStbyWriteDropped dt s
  | .processTick => Sys2Proof.Machine.execProcessTick s
  | .snapshotPublish => Sys2Proof.Machine.execSnapshotPublish s
  | .markReceive dt port mark cyc => Sys2Proof.Machine.execMarkReceive dt port mark cyc s
  | .markSourceTimeout dt => Sys2Proof.Machine.execMarkSourceTimeout dt s
  | .markHoldover dt => Sys2Proof.Machine.execMarkHoldover dt s
  | .ctSaturate dt => Sys2Proof.Machine.execCtSaturate dt s
  | .frameReceive dt lane body hop ending => Sys2Proof.Machine.execFrameReceive dt lane body hop ending s
  | .replySend dt lane => Sys2Proof.Machine.execReplySend dt lane s
  | .keptFrameRelease dt port => Sys2Proof.Machine.execKeptFrameRelease dt port s
  | .linkIdSend dt port => Sys2Proof.Machine.execLinkIdSend dt port s
  | .linkIdReceive dt port bytes => Sys2Proof.Machine.execLinkIdReceive dt port bytes s
  | .eqAdapt dt port best eye pe => Sys2Proof.Machine.execEqAdapt dt port best eye pe s
  | .marginLowDetect dt port => Sys2Proof.Machine.execMarginLowDetect dt port s
  | .rangeRequestSend dt port => Sys2Proof.Machine.execRangeRequestSend dt port s
  | .rangeReceive dt port bytes elapsed => Sys2Proof.Machine.execRangeReceive dt port bytes elapsed s
  | .lossOfLock dt port cause ns n => Sys2Proof.Machine.execLossOfLock dt port cause ns n s
  | .relock dt port => Sys2Proof.Machine.execRelock dt port s
  | .turnaroundExit dt port => Sys2Proof.Machine.execTurnaroundExit dt port s
  | .rateSearchSwitch dt port => Sys2Proof.Machine.execRateSearchSwitch dt port s
  | .ringRateSwitch dt => Sys2Proof.Machine.execRingRateSwitch dt s
  | .wakeSymbolSend dt port => Sys2Proof.Machine.execWakeSymbolSend dt port s
  | .wakeSeen dt port => Sys2Proof.Machine.execWakeSeen dt port s
  | .ringStatus q => Sys2Proof.Machine.execRingStatus q s
  | .castOn q base mode => Sys2Proof.Machine.execCastOn q base mode s
  | .addrAssign q serial addr pin => Sys2Proof.Machine.execAddrAssign q serial addr pin s
  | .addrPin q pin => Sys2Proof.Machine.execAddrPin q pin s
  | .bindOff q unpin => Sys2Proof.Machine.execBindOff q unpin s
  | .ringRate q rate bidx => Sys2Proof.Machine.execRingRate q rate bidx s
  | .wakeSend q portN => Sys2Proof.Machine.execWakeSend q portN s
  | .sweepResume q bidx => Sys2Proof.Machine.execSweepResume q bidx s
  | .sweep q bidx => Sys2Proof.Machine.execSweep q bidx s
  | .needleTake q flags timeout => Sys2Proof.Machine.execNeedleTake q flags timeout s
  | .needleGiveRelease q => Sys2Proof.Machine.execNeedleGiveRelease q s
  | .needleGiveLichen q => Sys2Proof.Machine.execNeedleGiveLichen q s
  | .pollResult q ticket => Sys2Proof.Machine.execPollResult q ticket s
  | .resultExpire dt ticket => Sys2Proof.Machine.execResultExpire dt ticket s
  | .mossEnter q => Sys2Proof.Machine.execMossEnter q s
  | .identify q => Sys2Proof.Machine.execIdentify q s
  | .statusRead q => Sys2Proof.Machine.execStatusRead q s
  | .reset q kind => Sys2Proof.Machine.execReset q kind s
  | .hostTimeoutExpire => Sys2Proof.Machine.execHostTimeoutExpire s
  | .cfgRead q source cls index => Sys2Proof.Machine.execCfgRead q source cls index s
  | .cfgWrite q cls pad index item => Sys2Proof.Machine.execCfgWrite q cls pad index item s
  | .cfgSave q mode => Sys2Proof.Machine.execCfgSave q mode s
  | .cfgSaveDone dt readOk => Sys2Proof.Machine.execCfgSaveDone dt readOk s
  | .sessionOpen q slot nonceH => Sys2Proof.Machine.execSessionOpen q slot nonceH s
  | .sessionClose q => Sys2Proof.Machine.execSessionClose q s
  | .keyLoadPlain q slot keyver key => Sys2Proof.Machine.execKeyLoadPlain q slot keyver key s
  | .keyLoadWrapped q slot keyver wrapped => Sys2Proof.Machine.execKeyLoadWrapped q slot keyver wrapped s
  | .keyLoadErase q slot keyver => Sys2Proof.Machine.execKeyLoadErase q slot keyver s
  | .sessionStatus q => Sys2Proof.Machine.execSessionStatus q s
  | .pendingSessionExpire dt sender => Sys2Proof.Machine.execPendingSessionExpire dt sender s
  | .scanStart dt group => Sys2Proof.Machine.execScanStart dt group s
  | .checkSlotEnd dt group zero ref => Sys2Proof.Machine.execCheckSlotEnd dt group zero ref s
  | .conversionEnd dt ch raw clamp => Sys2Proof.Machine.execConversionEnd dt ch raw clamp s
  | .cjSampleEnd dt pairN a b => Sys2Proof.Machine.execCjSampleEnd dt pairN a b s
  | .ovdTrip dt ch positive => Sys2Proof.Machine.execOvdTrip dt ch positive s
  | .ovdClear dt ch => Sys2Proof.Machine.execOvdClear dt ch s
  | .chConfig q item => Sys2Proof.Machine.execChConfig q item s
  | .chStatus q chN count => Sys2Proof.Machine.execChStatus q chN count s
  | .scanConfig q group mode period => Sys2Proof.Machine.execScanConfig q group mode period s
  | .tableRead q table => Sys2Proof.Machine.execTableRead q table s
  | .tableWrite q table image => Sys2Proof.Machine.execTableWrite q table image s
  | .tableErase q table => Sys2Proof.Machine.execTableErase q table s
  | .readResults q bidx chN count => Sys2Proof.Machine.execReadResults q bidx chN count s
  | .readResultsFull q bidx chN count => Sys2Proof.Machine.execReadResultsFull q bidx chN count s
  | .loopConfig q item => Sys2Proof.Machine.execLoopConfig q item s
  | .loopSetSet q lo current => Sys2Proof.Machine.execLoopSetSet q lo current s
  | .loopSetClose q lo current => Sys2Proof.Machine.execLoopSetClose q lo current s
  | .loopSetResume q lo current => Sys2Proof.Machine.execLoopSetResume q lo current s
  | .loopStatus q lo count => Sys2Proof.Machine.execLoopStatus q lo count s
  | .loopOpenDetect dt lo => Sys2Proof.Machine.execLoopOpenDetect dt lo s
  | .loopShortDetect dt lo => Sys2Proof.Machine.execLoopShortDetect dt lo s
  | .loopDevDetect dt lo => Sys2Proof.Machine.execLoopDevDetect dt lo s
  | .probeCycleStart dt => Sys2Proof.Machine.execProbeCycleStart dt s
  | .probeMeasureEnd dt cL gL cM gM cH gH guardBad => Sys2Proof.Machine.execProbeMeasureEnd dt cL gL cM gM cH gH guardBad s
  | .probeReadSnapshot q bidx portN count => Sys2Proof.Machine.execProbeReadSnapshot q bidx portN count s
  | .probeReadConfig q portN count => Sys2Proof.Machine.execProbeReadConfig q portN count s
  | .probeReadCrop q cslot => Sys2Proof.Machine.execProbeReadCrop q cslot s
  | .probeConfigPort q portN en tch crop c0 => Sys2Proof.Machine.execProbeConfigPort q portN en tch crop c0 s
  | .probeConfigCrop q cslot image => Sys2Proof.Machine.execProbeConfigCrop q cslot image s
  | .probeConfigCropErase q cslot => Sys2Proof.Machine.execProbeConfigCropErase q cslot s
  | .probeConfigCycle q period startOfs => Sys2Proof.Machine.execProbeConfigCycle q period startOfs s
  | .probeCalAir q portN => Sys2Proof.Machine.execProbeCalAir q portN s
  | .probeCalSample q portN mOven mRec calgen => Sys2Proof.Machine.execProbeCalSample q portN mOven mRec calgen s
  | .probeCalApply q portN => Sys2Proof.Machine.execProbeCalApply q portN s
  | .probeCalReset q portN => Sys2Proof.Machine.execProbeCalReset q portN s
  | .probeCalDiscard q portN => Sys2Proof.Machine.execProbeCalDiscard q portN s
  | .drvCmdOn q chN arg mask => Sys2Proof.Machine.execDrvCmdOn q chN arg mask s
  | .drvCmdPulse q chN arg mask => Sys2Proof.Machine.execDrvCmdPulse q chN arg mask s
  | .drvCmdRelease q chN arg mask => Sys2Proof.Machine.execDrvCmdRelease q chN arg mask s
  | .drvCmdSetI q chN arg mask => Sys2Proof.Machine.execDrvCmdSetI q chN arg mask s
  | .drvCmdLatchA q chN arg mask => Sys2Proof.Machine.execDrvCmdLatchA q chN arg mask s
  | .drvCmdLatchB q chN arg mask => Sys2Proof.Machine.execDrvCmdLatchB q chN arg mask s
  | .drvCmdReleaseMask q chN arg mask => Sys2Proof.Machine.execDrvCmdReleaseMask q chN arg mask s
  | .drvProfile q item => Sys2Proof.Machine.execDrvProfile q item s
  | .drvStatus q chN count => Sys2Proof.Machine.execDrvStatus q chN count s
  | .drvEnergy q chN count => Sys2Proof.Machine.execDrvEnergy q chN count s
  | .drvPair q chN => Sys2Proof.Machine.execDrvPair q chN s
  | .drvUnpair q chN => Sys2Proof.Machine.execDrvUnpair q chN s
  | .drvBudget q budget => Sys2Proof.Machine.execDrvBudget q budget s
  | .risePeakReached dt ch points vRes => Sys2Proof.Machine.execRisePeakReached dt ch points vRes s
  | .tBoostMaxExpire dt ch iHs iLs points vRes => Sys2Proof.Machine.execTBoostMaxExpire dt ch iHs iLs points vRes s
  | .dwellEnd dt ch held energy => Sys2Proof.Machine.execDwellEnd dt ch held energy s
  | .decayEnd dt ch => Sys2Proof.Machine.execDecayEnd dt ch s
  | .pulseEnd dt ch => Sys2Proof.Machine.execPulseEnd dt ch s
  | .tHoldMaxExpire dt ch => Sys2Proof.Machine.execTHoldMaxExpire dt ch s
  | .releaseEnd dt ch x => Sys2Proof.Machine.execReleaseEnd dt ch x s
  | .pairReverseRise dt ch => Sys2Proof.Machine.execPairReverseRise dt ch s
  | .reservoirCharged dt ch vRes => Sys2Proof.Machine.execReservoirCharged dt ch vRes s
  | .boostOrderReview dt => Sys2Proof.Machine.execBoostOrderReview dt s
  | .offStateSample dt ch vDh vDl => Sys2Proof.Machine.execOffStateSample dt ch vDh vDl s
  | .drvShortSupDetect dt ch x => Sys2Proof.Machine.execDrvShortSupDetect dt ch x s
  | .drvShortLoadDetect dt ch x => Sys2Proof.Machine.execDrvShortLoadDetect dt ch x s
  | .drvShortGndDetect dt ch x => Sys2Proof.Machine.execDrvShortGndDetect dt ch x s
  | .drvOpenDetect dt ch ma ns full => Sys2Proof.Machine.execDrvOpenDetect dt ch ma ns full s
  | .boostWaitReady dt ch vRes => Sys2Proof.Machine.execBoostWaitReady dt ch vRes s
  | .tBoostWaitExpire dt ch => Sys2Proof.Machine.execTBoostWaitExpire dt ch s
  | .drvOvertemp dt ch tj => Sys2Proof.Machine.execDrvOvertemp dt ch tj s
  | .drvOvertempRecover dt ch tj => Sys2Proof.Machine.execDrvOvertempRecover dt ch tj s
  | .legConflictDetect dt ch => Sys2Proof.Machine.execLegConflictDetect dt ch s
  | .drvRetryTimer dt ch => Sys2Proof.Machine.execDrvRetryTimer dt ch s
  | .drvRetryRestore dt ch => Sys2Proof.Machine.execDrvRetryRestore dt ch s
  | .drvDiagConfig q chN offEn retryMode retryMax retryT pfLimit => Sys2Proof.Machine.execDrvDiagConfig q chN offEn retryMode retryMax retryT pfLimit s
  | .drvDiagDirect q chN sw dur => Sys2Proof.Machine.execDrvDiagDirect q chN sw dur s
  | .directDriveEnd dt ch peak => Sys2Proof.Machine.execDirectDriveEnd dt ch peak s
  | .drvFaultClear q mask flags => Sys2Proof.Machine.execDrvFaultClear q mask flags s
  | .fanTargetForm dt => Sys2Proof.Machine.execFanTargetForm dt s
  | .fanSpinUpEnd dt ch => Sys2Proof.Machine.execFanSpinUpEnd dt ch s
  | .fanStallDetect dt ch => Sys2Proof.Machine.execFanStallDetect dt ch s
  | .fanRetryTimer dt ch => Sys2Proof.Machine.execFanRetryTimer dt ch s
  | .fanRetryRestore dt ch => Sys2Proof.Machine.execFanRetryRestore dt ch s
  | .fanElectricalFault dt ch what => Sys2Proof.Machine.execFanElectricalFault dt ch what s
  | .fanOvertempRecover dt ch tj => Sys2Proof.Machine.execFanOvertempRecover dt ch tj s
  | .fanFailoverExit dt group => Sys2Proof.Machine.execFanFailoverExit dt group s
  | .airOkUpdate dt => Sys2Proof.Machine.execAirOkUpdate dt s
  | .shootBlockDetect dt ch => Sys2Proof.Machine.execShootBlockDetect dt ch s
  | .fanCmdSet q chN arg mask => Sys2Proof.Machine.execFanCmdSet q chN arg mask s
  | .fanCmdFailover q chN arg mask => Sys2Proof.Machine.execFanCmdFailover q chN arg mask s
  | .fanCmdResume q chN arg mask => Sys2Proof.Machine.execFanCmdResume q chN arg mask s
  | .fanConfig q item => Sys2Proof.Machine.execFanConfig q item s
  | .fanTable q tnum image => Sys2Proof.Machine.execFanTable q tnum image s
  | .fanGroup q group members nAir foDuty foHold pad => Sys2Proof.Machine.execFanGroup q group members nAir foDuty foHold pad s
  | .fanStatus q chN count => Sys2Proof.Machine.execFanStatus q chN count s
  | .fanRetry q mask flags => Sys2Proof.Machine.execFanRetry q mask flags s
  | .progLoad q prog count items => Sys2Proof.Machine.execProgLoad q prog count items s
  | .progStartStart q => Sys2Proof.Machine.execProgStartStart q s
  | .progStartResume q => Sys2Proof.Machine.execProgStartResume q s
  | .progStopOrderly q => Sys2Proof.Machine.execProgStopOrderly q s
  | .progStopHold q => Sys2Proof.Machine.execProgStopHold q s
  | .progStopAbort q => Sys2Proof.Machine.execProgStopAbort q s
  | .progStatusSummary q => Sys2Proof.Machine.execProgStatusSummary q s
  | .progStatusParcels q first count => Sys2Proof.Machine.execProgStatusParcels q first count s
  | .progSet q count items => Sys2Proof.Machine.execProgSet q count items s
  | .dischargeStroke dt => Sys2Proof.Machine.execDischargeStroke dt s
  | .parcelStore dt => Sys2Proof.Machine.execParcelStore dt s
  | .aerationDecision dt => Sys2Proof.Machine.execAerationDecision dt s
  | .convCmdStart q arg => Sys2Proof.Machine.execConvCmdStart q arg s
  | .convCmdStopUpstream q arg => Sys2Proof.Machine.execConvCmdStopUpstream q arg s
  | .convCmdStopNow q arg => Sys2Proof.Machine.execConvCmdStopNow q arg s
  | .convCmdReset q arg => Sys2Proof.Machine.execConvCmdReset q arg s
  | .convConfigStage q item => Sys2Proof.Machine.execConvConfigStage q item s
  | .convConfigLine q item => Sys2Proof.Machine.execConvConfigLine q item s
  | .stageStartDelay dt stage => Sys2Proof.Machine.execStageStartDelay dt stage s
  | .stageClearDelay dt stage => Sys2Proof.Machine.execStageClearDelay dt stage s
  | .stageProveTimeout dt stage => Sys2Proof.Machine.execStageProveTimeout dt stage s
  | .diFilterChange dt di level ns => Sys2Proof.Machine.execDiFilterChange dt di level ns s
  | .stitchWrite q first count entries => Sys2Proof.Machine.execStitchWrite q first count entries s
  | .stitchClear q first count => Sys2Proof.Machine.execStitchClear q first count s
  | .stitchStatus q first count => Sys2Proof.Machine.execStitchStatus q first count s
  | .stitchExecute dt => Sys2Proof.Machine.execStitchExecute dt s
  | .energyRead q => Sys2Proof.Machine.execEnergyRead q s
  | .energyReadRestart q => Sys2Proof.Machine.execEnergyReadRestart q s
  | .lichenConfig q item => Sys2Proof.Machine.execLichenConfig q item s
  | .lichenHeatExpire dt => Sys2Proof.Machine.execLichenHeatExpire dt s
  | .thermSample dt t => Sys2Proof.Machine.execThermSample dt t s
  | .ts7PeriodTimer dt => Sys2Proof.Machine.execTs7PeriodTimer dt s
  | .ts7SampleEnd dt t => Sys2Proof.Machine.execTs7SampleEnd dt t s
  | .ts7Stale dt => Sys2Proof.Machine.execTs7Stale dt s
  | .thermalShutdown dt => Sys2Proof.Machine.execThermalShutdown dt s
  | .shutdownExit dt => Sys2Proof.Machine.execShutdownExit dt s
  | .thermRead q flags => Sys2Proof.Machine.execThermRead q flags s
  | .thermReadSample q flags => Sys2Proof.Machine.execThermReadSample q flags s
  | .thermConfig q tStart ts7Period pad => Sys2Proof.Machine.execThermConfig q tStart ts7Period pad s
  | .smCycle dt levels hpA hpB => Sys2Proof.Machine.execSmCycle dt levels hpA hpB s
  | .testOutputPulse dt ofB own other => Sys2Proof.Machine.execTestOutputPulse dt ofB own other s
  | .siDiscrepancy dt input => Sys2Proof.Machine.execSiDiscrepancy dt input s
  | .hpTestPulse dt ofB v => Sys2Proof.Machine.execHpTestPulse dt ofB v s
  | .hpOpenDetect dt ofB ua ns => Sys2Proof.Machine.execHpOpenDetect dt ofB ua ns s
  | .airflowLoss dt => Sys2Proof.Machine.execAirflowLoss dt s
  | .airOkDisagree dt group => Sys2Proof.Machine.execAirOkDisagree dt group s
  | .flameOffTimeout dt => Sys2Proof.Machine.execFlameOffTimeout dt s
  | .flameProveTimeout dt => Sys2Proof.Machine.execFlameProveTimeout dt s
  | .smLockstepMismatch dt => Sys2Proof.Machine.execSmLockstepMismatch dt s
  | .smEccError dt => Sys2Proof.Machine.execSmEccError dt s
  | .smWatchdogMiss dt ns => Sys2Proof.Machine.execSmWatchdogMiss dt ns s
  | .hpBEnableStatic dt => Sys2Proof.Machine.execHpBEnableStatic dt s
  | .scrcRecheck dt good => Sys2Proof.Machine.execScrcRecheck dt good s
  | .safeStatus q => Sys2Proof.Machine.execSafeStatus q s
  | .permitRequest q => Sys2Proof.Machine.execPermitRequest q s
  | .permitDrop q => Sys2Proof.Machine.execPermitDrop q s
  | .safeConfigWrite q image => Sys2Proof.Machine.execSafeConfigWrite q image s
  | .safeConfigConfirm q scrc => Sys2Proof.Machine.execSafeConfigConfirm q scrc s
  | .safeConfigExpire dt => Sys2Proof.Machine.execSafeConfigExpire dt s
  | .safeConfigRead q which => Sys2Proof.Machine.execSafeConfigRead q which s
  | .proofTestPermit q => Sys2Proof.Machine.execProofTestPermit q s
  | .proofTestRelease q => Sys2Proof.Machine.execProofTestRelease q s
  | .proofTestReport q => Sys2Proof.Machine.execProofTestReport q s
  | .proofTestDone dt pass fstep detail => Sys2Proof.Machine.execProofTestDone dt pass fstep detail s
  | .safeReset q mask => Sys2Proof.Machine.execSafeReset q mask s
  | .ptAgeDay dt => Sys2Proof.Machine.execPtAgeDay dt s
  | .testOpen q flags timeout => Sys2Proof.Machine.execTestOpen q flags timeout s
  | .inject q injId tgt arg dur => Sys2Proof.Machine.execInject q injId tgt arg dur s
  | .injectClear q slot => Sys2Proof.Machine.execInjectClear q slot s
  | .testClose q => Sys2Proof.Machine.execTestClose q s
  | .injectExpire dt slot => Sys2Proof.Machine.execInjectExpire dt slot s
  | .testTimeout dt => Sys2Proof.Machine.execTestTimeout dt s
  | .flagClear q addr mask => Sys2Proof.Machine.execFlagClear q addr mask s
  | .logRead q first count => Sys2Proof.Machine.execLogRead q first count s
  | .logInfo q => Sys2Proof.Machine.execLogInfo q s
  | .countersRead q => Sys2Proof.Machine.execCountersRead q s
  | .logEntryWrite dt torn => Sys2Proof.Machine.execLogEntryWrite dt torn s
  | .memRead q addr len => Sys2Proof.Machine.execMemRead q addr len s
  | .memWrite q addr bytes => Sys2Proof.Machine.execMemWrite q addr bytes s
  | .registerWrite dt addr value strobes => Sys2Proof.Machine.execRegisterWrite dt addr value strobes s
  | .rbRdWrite dt rb value => Sys2Proof.Machine.execRbRdWrite dt rb value s
  | .ctLoRead dt => Sys2Proof.Machine.execCtLoRead dt s
  | .scConfigDescriptor q slot desc => Sys2Proof.Machine.execScConfigDescriptor q slot desc s
  | .scConfigTimer q tmr period phase => Sys2Proof.Machine.execScConfigTimer q tmr period phase s
  | .scConfigRing q rb base size hi lo => Sys2Proof.Machine.execScConfigRing q rb base size hi lo s
  | .scConfigChannel q chN first => Sys2Proof.Machine.execScConfigChannel q chN first s
  | .scStartArm q chN => Sys2Proof.Machine.execScStartArm q chN s
  | .scStartRunNow q chN => Sys2Proof.Machine.execScStartRunNow q chN s
  | .scStartResume q chN => Sys2Proof.Machine.execScStartResume q chN s
  | .scStartRestart q chN => Sys2Proof.Machine.execScStartRestart q chN s
  | .scStopChainEnd q chN => Sys2Proof.Machine.execScStopChainEnd q chN s
  | .scStopBurstEnd q chN => Sys2Proof.Machine.execScStopBurstEnd q chN s
  | .scStatus q chN count => Sys2Proof.Machine.execScStatus q chN count s
  | .streamTimerFire dt tmr => Sys2Proof.Machine.execStreamTimerFire dt tmr s
  | .descriptorDone dt ch => Sys2Proof.Machine.execDescriptorDone dt ch s
  | .burstBusError dt ch offset addr => Sys2Proof.Machine.execBurstBusError dt ch offset addr s
  | .burstRetry dt ch => Sys2Proof.Machine.execBurstRetry dt ch s
  | .snapDeadline dt ch => Sys2Proof.Machine.execSnapDeadline dt ch s
  | .updateBegin q payload => Sys2Proof.Machine.execUpdateBegin q payload s
  | .updateBeginChecked dt => Sys2Proof.Machine.execUpdateBeginChecked dt s
  | .flashEraseDone dt blankOk => Sys2Proof.Machine.execFlashEraseDone dt blankOk s
  | .updateBlock q payload => Sys2Proof.Machine.execUpdateBlock q payload s
  | .programComplete dt words readOk => Sys2Proof.Machine.execProgramComplete dt words readOk s
  | .updateVerify q tid => Sys2Proof.Machine.execUpdateVerify q tid s
  | .verifyDone dt => Sys2Proof.Machine.execVerifyDone dt s
  | .updateCommit q tid => Sys2Proof.Machine.execUpdateCommit q tid s
  | .updateAbort q tid => Sys2Proof.Machine.execUpdateAbort q tid s
  | .updateStatus q => Sys2Proof.Machine.execUpdateStatus q s
  | .handoverBootDone dt accepted pages => Sys2Proof.Machine.execHandoverBootDone dt accepted pages s
  | .handoverBootTimeout dt => Sys2Proof.Machine.execHandoverBootTimeout dt s
  | .catchupTimeout dt => Sys2Proof.Machine.execCatchupTimeout dt s
  | .selfCheckReport dt pass => Sys2Proof.Machine.execSelfCheckReport dt pass s
  | .trialWindowEnd dt => Sys2Proof.Machine.execTrialWindowEnd dt s
  | .smRestartDone dt testOk => Sys2Proof.Machine.execSmRestartDone dt testOk s
  | .portReload dt => Sys2Proof.Machine.execPortReload dt s
  | .portLockTimeout dt => Sys2Proof.Machine.execPortLockTimeout dt s
  | .imageInfo q => Sys2Proof.Machine.execImageInfo q s
  | .handoverStatus q => Sys2Proof.Machine.execHandoverStatus q s
  | .sporeEnter q key => Sys2Proof.Machine.execSporeEnter q key s
  | .tachEdge dt ch => Sys2Proof.Machine.execTachEdge dt ch s
  | .domainOnReached dt pd => Sys2Proof.Machine.execDomainOnReached dt pd s
  | .sramEccError dt => Sys2Proof.Machine.execSramEccError dt s
  | .estopPathOpen dt => Sys2Proof.Machine.execEstopPathOpen dt s

end Sys2Proof.Machine
end

