-- ==== Sys2Proof/Machine/Pins.lean ====
section
/-! DEFINITION. What the node drives at its connectors, derived from its state: the output states of Table 2.25 and the rules that keep
them (R42, R44, R62, R75, R76, R242, R249, R278, R475, R476, R616, R623). The driver channels' switches stand in Gates.lean. -/

namespace Sys2Proof.Machine

/-- The output stage serves its outputs: CTRL runs, and neither VS_POWER's loss nor a thermal shutdown holds them off (R55, R75, R601). -/
def State.stageServes (s : State) : Bool := s.ctrlRuns && !s.outputsOff

/-! ### Fans (R44, R453, R475, R476) -/

/-- A half-bridge of F0–F5: both switches off, the low switch on, or switching with this duty in 0.1 %. -/
inductive BuckPin where
  | off | low | duty (d : Nat)
  deriving DecidableEq, Repr

/-- The PWM line of F6–F11: not driven, driven low, or carrying this duty in 0.1 %. -/
inductive PwmPin where
  | floating | low | duty (d : Nat)
  deriving DecidableEq, Repr

/-- The channel runs, or still ramps down to its stop (R480, R511). -/
def Fan.runs (f : Fan) : Bool := f.state.driven || f.ending

/-- Fan channel `n` is served: its domain is on. -/
def State.fanServed (s : State) (n : Fin 12) : Bool := s.stageServes && s.domOn (45 + n.val)

/-- Fk_OUT (R475). A command for both switches turns both off for its PWM period of 5 µs (R453). Before its domain is on, a channel that
is configured stands as Table 2.25 has it when CTRL runs: the low switch on (log entry 137). -/
def State.buckPin (s : State) (n : Fin 12) : BuckPin :=
  let f := s.fan.ch[n]
  if !s.stageServes || s.domDead (45 + n.val) then .off
  else if f.shootRun != 0 && s.since f.shootUp < 5000 then .off
  else if s.fanServed n && f.runs then .duty f.dutyOut
  else .low

/-- The PWM line (R476): driven while the channel's domain is on. -/
def State.pwmPin (s : State) (n : Fin 12) : PwmPin :=
  let f := s.fan.ch[n]
  if !s.fanServed n then .floating else if f.runs then .duty f.dutyOut else .low

/-- FAN_V: on while the channel runs, never while the PWM line is not driven (R44). -/
def State.fanV (s : State) (n : Fin 12) : Bool := s.pwmPin n != .floating && (s.fan.ch[n]).runs

/-! ### Loop outputs (R75, R339) -/

/-- The current of output `n` in µA: 0 before CTRL runs and where the output is lost. -/
def State.loopPin (s : State) (n : Fin 8) : Nat := if s.ctrlRuns && !s.loLost n then (s.loop[n]).now else 0

/-! ### Heat permit (R76, R623, R649) -/

/-- In a test pulse that begins at `off` ns of every 50 ms from the permit-on instant (Table 15.5). -/
def State.hpPulse (s : State) (off : Nat) : Bool :=
  let t := s.since s.safe.grantUp
  ms 50 ≤ t && off ≤ t % ms 50 && t % ms 50 < off + 300000

/-- The output stage can close the pair: the VS_POWER-fed part of PD67 is on (R62, R76). -/
def State.hpServed (s : State) : Bool := s.ctrlRuns && s.pow.vpOk && s.pow.ioVpOn

/-- The 20 ms of a permit proof test that begin at `k` × 20 ms (R649; log entry 98). -/
def State.hpProof (s : State) (k : Nat) : Bool :=
  match s.safe.proof with
  | some p => p.kind == 1 && s.since p.startUp / ms 20 == k
  | none => false

/-- HP_A conducts. -/
def State.hpPinA (s : State) : Bool :=
  s.hpServed && ((s.permitOn && s.safe.aCmd && !s.hpPulse 0) || (!s.permitOn && s.hpProof 0))

/-- HP_B conducts. -/
def State.hpPinB (s : State) : Bool :=
  s.hpServed && ((s.permitOn && s.safe.bCmd && !s.hpPulse (ms 25)) || (!s.permitOn && s.hpProof 1))

/-! ### Test outputs and supplies (R42, R75, R616) -/

/-- TOa (false) or TOb (true) stands high: it pulses while SM runs, 500 µs low every 10 ms, TOb 5 ms after TOa. Where in the 10 ms the
pulses of TOa fall is open (log entry 136). -/
def State.testPin (s : State) (ofB : Bool) : Bool :=
  s.pow.smUp && s.pow.stage != .powerDown &&
    500000 ≤ (s.clk.upNs + Config.testPhaseNs + (if ofB then ms 5 else 0)) % ms 10

/-- IN_V, from VS_POWER with PD67, once CTRL runs (Table 2.25). -/
def State.inV (s : State) : Bool := s.hpServed

/-- IN_V_AON, from VS_LOGIC: on while VS_LOGIC lasts, in moss state too. -/
def State.inVAon (s : State) : Bool := s.pow.vlOk

/-- The VEX and LPWR pins of channel-group domain `d` (0 to 7) (R242). -/
def State.vexPin (s : State) (d : Nat) : Bool := s.ctrlRuns && s.domOn d

/-! ### Sources of the front end (R249, R278) -/

/-- The excitation current of an IEXC code, in nA. -/
def iexcNa (code : Nat) : Nat :=
  match code with
  | 0 => 100000
  | 1 => 250000
  | 2 => 500000
  | _ => 1000000

/-- The channel whose RTD a slot of channel `n` excites: its own, or for a PARTNER its primary's (R246). -/
def State.excitedBy (s : State) (n : Fin 64) : Option (Fin 64) :=
  let c := (s.fe.ch[n]).cfg
  if isRtd c.typ then some n
  else if c.typ == 0x0C then some ⟨n.val - 1, by omega⟩
  else none

/-- The excitation of group `g`: the channel it flows through and its current in nA. It flows during the slots of a channel and its partner,
which follow each other, and at no other time (R249). -/
def State.excitation (s : State) (g : Fin 4) : Option (Fin 64 × Nat) :=
  let x := s.fe.grp[g]
  if !(x.inScan && x.checkDone) then none
  else match s.nextSlot g with
    | none => none
    | some n => (s.excitedBy n).map fun m => (m, iexcNa (s.fe.ch[m]).cfg.iexc)

/-- The burn-out source of channel `n` into IN+, in nA: continuous while the channel's domain is on (R278). -/
def State.burnNa (s : State) (n : Fin 64) : Nat :=
  if !s.domOn (n.val / 8) then 0
  else match (s.fe.ch[n]).cfg.burn with
    | 1 => 250
    | 2 => 2500
    | _ => 0

end Sys2Proof.Machine
end

