-- ==== Sys2Proof/Safety.lean ====
section
/-! DEFINITION. The terms that claims use: which parts of the state a command may touch, what it means that a command completes, and
what counts as a safe state (nothing that heats draws power without the permit). -/

namespace Sys2Proof.Machine

/-- The parts of the state, as State.lean names them. -/
inductive Part where
  | clk | sys | pow | ring | frm | auth | run | cfgs | fe | tab | snap | loop | die | drv | fan | prog
  | conv | stitch | energy | lich | therm | safe | inj | log | cnt | se | upd | ho | dio | mem | free | pending
  deriving DecidableEq, Repr

/-- Part `p` of two states is the same. -/
def Part.same (p : Part) (s t : State) : Prop :=
  match p with
  | .clk => s.clk = t.clk
  | .sys => s.sys = t.sys
  | .pow => s.pow = t.pow
  | .ring => s.ring = t.ring
  | .frm => s.frm = t.frm
  | .auth => s.auth = t.auth
  | .run => s.run = t.run
  | .cfgs => s.cfgs = t.cfgs
  | .fe => s.fe = t.fe
  | .tab => s.tab = t.tab
  | .snap => s.snap = t.snap
  | .loop => s.loop = t.loop
  | .die => s.die = t.die
  | .drv => s.drv = t.drv
  | .fan => s.fan = t.fan
  | .prog => s.prog = t.prog
  | .conv => s.conv = t.conv
  | .stitch => s.stitch = t.stitch
  | .energy => s.energy = t.energy
  | .lich => s.lich = t.lich
  | .therm => s.therm = t.therm
  | .safe => s.safe = t.safe
  | .inj => s.inj = t.inj
  | .log => s.log = t.log
  | .cnt => s.cnt = t.cnt
  | .se => s.se = t.se
  | .upd => s.upd = t.upd
  | .ho => s.ho = t.ho
  | .dio => s.dio = t.dio
  | .mem => s.mem = t.mem
  | .free => s.free = t.free
  | .pending => s.pending = t.pending

/-- `t` differs from `s` in no part but those listed. -/
def Only (l : List Part) (s t : State) : Prop := ∀ p, p ∉ l → p.same s t

/-- Every part of `k` is one of `l`. -/
abbrev Within (k l : List Part) : Prop := (k.all fun p => l.contains p) = true

/-- The parts of the state that command `i` may change. -/
def touches (i : Instr) : List Part :=
  match i with
  | .vsLogicPowerUp _ | .vsLogicRecoverInPowerDown _ | .fullReset _ | .mossShutdown _ | .wakeSymbolRx _ _ | .di00Wake _ _ | .svcWake _ =>
      [.clk, .sys, .pow, .ring, .frm, .auth, .run, .cfgs, .fe, .tab, .snap, .loop, .die, .drv, .fan, .prog, .conv, .stitch, .energy, .lich, .therm,
       .safe, .inj, .log, .cnt, .se, .upd, .ho, .dio, .mem]
  | .sporeSample _ _ =>
      [.clk, .pow, .log, .ho]
  | .smStart _ _ =>
      [.clk, .pow, .drv, .fan, .safe, .log]
  | .ringReady _ _ _ =>
      [.clk, .pow, .ring]
  | .ctrlRunning _ =>
      [.clk, .sys, .pow, .frm, .run, .cfgs, .fe, .snap, .loop, .die, .drv, .fan, .prog, .energy, .therm, .log, .ho]
  | .vsLogicPowerDown _ =>
      [.clk, .pow, .loop, .drv, .fan, .safe, .log, .cnt]
  | .vsPowerUndervoltage _ | .vsPowerOvervoltage _ =>
      [.clk, .pow, .loop, .drv, .fan, .prog, .safe, .inj, .log, .cnt]
  | .vsPowerRestored _ | .domainOnReached _ _ =>
      [.clk, .pow, .loop, .drv, .fan, .log]
  | .pdOnTimeout _ _ =>
      [.clk, .pow, .loop, .drv, .fan, .inj, .log, .ho]
  | .domainOffAfterRelease _ _ =>
      [.clk, .pow, .fe, .drv]
  | .clkFault _ =>
      [.clk, .sys, .drv, .safe, .log, .cnt]
  | .avsAdjust _ _ =>
      [.clk, .sys, .inj, .log]
  | .controlTick _ | .frameReceive _ _ _ _ _ =>
      [.clk, .sys, .pow, .ring, .frm, .auth, .run, .cfgs, .fe, .tab, .snap, .loop, .die, .drv, .fan, .prog, .conv, .stitch, .energy, .lich, .therm,
       .safe, .inj, .log, .cnt, .se, .upd, .ho, .mem, .free]
  | .tickCommit _ | .stbyWriteDropped _ | .markHoldover _ =>
      [.clk, .sys]
  | .coreWatchdogFail _ | .offStateSample _ _ _ _ | .drvShortSupDetect _ _ _ | .drvShortLoadDetect _ _ _ | .drvShortGndDetect _ _ _
  | .hpTestPulse _ _ _ | .airOkDisagree _ _ | .hpBEnableStatic _ | .scrcRecheck _ _ =>
      [.clk, .loop, .drv, .prog, .safe, .inj, .log, .cnt]
  | .processTick =>
      [.clk, .sys, .fe, .loop, .drv, .fan, .prog, .energy, .safe, .log, .free]
  | .snapshotPublish =>
      [.clk, .frm, .fe, .tab, .snap, .prog, .log, .se, .upd, .ho, .mem, .free]
  | .markReceive _ _ _ _ =>
      [.clk, .sys, .ring, .fe, .tab, .snap, .loop, .die, .drv, .fan, .prog, .stitch, .inj, .log, .se]
  | .markSourceTimeout _ =>
      [.clk, .sys, .fe, .tab, .snap, .loop, .die, .drv, .fan, .prog, .stitch, .inj, .log, .se]
  | .ctSaturate _ | .ctLoRead _ =>
      [.clk]
  | .replySend _ _ =>
      [.clk, .sys, .pow, .ring, .frm, .auth]
  | .keptFrameRelease _ _ | .linkIdSend _ _ | .linkIdReceive _ _ _ | .eqAdapt _ _ _ _ _ | .marginLowDetect _ _ | .rangeRequestSend _ _
  | .rangeReceive _ _ _ _ | .turnaroundExit _ _ | .rateSearchSwitch _ _ | .wakeSymbolSend _ _ =>
      [.clk, .ring]
  | .lossOfLock _ _ _ _ _ =>
      [.clk, .ring, .inj, .log]
  | .relock _ _ | .ringRateSwitch _ =>
      [.clk, .ring, .log]
  | .wakeSeen _ _ =>
      [.clk, .ring, .free]
  | .ringStatus _ =>
      [.clk, .frm, .auth]
  | .castOn _ _ _ =>
      [.clk, .ring, .frm, .auth]
  | .addrAssign _ _ _ _ | .addrPin _ _ | .ringRate _ _ _ | .wakeSend _ _ =>
      [.ring, .frm, .auth]
  | .bindOff _ _ =>
      [.pow, .ring, .frm, .auth]
  | .sweepResume _ _ | .sweep _ _ | .pollResult _ _ | .mossEnter _ | .identify _ | .statusRead _ | .reset _ _ | .cfgRead _ _ _ _ | .sessionClose _
  | .sessionStatus _ | .chStatus _ _ _ | .tableRead _ _ | .readResults _ _ _ _ | .readResultsFull _ _ _ _ | .loopStatus _ _ _
  | .probeReadSnapshot _ _ _ _ | .probeReadConfig _ _ _ | .probeReadCrop _ _ | .drvStatus _ _ _ | .drvEnergy _ _ _ | .fanStatus _ _ _
  | .progStatusSummary _ | .progStatusParcels _ _ _ | .stitchStatus _ _ _ | .safeStatus _ | .safeConfigRead _ _ | .logInfo _ | .countersRead _
  | .scStatus _ _ _ | .updateStatus _ | .imageInfo _ | .handoverStatus _ | .sporeEnter _ _ =>
      [.frm, .auth]
  | .needleTake _ _ _ =>
      [.frm, .auth, .fan, .lich, .safe, .inj, .log]
  | .needleGiveRelease _ | .needleGiveLichen _ =>
      [.frm, .auth, .loop, .drv, .fan, .prog, .lich, .safe, .inj, .log, .cnt]
  | .resultExpire _ _ =>
      [.clk, .frm]
  | .hostTimeoutExpire =>
      [.frm, .loop, .drv, .fan, .prog, .lich, .safe, .inj, .log, .cnt]
  | .cfgWrite _ _ _ _ _ =>
      [.frm, .auth, .run, .fe, .loop, .die, .drv, .fan, .prog, .conv, .lich, .therm, .log, .se, .free]
  | .cfgSave _ _ =>
      [.frm, .auth, .cfgs]
  | .cfgSaveDone _ _ =>
      [.clk, .frm, .cfgs, .free]
  | .sessionOpen _ _ _ =>
      [.frm, .auth, .free]
  | .keyLoadPlain _ _ _ _ | .keyLoadWrapped _ _ _ _ | .keyLoadErase _ _ _ | .logRead _ _ _ =>
      [.frm, .auth, .log]
  | .pendingSessionExpire _ _ =>
      [.clk, .auth]
  | .scanStart _ _ | .ovdTrip _ _ _ | .ovdClear _ _ =>
      [.clk, .fe]
  | .checkSlotEnd _ _ _ _ =>
      [.clk, .fe, .loop, .drv, .prog, .safe, .inj, .log, .cnt]
  | .conversionEnd _ _ _ _ =>
      [.clk, .fe, .loop, .drv, .prog, .energy, .safe, .inj, .log, .cnt, .se]
  | .cjSampleEnd _ _ _ _ =>
      [.clk, .fe, .inj, .log]
  | .chConfig _ _ =>
      [.frm, .auth, .run, .fe]
  | .scanConfig _ _ _ _ =>
      [.frm, .auth, .run]
  | .tableWrite _ _ _ | .tableErase _ _ =>
      [.frm, .auth, .tab]
  | .loopConfig _ _ =>
      [.frm, .auth, .run, .loop]
  | .loopSetSet _ _ _ | .loopSetClose _ _ _ | .loopSetResume _ _ _ =>
      [.frm, .auth, .loop, .prog, .stitch]
  | .loopOpenDetect _ _ | .loopShortDetect _ _ | .loopDevDetect _ _ =>
      [.clk, .loop, .inj, .log]
  | .probeCycleStart _ =>
      [.clk, .die]
  | .probeMeasureEnd _ _ _ _ _ _ _ _ =>
      [.clk, .frm, .die, .inj, .log, .free]
  | .probeConfigPort _ _ _ _ _ _ | .probeConfigCrop _ _ _ | .probeConfigCropErase _ _ | .probeConfigCycle _ _ _ | .probeCalAir _ _
  | .probeCalSample _ _ _ _ _ | .probeCalApply _ _ | .probeCalReset _ _ | .probeCalDiscard _ _ =>
      [.frm, .auth, .die]
  | .drvCmdOn _ _ _ _ | .drvCmdPulse _ _ _ _ | .drvCmdRelease _ _ _ _ | .drvCmdSetI _ _ _ _ | .drvCmdLatchA _ _ _ _ | .drvCmdLatchB _ _ _ _
  | .drvCmdReleaseMask _ _ _ _ =>
      [.frm, .auth, .drv, .prog, .stitch, .inj, .log]
  | .drvProfile _ _ | .drvPair _ _ | .drvUnpair _ _ | .drvBudget _ _ | .drvDiagConfig _ _ _ _ _ _ _ =>
      [.frm, .auth, .run, .drv]
  | .risePeakReached _ _ _ _ | .dwellEnd _ _ _ _ | .drvOvertemp _ _ _ | .legConflictDetect _ _ =>
      [.clk, .drv, .inj, .log]
  | .tBoostMaxExpire _ _ _ _ _ _ | .decayEnd _ _ | .pulseEnd _ _ | .tHoldMaxExpire _ _ | .pairReverseRise _ _ | .reservoirCharged _ _ _
  | .boostOrderReview _ | .drvOpenDetect _ _ _ _ _ | .boostWaitReady _ _ _ | .tBoostWaitExpire _ _ | .drvOvertempRecover _ _ _
  | .drvRetryRestore _ _ | .directDriveEnd _ _ _ =>
      [.clk, .drv]
  | .releaseEnd _ _ _ =>
      [.clk, .drv, .energy, .inj, .log]
  | .drvRetryTimer _ _ =>
      [.clk, .drv, .log]
  | .drvDiagDirect _ _ _ _ =>
      [.frm, .auth, .drv, .free]
  | .drvFaultClear _ _ _ =>
      [.frm, .auth, .drv]
  | .fanTargetForm _ | .fanRetryTimer _ _ =>
      [.clk, .fan, .log]
  | .fanSpinUpEnd _ _ | .fanStallDetect _ _ | .fanElectricalFault _ _ _ | .shootBlockDetect _ _ =>
      [.clk, .fan, .inj, .log]
  | .fanRetryRestore _ _ | .fanOvertempRecover _ _ _ | .fanFailoverExit _ _ | .airOkUpdate _ | .tachEdge _ _ =>
      [.clk, .fan]
  | .fanCmdSet _ _ _ _ | .fanCmdFailover _ _ _ _ | .fanCmdResume _ _ _ _ | .fanTable _ _ _ | .fanRetry _ _ _ =>
      [.frm, .auth, .fan]
  | .fanConfig _ _ =>
      [.frm, .auth, .run, .fan, .log]
  | .fanGroup _ _ _ _ _ _ _ =>
      [.frm, .auth, .run, .fan]
  | .progLoad _ _ _ _ =>
      [.frm, .auth, .prog, .log]
  | .progStartStart _ | .progStartResume _ | .progStopOrderly _ | .progStopHold _ | .progStopAbort _ | .progSet _ _ _ =>
      [.frm, .auth, .prog]
  | .dischargeStroke _ =>
      [.clk, .drv, .prog, .inj, .log]
  | .parcelStore _ =>
      [.clk, .prog]
  | .aerationDecision _ =>
      [.clk, .fan, .prog]
  | .convCmdStart _ _ | .convCmdStopUpstream _ _ | .convCmdStopNow _ _ | .convCmdReset _ _ =>
      [.frm, .auth, .drv, .conv, .inj, .log]
  | .convConfigStage _ _ | .convConfigLine _ _ =>
      [.frm, .auth, .run, .conv]
  | .stageStartDelay _ _ =>
      [.clk, .drv, .conv, .inj, .log]
  | .stageClearDelay _ _ | .stageProveTimeout _ _ =>
      [.clk, .drv, .conv]
  | .diFilterChange _ _ _ _ =>
      [.clk, .conv, .dio]
  | .stitchWrite _ _ _ _ | .stitchClear _ _ _ =>
      [.frm, .auth, .stitch]
  | .stitchExecute _ =>
      [.clk, .loop, .drv, .fan, .prog, .stitch, .inj, .log]
  | .energyRead _ | .energyReadRestart _ =>
      [.frm, .auth, .energy, .free]
  | .lichenConfig _ _ =>
      [.frm, .auth, .lich]
  | .lichenHeatExpire _ =>
      [.clk, .loop, .drv, .prog, .lich, .safe, .log, .cnt]
  | .thermSample _ _ | .thermalShutdown _ =>
      [.clk, .loop, .drv, .fan, .prog, .therm, .safe, .inj, .log, .cnt]
  | .ts7PeriodTimer _ | .ts7Stale _ =>
      [.clk, .therm]
  | .ts7SampleEnd _ _ =>
      [.clk, .therm, .inj, .log]
  | .shutdownExit _ =>
      [.clk, .loop, .drv, .fan, .therm, .log]
  | .thermRead _ _ | .thermReadSample _ _ =>
      [.frm, .auth, .therm]
  | .thermConfig _ _ _ _ =>
      [.frm, .auth, .run, .therm]
  | .smCycle _ _ _ _ | .testOutputPulse _ _ _ _ | .siDiscrepancy _ _ =>
      [.clk, .frm, .loop, .drv, .fan, .prog, .safe, .inj, .log, .cnt]
  | .hpOpenDetect _ _ _ _ | .safeConfigExpire _ | .ptAgeDay _ =>
      [.clk, .safe]
  | .airflowLoss _ | .flameProveTimeout _ =>
      [.clk, .loop, .drv, .prog, .safe, .log, .cnt]
  | .flameOffTimeout _ =>
      [.clk, .safe, .log]
  | .smLockstepMismatch _ | .smEccError _ | .smWatchdogMiss _ _ =>
      [.clk, .loop, .drv, .prog, .safe, .inj, .log, .cnt, .ho]
  | .permitRequest _ | .safeConfigWrite _ _ | .proofTestPermit _ | .proofTestRelease _ | .proofTestReport _ =>
      [.frm, .auth, .safe]
  | .permitDrop _ =>
      [.frm, .auth, .loop, .drv, .prog, .stitch, .safe, .log, .cnt]
  | .safeConfigConfirm _ _ | .safeReset _ _ =>
      [.frm, .auth, .drv, .fan, .safe, .log]
  | .proofTestDone _ _ _ _ =>
      [.clk, .frm, .safe, .log]
  | .testOpen _ _ _ | .inject _ _ _ _ _ | .injectClear _ _ | .testClose _ =>
      [.frm, .auth, .inj, .log]
  | .injectExpire _ _ | .testTimeout _ =>
      [.clk, .inj, .log]
  | .flagClear _ _ _ | .registerWrite _ _ _ _ =>
      [.clk, .sys, .pow, .ring, .frm, .auth, .fe, .loop, .die, .drv, .fan, .prog, .conv, .stitch, .lich, .therm, .inj, .log, .se, .upd, .ho]
  | .logEntryWrite _ _ =>
      [.clk, .log, .se]
  | .memRead _ _ _ =>
      [.clk, .frm, .auth, .snap, .free]
  | .memWrite _ _ _ =>
      [.clk, .sys, .pow, .ring, .frm, .auth, .fe, .loop, .die, .drv, .fan, .prog, .conv, .stitch, .lich, .therm, .inj, .log, .se, .upd, .ho, .mem]
  | .rbRdWrite _ _ _ | .streamTimerFire _ _ | .burstRetry _ _ =>
      [.clk, .se]
  | .scConfigDescriptor _ _ _ | .scConfigTimer _ _ _ _ | .scConfigRing _ _ _ _ _ _ | .scConfigChannel _ _ _ =>
      [.frm, .auth, .run, .se, .free]
  | .scStartArm _ _ | .scStartRunNow _ _ | .scStartResume _ _ | .scStartRestart _ _ =>
      [.frm, .auth, .se]
  | .scStopChainEnd _ _ | .scStopBurstEnd _ _ =>
      [.clk, .frm, .auth, .se, .mem, .free]
  | .descriptorDone _ _ | .burstBusError _ _ _ _ | .snapDeadline _ _ =>
      [.clk, .se, .mem, .free]
  | .updateBegin _ _ | .updateAbort _ _ =>
      [.frm, .auth, .log, .upd]
  | .updateBeginChecked _ =>
      [.clk, .sys, .frm, .log, .upd, .mem]
  | .flashEraseDone _ _ | .verifyDone _ =>
      [.clk, .frm, .log, .upd]
  | .updateBlock _ _ =>
      [.frm, .auth, .log, .se, .upd]
  | .programComplete _ _ _ =>
      [.clk, .frm, .log, .upd, .mem]
  | .updateVerify _ _ =>
      [.frm, .auth, .upd]
  | .updateCommit _ _ =>
      [.pow, .ring, .frm, .auth, .inj, .log, .upd, .ho]
  | .handoverBootDone _ _ _ | .handoverBootTimeout _ | .catchupTimeout _ =>
      [.clk, .sys, .frm, .log, .upd, .ho]
  | .selfCheckReport _ _ | .portLockTimeout _ | .sramEccError _ =>
      [.clk, .ho]
  | .trialWindowEnd _ =>
      [.clk, .frm, .log, .upd, .ho]
  | .smRestartDone _ _ =>
      [.clk, .pow, .frm, .drv, .fan, .safe, .log, .upd, .ho]
  | .portReload _ =>
      [.clk, .ring, .frm, .log, .upd, .ho]
  | .estopPathOpen _ =>
      [.clk, .drv, .fan, .log, .ho]

/-- Command `i` completes from `s`: it answers a next state, of which `p` holds, and which differs from `s` in no part but those of `l`. -/
def Completes (i : Instr) (s : State) (l : List Part) (p : State → Prop) : Prop := ∃ t, exec i s = .next t ∧ Only l s t ∧ p t

/-- The node runs and takes a request of `q`'s sender: fewer than eight of its replies are queued (R168), and it is no broadcast. -/
def State.hears (s : State) (q : Req) : Bool :=
  s.pow.stage == .running && decide ((s.frm.replies[senderIx q.sender]).length < 8) && !q.bcast

/-- The node runs and has room for a reply to `q`'s sender (R168); a broadcast counts too. -/
def State.listens (s : State) (q : Req) : Bool := s.pow.stage == .running && decide ((s.frm.replies[senderIx q.sender]).length < 8)

/-- The request carries a tag where the protection level asks for one (R202). -/
def State.trusts (s : State) (q : Req) : Bool := !s.guarded || q.auth

/-- The sender's order is executed: it is heard, signed, and the sender holds the needle (R177). -/
def State.obeys (s : State) (q : Req) : Bool := s.hears q && s.trusts q && s.frm.holder == senderHolder q.sender

/-- The reply to `q` under opcode `opc` has been queued for its sender, behind the replies that waited: status `st`, then `data` (R152,
R164). No other sender's queue has changed. -/
def Answered (q : Req) (mem : Bool) (opc : Nat) (st : Status) (data : List Byte) (s t : State) : Prop :=
  ∃ r : Reply, r.opc = opc ∧ r.mem = mem ∧ r.seq = q.seq ∧ r.sweep = q.sweep ∧ r.payload = BitVec.ofNat 8 (statusCode st) :: data ∧
    t.frm.replies = vmod s.frm.replies (senderIx q.sender) fun l => l ++ [r]

/-- `t` is what a start with CAUSE `c` leaves of `s`: the boot sequence, or spore mode; SM, the ring and the outputs not up yet; the permit
not on; no session, no test session; the keys, the stored sets and SM's store kept; one start more counted (R64, R65, Table 2.24). -/
def Started (c : Nat) (s t : State) : Prop :=
  (t.pow.stage = .boot ∨ t.pow.stage = .spore) ∧ t.pow.rstCause = c ∧ t.pow.smUp = false ∧ t.pow.bypassOpen = false ∧
    t.safe.permit ≠ .on ∧ t.safe.latch = s.safe.latch ∧ t.drv = { ch := Vector.replicate 32 { bleedUp := some 0 } } ∧ t.run = RunCfg.factory ∧ t.inj = {} ∧
    t.auth.openS = Vector.replicate 3 none ∧ t.auth.pendS = Vector.replicate 3 none ∧ t.auth.key = s.auth.key ∧
    t.auth.keyVer = s.auth.keyVer ∧ t.cfgs.copy = s.cfgs.copy ∧ t.tab.stored = s.tab.stored ∧ t.prog.items = s.prog.items ∧
    t.cnt.starts = inc32 s.cnt.starts ∧ t.clk.upNs = 0

/-- A driver phase in which the channel runs no current of its own. -/
def Phase.quiet (p : Phase) : Bool :=
  match p with
  | .rise | .dwell | .decay | .hold | .prop | .wait => false
  | _ => true

/-- The activation of `v` has ended as abandoned or refused with RESULT `r`: transfer and target bank are VERIFIED again, the standby core
is held, the flag and count of it are raised, and the ticket's outcome is `st` (R770, R776). -/
def Abandoned (r : Nat) (st : Status) (v t : State) : Prop :=
  t.ho.phase = .none ∧ t.ho.result = r ∧ t.ho.abandon = v.ho.abandon.raise ∧ t.upd.state = .verified ∧
    t.upd.dir = vmod v.upd.dir v.xferBank (fun d => { d with state := .verified }) ∧ t.sys.stbyUp = false ∧
    ∃ data, t.frm = (v.finish v.ho.ticket st data).frm

/-- Of the ring block nothing but port `p` has changed. -/
def PortOnly (p : PortId) (s t : State) : Prop :=
  t.port (portOther p) = s.port (portOther p) ∧ { t.ring with ca := s.ring.ca, cb := s.ring.cb } = s.ring

end Sys2Proof.Machine

namespace Sys2Proof.Safety

open Sys2Proof.Machine

/-- No driver channel that carries a heat actuator runs a current (phases 1 to 4 and 6 of Table 9.2; RELEASE takes the current
away). -/
def heatQuiet (s : State) : Bool :=
  (List.finRange 32).all fun n =>
    !(s.run.prof[n]).heat ||
      match (s.drv.ch[n]).phase with
      | .rise | .dwell | .decay | .hold | .prop | .wait => false
      | _ => true

/-- A permit that was on has gone for `reason` of Table 15.7, and no heat actuator runs a current (R17, R411, R637). -/
def removed (reason : Nat) (t : State) : Prop :=
  t.safe.permit ≠ .on ∧ t.safe.lastReason = reason ∧ heatQuiet t = true

/-- The permit is on, or no heat actuator runs a current. -/
def safe (s : State) : Bool := s.safe.permit == .on || heatQuiet s

end Sys2Proof.Safety
end

