-- ==== Sys2Proof/Certificates/Slice0/Obligations.lean ====
section
/-! DEFINITION. The statements for the provers. -/

open Sys2Proof Sys2Proof.Machine

/-- One step of a state with `c` in front of its queue is `exec c` on the state with the queue's rest. -/
def Obligations.StepRunsFront : Prop :=
  ∀ (c : Instr) (rest : List Instr) (s : State), step { s with pending := c :: rest } = exec c { s with pending := rest }

/-! ### Starts, supplies, domains, clock (chapters 1 and 2) -/

/-- The parts that a start may change: all but the free values and the queue. -/
def startParts : List Part :=
  [.clk, .sys, .pow, .ring, .frm, .auth, .run, .cfgs, .fe, .tab, .snap, .loop, .die, .drv, .fan, .prog, .conv, .stitch, .energy,
   .lich, .therm, .safe, .inj, .log, .cnt, .se, .upd, .ho, .dio, .mem]

/-- Every start and every wake, and moss state on the way (R29, R64, R65, R69, R71, R72, R78, R192; log entry 68).
R29, R64, R65, R72, R78, R192: every way in which the node starts completes and leaves what `Started` says, with its CAUSE of Table
2.21: VS_LOGIC_POWER_UP while unpowered, VS_LOGIC_RECOVER_IN_POWER_DOWN within the sequence of Table 2.26, FULL_RESET once due. That the
start follows at once after the recovery is the model's choice (log entry 68).
R64, R69, R71: an enabled wake event in moss state starts the node with CAUSE 0x4; WAKE_CFG is kept, the flag of the source reads 1 and
its count has risen by one, to at most 0xFF, and the flags and counts of the other sources are kept. A wake event captured on the way into
moss state does the same as soon as moss state is reached (3 ms after the boundary of Table 2.22). -/
def Obligations.StartsAndWakes : Prop :=
  ((∀ (dt : Nat) (s : State), s.pow.stage = .off → Completes (.vsLogicPowerUp dt) s startParts (Started 1 s)) ∧
  (∀ (dt : Nat) (s : State), s.pow.stage = .powerDown → s.clk.upNs + dt < s.pow.downUp + 3000000 →
    Completes (.vsLogicRecoverInPowerDown dt) s startParts (Started 2 s)) ∧
  (∀ (dt due cause : Nat) (s : State), s.sys.resetDue = some (due, cause) → due ≤ s.clk.upNs + dt →
    Completes (.fullReset dt) s startParts (Started cause s))) ∧
  ((∀ (i : Fin 4) (dt : Nat) (rising : Bool) (c : Instr) (s : State), s.pow.stage = .moss →
    (c = .wakeSymbolRx dt .ca ∧ i = 0 ∧ bitOf s.pow.wakeCfg 0 = true ∨ c = .wakeSymbolRx dt .cb ∧ i = 1 ∧ bitOf s.pow.wakeCfg 0 = true ∨
      c = .di00Wake dt rising ∧ i = 2 ∧ bitOf s.pow.wakeCfg 1 = true ∧ rising = !bitOf s.pow.wakeCfg 3 ∨
      c = .svcWake dt ∧ i = 3 ∧ bitOf s.pow.wakeCfg 2 = true) →
    Completes c s startParts fun t => Started 4 s t ∧ t.pow.wakeCfg = s.pow.wakeCfg ∧
      t.pow.wakeSrc[i] = { set := true, cnt := min 0xFF ((s.pow.wakeSrc[i]).cnt + 1) } ∧
      ∀ j : Fin 4, j ≠ i → t.pow.wakeSrc[j] = s.pow.wakeSrc[j]) ∧
  (∀ (dt b : Nat) (s : State), s.pow.mossAt = some b → b + 3000 ≤ (s.advance dt).ctUs → s.pow.mossWake ≠ 0 →
    Completes (.mossShutdown dt) s startParts fun t => Started 4 s t ∧ t.pow.wakeCfg = s.pow.wakeCfg ∧ t.pow.wakeSrc = s.pow.wakeSrc) ∧
  (∀ (dt b : Nat) (s : State), s.pow.mossAt = some b → b + 3000 ≤ (s.advance dt).ctUs → s.pow.mossWake = 0 →
    Completes (.mossShutdown dt) s startParts fun t => t.pow.stage = .moss ∧ t.pow.pdOn = 0 ∧ t.pow.bypassOpen = false ∧
      t.pow.smUp = false ∧ t.safe.permit ≠ .on ∧ t.cnt.moss = inc32 s.cnt.moss ∧ (∀ n : Fin 32, (t.drv.ch[n]).phase.quiet = true) ∧
      (∀ n : Fin 12, (t.fan.ch[n]).duty = 0) ∧ ∀ n : Fin 8, (t.loop[n]).now = 0))


/-- R72 to R76, R94, R132, R659: what follows a start, in order. SPORE_SAMPLE with the strap high leads to spore mode with cause 1, with the
strap low it changes nothing but the time. SM_START starts the monitor with the permit OFF or LOCKED and its outputs off. RING_READY, once the
monitor runs or cannot start, opens the bypass, takes the pinned address or 0x00 and sets chain time to 0. CTRL_RUNNING starts the HOST_TIMEOUT interval. -/
def Obligations.BootStagesComplete : Prop :=
  (∀ (dt : Nat) (s : State), s.pow.stage = .boot → Completes (.sporeSample dt true) s [.clk, .pow, .log, .ho] fun t =>
    t.pow.stage = .spore ∧ t.ho.spore = 1) ∧
  (∀ (dt : Nat) (s : State), Completes (.sporeSample dt false) s [.clk] fun _ => True) ∧
  (∀ (dt : Nat) (ok : Bool) (s : State), s.pow.stage = .boot ∨ s.pow.stage = .spore → s.pow.smUp = false → s.passes 1 = true → s.domDead 64 = false →
    Completes (.smStart dt ok) s [.clk, .pow, .drv, .fan, .safe, .log] fun t => t.pow.smUp = true ∧
      (t.safe.permit = .off ∨ t.safe.permit = .locked) ∧ t.safe.aCmd = false ∧ t.safe.bCmd = false ∧ t.safe.airOk = false ∧ t.safe.proof = none ∧
      (ok = false → (t.safe.latch[Latch.smSelf.bit]).set = true) ∧ ∀ k : Fin 14, (s.safe.latch[k]).set = true → (t.safe.latch[k]).set = true) ∧
  (∀ (dt : Nat) (a b : Bool) (s : State), s.pow.stage = .boot → s.pow.bypassOpen = false → s.passes 2 = true → s.domDead 59 = false →
    s.domDead 60 = false → (s.pow.smUp = true ∨ s.passes 1 = false ∨ s.domDead 64 = true) → Completes (.ringReady dt a b) s [.clk, .pow, .ring] fun t => t.pow.stage = .ringReady ∧ t.pow.bypassOpen = true ∧
      t.ring.addr = s.ring.pinStore.getD 0 ∧ t.ring.pinned = s.ring.pinStore.isSome ∧ t.clk.ctNs = 0 ∧ t.ring.ca.lock = a ∧ t.ring.cb.lock = b ∧
      (∀ d ∈ [59, 60, 62, 63, 64, 65, 67], s.domDead d = false → t.domOn d = true)) ∧
  (∀ (dt : Nat) (s : State), s.pow.stage = .ringReady →
    Completes (.ctrlRunning dt) s [.clk, .sys, .pow, .frm, .run, .cfgs, .fe, .snap, .loop, .die, .drv, .fan, .prog, .energy, .therm, .log,
      .ho] fun t => t.pow.stage = .running ∧ t.frm.eventUp = s.clk.upNs + dt ∧
        t.run = (match s.cfgs.best with
          | some c => c.set
          | none => RunCfg.factory) ∧
        t.cfgs.fault = (s.cfgs.fault || s.cfgs.best.isNone) ∧ t.safe = s.safe ∧ t.energy.winStart = Vector.replicate 3 t.ctUs)

/-- R55: while the node is awake, VS_POWER outside its range opens the heat-permit outputs, releases every driver channel, turns the fans
and the loop outputs off, and sets and counts VP_UV or VP_OV; a permit that was on is off with reason 0x0E. The node stays awake. At the
connectors no pair conducts and no fan channel is driven (R44, R76). -/
def Obligations.VsPowerLossTurnsOutputsOff : Prop :=
  ∀ (dt : Nat) (high : Bool) (s : State), s.awake = true →
    Completes (if high then .vsPowerOvervoltage dt else .vsPowerUndervoltage dt) s [.clk, .pow, .loop, .drv, .fan, .prog, .safe, .inj, .log, .cnt]
      fun t => t.pow.vpOk = false ∧ t.pow.vpUv = (if high then s.pow.vpUv else s.pow.vpUv.raise) ∧
        t.pow.vpOv = (if high then s.pow.vpOv.raise else s.pow.vpOv) ∧ t.pow.stage = s.pow.stage ∧ t.safe.permit ≠ .on ∧
        (s.safe.permit = .on → t.safe.lastReason = 0x0E ∧ t.safe.aCmd = false ∧ t.safe.bCmd = false) ∧
        (∀ n : Fin 32, (t.drv.ch[n]).phase.quiet = true ∧ (t.drv.dg[n]).direct = none) ∧ t.hpPinA = false ∧ t.hpPinB = false ∧
        (∀ n : Fin 12, t.buckPin n = .off ∧ t.pwmPin n = .floating ∧ t.fanV n = false) ∧
        (∀ n : Fin 12, ((t.fan.ch[n]).state = .off ∨ (t.fan.ch[n]).state = .unavailable) ∧
          ((s.fan.ch[n]).state ≠ .unavailable → (t.fan.ch[n]).duty = 0)) ∧
        ∀ n : Fin 8, (t.loop[n]).now = 0

/-- The return of VS_POWER, the power-down sequence, and the power domains (R56 to R61, R77).
R56, R77: VS_POWER restored makes the outputs serve again and moves no driver channel; VS_LOGIC below its falling threshold turns every
output off, opens the permit, closes the bypass and switches the domains off, and changes neither latch nor removal count of SM.
R60, R61, R62, R392: a domain that is coming comes on, and a driver channel that was unavailable for it is idle again; one that has not
come on within 1 ms of its own request (without VS_POWER no time counts) is kept off, PD_FAULT is set and counted with its number, and its
driver channel is unavailable; a domain to go off goes off once its channel is no longer active, and its reservoir bleeds from then on. No
other domain's bit changes. PD67, once on, names its VS_POWER-fed part, whose failure leaves the node awake. -/
def Obligations.SupplyAndDomains : Prop :=
  ((∀ (dt : Nat) (s : State), s.pow.vpOk = false → s.injOn 0x0001 0 = false →
    Completes (.vsPowerRestored dt) s [.clk, .pow, .loop, .drv, .fan, .log] fun t => t.pow.vpOk = true ∧ t.pow.vpUp = s.clk.upNs + dt ∧
      ∀ n : Fin 32, t.drv.ch[n] = s.drv.ch[n]) ∧
  (∀ (dt : Nat) (s : State), s.awake = true →
    Completes (.vsLogicPowerDown dt) s [.clk, .pow, .loop, .drv, .fan, .safe, .log, .cnt] fun t => t.pow.stage = .powerDown ∧
      t.pow.vlOk = false ∧ t.pow.bypassOpen = false ∧ t.pow.pdOn = 0 ∧ t.safe.permit ≠ .on ∧ t.safe.aCmd = false ∧ t.safe.bCmd = false ∧
      t.safe.latch = s.safe.latch ∧ t.safe.removeCnt = s.safe.removeCnt ∧ t.log.queue = [] ∧
      (∀ n : Fin 32, (t.drv.ch[n]).phase.quiet = true ∧ (t.drv.dg[n]).direct = none) ∧ t.pow.ioVpOn = false ∧
      (∀ n : Fin 12, (t.fan.ch[n]).duty = 0 ∧ (t.fan.ch[n]).state = .off) ∧ ∀ n : Fin 8, (t.loop[n]).now = 0)) ∧
  ((∀ (dt d : Nat) (s : State), s.domComing d = true → s.injOn 2 d = false →
    Completes (.domainOnReached dt d) s [.clk, .pow, .loop, .drv, .fan, .log] fun t => t.domOn d = true ∧ t.domDead d = false ∧
      (∀ e, e ≠ d → t.domOn e = s.domOn e) ∧
      ∀ n : Fin 32, d = 13 + n.val → (t.drv.ch[n]).bleedUp = none ∧
        (s.domDead d = true → (s.drv.ch[n]).phase = .unavailable → (t.drv.ch[n]).phase = .idle)) ∧
  (∀ (dt d u : Nat) (s : State), s.domComing d = true → s.pow.asked d = some u →
    (if vpFed d then max u s.pow.vpUp else u) + 1000000 ≤ s.clk.upNs + dt →
    Completes (.pdOnTimeout dt d) s [.clk, .pow, .loop, .drv, .fan, .inj, .log, .ho] fun t => t.domOn d = false ∧ t.domDead d = true ∧
      t.pow.pdFaultId = d ∧ t.pow.pdFault = s.pow.pdFault.raise ∧ (∀ e, t.domOn e = s.domOn e) ∧
      ∀ n : Fin 32, d = 13 + n.val → (t.drv.ch[n]).phase = .unavailable) ∧
  (∀ (dt d : Nat) (s : State), d < 68 → s.pow.pdOff.getLsbD d = true → s.domActive d = false →
    Completes (.domainOffAfterRelease dt d) s [.clk, .pow, .fe, .drv] fun t => t.domOn d = false ∧ (∀ e, e ≠ d → t.domOn e = s.domOn e) ∧
      ∀ n : Fin 32, d = 13 + n.val → (t.drv.ch[n]).bleedUp = some (s.clk.upNs + dt)) ∧
  ∀ (dt : Nat) (s : State), s.ioComing = true →
    (s.injOn 2 67 = false → Completes (.domainOnReached dt 67) s [.clk, .pow] fun t => t.pow.ioVpOn = true ∧ t.pow.pdOn = s.pow.pdOn) ∧
    (∀ u, s.pow.ioVpUp = some u → max u s.pow.vpUp + 1000000 ≤ s.clk.upNs + dt →
      Completes (.pdOnTimeout dt 67) s [.clk, .pow, .inj, .log] fun t => t.pow.ioVpOn = false ∧ t.pow.ioVpDead = true ∧
        t.pow.pdFaultId = 67 ∧ t.pow.pdFault = s.pow.pdFault.raise ∧ t.pow.pdOn = s.pow.pdOn ∧ t.pow.stage = s.pow.stage))


/-- The clock monitor and the core supply (R29 to R31).
R28, R29: a trip of the clock monitor sets and counts CLK_FAULT, opens the permit outputs, releases every driver channel, and a full
reset with CAUSE 0x3 is due 1 ms later. A reset that is due already keeps its instant and its cause, which is the model's choice (log entry
111).
R30, R31: one step of the core supply moves VCORE by at most one, keeps it within 0x00 to 0x32, and takes place at most once per 100 µs;
a report of insufficient margin at 0x32 leaves it there, sets and counts AVS_LIMIT, and hands one entry to the field log, whenever it comes. -/
def Obligations.ClockAndCoreSupply : Prop :=
  (∀ (dt : Nat) (s : State), s.awake = true →
    Completes (.clkFault dt) s [.clk, .sys, .drv, .safe, .log, .cnt] fun t => t.sys.clkFault = s.sys.clkFault.raise ∧
      t.sys.resetDue = (match s.sys.resetDue with
        | some x => some x
        | none => some (s.clk.upNs + dt + 1000000, 3)) ∧ t.safe.permit ≠ .on ∧ t.safe.aCmd = false ∧ t.safe.bCmd = false ∧
      t.safe.latch = s.safe.latch ∧ ∀ n : Fin 32, (t.drv.ch[n]).phase.quiet = true ∧ (t.drv.dg[n]).direct = none) ∧
  (∀ (dt : Nat) (up : Bool) (s : State), s.awake = true → s.injOn 3 0 = false → s.sys.vcore ≤ 0x32 →
    (up = true → s.sys.vcore = 0x32 → Completes (.avsAdjust dt up) s [.clk, .sys, .inj, .log] fun t =>
      t.sys = { s.sys with avsLimit := s.sys.avsLimit.raise } ∧ ∃ e, e.cls = 1 ∧ e.code = 7 ∧ t.log.queue = s.log.queue ++ [e]) ∧
    (¬(up = true ∧ s.sys.vcore = 0x32) →
      ((∃ u, s.sys.lastAvs = some u ∧ s.clk.upNs + dt < u + 100000) → Completes (.avsAdjust dt up) s [.clk] fun _ => True) ∧
      (s.sys.lastAvs = none ∨ (∃ u, s.sys.lastAvs = some u ∧ u + 100000 ≤ s.clk.upNs + dt) →
        Completes (.avsAdjust dt up) s [.clk, .sys] fun t =>
          t.sys = { s.sys with vcore := if up then s.sys.vcore + 1 else s.sys.vcore - 1, lastAvs := some (s.clk.upNs + dt) })))
/-! ### The control tick (chapter 1) -/

/-- R13, R22 to R24, R777, R781: what a control tick does with COMMIT. A committed tick ends the run of missed ones; one without COMMIT sets
and counts OVERRUN and holds the outputs; the switch tick holds them too and sets none. Twenty in a row remove the permit; the fifth in a CTRL trial window, or
the tenth of the window, is a cause of fallback. COMMIT is a write of the active core, and one of the standby core to a staging register is
dropped and counted. -/
def Obligations.ControlTick : Prop :=
  (∀ (l : List Meas) (s : State), s.pow.stage = .running → s.frm.window = [] → s.frm.staged = [] → s.lich.actsDue = 0 → s.ho.fbDue = none →
    s.ho.switched = false → s.sys.tickOpen = true →
    let parts : List Part := [.clk, .sys, .pow, .frm, .cfgs, .fe, .tab, .loop, .drv, .fan, .prog, .conv, .energy, .safe, .log, .upd, .ho,
      .cnt, .free]
    let open_ := fun (t : State) => t.sys.commit = false ∧ t.sys.tickOpen = true ∧ t.clk.ctNs % 1000000 = 0 ∧
      t.clk.lastTick = some (t.clk.ctNs / 1000000)
    let holds := fun (t : State) => t.sys.held = true ∧ ∀ n : Fin 8, (t.loop[n]).now = (s.loop[n]).now
    s.clk.ctNs + 1000000 < ctMax * 1000 →
    (s.sys.commit = true → s.ho.phase = .none → Completes (.controlTick l) s parts fun t => open_ t ∧ t.sys.missRun = 0 ∧ t.sys.held = false ∧
      t.sys.overrun = s.sys.overrun ∧ t.sys.active = s.sys.active) ∧
    (s.sys.commit = false → s.ho.phase = .none → Completes (.controlTick l) s parts fun t => open_ t ∧ holds t ∧
      t.sys.missRun = min 20 (s.sys.missRun + 1) ∧ t.sys.overrun = s.sys.overrun.raise ∧ t.sys.active = s.sys.active) ∧
    (s.sys.commit = false → s.ho.phase = .trial → s.ho.typ = some .ctrl → s.sys.missRun = 4 → Completes (.controlTick l) s parts fun t =>
      open_ t ∧ t.sys.missRun = 5 ∧ t.ho.phase = .fallback ∧ t.ho.fbDue = some 3) ∧
    (s.sys.commit = false → s.ho.phase = .trial → s.ho.typ = some .ctrl → s.sys.missRun < 4 → s.ho.overruns = 9 →
      Completes (.controlTick l) s parts fun t => open_ t ∧ t.ho.phase = .fallback ∧ t.ho.fbDue = some 4) ∧
    (s.ho.phase = .switch → s.ho.typ = some .ctrl → Completes (.controlTick l) s parts fun t => open_ t ∧
      t.sys.active = 1 - s.sys.active ∧ t.sys.overrun = s.sys.overrun ∧ t.sys.missRun = s.sys.missRun ∧ holds t ∧ t.ho.phase = .trial ∧
      t.ho.switched = false ∧ t.cnt = { s.cnt with handovers := inc32 s.cnt.handovers })) ∧
  ∀ (dt : Nat) (s : State),
    (s.pow.stage = .running → s.injOn 0x0907 0 = false → Completes (.tickCommit dt) s [.clk, .sys] fun t =>
      t.sys = { s.sys with commit := true }) ∧
    (s.pow.stage ≠ .running ∨ s.injOn 0x0907 0 = true → Completes (.tickCommit dt) s [.clk] fun _ => True) ∧
    (s.pow.stage = .running → s.sys.stbyUp = true → Completes (.stbyWriteDropped dt) s [.clk, .sys] fun t =>
      t.sys = { s.sys with stbyWr := s.sys.stbyWr.raise }) ∧
    (s.pow.stage ≠ .running ∨ s.sys.stbyUp = false → Completes (.stbyWriteDropped dt) s [.clk] fun _ => True) ∧
    (s.pow.stage = .running → s.sys.missRun = 20 → s.inHandover = false → s.pow.smUp = true → (s.safe.latch[4]).set = false →
      Completes (.coreWatchdogFail dt) s [.clk, .loop, .drv, .prog, .safe, .inj, .log, .cnt] fun t => (t.safe.latch[4]).set = true ∧
        t.safe.permit ≠ .on ∧ (s.safe.permit = .on → Safety.removed 9 t)) ∧
    (s.sys.missRun ≠ 20 ∨ s.inHandover = true → Completes (.coreWatchdogFail dt) s [.clk] fun _ => True)


/-! ### The ring (chapter 3) -/

/-- R87 to R93: what a port does on a running link. It sends its LINK_ID once per millisecond, in a gap between frames; it applies what a
valid LINK_ID of the partner asks for, and an invalid one changes nothing; EQ moves by at most one step within 0 to 31 and stays where it is
best, PE_REQ changes at most once per 100 ms; EYE below 32 for 1 s sets MARGIN_LOW once; a RANGE request goes out every 100 ms, once more
after a relock, and is answered with the time it waited; a RANGE answer sets SEG_DLY from the mean of the last eight exchanges, LEN_M at 5 ns/m, and LONG beyond 165 m or 440 m. Nothing but that port
changes. -/
def Obligations.LinkEngineComplete : Prop :=
  ∀ (dt : Nat) (p : PortId) (s : State), s.linkRuns = true →
    ((∀ u, (s.port p).linkUp = some u → u + 1000000 ≤ s.clk.upNs + dt) → (s.port p).txEnd ≤ s.clk.upNs + dt →
      Completes (.linkIdSend dt p) s [.clk, .ring] fun t => PortOnly p s t ∧ (t.port p).linkUp = some (s.clk.upNs + dt) ∧
        (t.port p).linkSent = some { type := 1, addr := s.ring.addr, lcfg := (s.port p).peReq % 8 + 8 * ((s.port p).rate % 2) }) ∧
    (∀ bytes k, linkIdOf bytes = some k → Completes (.linkIdReceive dt p bytes) s [.clk, .ring] fun t => PortOnly p s t ∧
      (t.port p).linkId = some k ∧ (t.port p).pe = k.lcfg % 8 ∧ (t.port p).partner = k.type) ∧
    (∀ bytes, linkIdOf bytes = none → Completes (.linkIdReceive dt p bytes) s [.clk] fun _ => True) ∧
    (∀ best eye pe, (s.port p).eq ≤ 31 → (∀ u, (s.port p).eqUp = some u → u + 1000000 ≤ s.clk.upNs + dt) →
      Completes (.eqAdapt dt p best eye pe) s [.clk, .ring] fun t => PortOnly p s t ∧ (t.port p).eye = min 0xFF eye ∧ (t.port p).eq ≤ 31 ∧
        ((s.port p).eq < best → (t.port p).eq = min 31 ((s.port p).eq + 1)) ∧ (best < (s.port p).eq → (t.port p).eq + 1 = (s.port p).eq) ∧
        ((s.port p).eq = best → (t.port p).eq = best) ∧
        (∀ u, (s.port p).peReqUp = some u → s.clk.upNs + dt < u + 100000000 → (t.port p).peReq = (s.port p).peReq) ∧
        ((∀ u, (s.port p).peReqUp = some u → u + 100000000 ≤ s.clk.upNs + dt) → (t.port p).peReq = pe)) ∧
    (∀ u, (s.port p).eyeLow = some u → u + 1000000000 ≤ s.clk.upNs + dt → (s.port p).eyeDone = false →
      Completes (.marginLowDetect dt p) s [.clk, .ring] fun t => PortOnly p s t ∧ (t.port p).marginLow = (s.port p).marginLow.raise ∧
        (t.port p).eyeDone = true) ∧
    ((s.port p).lock = true → ((s.port p).rangeOnce = true ∨ ∀ u, (s.port p).rangeUp = some u → u + 100000000 ≤ s.clk.upNs + dt) →
      Completes (.rangeRequestSend dt p) s [.clk, .ring] fun t => PortOnly p s t ∧ (t.port p).rangeUp = some (s.clk.upNs + dt) ∧
        (t.port p).rangeOnce = false ∧ (t.port p).rangeSent = rangeBytes 1 0) ∧
    (∀ bytes rturn elapsed, (s.port p).lock = true → rangeOf bytes = some (2, rturn) →
      Completes (.rangeReceive dt p bytes elapsed) s [.clk, .ring] fun t => PortOnly p s t ∧
        (t.port p).rtt = ((elapsed - rturn) :: (s.port p).rtt).take 8 ∧ (t.port p).ranged = true ∧
        (t.port p).segDly = min 0xFFFFF ((t.port p).rtt.sum / (2 * (t.port p).rtt.length)) ∧ (t.port p).lenM = min 0xFFF ((t.port p).segDly / 5) ∧
        ((t.port p).long.set = true ↔ (s.port p).long.set = true ∨ (if (s.port p).rate = 0 then 165 else 440) < (t.port p).segDly / 5)) ∧
    (∀ bytes rturn elapsed, (s.port p).lock = true → rangeOf bytes = some (1, rturn) →
      Completes (.rangeReceive dt p bytes elapsed) s [.clk, .ring] fun t => PortOnly p s t ∧ (t.port p).rangeReply = some (min 0xFFFF elapsed) ∧
        (t.port p).rangeSent = rangeBytes 2 (min 0xFFFF elapsed))

/-- Loss of lock, turnaround, relock, rate changes and wake symbols (R105 to R112, R129 to R131).
R105 to R108: a locked port that finds what R105 calls a loss is in turnaround, has set and counted LOL (and PEER_DOWN on LINK_DOWN),
sends LINK_DOWN, and turns back every frame that it keeps or holds: each goes to the other port with a TURN of KIND 0x02, the node's address,
the position from HOP, REASON with the cause, UNSURE on those that had gone out, and the XOR check. What R105 calls no loss leaves lock and
partner.
R107, R111, R112, R129, R130, R131: the rest of a port's life. It relocks at its rate, which is then the stored rate of both ports; it
leaves turnaround once lock has been held for 10 ms (1 s after three losses in 10 s) and one RANGE exchange has been completed; a port that
never locked tries the other rate every 100 ms; RING_RATE's switch sets both ports' rate with turnaround cause 0x5, 0x4 for one that never
locked; a wake symbol due is sent in a gap between frames, for 8 µs; one received while awake sets WAKE_SEEN, counts at most ten code violations and leaves lock. A kept frame goes 40 µs after its last symbol. -/
def Obligations.LossAndRelock : Prop :=
  (∀ (dt : Nat) (p : PortId) (c : LossCause) (ns n : Nat) (s : State), s.linkRuns = true → (s.port p).lock = true →
    (lossMade c ns n = true → Completes (.lossOfLock dt p c ns n) s [.clk, .ring, .inj, .log] fun t =>
      let x := (s.port p).flow (s.clk.upNs + dt)
      (t.port p).lock = false ∧ (t.port p).turn = true ∧ (t.port p).linkDown = true ∧ (t.port p).lol = (s.port p).lol.raise ∧
      (t.port p).peerDown = (s.port p).peerDown.raiseIf (c == .linkDown) ∧ (t.port p).cause = lossCode c ∧ (t.port p).kept = [] ∧
      (t.port p).held = [] ∧
      (t.port (portOther p)).ownQ = (s.port (portOther p)).ownQ ++
        ((x.kept.filter TxFrame.mayTurn).map (fun f =>
            { body := f.body, turn := turnBytes 2 s.ring.addr (posOf f.body) (lossCode c + 0x80) }) ++
          (x.held.filter TxFrame.mayTurn).map fun f =>
            { body := f.body, turn := turnBytes 2 s.ring.addr (posOf f.body) (lossCode c) }) ∧
      (t.port (portOther p)).lock = (s.port (portOther p)).lock) ∧
    (lossMade c ns n = false → s.injOn 0x0101 (portIx p) = false → Completes (.lossOfLock dt p c ns n) s [.clk, .ring] fun t =>
      PortOnly p s t ∧ (t.port p).lock = true ∧ (t.port p).lol = (s.port p).lol ∧ (t.port p).turn = (s.port p).turn)) ∧
  (∀ (dt : Nat) (p : PortId) (s : State), s.linkRuns = true →
    ((s.port p).lock = false → s.injOn 0x0101 (portIx p) = false → Completes (.relock dt p) s [.clk, .ring, .log] fun t =>
      (t.port p).lock = true ∧ (t.port p).lockUp = some (s.clk.upNs + dt) ∧ (t.port p).turn = (s.port p).turn ∧ t.ring.rate = (s.port p).rate ∧
        t.ring.ca.rate = t.ring.rate ∧ t.ring.cb.rate = t.ring.rate) ∧
    (∀ u, (s.port p).turn = true → (s.port p).lock = true → (s.port p).ranged = true → (s.port p).lockUp = some u →
      u + (if 3 ≤ (s.port p).losses.length then 1000000000 else 10000000) ≤ s.clk.upNs + dt →
      Completes (.turnaroundExit dt p) s [.clk, .ring] fun t => PortOnly p s t ∧ t.port p = { s.port p with turn := false, linkDown := false }) ∧
    ((s.port p).turn = true → (s.port p).ranged = false → Completes (.turnaroundExit dt p) s [.clk] fun _ => True) ∧
    ((s.port p).lock = false → (s.port p).everLocked = false → (s.port p).rateUp + 100000000 ≤ s.clk.upNs + dt →
      Completes (.rateSearchSwitch dt p) s [.clk, .ring] fun t => PortOnly p s t ∧
        t.port p = { s.port p with rate := 1 - (s.port p).rate, rateUp := s.clk.upNs + dt }) ∧
    (∀ b r, s.ring.rateDue = some (b, r) → b ≤ (s.advance dt).ctUs → s.ring.rate ≠ r →
      Completes (.ringRateSwitch dt) s [.clk, .ring, .log] fun t => t.ring.rate = r ∧ t.ring.rateDue = none ∧ t.ring.ca.rate = r ∧
        t.ring.cb.rate = r ∧ t.ring.ca.turn = true ∧ t.ring.cb.turn = true ∧
        t.ring.ca.cause = (if s.ring.ca.everLocked then 5 else 4) ∧ t.ring.cb.cause = (if s.ring.cb.everLocked then 5 else 4)) ∧
    ((s.port p).wakeDue = true → (s.port p).txEnd ≤ s.clk.upNs + dt → Completes (.wakeSymbolSend dt p) s [.clk, .ring] fun t =>
      PortOnly p s t ∧ t.port p = { s.port p with wakeDue := false, wakeSent := (s.port p).wakeSent + 1, txEnd := s.clk.upNs + dt + 8000 }) ∧
    (s.clk.upNs + dt < (s.port p).txEnd → Completes (.wakeSymbolSend dt p) s [.clk] fun _ => True) ∧
    ((s.port p).lock = true → Completes (.wakeSeen dt p) s [.clk, .ring, .free] fun t => PortOnly p s t ∧ (t.port p).lock = true ∧
      (t.port p).wakeSeen = (s.port p).wakeSeen.raise ∧ (t.port p).codeErr ≤ (s.port p).codeErr + 10) ∧
    Completes (.keptFrameRelease dt p) s [.clk, .ring] fun t => PortOnly p s t ∧
      (∀ f ∈ (t.port p).kept, s.clk.upNs + dt < f.atNs + 40000) ∧ ∀ f ∈ (s.port p).kept, s.clk.upNs + dt < f.atNs + 40000 → f ∈ (t.port p).kept)


/-- R126, R134, R135, R138: CAST_ON. It clears CT_VALID and records the position; with MODE 0 a pinned node keeps its pinned address, any
other takes BASE + POS − 1; beyond 0x3C it takes 0x00 and replies BAD_PARAM; a node whose needle another sender holds replies NO_NEEDLE and
keeps its address.
That the row of an opcode acts at once is the model's choice (log entry 69). -/
def Obligations.CastOnGivesAddress : Prop :=
  ∀ (q : Req) (base mode : Byte) (s : State), s.listens q = true → mode.toNat ≤ 1 → (mode.toNat = 1 → s.trusts q = true) →
    (s.frm.holder = .none ∨ s.frm.holder = senderHolder q.sender →
      (∀ a, mode.toNat = 0 → s.ring.pinStore = some a → Completes (.castOn q base mode) s [.clk, .ring, .frm, .auth] fun t =>
        t.ring = { s.ring with addr := a, pinned := true, pos := min 0xFF (q.hop + 1) } ∧ t.clk = { s.clk with ctValid := false } ∧
          Answered q false 0x01 .ok t.castReply s t) ∧
      (mode.toNat = 1 ∨ s.ring.pinStore = none → base.toNat + q.hop ≤ 0x3C →
        Completes (.castOn q base mode) s [.clk, .ring, .frm, .auth] fun t =>
          t.ring.addr = base.toNat + q.hop ∧ t.ring.pos = q.hop + 1 ∧ t.ring.pinStore = s.ring.pinStore ∧ t.clk = { s.clk with ctValid := false } ∧
            Answered q false 0x01 .ok t.castReply s t) ∧
      (mode.toNat = 1 ∨ s.ring.pinStore = none → 0x3C < base.toNat + q.hop → Completes (.castOn q base mode) s [.clk, .ring, .frm, .auth] fun t =>
        t.ring.addr = 0 ∧ t.ring.pinStore = s.ring.pinStore ∧ Answered q false 0x01 .badParam t.castReply s t)) ∧
    (s.frm.holder ≠ .none → s.frm.holder ≠ senderHolder q.sender →
      Completes (.castOn q base mode) s [.frm, .auth] fun t => Answered q false 0x01 .noNeedle [] s t)

/-- The ring opcodes and what RING_STATUS shows (R134 to R145).
R130, R131, R138, R139, R141, Table 3.3: the ring orders of the holder. ADDR_ASSIGN to this node's serial gives the address and, with PIN
1, pins it; to another serial it changes nothing and gets no reply. ADDR_PIN pins or unpins. BIND_OFF clears RING_EN unless KEEP_RING_WAKE is
set, unpins on UNPIN, and its reply starts moss entry. RING_RATE is staged for 2 ms after its boundary, LATE under R139. WAKE_SEND has a wake
symbol sent. That PIN 0 leaves a pinned address in the store is the model's choice (log entry 75).
Table 3.3, R691: RING_STATUS is answered to any sender with 56 bytes, RING.ADDR first, then the five registers of port CA and of port CB,
CT_STAT, CT_LO and CT_HI as its read of CT_LO latched it; nothing but the latch and the frames' own state changes.
That the row of an opcode acts at once is the model's choice (log entry 69). -/
def Obligations.RingOrders : Prop :=
  (∀ (q : Req) (s : State), s.listens q = true → s.trusts q = true → s.frm.holder = senderHolder q.sender →
    (∀ (addr pin : Byte), inR 1 addr.toNat 0x3C = true → pin.toNat ≤ 1 →
      Completes (.addrAssign q Config.serial addr pin) s [.ring, .frm, .auth] fun t => t.ring.addr = addr.toNat ∧
        t.ring.pinStore = (if pin.toNat = 1 then some addr.toNat else s.ring.pinStore) ∧ t.ring.ca = s.ring.ca ∧ t.ring.cb = s.ring.cb ∧
        t.ring.rate = s.ring.rate ∧ Answered q false 0x02 .ok [addr, if t.ring.pinStore = some addr.toNat then 1 else 0] s t) ∧
    (∀ (serial : BitVec 64) (addr pin : Byte), serial ≠ Config.serial → Completes (.addrAssign q serial addr pin) s [.frm, .auth] fun t =>
      t.frm.replies = s.frm.replies) ∧
    (q.bcast = false →
      (∀ (pin : Byte), pin.toNat ≤ 1 → (pin.toNat = 1 → s.ring.addr ≠ 0) → Completes (.addrPin q pin) s [.ring, .frm, .auth] fun t =>
        t.ring = { s.ring with pinStore := if pin.toNat = 1 then some s.ring.addr else none, pinned := pin.toNat == 1 } ∧
          Answered q false 0x03 .ok [BitVec.ofNat 8 s.ring.addr, if pin.toNat = 1 then 1 else 0] s t) ∧
      (∀ (flags : Byte), flags.toNat ≤ 3 → s.mossRefused = false → Completes (.bindOff q flags) s [.pow, .ring, .frm, .auth] fun t =>
        t.pow = { s.pow with wakeCfg := if bitOf flags.toNat 1 then s.pow.wakeCfg else s.pow.wakeCfg - s.pow.wakeCfg % 2 } ∧
          t.ring.addr = s.ring.addr ∧ t.ring.pinStore = (if bitOf flags.toNat 0 then none else s.ring.pinStore) ∧
          Answered q false 0x04 .ok [] s t ∧ ((t.frm.replies[senderIx q.sender]).getLast?.map fun r => r.mossAfter) = some true) ∧
      (∀ (flags : Byte), flags.toNat ≤ 3 → s.mossRefused = true → Completes (.bindOff q flags) s [.frm, .auth] fun t =>
        Answered q false 0x04 .badState [] s t) ∧
      (∀ (n : Byte) (p : PortId), n.toNat = portIx p → Completes (.wakeSend q n) s [.ring, .frm, .auth] fun t =>
        t.port p = { s.port p with wakeDue := true } ∧ PortOnly p s t ∧ Answered q false 0x06 .ok [] s t)) ∧
    (∀ (rate : Byte) (bidx : Word) (d : Nat), rate.toNat ≤ 1 → d = (bidx.toNat + 2 ^ 32 - s.crcUs / 10000 % 2 ^ 32) % 2 ^ 32 →
      (2 ≤ d → d < 2 ^ 31 → Completes (.ringRate q rate bidx) s [.ring, .frm, .auth] fun t =>
        t.ring = { s.ring with rateDue := some ((s.crcUs / 10000 + d) * 10000 + 2000, rate.toNat) } ∧ Answered q false 0x05 .ok [] s t) ∧
      (d < 2 ∨ 2 ^ 31 ≤ d → Completes (.ringRate q rate bidx) s [.frm, .auth] fun t => Answered q false 0x05 .late [] s t))) ∧
  (∀ (q : Req) (s : State), s.hears q = true → Completes (.ringStatus q) s [.clk, .frm, .auth] fun t =>
    t.clk = { s.clk with ctHi := s.ctUs / 2 ^ 32 } ∧
    ∃ d : List Byte, d.length = 56 ∧ Answered q false 0x00 .ok d s t ∧ fieldAt d 0 4 = s.regAddr % 2 ^ 32 ∧
      (∀ k, k < 5 → fieldAt d (4 + 4 * k) 4 = s.ring.ca.reg k % 2 ^ 32 ∧ fieldAt d (24 + 4 * k) 4 = s.ring.cb.reg k % 2 ^ 32) ∧
      fieldAt d 44 4 = s.regCtStat % 2 ^ 32 ∧ fieldAt d 48 4 = s.ctUs % 2 ^ 32 ∧ fieldAt d 52 4 = s.ctUs / 2 ^ 32 % 2 ^ 32)


/-- Time marks: chain time and the frames that carry them (R26, R114 to R127).
R25, R118, R120, R127: what a MARK taken from the primary source does to chain time, with e the time it implies less the node's own.
While CT_VALID is 0 chain time is loaded; within 100 µs it is slewed by at most 10 µs; beyond 100 µs for the first time nothing is corrected
and the slew is 0; beyond 100 µs at two consecutive judged boundaries it steps, STEP is set and counted and the snapshot history is cleared.
LAST_ERR records e. TRIM moves by one step at most, and not twice in 10 ms. That a load and a step leave TRIM is the model's choice (log
entry 56).
R25, R26, R115, R117, R118, R127, R691, R838: every MARK that arrives goes on out of the other port with its delay added, one whose CHK
failed with a CHK that fails again (log entry 72); an invalid one changes neither chain time nor trim nor the source's record; without the
primary's MARK by 1 ms after the boundary the other source's is used, and until then, or where there is none, nothing changes; after 100 ms
without a mark the trim is held; chain time at its last value sets CT_SAT; a read of CT_LO latches CT_HI. TRIM never leaves 0x800 ± 1,000. -/
def Obligations.Marks : Prop :=
  (∀ (dt : Nat) (p : PortId) (bytes : List Byte) (cyc : Nat) (s : State) (m : Mark) (d : Nat) (e : Int),
    s.linkRuns = true → m = Mark.ofBytes bytes → m.valid = true → d = m.adly + (s.port p).segDly → d < 1000000 →
    m.srcB = (s.clk.primary == 1) → (∀ b, s.clk.bnd = some b → b.time ≠ m.time) →
    e = (m.time * 1000 + d : Nat) - ((s.advance dt).clk.ctNs : Int) →
    (s.clk.ctValid = false → Completes (.markReceive dt p bytes cyc) s
      [.clk, .sys, .ring, .fe, .tab, .snap, .loop, .die, .drv, .fan, .prog, .stitch, .inj, .log, .se] fun t =>
        t.clk.ctValid = true ∧ t.clk.ctNs = min (m.time * 1000 + d) (ctMax * 1000) ∧ t.clk.slew = 0 ∧ t.clk.step = s.clk.step ∧
          t.clk.lastErr = lastErrOf e ∧ t.clk.src = bit m.srcB ∧ t.sys.trim = s.sys.trim) ∧
    (s.clk.ctValid = true → e.natAbs ≤ 100000 → Completes (.markReceive dt p bytes cyc) s [.clk, .sys, .ring] fun t =>
        t.clk.ctNs = (s.advance dt).clk.ctNs ∧ t.clk.slew = clampI (-10000) 10000 e ∧ t.clk.step = s.clk.step ∧ t.clk.lastErr = lastErrOf e ∧
          t.clk.lastUsed = some (s.clk.upNs + dt) ∧ t.clk.src = bit m.srcB ∧
          ∀ u, s.sys.trimUp = some u → s.clk.upNs + dt < u + 10000000 → t.sys.trim = s.sys.trim) ∧
    (s.clk.ctValid = true → 100000 < e.natAbs → s.clk.judgedBad ≠ some true → Completes (.markReceive dt p bytes cyc) s [.clk, .sys, .ring] fun t =>
        t.clk.ctNs = (s.advance dt).clk.ctNs ∧ t.clk.slew = 0 ∧ t.clk.step = s.clk.step ∧ t.clk.lastErr = lastErrOf e ∧
          t.clk.lastUsed = s.clk.lastUsed ∧ t.clk.judgedBad = some true) ∧
    (s.clk.ctValid = true → 100000 < e.natAbs → s.clk.judgedBad = some true → Completes (.markReceive dt p bytes cyc) s
      [.clk, .sys, .ring, .fe, .tab, .snap, .loop, .die, .drv, .fan, .prog, .stitch, .inj, .log, .se] fun t =>
        t.clk.ctNs = min (m.time * 1000 + d) (ctMax * 1000) ∧ t.clk.slew = 0 ∧ t.clk.step = s.clk.step.raise ∧ t.clk.lastErr = lastErrOf e ∧
          t.snap.hist = [] ∧ t.sys.trim = s.sys.trim)) ∧
  ((∀ (dt : Nat) (p : PortId) (bytes : List Byte) (cyc : Nat) (s : State), s.linkRuns = true →
    Completes (.markReceive dt p bytes cyc) s [.clk, .sys, .ring, .fe, .tab, .snap, .loop, .die, .drv, .fan, .prog, .stitch, .inj, .log, .se]
      fun t => t.port p = s.port p ∧
        (t.port (portOther p)).mark = (Mark.ofBytes bytes).forward ((s.port p).segDly + if (s.port p).rate = 0 then 960 else 3840)) ∧
  (∀ (m : Mark) (add : Nat), m.chk = false ∨ 0xFFFFFF < m.adly + add → (Mark.ofBytes (m.forward add)).valid = false) ∧
  (∀ (dt : Nat) (p : PortId) (bytes : List Byte) (cyc : Nat) (s : State), (Mark.ofBytes bytes).valid = false →
    Completes (.markReceive dt p bytes cyc) s [.clk, .ring] fun t => t.clk = (s.advance dt).clk) ∧
  (∀ (dt : Nat) (s : State) (b : MarkBoundary) (x : MarkSeen), s.clk.bnd = some b → b.decided = false →
    (if s.clk.primary = 1 then b.a else b.b) = some x → x.dly < 1000000 → b.first + 1000000 ≤ (s.clk.upNs + dt : Nat) →
    Completes (.markSourceTimeout dt) s [.clk, .sys, .fe, .tab, .snap, .loop, .die, .drv, .fan, .prog, .stitch, .inj, .log, .se] fun t =>
      (∀ c, t.clk.bnd = some c → c.decided = true) ∧ (t.clk.lastUsed ≠ s.clk.lastUsed → t.clk.src = bit (s.clk.primary != 1)) ∧
        (s.clk.ctValid = false → t.clk.ctValid = true ∧ t.clk.lastUsed = some (s.clk.upNs + dt))) ∧
  (∀ (dt : Nat) (s : State), (∀ b, s.clk.bnd = some b → b.decided = true ∨ (if s.clk.primary = 1 then b.a else b.b) = none ∨
      (s.clk.upNs + dt : Nat) < b.first + 1000000) → Completes (.markSourceTimeout dt) s [.clk] fun t => t.clk = (s.advance dt).clk) ∧
  (∀ (dt : Nat) (s : State), s.linkRuns = true → s.clk.lastMark + 100000000 ≤ s.clk.upNs + dt →
    Completes (.markHoldover dt) s [.clk, .sys] fun t => t.sys = { s.sys with holdover := true }) ∧
  (∀ (dt : Nat) (s : State), 2 ^ 48 - 1 ≤ (s.advance dt).ctUs → Completes (.ctSaturate dt) s [.clk] fun t => t.clk.ctSat = true) ∧
  (∀ (dt : Nat) (s : State), Completes (.ctLoRead dt) s [.clk] fun t => t.clk.ctHi = t.ctUs / 2 ^ 32) ∧
  ∀ (trim : Nat) (old : Option MarkTaken) (new : MarkTaken), 0x800 - 1000 ≤ trim → trim ≤ 0x800 + 1000 →
    0x800 - 1000 ≤ trimAfter trim old new ∧ trimAfter trim old new ≤ 0x800 + 1000 ∧ trimAfter trim old new ≤ trim + 1 ∧
      trim ≤ trimAfter trim old new + 1)

/-! ### Frames, needle, merge, items (chapter 4) -/

/-- Frame body `b` arrives whole on lane `l` as a request that the node takes as its own alone or as a broadcast at the service port: the
node answers, `b` has at least 16 bytes and a matching CRC, and DEST names the node (Table 4.4 steps 1 and 2). -/
def forNode (l : Lane) (b : List Byte) (s : State) : Bool :=
  s.answers && decide (16 ≤ b.length) && crcOk b &&
    match l with
    | .svc => (Frame.ofBytes b).dest == s.ring.addr || (Frame.ofBytes b).dest == 0 || (Frame.ofBytes b).dest == 0xFF
    | .ca => s.linkRuns && s.ring.ca.lock && (s.crcSlot 0).isNone && s.consumes (Frame.ofBytes b)
    | .cb => s.linkRuns && s.ring.cb.lock && (s.crcSlot 1).isNone && s.consumes (Frame.ofBytes b)

/-- RSVD or FLG is invalid (Table 4.4 step 5, R232). -/
def headerBad (l : Lane) (f : Frame) : Bool := f.rsvd != 0 || decide (4 ≤ f.flg) || (l != .svc && f.dest == 0xFF && f.auth)

/-- One reply of which `p` holds has been queued for `who`, behind those that waited; no other queue has changed. -/
def Queued (who : Sender) (p : Reply → Prop) (s t : State) : Prop :=
  ∃ r : Reply, p r ∧ t.frm.replies = vmod s.frm.replies (senderIx who) fun l => l ++ [r]

/-- The numbers in `who`'s sequence window, newest first. -/
def winSeqs (s : State) (who : Sender) : List Nat := (s.frm.win[senderIx who]).map fun e => e.seq

/-- R150, R158, R159, R168 and, in part, Table 4.4, R156, R157, R161: what becomes of a request that reaches step 3, check by check. SRC on
the wrong lane is discarded and counted; a full reply queue discards and counts it; a wrong length gets BAD_LENGTH and no place in the
window; a bad header BAD_PARAM and a place; a failed tag AUTH_FAIL in the zero form; a SEQ in the window with another CRC BAD_PARAM and
SEQ_CONFLICT with the window unchanged; with the same CRC nothing while its reply is pending, else the stored reply with RETX, or its status
byte alone with TRUNC; an unknown opcode BAD_OPCODE; an opcode of the merge waits for the merge, unexecuted, and enters the sequence window
only with its outcome. That a full reply queue is judged at step 11, and when a merged order enters the window, are the model's reading (log
entries 105, 132); so is the count of a SRC that names no sender (log entry 128). -/
def Obligations.FrameChecksInOrder : Prop :=
  ∀ (dt : Nat) (l : Lane) (body : List Byte) (hop : Nat) (s : State) (b : List Byte) (f : Frame),
    b = body.set 10 (BitVec.ofNat 8 hop) → f = Frame.ofBytes b → forNode l b s = true →
    (senderOn l f.src = none → Completes (.frameReceive dt l body hop .done) s [.clk, .se, .ring, .frm] fun t =>
      t.frm = { s.frm with srcErr := min 0xFF (s.frm.srcErr + 1) }) ∧
    ∀ who, senderOn l f.src = some who →
      (8 ≤ (s.frm.replies[senderIx who]).length →
        Completes (.frameReceive dt l body hop .done) s [.clk, .se, .ring, .frm, .auth, .log] fun t =>
          t.frm.replies = s.frm.replies ∧ t.frm.win = s.frm.win ∧ t.frm.window = s.frm.window ∧
            (s.winFind who f = none → t.frm.qfull = min 0xFF (s.frm.qfull + 1))) ∧
      ((s.frm.replies[senderIx who]).length < 8 →
        (f.lengthOk b = false → Completes (.frameReceive dt l body hop .done) s [.clk, .se, .ring, .frm] fun t =>
          t.frm.lenErr = min 0xFF (s.frm.lenErr + 1) ∧ t.frm.win = s.frm.win ∧
            Queued who (fun r => r.payload = [0x11] ∧ r.seq = f.seq ∧ r.opc = f.opc ∧ r.win = false) s t) ∧
        (f.lengthOk b = true → headerBad l f = true → s.winFind who f = none →
          Completes (.frameReceive dt l body hop .done) s [.clk, .se, .ring, .frm] fun t =>
            winSeqs t who = (f.seq :: winSeqs s who).take 1024 ∧
              Queued who (fun r => r.payload = [0x12] ∧ r.seq = f.seq ∧ r.opc = f.opc ∧ r.win = true) s t) ∧
        (f.lengthOk b = true → headerBad l f = false → f.auth = true → s.tagSession who f b = none →
          Completes (.frameReceive dt l body hop .done) s [.clk, .se, .ring, .frm, .auth, .log] fun t =>
            t.frm.win = s.frm.win ∧ t.auth.tagFail = s.auth.tagFail.raise ∧
              Queued who (fun r => r.payload = [0x20] ∧ r.zero = true ∧ r.sess = none ∧ r.seq = f.seq) s t) ∧
        (f.lengthOk b = true → headerBad l f = false →
          (f.auth = false ∨ (s.tagSession who f b).isSome = true ∧ (((s.advance dt).rateCount who).auth.rateCnt[senderIx who]) ≤ 20) →
          (∀ e, s.winFind who f = some e →
            (e.crc ≠ f.crc → Completes (.frameReceive dt l body hop .done) s [.clk, .se, .ring, .frm, .auth] fun t =>
              t.frm.seqConflict = min 0xFF (s.frm.seqConflict + 1) ∧ t.frm.win = s.frm.win ∧
                Queued who (fun r => r.payload = [0x12] ∧ r.seq = f.seq ∧ r.opc = f.opc) s t) ∧
            (e.crc = f.crc → e.pending = true → Completes (.frameReceive dt l body hop .done) s [.clk, .se, .ring, .frm, .auth] fun t =>
              t.frm.replies = s.frm.replies ∧ t.frm.win = s.frm.win ∧ t.frm.retxCnt = s.frm.retxCnt) ∧
            (e.crc = f.crc → e.pending = false → Completes (.frameReceive dt l body hop .done) s [.clk, .se, .ring, .frm, .auth] fun t =>
              t.frm.retxCnt = min 0xFFFF (s.frm.retxCnt + 1) ∧ t.frm.win = s.frm.win ∧
                Queued who (fun r => r.retx = true ∧ match e.reply with
                  | some x => r.payload = x.payload ∧ r.seq = x.seq ∧ r.opc = x.opc ∧ r.trunc = false
                  | none => r.payload = [BitVec.ofNat 8 e.status] ∧ r.seq = f.seq ∧ r.trunc = true) s t)) ∧
          (s.winFind who f = none → f.auth = false →
            (opOf f.mem f.opc f.payload = none → Completes (.frameReceive dt l body hop .done) s [.clk, .se, .ring, .frm] fun t =>
              winSeqs t who = (f.seq :: winSeqs s who).take 1024 ∧
                Queued who (fun r => r.payload = [0x10] ∧ r.seq = f.seq ∧ r.opc = f.opc ∧ r.win = true) s t) ∧
            (∀ o, opOf f.mem f.opc f.payload = some o → o.needle = true → o.lenOk = true → s.pow.stage = .running → s.guarded = false →
              (f.dest = 0xFF → o.bcast = true) → (o.pends = false ∨ s.pendingOps < 4) →
              Completes (.frameReceive dt l body hop .done) s [.clk, .se, .ring, .frm] fun t =>
                t.frm.win = s.frm.win ∧ t.frm.replies = s.frm.replies ∧
                  t.frm.window = s.frm.window ++
                    [{ q := f.req who, mem := f.mem, opc := f.opc, payload := f.payload, up := s.clk.upNs + dt, sess := none,
                       crc := f.crc, mctr := f.mctr }]))))

/-- What becomes of the frames of others, and of replies (R97 to R110, R839; log entry 80).
R839, R97, R98, R99, R101, R102, R104, R106, R107, R110, R133: a frame at ring port `p`. Shorter than 16 bytes it is discarded and counted
in LEN_ERR; with a bad CRC it is counted in that port's CRC_ERR and its copy goes on ended with ABORT, as that of a frame that arrives so
does; one that the node takes alone leaves the copy begun at the other port cut with ABORT; a broadcast is taken and goes on; any other goes on along its lane with HOP one
higher and is kept, is turned back with KIND 1 where the lane ends, with KIND 2 and the break's cause where the way out is broken, or is
discarded and counted in DROP where it is for a host port behind the break; one that carries a TURN goes on, or meets the break and is turned
back anew. The model's choices: log entries 122 (how much of a cut copy has gone out), 124 (whose DROP), 129 (a turned frame is not judged).
R103, R107, R152, R192, R68, R207, R237: sending. The service port sends its sender's oldest reply: DEST and SRC, SEQ, OPC with bit 7, the
payload and a matching CRC, and the reply leaves the queue; a RESET's OK reply makes a full reset with CAUSE 5 due 1 ms later, SESSION_CLOSE's
ends the session. A ring port sends turned frames first, keeps what it sends, and waits for its transmitter; in turnaround it sends neither: a
turned frame is turned back once more (R106), a reply is discarded and counted in DROP (R110). That the service port's reply
leaves at the command is the model's choice (log entry 80), so is whose DROP counts (log entry 124). -/
def Obligations.FramesAndReplies : Prop :=
  (∀ (dt : Nat) (p : PortId) (body : List Byte) (hop : Nat) (s : State) (b : List Byte) (f : Frame),
    b = body.set 10 (BitVec.ofNat 8 hop) → f = Frame.ofBytes b → s.linkRuns = true → (s.port p).lock = true →
    let i : Ending → Instr := .frameReceive dt (match p with
      | .ca => .ca
      | .cb => .cb) body hop
    let o := portOther p
    let on := b.set 10 (BitVec.ofNat 8 (posOf b))
    let host := isHostAddr (b.headD 0)
    (b.length < 16 → ∀ e, e ≠ .abort → Completes (i e) s [.clk, .frm] fun t =>
      t.frm = { s.frm with lenErr := min 0xFF (s.frm.lenErr + 1) }) ∧
    ((s.port o).turn = false → (host = true ∨ s.laneEnd o = false) → (s.port o).held = [] → b.length ≤ 1052 →
      Completes (i .abort) s [.clk, .ring] fun t => t.port p = s.port p ∧ (t.port o).lastTx = on ∧ (t.port o).lastAbort = true) ∧
    ((s.port o).turn = true → Completes (i .abort) s [.clk, .ring] fun t => t.ring = s.ring) ∧
    (16 ≤ b.length → s.crcSlot (portIx p) = none →
      (crcOk b = false → ∀ e, e ≠ .abort →
        ((s.port o).turn = true ∨ host = false ∧ s.laneEnd o = true → Completes (i e) s [.clk, .ring] fun t => PortOnly p s t ∧
          t.port p = { s.port p with crcErr := min 0xFF ((s.port p).crcErr + 1) }) ∧
        ((s.port o).turn = false → (host = true ∨ s.laneEnd o = false) → (s.port o).held = [] → b.length ≤ 1052 →
          (turnOf e).length ≤ 5 → Completes (i e) s [.clk, .ring] fun t =>
            t.port p = { s.port p with crcErr := min 0xFF ((s.port p).crcErr + 1) } ∧ (t.port o).lastTx = on ∧
              (t.port o).lastAbort = true ∧ s.clk.upNs + dt ≤ (t.port o).txEnd)) ∧
      (crcOk b = true → s.consumes f = true → (s.port o).turn = false → s.laneEnd o = false →
        (s.port o).txEnd + (b.length + 2) * symNs (s.port o).rate ≤ s.clk.upNs + dt + forwardNs (s.port o).rate →
        Completes (i .done) s (touches (i .done)) fun t => t.port p = s.port p ∧ (t.port o).lastAbort = true ∧
          (t.port o).lastTx = if s.ring.addr = 0 then b.take 5 else []) ∧
      (crcOk b = true → s.consumes f = false → s.copies f = true → (s.port o).turn = false → s.laneEnd o = false → (s.port o).held = [] →
        b.length ≤ 1052 → Completes (i .done) s (touches (i .done)) fun t =>
          t.port p = s.port p ∧ (t.port o).lastTx = on ∧ (t.port o).lastAbort = false) ∧
      (crcOk b = true → s.consumes f = false → s.copies f = false →
        (host = false → s.laneEnd o = true → Completes (i .done) s [.clk, .ring] fun t => PortOnly p s t ∧
          t.port p = { s.port p with ownQ := (s.port p).ownQ ++ [{ body := b, turn := turnBytes 1 s.ring.addr (posOf b) 0 }] }) ∧
        ((host = true ∨ s.laneEnd o = false) → (s.port o).turn = true →
          (host = true → Completes (i .done) s [.clk, .ring] fun t => PortOnly p s t ∧
            t.port p = { s.port p with drop := min 0x3F ((s.port p).drop + 1) }) ∧
          (host = false → Completes (i .done) s [.clk, .ring] fun t =>
            (t.port p).ownQ = (s.port p).ownQ ++ [{ body := b, turn := turnBytes 2 s.ring.addr (posOf b) (s.port o).cause }] ∧
              t.port o = { s.port o with turned := min 0x3F ((s.port o).turned + 1) })) ∧
        ((host = true ∨ s.laneEnd o = false) → (s.port o).turn = false → (s.port o).held = [] → b.length ≤ 1052 →
          Completes (i .done) s [.clk, .ring] fun t => t.port p = s.port p ∧ (t.port o).lastTx = on ∧ (t.port o).lastAbort = false ∧
            s.clk.upNs + dt ≤ (t.port o).txEnd ∧ ∃ g ∈ (t.port o).kept ++ (t.port o).held, g.body = b ∧ g.turn = []) ∧
        ((s.port o).turn = false → (host = true ∨ s.laneEnd o = false) →
          s.clk.upNs + dt + forwardNs (s.port o).rate < (s.port o).txEnd + (b.length + 2) * symNs (s.port o).rate →
          2048 < (((s.port o).flow (s.clk.upNs + dt)).held.map TxFrame.symbols).sum + b.length + 2 →
          Completes (i .done) s [.clk, .ring] fun t =>
            t.port p = { s.port p with drop := min 0x3F ((s.port p).drop + 1) } ∧ (t.port o).lastTx = (s.port o).lastTx)) ∧
      (crcOk b = true → ∀ tn, tn.length ≤ 5 →
        ((s.port o).turn = true → Completes (i (.turned tn)) s [.clk, .ring] fun t =>
          (t.port p).ownQ = (s.port p).ownQ ++ [{ body := b, turn := turnBytes 2 s.ring.addr (posOf b) (s.port o).cause }] ∧
            t.port o = { s.port o with turned := min 0x3F ((s.port o).turned + 1) }) ∧
        ((s.port o).turn = false → (s.port o).held = [] → b.length ≤ 1052 → Completes (i (.turned tn)) s [.clk, .ring] fun t =>
          t.port p = s.port p ∧ (t.port o).lastTx = on ∧ (t.port o).lastAbort = false ∧
            ∃ g ∈ (t.port o).kept ++ (t.port o).held, g.body = b ∧ g.turn = tn)))) ∧
  ((∀ (dt : Nat) (s : State) (r : Reply) (rest : List Reply), s.answers = true → s.frm.replies[senderIx .svc] = r :: rest →
    Completes (.replySend dt .svc) s [.clk, .sys, .pow, .frm, .auth] fun t =>
      t.frm.replies = vmod s.frm.replies (senderIx .svc) (fun _ => rest) ∧
      fieldAt t.frm.svcTx 0 1 = 0xF8 ∧ fieldAt t.frm.svcTx 1 1 = s.ring.addr % 256 ∧ fieldAt t.frm.svcTx 2 2 = r.seq % 65536 ∧
      fieldAt t.frm.svcTx 4 1 = 128 + r.opc % 128 ∧ fieldAt t.frm.svcTx 6 2 = r.payload.length % 65536 ∧
      fieldAt t.frm.svcTx 8 2 = r.sweep % 65536 ∧ (t.frm.svcTx.drop 12).take r.payload.length = r.payload ∧ crcOk t.frm.svcTx = true ∧
      (∀ c, r.resetAfter = some c → t.sys = { s.sys with resetDue := some (s.clk.upNs + dt + 1000000, c) }) ∧
      (r.mossAfter = true → ∃ u, t.pow = { s.pow with mossAt := some u, mossWake := 0 } ∧ u % 10000 = 0 ∧ (s.advance dt).ctUs ≤ u) ∧
      (r.endOpen = true → t.auth.openS[senderIx .svc] = none)) ∧
  ∀ (dt : Nat) (p : PortId) (s : State), s.linkRuns = true →
    let i : Instr := .replySend dt (match p with
      | .ca => .ca
      | .cb => .cb)
    (s.clk.upNs + dt < (s.port p).txEnd + 8 * symNs (s.port p).rate → Completes i s [.clk, .ring] fun t => PortOnly p s t ∧
      (t.port p).ownQ = (s.port p).ownQ ∧ (t.port p).lastTx = (s.port p).lastTx) ∧
    ((s.port p).txEnd + 8 * symNs (s.port p).rate ≤ s.clk.upNs + dt → (s.port p).turn = false →
      (∀ f rest, (s.port p).ownQ = f :: rest → Completes i s [.clk, .ring] fun t => PortOnly p s t ∧ (t.port p).ownQ = rest ∧
        (t.port p).lastTx = f.body ∧ (t.port p).txEnd = s.clk.upNs + dt + f.symbols * symNs (s.port p).rate ∧
        ∃ g ∈ (t.port p).kept, g.body = f.body ∧ g.atNs = (t.port p).txEnd) ∧
      (∀ r rest, (s.port p).ownQ = [] → s.frm.replies[senderIx (portSender p)] = r :: rest →
        Completes i s [.clk, .sys, .pow, .ring, .frm, .auth] fun t =>
          t.frm.replies = vmod s.frm.replies (senderIx (portSender p)) (fun _ => rest) ∧ crcOk (t.port p).lastTx = true ∧
          fieldAt (t.port p).lastTx 0 1 = senderCode (portSender p) ∧ fieldAt (t.port p).lastTx 2 2 = r.seq % 65536 ∧
          fieldAt (t.port p).lastTx 4 1 = 128 + r.opc % 128 ∧ (r.resetAfter = none → t.sys = s.sys) ∧
          ∃ g ∈ (t.port p).kept, g.body = (t.port p).lastTx ∧ g.atNs = (t.port p).txEnd)) ∧
    ((s.port p).txEnd + 8 * symNs (s.port p).rate ≤ s.clk.upNs + dt → (s.port p).turn = true →
      (∀ f rest, (s.port p).ownQ = f :: rest → Completes i s [.clk, .ring] fun t => (t.port p).ownQ = rest ∧
        (t.port p).lastTx = (s.port p).lastTx ∧ (t.port p).turned = min 0x3F ((s.port p).turned + 1) ∧
        t.port (portOther p) = { s.port (portOther p) with ownQ := (s.port (portOther p)).ownQ ++
          [{ body := f.body, turn := turnBytes 2 s.ring.addr (posOf f.body) (s.port p).cause }] }) ∧
      (∀ r rest, (s.port p).ownQ = [] → s.frm.replies[senderIx (portSender p)] = r :: rest →
        Completes i s [.clk, .sys, .pow, .ring, .frm, .auth] fun t => PortOnly p s t ∧
          t.frm.replies = vmod s.frm.replies (senderIx (portSender p)) (fun _ => rest) ∧
          (t.port p).lastTx = (s.port p).lastTx ∧ (t.port p).drop = min 0x3F ((s.port p).drop + 1))))


/-- R73, R154, R168, R178, R185, R231 and Table 4.4 steps 9 to 12, for every opcode: what an order gets before its own checks. With eight
replies waiting it is discarded and counted; a broadcast of an opcode not marked so gets BAD_OPCODE; without the tag that GUARDED asks for
AUTH_FAIL and MISSING; before CTRL runs, beyond groups 0 and 1, BUSY; in spore mode, beyond Table 19.6, BAD_STATE; one that would leave
an operation pending while four are, BUSY; of a wrong length BAD_LENGTH; from a sender that does not hold the needle, where it needs the needle and is not safe-direction on every target, NO_NEEDLE. None
of these changes anything but the frames' and the authentication's own state. That a row of the table takes effect at once is the model's
choice (log entry 69). -/
def Obligations.OrdersScreened : Prop :=
  ∀ (o : Op) (q : Req) (s : State), s.answers = true →
    (8 ≤ (s.frm.replies[senderIx q.sender]).length →
      (o.serve q s).frm = { (s.noteValid q.sender).frm with qfull := min 0xFF (s.frm.qfull + 1) } ∧ Only [.frm, .auth] s (o.serve q s)) ∧
    ((s.frm.replies[senderIx q.sender]).length < 8 →
      (q.bcast = true → o.bcast = false → Answered q o.mem o.opc .badOpcode [] s (o.serve q s) ∧ Only [.frm] s (o.serve q s)) ∧
      ((q.bcast = true → o.bcast = true) →
        (o.lacksTag q (s.noteValid q.sender) = true → Answered q o.mem o.opc .authFail [] s (o.serve q s) ∧
          Only [.frm, .auth] s (o.serve q s) ∧ (o.serve q s).auth = { s.auth with missing := s.auth.missing.raise }) ∧
        (o.lacksTag q (s.noteValid q.sender) = false →
          (s.pow.stage = .ringReady → o.early = false → Answered q o.mem o.opc .busy [] s (o.serve q s) ∧ Only [.frm] s (o.serve q s)) ∧
          (s.pow.stage = .spore → o.inSpore = false → Answered q o.mem o.opc .badState [] s (o.serve q s) ∧ Only [.frm] s (o.serve q s)) ∧
          (s.pow.stage = .running → o.pends = true → 4 ≤ s.pendingOps → Answered q o.mem o.opc .busy [] s (o.serve q s) ∧
            Only [.frm] s (o.serve q s)) ∧
          (s.pow.stage = .running → (o.pends = false ∨ s.pendingOps < 4) → o.lenOk = false → Answered q o.mem o.opc .badLength [] s (o.serve q s) ∧
            Only [.frm] s (o.serve q s)) ∧
          (s.pow.stage = .running → (o.pends = false ∨ s.pendingOps < 4) → o.lenOk = true → o.mayRun q (s.noteValid q.sender) = false →
            Answered q o.mem o.opc .noNeedle [] s (o.serve q s) ∧ Only [.frm] s (o.serve q s) ∧
              (o.serve q s).frm.noNeedleCnt = min 0xFF (s.frm.noNeedleCnt + 1)))))

/-- R186: on each target of a window the first safe-direction order of the holder stands, else the first safe-direction order, else the last
order of all; `claims` lists the orders on the target as (place, safe-direction there, from the holder). -/
def Obligations.MergeWinner : Prop :=
  ∀ (l : List Placed) (t : Target),
    (∀ i, (i, true, true) ∈ claims l t → ∃ w, winner l t = some w ∧ (w, true, true) ∈ claims l t ∧ w ≤ i) ∧
    (∀ i, (i, true, false) ∈ claims l t → (∀ j, (j, true, true) ∉ claims l t) →
      ∃ w, winner l t = some w ∧ (w, true, false) ∈ claims l t ∧ w ≤ i) ∧
    (∀ i h, (i, false, h) ∈ claims l t → (∀ j k, (j, true, k) ∉ claims l t) →
      ∃ w k, winner l t = some w ∧ (w, false, k) ∈ claims l t ∧ i ≤ w) ∧
    (claims l t = [] → winner l t = none)

/-- R167, R174, R190, R191, R192, Table 4.8: the node's own opcodes. RESET is accepted while the permit is off and no handover runs, and its
reply brings the full reset; it gets BAD_PARAM for another KIND, HEAT_ACTIVE and BUSY otherwise. MOSS_ENTER is accepted where nothing of R66
stands against it. IDENTIFY gives 30 bytes, STATUS_READ the 32 bytes taken at the last tick. POLL_RESULT gives the outcome of the sender's
ticket, EST while it is pending, and BAD_PARAM for any other; a kept outcome goes 60 s after its operation finished.
That the row of an opcode acts at once is the model's choice (log entry 69). -/
def Obligations.NodeOrdersComplete : Prop :=
  (∀ (q : Req) (kind : Byte) (s : State), s.obeys q = true →
    (kind.toNat = 1 → s.permitOn = false → s.inHandover = false → s.ho.phase ≠ .fallback → Completes (.reset q kind) s [.frm, .auth] fun t =>
      Answered q false 0x14 .ok [] s t ∧ ((t.frm.replies[senderIx q.sender]).getLast?.bind fun r => r.resetAfter) = some 5) ∧
    (kind.toNat ≠ 1 → Completes (.reset q kind) s [.frm, .auth] fun t => Answered q false 0x14 .badParam [] s t) ∧
    (kind.toNat = 1 → s.permitOn = true → Completes (.reset q kind) s [.frm, .auth] fun t => Answered q false 0x14 .heatActive [] s t) ∧
    (kind.toNat = 1 → s.permitOn = false → s.inHandover = true ∨ s.ho.phase = .fallback → Completes (.reset q kind) s [.frm, .auth] fun t =>
      Answered q false 0x14 .busy [] s t)) ∧
  (∀ (q : Req) (s : State), s.obeys q = true →
    (s.pow.wakeCfg % 8 ≠ 0 → s.mossRefused = false → Completes (.mossEnter q) s [.frm, .auth] fun t => Answered q false 0x0F .ok [] s t ∧
      ((t.frm.replies[senderIx q.sender]).getLast?.map fun r => r.mossAfter) = some true) ∧
    (s.pow.wakeCfg % 8 = 0 → Completes (.mossEnter q) s [.frm, .auth] fun t => Answered q false 0x0F .badParam [] s t) ∧
    (s.pow.wakeCfg % 8 ≠ 0 → s.mossRefused = true → Completes (.mossEnter q) s [.frm, .auth] fun t => Answered q false 0x0F .badState [] s t)) ∧
  (∀ (q : Req) (s : State), s.hears q = true →
    (Completes (.identify q) s [.frm, .auth] fun t => ∃ d : List Byte, d.length = 30 ∧ Answered q false 0x10 .ok d s t ∧
      fieldAt d 0 8 = Config.serial.toNat ∧ fieldAt d 8 2 = 0x6A41 ∧ fieldAt d 10 1 = 0x43 ∧ fieldAt d 11 1 = s.ring.addr % 256 ∧
      fieldAt d 12 1 = bit s.ring.pinned ∧ fieldAt d 14 4 = s.version 0 % 2 ^ 32) ∧
    (s.frm.statusRec ≠ [] → Completes (.statusRead q) s [.frm, .auth] fun t => Answered q false 0x11 .ok s.frm.statusRec s t) ∧
    ∀ (ticket : Half),
      (∀ p, s.frm.pend.find? (fun p => p.ticket == ticket.toNat && p.sender == q.sender) = some p → (p.auth = true → s.trusts q = true) →
        Completes (.pollResult q ticket) s [.frm, .auth] fun t => (match p.outcome with
          | none => Answered q false 0x0E .acceptedPending (leBytes 2 ticket.toNat ++ leBytes 1 p.opc ++ leBytes 2 p.est) s t
          | some x => Answered q false 0x0E x.1 (leBytes 2 ticket.toNat ++ leBytes 1 p.opc ++ x.2) s t) ∧ t.frm.pend = s.frm.pend) ∧
      ((∀ p ∈ s.frm.pend, p.ticket = ticket.toNat → p.sender ≠ q.sender) → Completes (.pollResult q ticket) s [.frm, .auth] fun t =>
        Answered q false 0x0E .badParam [] s t)) ∧
  ∀ (dt ticket : Nat) (s : State), Completes (.resultExpire dt ticket) s [.clk, .frm] fun t =>
    ∀ p ∈ s.frm.pend, p ∈ t.frm.pend ∨ p.ticket = ticket ∧ p.outcome.isSome = true ∧ p.doneUp + 60000000000 ≤ s.clk.upNs + dt

/-- R179, R180, R181, R182, R563, R577, R581: the needle. NEEDLE_TAKE is granted where no one, lichen mode or the sender holds it or FORCE is
set, with TIMEOUT 0 or 2 to 600; a new holder over a host port sets LOST, over lichen mode ends lichen mode; TIMEOUT 1 or over 600 gets
BAD_PARAM and changes neither holder nor HOST_TIMEOUT; otherwise NO_NEEDLE names the holder. NEEDLE_GIVE leaves no holder, or lichen mode with
cause 3. Lichen mode takes the needle at the boundary at which HOST_TIMEOUT has passed, and sets LOST.
That the row of an opcode acts at once is the model's choice (log entry 69). -/
def Obligations.NeedleMoves : Prop :=
  (∀ (q : Req) (flags : Byte) (timeout : Half) (s : State), s.hears q = true → s.trusts q = true →
    (s.frm.holder = .none ∨ s.frm.holder = .lichen ∨ s.frm.holder = senderHolder q.sender ∨ bitOf flags.toNat 0 = true →
      (flags.toNat ≤ 1 → timeout.toNat = 0 ∨ 2 ≤ timeout.toNat ∧ timeout.toNat ≤ 600 →
        Completes (.needleTake q flags timeout) s [.frm, .auth, .fan, .lich, .safe, .inj, .log] fun t =>
          t.frm.holder = senderHolder q.sender ∧ t.frm.ndlAuth = q.auth ∧
          t.frm.hostTo = (if timeout.toNat = 0 then s.frm.hostTo else timeout.toNat) ∧
          (s.frm.holder = .lichen → t.lich.active = false) ∧
          (s.frm.holder ≠ .none → s.frm.holder ≠ .lichen → s.frm.holder ≠ senderHolder q.sender → t.frm.lost = s.frm.lost.raise) ∧
          (s.frm.holder = .none ∨ s.frm.holder = .lichen ∨ s.frm.holder = senderHolder q.sender → t.frm.lost = s.frm.lost) ∧
          Answered q false 0x0C .ok (leBytes 1 (senderCode q.sender) ++ leBytes 1 (holderCode s.frm.holder) ++ leBytes 2 t.frm.hostTo) s t) ∧
      (timeout.toNat = 1 ∨ 600 < timeout.toNat → Completes (.needleTake q flags timeout) s [.frm, .auth] fun t =>
        t.frm.holder = s.frm.holder ∧ t.frm.hostTo = s.frm.hostTo ∧ Answered q false 0x0C .badParam [] s t)) ∧
    (s.frm.holder ≠ .none → s.frm.holder ≠ .lichen → s.frm.holder ≠ senderHolder q.sender → bitOf flags.toNat 0 = false →
      Completes (.needleTake q flags timeout) s [.frm, .auth] fun t => t.frm.holder = s.frm.holder ∧ t.frm.hostTo = s.frm.hostTo ∧
        ∃ d : List Byte, Answered q false 0x0C .noNeedle d s t ∧ fieldAt d 0 1 = holderCode s.frm.holder)) ∧
  (∀ (q : Req) (s : State), s.obeys q = true →
    (Completes (.needleGiveRelease q) s [.frm, .auth, .loop, .drv, .fan, .prog, .lich, .safe, .inj, .log, .cnt] fun t =>
      t.frm.holder = .none ∧ t.frm.ndlAuth = false ∧ t.frm.lost = s.frm.lost ∧ t.lich = s.lich ∧ Answered q false 0x0D .ok [0] s t) ∧
    (Completes (.needleGiveLichen q) s [.frm, .auth, .loop, .drv, .fan, .prog, .lich, .safe, .inj, .log, .cnt] fun t =>
      t.frm.holder = .lichen ∧ t.frm.lost = s.frm.lost ∧ t.lich.active = true ∧ t.lich.cause = 3 ∧ t.lich.entry = s.lich.entry.raise ∧
        Answered q false 0x0D .ok [0xFC] s t)) ∧
  ∀ (s : State), s.atTick = true → s.frm.holder ≠ .lichen →
    (s.frm.hostTo * 100000000 ≤ s.quietNs → Completes .hostTimeoutExpire s [.frm, .loop, .drv, .fan, .prog, .lich, .safe, .inj, .log, .cnt]
      fun t => t.frm.holder = .lichen ∧ t.lich.active = true ∧ t.lich.cause = (if s.frm.holder = .none then 2 else 1) ∧
        t.lich.entry = s.lich.entry.raise ∧ t.frm.lost = s.frm.lost.raise) ∧
    (s.quietNs < s.frm.hostTo * 100000000 → Completes .hostTimeoutExpire s [] fun _ => True)

/-- R172, R173, R175, R320, R322, R840 and Tables 4.5, 7.8: the opcodes that read a published snapshot. A BIDX of the history gives that
snapshot's bytes; of the others one earlier than the next boundary due gets LATE, one at or later than it BAD_PARAM; SWEEP before CTRL runs,
and in spore mode, gives the record of R175 (log entry 108); 0xFFFF_FFFF names the newest to the opcodes that read results; a range of channels that the node has not gets BAD_PARAM.
That the row of an opcode acts at once is the model's choice (log entry 69). -/
def Obligations.SnapshotReadsComplete : Prop :=
  ∀ (q : Req) (bidx : Word) (s : State) (d : Nat), d = (bidx.toNat + 2 ^ 32 - s.nextDue % 2 ^ 32) % 2 ^ 32 →
    (s.listens q = true →
      ((∀ x ∈ s.snap.hist, x.bidx ≠ bidx.toNat) → d < 2 ^ 31 →
        (Completes (.sweep q bidx) s [.frm, .auth] fun t => Answered q false 0x07 .badParam [] s t) ∧
        Completes (.sweepResume q bidx) s [.frm, .auth] fun t => Answered q false 0x08 .badParam [] s t) ∧
      ((∀ x ∈ s.snap.hist, x.bidx ≠ bidx.toNat) → 2 ^ 31 ≤ d →
        (Completes (.sweep q bidx) s [.frm, .auth] fun t => Answered q false 0x07 .late [] s t) ∧
        Completes (.sweepResume q bidx) s [.frm, .auth] fun t => Answered q false 0x08 .late [] s t) ∧
      (∀ x, s.snap.hist.find? (fun x => x.bidx == bidx.toNat) = some x →
        (Completes (.sweep q bidx) s [.frm, .auth] fun t => Answered q false 0x07 .ok ((x.image.drop 64).take 32) s t) ∧
        Completes (.sweepResume q bidx) s [.frm, .auth] fun t => Answered q false 0x08 .ok ((x.image.drop 64).take 32) s t)) ∧
    (s.pow.stage = .ringReady ∨ s.pow.stage = .spore → (s.frm.replies[senderIx q.sender]).length < 8 →
      Completes (.sweep q bidx) s [.frm, .auth] fun t => Answered q false 0x07 .ok ([BitVec.ofNat 8 s.ring.addr, BitVec.ofNat 8 s.modeByte] ++
        List.replicate 6 0 ++ leBytes 4 bidx.toNat ++ List.replicate 20 0) s t) ∧
    (s.hears q = true → ∀ (ch count : Byte),
      (∀ x, (bidx.toNat ≠ 0xFFFFFFFF ∧ s.snap.hist.find? (fun x => x.bidx == bidx.toNat) = some x ∨
          bidx.toNat = 0xFFFFFFFF ∧ s.snap.hist.head? = some x) →
        (1 ≤ count.toNat → ch.toNat + count.toNat ≤ 64 → Completes (.readResults q bidx ch count) s [.frm, .auth] fun t =>
          Answered q false 0x30 .ok (leBytes 4 x.bidx ++ [ch, count] ++ (List.range count.toNat).flatMap fun k =>
            (x.recOf (ch.toNat + k)).take 4 ++ ((x.recOf (ch.toNat + k)).drop 8).take 4) s t) ∧
        (1 ≤ count.toNat → ch.toNat + count.toNat ≤ 64 → count.toNat ≤ 56 → Completes (.readResultsFull q bidx ch count) s [.frm, .auth] fun t =>
          Answered q false 0x31 .ok (leBytes 4 x.bidx ++ leBytes 6 x.btime ++ [ch, count] ++ (List.range count.toNat).flatMap fun k =>
            x.recOf (ch.toNat + k) ++ leBytes 2 (x.stampHi.getD (ch.toNat + k) 0)) s t) ∧
        (1 ≤ count.toNat → ch.toNat + count.toNat ≤ 8 → Completes (.probeReadSnapshot q bidx ch count) s [.frm, .auth] fun t =>
          Answered q false 0x35 .ok ([0] ++ leBytes 4 x.bidx ++ [ch, count] ++
            (x.image.drop (0x460 + 32 * ch.toNat)).take (32 * count.toNat)) s t)) ∧
      (bidx.toNat = 0xFFFFFFFF → s.snap.hist = [] → 1 ≤ count.toNat → ch.toNat + count.toNat ≤ 64 →
        Completes (.readResults q bidx ch count) s [.frm, .auth] fun t => Answered q false 0x30 .late [] s t) ∧
      (count.toNat = 0 ∨ 64 < ch.toNat + count.toNat →
        (Completes (.readResults q bidx ch count) s [.frm, .auth] fun t => Answered q false 0x30 .badParam [] s t) ∧
        Completes (.readResultsFull q bidx ch count) s [.frm, .auth] fun t => Answered q false 0x31 .badParam [] s t))

/-- R196, R197, R198, R199, R200 and Table 4.16: the configuration items. CFG_READ gives an item of a known class and index, running or stored.
CFG_WRITE does what its item's owning opcode does with DATA, and answers CLASS, INDEX and that opcode's reply. CFG_SAVE captures the running
set under a ticket; when it has been written, the copy not in force holds it with the next generation and the other copy is kept; a read-back
that fails leaves both.
That the row of an opcode acts at once is the model's choice (log entry 69). -/
def Obligations.ConfigItemsComplete : Prop :=
  (∀ (q : Req) (source cls : Byte) (index : Half) (s : State), s.hears q = true → s.trusts q = true →
    (∀ k, itemClass cls.toNat = some k → source.toNat ≤ 1 → k.has cls.toNat index.toNat = true →
      Completes (.cfgRead q source cls index) s [.frm, .auth] fun t => Answered q false 0x20 .ok (leBytes 1 source.toNat ++
        leBytes 1 cls.toNat ++ leBytes 2 index.toNat ++ s.itemData (if source.toNat = 0 then s.run else s.storedSet) cls.toNat index.toNat) s t) ∧
    (itemClass cls.toNat = none ∨ 1 < source.toNat → Completes (.cfgRead q source cls index) s [.frm, .auth] fun t =>
      Answered q false 0x20 .badParam [] s t)) ∧
  (∀ (q : Req) (cls : Byte) (index : Half) (item : List Byte) (k : ItemClass) (o : Op) (s : State), s.obeys q = true →
    itemClass cls.toNat = some k → baseOp k.mem k.opc item = some o → o.lenOk = true → item.length = k.size →
    k.has cls.toNat index.toNat = true → itemAgrees cls.toNat index.toNat item = true →
    ∀ r, o.run q (fun _ => true) (s.noteValid q.sender) = r → r.silent = false →
      Completes (.cfgWrite q cls 0 index item) s
        [.frm, .auth, .run, .fe, .loop, .die, .drv, .fan, .prog, .conv, .lich, .therm, .log, .se, .free] fun t =>
          Only [.frm] r.s t ∧ (r.status = .ok → Answered q false 0x21 .ok (leBytes 1 cls.toNat ++ leBytes 2 index.toNat ++ r.data) r.s t) ∧
            (r.status ≠ .ok → r.status ≠ .acceptedPending → Answered q false 0x21 r.status r.data r.s t)) ∧
  (∀ (q : Req) (mode : Byte) (s : State), s.obeys q = true → s.cfgs.capture = none →
    (mode.toNat = 1 → s.inHandover = false → s.cfgs.saving = none → s.pendingOps < 4 → Completes (.cfgSave q mode) s [.frm, .auth, .cfgs] fun t =>
      t.cfgs = { s.cfgs with saving := some (s.frm.nextTicket, s.run) } ∧
        Answered q false 0x22 .acceptedPending (leBytes 2 s.frm.nextTicket ++ leBytes 2 4) s t) ∧
    (4 ≤ s.pendingOps → Completes (.cfgSave q mode) s [.frm, .auth] fun t => Answered q false 0x22 .busy [] s t) ∧
    (mode.toNat ≠ 1 → s.pendingOps < 4 → Completes (.cfgSave q mode) s [.frm, .auth] fun t => Answered q false 0x22 .badParam [] s t) ∧
    (mode.toNat = 1 → s.pendingOps < 4 → s.inHandover = true → Completes (.cfgSave q mode) s [.frm, .auth] fun t => Answered q false 0x22 .badState [] s t) ∧
    (mode.toNat = 1 → s.pendingOps < 4 → s.inHandover = false → s.cfgs.saving.isSome = true → Completes (.cfgSave q mode) s [.frm, .auth] fun t =>
      Answered q false 0x22 .busy [] s t)) ∧
  ∀ (dt ticket : Nat) (set : RunCfg) (s : State), s.cfgs.saving = some (ticket, set) →
    (Completes (.cfgSaveDone dt true) s [.clk, .frm, .cfgs, .free] fun t => t.cfgs.saving = none ∧ t.cfgs.saves = min 0xFFFFFFFF (s.cfgs.saves + 1) ∧
      t.cfgs.fault = false ∧ (t.cfgs.copy[s.cfgs.target]).set = set ∧ (t.cfgs.copy[s.cfgs.target]).valid = true ∧
      (∀ i : Fin 2, i ≠ s.cfgs.target → t.cfgs.copy[i] = s.cfgs.copy[i]) ∧
      ∀ i : Fin 2, (s.cfgs.copy[i]).valid = true → (s.cfgs.copy[i]).gen < (t.cfgs.copy[s.cfgs.target]).gen) ∧
    Completes (.cfgSaveDone dt false) s [.clk, .frm, .cfgs, .free] fun t => t.cfgs = { s.cfgs with saving := none }

/-! ### Sessions and keys (chapter 5) -/

/-- R203: the node accepts FORM 0 only while it is at OPEN; at GUARDED FORM 0 receives BAD_STATE. Accepted, the slot holds the key and its
version, no other slot changes, and the reply carries SLOT, KEYVER and KCV.
That the row of an opcode acts at once is the model's choice (log entry 69). -/
def Obligations.PlainKeyOnlyAtOpen : Prop :=
  ∀ (q : Req) (slot : Byte) (ver : Half) (key : List Byte) (k : Fin 3) (s : State), s.obeys q = true → slot.toNat = k.val → ver.toNat ≠ 0 →
    key.length = 16 →
    (s.guarded = false → Completes (.keyLoadPlain q slot ver key) s [.frm, .auth, .log] fun t =>
      t.auth = { s.auth with keyVer := vmod s.auth.keyVer k fun _ => ver.toNat, key := vmod s.auth.key k fun _ => key } ∧
        t.guarded = true ∧ Answered q false 0x0B .ok ([slot] ++ leBytes 2 ver.toNat ++ (aes128 key zeros16).take 3) s t ∧
        ((t.frm.replies[senderIx q.sender]).getLast?.bind fun r => r.endSlot) = some k.val) ∧
    (s.guarded = true → Completes (.keyLoadPlain q slot ver key) s [.frm, .auth] fun t =>
      t.auth = s.auth ∧ Answered q false 0x0B .badState [] s t)

/-- Sessions, and keys loaded under one (R202 to R237; log entry 49).
R210, R212, R213, R214, R216, R236, R237: sessions. SESSION_OPEN on a slot that holds a key raises NONCE_CNT by one and replies NN, SLOT,
KEYVER and PROOF; the sender's pending session is then a new one with the keys of Table 5.2 and counters 0, and its open session stays. An
empty slot gets BAD_STATE, as does SESSION_CLOSE without an open session; SESSION_CLOSE ends the open session once its reply is sent. A pending
session ends 10 s after its reply has been sent. That NN carries the count as increased is the model's reading (log entry 49).
R202, R204 to R208: FORM 1 and FORM 2 of KEY_LOAD. Under the sender's open session FORM 1 loads the block decrypted under that session's
K_WRAP and FORM 2 erases the slot (an order carried out later than it was judged keeps the session that carried it); sessions on the slot end once the reply is sent; with every slot empty the node is at OPEN. Without a
session they get AUTH_FAIL and change no key; KEYVER 0 gets BAD_PARAM in FORM 0 and FORM 1.
That the row of an opcode acts at once is the model's choice (log entry 69). -/
def Obligations.SessionsAndKeys : Prop :=
  ((∀ (q : Req) (slot : Byte) (nh : List Byte) (k : Fin 3) (s : State), s.hears q = true → slot.toNat = k.val → nh.length = 8 →
    (k = 2 → q.sender = .svc) →
    (s.auth.keyVer[k] ≠ 0 → s.auth.nonceCnt < 0xFFFFFFFF → (s.auth.opened.filter fun u => decide (s.clk.upNs - u < 1000000000)).length < 10 →
      Completes (.sessionOpen q slot nh) s [.frm, .auth, .free] fun t => ∃ (nn : List Byte) (x : Session), nn.length = 8 ∧
        fieldAt nn 0 4 = s.auth.nonceCnt + 1 ∧ t.auth.nonceCnt = s.auth.nonceCnt + 1 ∧
        t.auth.pendS = vmod s.auth.pendS (senderIx q.sender) (fun _ => some x) ∧ t.auth.openS = s.auth.openS ∧
        x.slot = k.val ∧ x.rxLast = 0 ∧ x.txLast = 0 ∧ x.rekeyDue = false ∧ x.replied = false ∧ x.nonce = s.auth.nonceCnt + 1 ∧
        x.kReq = cmac s.auth.key[k] ([1] ++ sessLabel ++ [0] ++ nh ++ nn ++ leBytes 1 (senderCode q.sender) ++ serialBytes ++ [0x01, 0x80]) ∧
        x.kRep = cmac s.auth.key[k] ([2] ++ sessLabel ++ [0] ++ nh ++ nn ++ leBytes 1 (senderCode q.sender) ++ serialBytes ++ [0x01, 0x80]) ∧
        x.kWrap = cmac s.auth.key[k] ([3] ++ sessLabel ++ [0] ++ nh ++ nn ++ leBytes 1 (senderCode q.sender) ++ serialBytes ++ [0x01, 0x80]) ∧
        Answered q false 0x09 .ok (nn ++ [slot] ++ leBytes 2 s.auth.keyVer[k] ++
          (cmac x.kRep (nh ++ nn ++ [slot] ++ leBytes 2 s.auth.keyVer[k])).take 8) s t) ∧
    (s.auth.keyVer[k] = 0 → Completes (.sessionOpen q slot nh) s [.frm, .auth] fun t => t.auth = s.auth ∧
      Answered q false 0x09 .badState [] s t)) ∧
  (∀ (q : Req) (s : State), s.hears q = true →
    (s.trusts q = true → (s.auth.openS[senderIx q.sender]).isSome = true → Completes (.sessionClose q) s [.frm, .auth] fun t =>
      t.auth = s.auth ∧ Answered q false 0x0A .ok [] s t ∧
        ((t.frm.replies[senderIx q.sender]).getLast?.map fun r => r.endOpen) = some true) ∧
    (s.trusts q = true → s.auth.openS[senderIx q.sender] = none → Completes (.sessionClose q) s [.frm, .auth] fun t =>
      t.auth = s.auth ∧ Answered q false 0x0A .badState [] s t) ∧
    Completes (.sessionStatus q) s [.frm, .auth] fun t => t.auth = s.auth ∧ ∃ d : List Byte, d.length = 52 ∧
      Answered q false 0x12 .ok d s t ∧ fieldAt d 0 1 = bit s.guarded ∧
      (∀ k : Fin 3, fieldAt d (1 + 2 * k.val) 2 = s.auth.keyVer[k] % 65536) ∧
      (∀ k : Fin 3, ∀ x, s.auth.openS[k] = some x → fieldAt d (7 + 11 * k.val) 1 = (if (s.auth.pendS[k]).isSome then 3 else 1) ∧
        fieldAt d (10 + 11 * k.val) 4 = x.rxLast % 2 ^ 32 ∧ fieldAt d (14 + 11 * k.val) 4 = x.txLast % 2 ^ 32) ∧
      fieldAt d 48 4 = s.auth.nonceCnt % 2 ^ 32) ∧
  ∀ (dt : Nat) (who : Sender) (x : Session) (s : State), s.auth.pendS[senderIx who] = some x →
    (x.replied = true → x.bornUp + 10000000000 ≤ s.clk.upNs + dt → Completes (.pendingSessionExpire dt who) s [.clk, .auth] fun t =>
      t.auth = { s.auth with pendS := vmod s.auth.pendS (senderIx who) fun _ => none }) ∧
    (x.replied = false ∨ s.clk.upNs + dt < x.bornUp + 10000000000 → Completes (.pendingSessionExpire dt who) s [.clk] fun t =>
      t.auth = s.auth) ∧
    (∀ (r : Reply) (rest : List Reply), who = .svc → s.answers = true → s.frm.replies[senderIx .svc] = r :: rest → r.opc = 0x09 →
      r.mem = false → fieldAt r.payload 0 1 = 0 → fieldAt r.payload 1 4 = x.nonce → r.sess = none → r.endOpen = false → r.endSlot = none →
      x.replied = false → Completes (.replySend dt .svc) s [.clk, .sys, .pow, .frm, .auth] fun t =>
        t.auth.pendS = vmod s.auth.pendS (senderIx .svc) (fun _ => some { x with replied := true, bornUp := s.clk.upNs + dt }) ∧
          t.auth.openS = s.auth.openS)) ∧
  (∀ (q : Req) (slot : Byte) (ver : Half) (block : List Byte) (k : Fin 3) (s : State), s.obeys q = true → s.frm.orderSess = none →
    slot.toNat = k.val → block.length = 16 →
    (∀ x, s.frm.orderCarrier = some x ∨ s.frm.orderCarrier = none ∧ q.auth = true ∧ s.auth.openS[senderIx q.sender] = some x →
      (ver.toNat ≠ 0 → Completes (.keyLoadWrapped q slot ver block) s [.frm, .auth, .log] fun t =>
        t.auth = { s.auth with keyVer := vmod s.auth.keyVer k fun _ => ver.toNat,
                               key := vmod s.auth.key k fun _ => aes128Inv x.kWrap block } ∧
          Answered q false 0x0B .ok ([slot] ++ leBytes 2 ver.toNat ++ (aes128 (aes128Inv x.kWrap block) zeros16).take 3) s t ∧
          ((t.frm.replies[senderIx q.sender]).getLast?.bind fun r => r.endSlot) = some k.val) ∧
      Completes (.keyLoadErase q slot ver) s [.frm, .auth, .log] fun t =>
        t.auth = { s.auth with keyVer := vmod s.auth.keyVer k fun _ => 0, key := vmod s.auth.key k fun _ => [] } ∧
          ((∀ j : Fin 3, j ≠ k → s.auth.keyVer[j] = 0) → t.guarded = false) ∧
          Answered q false 0x0B .ok ([slot] ++ List.replicate 5 0) s t) ∧
    (s.frm.orderCarrier = none → q.auth = false ∨ s.auth.openS[senderIx q.sender] = none →
      (ver.toNat ≠ 0 → Completes (.keyLoadWrapped q slot ver block) s [.frm, .auth] fun t => t.auth = s.auth ∧
        Answered q false 0x0B .authFail [] s t) ∧
      Completes (.keyLoadErase q slot ver) s [.frm, .auth] fun t => t.auth = s.auth ∧ Answered q false 0x0B .authFail [] s t) ∧
    (ver.toNat = 0 →
      (Completes (.keyLoadPlain q slot ver block) s [.frm, .auth] fun t => t.auth = s.auth ∧ Answered q false 0x0B .badParam [] s t) ∧
      Completes (.keyLoadWrapped q slot ver block) s [.frm, .auth] fun t => t.auth = s.auth ∧ Answered q false 0x0B .badParam [] s t))

/-! ### Measurement channels (chapter 6) -/

/-- R241, R265, R292, R296: a group that may start a scan starts it with the configuration accepted for its channels, and recovery and
burn-out are cleared where that is a new one, or changes since ended at the one in effect; CSEQ goes on; a group that begins to scan calls for its
cold junctions. No channel and no group beside it changes. A group that may not does nothing. -/
def Obligations.ScanStartsWithAcceptedConfig : Prop :=
  ∀ (dt : Nat) (g : Fin 4) (s : State),
    ((s.advance dt).scanMay g = true → Completes (.scanStart dt g) s [.clk, .fe] fun t =>
      (t.fe.grp[g]).inScan = true ∧ (t.fe.grp[g]).scanning = true ∧ (t.fe.grp[g]).checkDone = false ∧ (t.fe.grp[g]).cfg = s.run.scan[g] ∧
      (t.fe.grp[g]).cjDue = ((s.fe.grp[g]).cjDue || !(s.fe.grp[g]).scanning) ∧
      (∀ n : Fin 64, n.val / 16 = g.val → (t.fe.ch[n]).cfg = s.run.chan[n] ∧ (t.fe.ch[n]).cseq = (s.fe.ch[n]).cseq ∧
        ((s.fe.ch[n]).cfg ≠ s.run.chan[n] ∨ (s.fe.ch[n]).changed = true → (t.fe.ch[n]).changed = false ∧ (t.fe.ch[n]).hold = none ∧ (t.fe.ch[n]).burnout = false ∧ (t.fe.ch[n]).posRun = 0 ∧
          (t.fe.ch[n]).past = []) ∧
        ((s.fe.ch[n]).cfg = s.run.chan[n] → (s.fe.ch[n]).changed = false → t.fe.ch[n] = s.fe.ch[n])) ∧
      (∀ n : Fin 64, n.val / 16 ≠ g.val → t.fe.ch[n] = s.fe.ch[n]) ∧ ∀ h : Fin 4, h ≠ g → t.fe.grp[h] = s.fe.grp[h]) ∧
    ((s.advance dt).scanMay g = false → Completes (.scanStart dt g) s [.clk] fun _ => True)

/-- R257, R263, R273, R275, R276, R631, R842: the check slot, the cold junctions and the overload comparator. A check slot whose readings
fail raises CHECK_FAIL; a group's first awaits the first sample of its cold junctions, taken where its start or a process tick called for one. A cold-junction reading outside −45 to +105 °C makes its sensor invalid, with CJ_FAULT raised once at the change; one
inside makes it valid. OVD, while the channel's domain is on, records when it last saw the input out of range. Nothing else of the front end changes. -/
def Obligations.CheckSlotsColdJunctionsOverloads : Prop :=
  (∀ (dt : Nat) (g : Fin 4) (zero ref : Int) (s : State), (s.fe.grp[g]).inScan = true → (s.fe.grp[g]).checkDone = false →
    ((s.fe.grp[g]).cjSeen = false → Completes (.checkSlotEnd dt g zero ref) s [.clk] fun t => t.fe = s.fe) ∧
    ((s.fe.grp[g]).cjSeen = true → Completes (.checkSlotEnd dt g zero ref) s [.clk, .fe, .loop, .drv, .prog, .safe, .inj, .log, .cnt] fun t =>
      (t.fe.grp[g]).checkDone = true ∧ (t.fe.grp[g]).clamped = false ∧
      (t.fe.grp[g]).checkFail = (s.fe.grp[g]).checkFail.raiseIf (!s.checkPasses g zero ref) ∧
      (∀ n : Fin 64, n.val / 16 ≠ g.val → t.fe.ch[n] = s.fe.ch[n]) ∧ (∀ h : Fin 4, h ≠ g → t.fe.grp[h] = s.fe.grp[h]) ∧ t.fe.cj = s.fe.cj)) ∧
  (∀ (dt : Nat) (k : Fin 4) (a b : Int) (s : State), s.pow.stage = .running → s.inj.isOpen = false →
    ((s.fe.grp[k]).cjDue = false → Completes (.cjSampleEnd dt k a b) s [.clk] fun t => t.fe = s.fe) ∧
    ((s.fe.grp[k]).cjDue = true → Completes (.cjSampleEnd dt k a b) s [.clk, .fe] fun t => t.fe.ch = s.fe.ch ∧
      t.fe.grp = vmod s.fe.grp k (fun x => { x with cjDue := false, cjSeen := true }) ∧
      (∀ (i : Fin 8) (x : Int), i.val = 2 * k.val ∧ x = a ∨ i.val = 2 * k.val + 1 ∧ x = b →
        (-4500 ≤ x → x ≤ 10500 → t.fe.cj[i] = { temp := some x, faulty := false, flt := (s.fe.cj[i]).flt }) ∧
        (x < -4500 ∨ 10500 < x →
          t.fe.cj[i] = { temp := none, faulty := true, flt := (s.fe.cj[i]).flt.raiseIf (!(s.fe.cj[i]).faulty) })) ∧
      ∀ i : Fin 8, i.val / 2 ≠ k.val → t.fe.cj[i] = s.fe.cj[i])) ∧
  ∀ (dt : Nat) (n : Fin 64) (up : Bool) (s : State),
    (s.domOn (n.val / 8) = false → Completes (.ovdTrip dt n up) s [.clk] fun t => t.fe = s.fe) ∧
    (s.domOn (n.val / 8) = true → Completes (.ovdTrip dt n up) s [.clk, .fe] fun t =>
      t.fe = { s.fe with ch := vmod s.fe.ch n fun c => { c with ovdOut := true, ovdUp := some (s.clk.upNs + dt) } }) ∧
    ((s.fe.ch[n]).ovdOut = true → Completes (.ovdClear dt n) s [.clk, .fe] fun t =>
      t.fe = { s.fe with ch := vmod s.fe.ch n fun c => { c with ovdOut := false, ovdUp := some (s.clk.upNs + dt) } })

/-- R241, R269, R271, R272, R276, R277, R280, R281: the conversion of a channel that gets its slot. CSEQ rises by one; a clamp gives RAW
0x7F_FFFF or 0x80_0000 with OVR_HI or OVR_LO and the table's end value, and raises OVR; the flag and value stay until a conversion that is
not clamped and began 2 ms after OVD last saw the input out of range; the third positive clamp in a row sets BURNOUT where the type allows it
and raises BURN, and while BURNOUT is set the held direction is positive (R280). Without a valid T_CJ VALUE is held and STALE set (R260). A table
change due by the end is in effect (R312). No channel of another group and no other group changes. Without a test session. -/
def Obligations.ConversionFormsRecord : Prop :=
  ∀ (dt : Nat) (n : Fin 64) (raw : Int) (clamp : Option Bool) (s : State) (c : Chan), s.inj.isOpen = false → c = s.fe.ch[n] →
    (s.fe.grp[groupOf n]).inScan = true → (s.fe.grp[groupOf n]).checkDone = true → (s.advance dt).nextSlot (groupOf n) = some n →
    Completes (.conversionEnd dt n raw clamp) s [.clk, .fe, .loop, .drv, .prog, .energy, .safe, .inj, .log, .cnt, .se] fun t =>
      (t.fe.ch[n]).cseq = (c.cseq + 1) % 65536 ∧
      (∀ m : Fin 64, m.val / 16 ≠ n.val / 16 → t.fe.ch[m] = s.fe.ch[m]) ∧ (∀ h : Fin 4, h.val ≠ n.val / 16 → t.fe.grp[h] = s.fe.grp[h]) ∧
      (c.cfg.primary = false → c.cfg.typ ≠ 0x0C → (liveCfgs s.run.chan (groupOf n)).isEmpty = false →
        (t.fe.ch[n]).rcd.cseq = (c.cseq + 1) % 65536 ∧ (t.fe.ch[n]).rcd.settleExt = (s.fe.grp[groupOf n]).clamped ∧
        (t.fe.ch[n]).rcd.gain = c.cfg.gainByte ∧ (t.fe.ch[n]).rcd.safety = c.cfg.safety ∧ (t.fe.ch[n]).rcd.injected = false ∧
        (∀ d, clamp = some d → (t.fe.ch[n]).rcd.raw = (if d then 0x7FFFFF else -0x800000) ∧ (t.fe.ch[n]).rcd.ovrHi = (d || c.burnout) ∧
          (t.fe.ch[n]).rcd.ovrLo = !(d || c.burnout) ∧ (t.fe.ch[n]).hold = some (d || c.burnout) ∧ (t.fe.ch[n]).ovr = c.ovr.raise ∧
          ∀ tb, tableIn (s.tab.settle (s.advance dt).ctUs).eff c.cfg.tableNo = some tb → (t.fe.ch[n]).rcd.linClamp = true ∧
            (t.fe.ch[n]).rcd.value = clampI (-2147483648) 2147483647 (tableEnd tb.pts (d || c.burnout))) ∧
        (clamp = none → (t.fe.ch[n]).ovr = c.ovr ∧ (t.fe.ch[n]).rcd.raw = clampI (-0x800000) 0x7FFFFF raw ∧
          ((s.advance dt).ovdClear n (convUs c.cfg.conv) = true → (t.fe.ch[n]).hold = none ∧ (t.fe.ch[n]).rcd.ovrHi = false ∧
            (t.fe.ch[n]).rcd.ovrLo = false ∧ (t.fe.ch[n]).rcd.burnout = false ∧
            (((s.advance dt).cjFor n).t = none → (tableIn (s.tab.settle (s.advance dt).ctUs).eff c.cfg.tableNo).isSome = true →
              (t.fe.ch[n]).rcd.stale = true ∧ (t.fe.ch[n]).rcd.value = clampI (-2147483648) 2147483647 c.rcd.value)) ∧
          ((s.advance dt).ovdClear n (convUs c.cfg.conv) = false → (t.fe.ch[n]).hold = c.hold ∧
            ((t.fe.ch[n]).rcd.ovrHi = true ↔ c.hold = some true) ∧ ((t.fe.ch[n]).rcd.ovrLo = true ↔ c.hold = some false))) ∧
        (clamp = some true → c.posRun = 2 → c.cfg.burn ≠ 0 ∨ isOhm c.cfg.typ = true → c.burnout = false →
          (t.fe.ch[n]).rcd.burnout = true ∧ (t.fe.ch[n]).burn = c.burn.raise))

/-- R247, R248, R266, R282, R288, R289, R290, R291, R293: CH_CONFIG and SCAN_CONFIG in their order of checks, and CH_STATUS. Accepted, the
channel has the configuration named and a 3- or 4-wire primary's partner is PARTNER, or OFF again; refused, the running configuration stays.
The reply is the payload applied.
That the row of an opcode acts at once is the model's choice (log entry 69). -/
def Obligations.ChannelConfigComplete : Prop :=
  (∀ (q : Req) (img : List Byte) (n : Fin 64) (c : ChCfg) (s : State), s.obeys q = true → img.length = 12 → fieldAt img 0 1 = n.val →
    c = ChCfg.ofBytes img →
    (s.chanCodesOk img = false → Completes (.chConfig q img) s [.frm, .auth] fun t => Answered q false 0x32 .badParam [] s t) ∧
    (s.chanCodesOk img = true →
      (s.pairBad n c = true → Completes (.chConfig q img) s [.frm, .auth] fun t => Answered q false 0x32 .badState [] s t) ∧
      (s.pairBad n c = false →
        ((s.run.chan[n]).safety = true → c.safety = false → (s.safe.hlIx n.val).isSome = true →
          Completes (.chConfig q img) s [.frm, .auth] fun t => Answered q false 0x32 .safetyLocked [] s t) ∧
        (((s.run.chan[n]).safety = true → c.safety = true ∨ s.safe.hlIx n.val = none) →
          (s.permitOn = true → (s.run.chan[n]).safety = true → s.run.chan[n] ≠ c →
            Completes (.chConfig q img) s [.frm, .auth] fun t => Answered q false 0x32 .heatActive [] s t) ∧
          ((s.permitOn = true → (s.run.chan[n]).safety = true → s.run.chan[n] = c) →
            (timingOk (withChan s.run.chan n c) s.run.scan[groupOf n] (groupOf n) = false →
              Completes (.chConfig q img) s [.frm, .auth] fun t => Answered q false 0x32 .badParam [] s t) ∧
            (timingOk (withChan s.run.chan n c) s.run.scan[groupOf n] (groupOf n) = true →
              Completes (.chConfig q img) s [.frm, .auth, .run, .fe] fun t =>
                t.run = { s.run with chan := withChan s.run.chan n c } ∧ t.run.chan[n] = c ∧
                (∀ m : Fin 64, m ≠ n → m.val ≠ n.val + 1 → t.run.chan[m] = s.run.chan[m]) ∧
                (∀ m : Fin 64, m.val = n.val + 1 → (c.primary = true → (t.run.chan[m]).typ = 0x0C) ∧
                  (c.primary = false → (s.run.chan[n]).primary = true → (t.run.chan[m]).typ = 0) ∧
                  (c.primary = false → (s.run.chan[n]).primary = false → t.run.chan[m] = s.run.chan[m])) ∧
                ((liveCfgs (withChan s.run.chan n c) (groupOf n)).isEmpty = false → ∀ m : Fin 64, t.run.chan[m] ≠ s.run.chan[m] →
                  (t.fe.ch[m]).changed = true) ∧
                Answered q false 0x32 .ok img s t)))))) ∧
  (∀ (q : Req) (group mode period : Byte) (g : Fin 4) (s : State), s.obeys q = true → group.toNat = g.val →
    let c : ScanCfg := { mode := mode.toNat, period := period.toNat }
    (1 < mode.toNat ∨ 6 < period.toNat → Completes (.scanConfig q group mode period) s [.frm, .auth] fun t =>
      Answered q false 0x34 .badParam [] s t) ∧
    (mode.toNat ≤ 1 → period.toNat ≤ 6 →
      (s.permitOn = true → (∃ x ∈ liveCfgs s.run.chan g, x.safety = true) →
        Completes (.scanConfig q group mode period) s [.frm, .auth] fun t => Answered q false 0x34 .heatActive [] s t) ∧
      ((s.permitOn = true → ∀ x ∈ liveCfgs s.run.chan g, x.safety = false) →
        (timingOk s.run.chan c g = false → Completes (.scanConfig q group mode period) s [.frm, .auth] fun t =>
          Answered q false 0x34 .badParam [] s t) ∧
        (timingOk s.run.chan c g = true → Completes (.scanConfig q group mode period) s [.frm, .auth, .run] fun t =>
          t.run = { s.run with scan := s.run.scan.set g c } ∧
          Answered q false 0x34 .ok ([group, mode, period] ++ leBytes 4 (tScan s.run.chan g) ++ leBytes 4 (tScanMax s.run.chan g)) s t)))) ∧
  ∀ (q : Req) (ch count : Byte) (s : State), s.hears q = true →
    (count.toNat = 0 ∨ 64 < ch.toNat + count.toNat → Completes (.chStatus q ch count) s [.frm, .auth] fun t =>
      Answered q false 0x33 .badParam [] s t) ∧
    (1 ≤ count.toNat → ch.toNat + count.toNat ≤ 64 → Completes (.chStatus q ch count) s [.frm, .auth] fun t =>
      ∃ d : List Byte, d.length = 8 * count.toNat + 32 ∧ Answered q false 0x33 .ok d s t ∧
        ∀ (k : Nat) (n : Fin 64), k < count.toNat → n.val = ch.toNat + k → fieldAt d (8 * k) 1 = n.val ∧
          fieldAt d (8 * k + 1) 1 = (s.fe.ch[n]).cfg.typ % 256 ∧ fieldAt d (8 * k + 2) 1 = s.chState n ∧
          fieldAt d (8 * k + 4) 4 = s.regChEvt n % 2 ^ 32)

/-! ### Tables, snapshots, loop outputs (chapter 7) -/

/-- R301, R302: a table of rising X at a table input. Between two neighbouring breakpoints, these included, VALUE is the exact quotient
rounded to the nearest integer with halves away from zero, without LIN_CLAMP; below the first X it is the first Y, above the last X the last
Y, both with LIN_CLAMP. -/
def Obligations.InterpolationExact : Prop :=
  ∀ (pts : List (Int × Int)) (x : Int), risesX pts = true →
    (∀ pre a b post, pts = pre ++ a :: b :: post → a.1 ≤ x → x ≤ b.1 →
      let d := b.1 - a.1
      let num := a.2 * d + (x - a.1) * (b.2 - a.2)
      let v := (interp pts x).1
      (interp pts x).2 = false ∧ 2 * (v * d - num).natAbs ≤ d.natAbs ∧ (2 * (v * d - num).natAbs = d.natAbs → num.natAbs < (v * d).natAbs)) ∧
    (∀ a post, pts = a :: post → x < a.1 → interp pts x = (a.2, true)) ∧
    (∀ pre b, pts = pre ++ [b] → b.1 < x → interp pts x = (b.2, true))

/-- R304, R306, R307, R309, R310, R311, R312 and Table 7.1: the table opcodes. TABLE_READ gives the image of a built-in or stored user table,
BAD_STATE for an empty one, BAD_PARAM above 31. TABLE_WRITE makes its checks in order and stores the image, TABLE_ERASE the empty one; either
takes effect at the first 10 ms boundary after it, a change that was due by then has taken effect, and no other table changes.
That the row of an opcode acts at once is the model's choice (log entry 69). -/
def Obligations.TablesComplete : Prop :=
  (∀ (q : Req) (tn : Byte) (s : State), s.hears q = true → s.trusts q = true →
    (31 < tn.toNat → Completes (.tableRead q tn) s [.frm, .auth] fun t => Answered q false 0x23 .badParam [] s t) ∧
    (tn.toNat < 8 → Completes (.tableRead q tn) s [.frm, .auth] fun t => ∃ d : List Byte, Answered q false 0x23 .ok (tn :: d) s t ∧
      Table.ofImage d = builtin tn.toNat ∧ fieldAt d 0 1 = 1 ∧ fieldAt d 4 1 = 1 ∧ fieldAt d 6 2 = 1 ∧
      crc32 (d.take (d.length - 4)) = fieldAt d (d.length - 4) 4) ∧
    (∀ i : Fin 24, tn.toNat = 8 + i.val →
      (s.tab.stored[i] = [] → Completes (.tableRead q tn) s [.frm, .auth] fun t => Answered q false 0x23 .badState [] s t) ∧
      (s.tab.stored[i] ≠ [] → Completes (.tableRead q tn) s [.frm, .auth] fun t => Answered q false 0x23 .ok (tn :: s.tab.stored[i]) s t))) ∧
  (∀ (q : Req) (tn : Byte) (img : List Byte) (s : State), s.obeys q = true →
    (img.length ≠ 20 + 8 * fieldAt img 1 1 → Completes (.tableWrite q tn img) s [.frm, .auth] fun t =>
      Answered q false 0x24 .badLength [] s t) ∧
    (img.length = 20 + 8 * fieldAt img 1 1 →
      (tableOk tn.toNat img = false → Completes (.tableWrite q tn img) s [.frm, .auth] fun t => Answered q false 0x24 .badParam [] s t) ∧
      (∀ i : Fin 24, tn.toNat = 8 + i.val → tableOk tn.toNat img = true →
        (s.tableUsed tn.toNat = true → (Table.ofImage s.tab.stored[i]).xunit ≠ fieldAt img 3 1 →
          Completes (.tableWrite q tn img) s [.frm, .auth] fun t => Answered q false 0x24 .badState [] s t) ∧
        ((s.tableUsed tn.toNat = true → (Table.ofImage s.tab.stored[i]).xunit = fieldAt img 3 1) →
          (s.permitOn = true → s.tableSafety tn.toNat = true → Completes (.tableWrite q tn img) s [.frm, .auth] fun t =>
            Answered q false 0x24 .heatActive [] s t) ∧
          ((s.permitOn = true → s.tableSafety tn.toNat = false) → Completes (.tableWrite q tn img) s [.frm, .auth, .tab] fun t =>
            t.tab.stored = s.tab.stored.set i img ∧ t.tab.eff = (s.tab.settle s.ctUs).eff ∧
              t.tab.due = (s.tab.settle s.ctUs).due.set i (some ((s.ctUs / 10000 + 1) * 10000)) ∧
              t.tab.gen = (s.tab.settle s.ctUs).gen ∧
              Answered q false 0x24 .ok (tn :: leBytes 2 (fieldAt img 6 2) ++ leBytes 4 (fieldAt img (img.length - 4) 4)) s t))))) ∧
  (∀ (q : Req) (tn : Byte) (s : State), s.obeys q = true →
    (tn.toNat < 8 ∨ 31 < tn.toNat → Completes (.tableErase q tn) s [.frm, .auth] fun t => Answered q false 0x25 .badParam [] s t) ∧
    (∀ i : Fin 24, tn.toNat = 8 + i.val →
      (s.tableUsed tn.toNat = true → Completes (.tableErase q tn) s [.frm, .auth] fun t => Answered q false 0x25 .badState [] s t) ∧
      (s.tableUsed tn.toNat = false → s.tab.stored[i] = [] → Completes (.tableErase q tn) s [.frm, .auth] fun t => Answered q false 0x25 .ok [tn] s t) ∧
      (s.tableUsed tn.toNat = false → s.tab.stored[i] ≠ [] → Completes (.tableErase q tn) s [.frm, .auth, .tab] fun t =>
        t.tab.stored = s.tab.stored.set i [] ∧
        t.tab.eff = (s.tab.settle s.ctUs).eff ∧ t.tab.due = (s.tab.settle s.ctUs).due.set i (some ((s.ctUs / 10000 + 1) * 10000)) ∧
          Answered q false 0x25 .ok [tn] s t))) ∧
  ∀ (x : Tables) (t : Nat) (i : Fin 24),
    (∀ d, x.due[i] = some d → d ≤ t → (x.settle t).eff[i] = x.stored[i] ∧ (x.settle t).due[i] = none) ∧
    (∀ d, x.due[i] = some d → t < d → (x.settle t).eff[i] = x.eff[i] ∧ (x.settle t).due[i] = some d) ∧
    (x.due[i] = none → (x.settle t).eff[i] = x.eff[i])

/-- R313, R314, R316, R317, R323 and Tables 7.6, 7.7: the publication of boundary B. The history takes one snapshot of 2,048 bytes with
BIDX, BTIME and PUBNO of the boundary in the next slot and keeps at most eight; FLTMASK has as many bits as CHF counts. Where no boundary is
due nothing happens. The offsets within the 80 µs are not modelled (log entry 82). -/
def Obligations.SnapshotPublished : Prop :=
  (∀ (b : Nat) (s : State), s.pubNow = some b →
    Completes .snapshotPublish s [.clk, .frm, .fe, .tab, .snap, .prog, .log, .se, .upd, .ho, .mem, .free] fun t =>
      ∃ x : Snap, t.snap.hist = (x :: s.snap.hist).take 8 ∧ x.slot = s.snap.nextSlot ∧ x.bidx = b % 2 ^ 32 ∧ x.btime = b * 10000 ∧
        t.snap.pubNo = (s.snap.pubNo + 1) % 2 ^ 32 ∧ t.snap.nextSlot = (s.snap.nextSlot + 1) % 8 ∧ t.snap.lastBidx = some b ∧
        x.image.length = 2048 ∧ fieldAt x.image 0 4 = x.bidx ∧ fieldAt x.image 4 6 = x.btime % 2 ^ 48 ∧
        fieldAt x.image 12 4 = t.snap.pubNo ∧ fieldAt x.image 64 1 = s.ring.addr % 256 ∧ fieldAt x.image 72 4 = x.bidx ∧
        fieldAt x.image (64 + 26) 1 = ((List.range 64).filter fun k => bitOf (fieldAt x.image 24 8) k).length) ∧
  ∀ (s : State), s.pubNow = none → Completes .snapshotPublish s [] fun _ => True

/-- Loop outputs: their orders and their diagnosis (R320 to R347; log entry 83).
R331, R333 to R335, R342 to R345 and Table 7.10: LOOP_CONFIG, LOOP_SET and LOOP_STATUS. An accepted configuration is in force at once,
none is while the permit is on and HEAT is set; SET takes its target on a MANUAL output, CLOSE holds a HEAT output at CLOSE_UA whoever
sends it, RESUME ends the hold; on a HEAT output SET and RESUME get BAD_STATE while the permit is off, as on
an output of the programme (R544), where only RESUME from a permit removal is taken (R524; log entry 139). No other output changes.
R336 and Table 7.9: a diagnostic flag is raised once for an unbroken spell of its condition, when it has been held for 20 ms (OPEN) or 100 ms
(SHORT, DEV); no diagnostic changes an output's current. The spell is counted from the command at which the model first sees the condition
(log entry 83).
That the row of an opcode acts at once is the model's choice (log entry 69). -/
def Obligations.LoopOutputs : Prop :=
  ((∀ (q : Req) (img : List Byte) (n : Fin 8) (c : LoopCfg) (s : State), s.obeys q = true → img.length = 16 → fieldAt img 0 1 = n.val →
    c = LoopCfg.ofBytes img →
    (loopCfgOk img = false → Completes (.loopConfig q img) s [.frm, .auth] fun t => Answered q false 0x58 .badParam [] s t) ∧
    (loopCfgOk img = true → s.permitOn = true → (s.run.loop[n]).heat = true ∨ c.heat = true →
      Completes (.loopConfig q img) s [.frm, .auth] fun t => Answered q false 0x58 .heatActive [] s t) ∧
    (loopCfgOk img = true → (s.permitOn = true → (s.run.loop[n]).heat = false ∧ c.heat = false) →
      Completes (.loopConfig q img) s [.frm, .auth, .run, .loop] fun t => t.run = { s.run with loop := s.run.loop.set n c } ∧
        (∀ m : Fin 8, m ≠ n → t.loop[m] = s.loop[m]) ∧
        ((s.run.loop[n]).mode ≠ c.mode → s.loLost n = false → c.mode ≠ 0 → (t.loop[n]).closed = false →
          (t.loop[n]).now = (if c.faultDown then 3600 else 21000) ∧ (t.loop[n]).atFault = true) ∧
        ((t.loop[n]).closed = true ↔ (s.loop[n]).closed = true ∧ c.heat = true ∧ (s.loop[n]).permitHold = true ∧ s.permitOn = false) ∧
        Answered q false 0x58 .ok img s t)) ∧
  (∀ (q : Req) (lo : Byte) (ua : Half) (n : Fin 8) (s : State), s.obeys q = true → lo.toNat = n.val →
    (ua.toNat ≤ 24000 → (s.loCfg n).mode = 2 → ((s.loCfg n).heat = true → s.permitOn = true) → s.therm.shut = false →
      s.loopOwned n.val = false →
      Completes (.loopSetSet q lo ua) s [.frm, .auth, .loop] fun t => (t.loop[n]).want = some ua.toNat ∧ (t.loop[n]).closed = false ∧
        (s.loLost n = false → (s.loop[n]).wantClose = false → (t.loop[n]).final = ua.toNat ∧ (t.loop[n]).atFault = false ∧
          (t.loop[n]).now = (if (s.loCfg n).ramp = 0 ∨ ua.toNat = 0 then ua.toNat else (s.loop[n]).now)) ∧
        (∀ m : Fin 8, m ≠ n → t.loop[m] = s.loop[m]) ∧ Answered q false 0x59 .ok (t.loReply n) s t) ∧
    (24000 < ua.toNat → Completes (.loopSetSet q lo ua) s [.frm, .auth] fun t => Answered q false 0x59 .badParam [] s t) ∧
    (ua.toNat ≤ 24000 → (s.loCfg n).mode ≠ 2 ∨ (s.loCfg n).heat = true ∧ s.permitOn = false →
      Completes (.loopSetSet q lo ua) s [.frm, .auth] fun t => Answered q false 0x59 .badState [] s t) ∧
    ((s.loop[n]).closed = true → ((s.loCfg n).heat = true → s.permitOn = true) →
      s.loopOwned n.val = false ∨ (s.loop[n]).permitShut = true →
      Completes (.loopSetResume q lo ua) s [.frm, .auth, .loop] fun t => (t.loop[n]).closed = false ∧ (t.loop[n]).want = (s.loop[n]).want ∧
        (∀ m : Fin 8, m ≠ n → t.loop[m] = s.loop[m]) ∧ Answered q false 0x59 .ok (t.loReply n) s t) ∧
    (s.loopOwned n.val = true → (ua.toNat ≤ 24000 → Completes (.loopSetSet q lo ua) s [.frm, .auth] fun t =>
        Answered q false 0x59 .badState [] s t) ∧
      ((s.loop[n]).permitShut = false → Completes (.loopSetResume q lo ua) s [.frm, .auth] fun t => Answered q false 0x59 .badState [] s t)) ∧
    ((s.loop[n]).closed = false ∨ (s.loCfg n).heat = true ∧ s.permitOn = false → Completes (.loopSetResume q lo ua) s [.frm, .auth] fun t =>
      Answered q false 0x59 .badState [] s t)) ∧
  (∀ (q : Req) (lo : Byte) (ua : Half) (n : Fin 8) (s : State), s.hears q = true → lo.toNat = n.val → (s.loCfg n).heat = true →
    Completes (.loopSetClose q lo ua) s [.frm, .auth, .loop, .prog, .stitch] fun t => (t.loop[n]).closed = true ∧
      (s.loLost n = false → (s.loCfg n).mode ≠ 0 → (t.loop[n]).now = (s.loCfg n).closeUa ∧ (t.loop[n]).final = (s.loCfg n).closeUa) ∧
      (∀ m : Fin 8, m ≠ n → t.loop[m] = s.loop[m]) ∧ Answered q false 0x59 .ok (t.loReply n) s t) ∧
  ∀ (q : Req) (lo count : Byte) (s : State), s.hears q = true →
    (count.toNat = 0 ∨ 8 < lo.toNat + count.toNat → Completes (.loopStatus q lo count) s [.frm, .auth] fun t =>
      Answered q false 0x5A .badParam [] s t) ∧
    (1 ≤ count.toNat → lo.toNat + count.toNat ≤ 8 → Completes (.loopStatus q lo count) s [.frm, .auth] fun t =>
      ∃ d : List Byte, d.length = 10 * count.toNat ∧ Answered q false 0x5A .ok d s t ∧ ∀ (k : Nat) (n : Fin 8), k < count.toNat →
        n.val = lo.toNat + k → fieldAt d (10 * k) 1 = n.val ∧ fieldAt d (10 * k + 1) 1 = (s.loCfg n).mode % 256 ∧
          fieldAt d (10 * k + 2) 2 = (s.loop[n]).final % 65536 ∧ fieldAt d (10 * k + 8) 1 = s.loState n)) ∧
  (∀ (dt : Nat) (n : Fin 8) (s : State),
    (∀ u, s.loOpenNow n = true → (s.loop[n]).sOpen = { since := some u, done := false } →
      (u + 20000000 ≤ s.clk.upNs + dt → Completes (.loopOpenDetect dt n) s [.clk, .loop, .inj, .log] fun t =>
        (t.loop[n]).opn = (s.loop[n]).opn.raise ∧ (t.loop[n]).sOpen.done = true ∧ ∀ m : Fin 8, (t.loop[m]).now = (s.loop[m]).now) ∧
      (s.clk.upNs + dt < u + 20000000 → Completes (.loopOpenDetect dt n) s [.clk, .loop] fun t => (t.loop[n]).opn = (s.loop[n]).opn)) ∧
    (∀ u, s.loShortNow n = true → (s.loop[n]).sShort = { since := some u, done := false } → u + 100000000 ≤ s.clk.upNs + dt →
      Completes (.loopShortDetect dt n) s [.clk, .loop, .inj, .log] fun t =>
        (t.loop[n]).short = (s.loop[n]).short.raise ∧ (t.loop[n]).sShort.done = true ∧ ∀ m : Fin 8, (t.loop[m]).now = (s.loop[m]).now) ∧
    (∀ u, s.loDevNow n = true → (s.loop[n]).sDev = { since := some u, done := false } → u + 100000000 ≤ s.clk.upNs + dt →
      Completes (.loopDevDetect dt n) s [.clk, .loop, .inj, .log] fun t =>
        (t.loop[n]).dev = (s.loop[n]).dev.raise ∧ (t.loop[n]).sDev.done = true ∧ ∀ m : Fin 8, (t.loop[m]).now = (s.loop[m]).now) ∧
    ((s.loop[n]).sOpen.done = true → s.loOpenNow n = true → Completes (.loopOpenDetect dt n) s [.clk, .loop] fun t =>
      (t.loop[n]).opn = (s.loop[n]).opn) ∧
    (s.loOpenNow n = false → Completes (.loopOpenDetect dt n) s [.clk, .loop] fun t => (t.loop[n]).sOpen = {}))

/-! ### Dielectric moisture probes (chapter 8) -/

/-- R351, R352, R354, R356, R358, R360, R361, R363, R365, R366, R371, R374, R375 and Tables 8.1, 8.2, 8.4: a cycle starts at its instant with
the lowest enabled port, which takes its grain temperature and crop image then. The end of a measurement, 31 ms after its start, counts PSEQ, leaves a record of 32
bytes with the conditions of Table 8.4, EMPTY and MOIST, records the conditions that it sets anew, serves a pending AIR operation, and starts
the next enabled port or ends the cycle. Without a test session. CT is rounded to the nearest integer as R301 says (log entry 84). -/
def Obligations.ProbeCycleMeasures : Prop :=
  (∀ (dt t0 : Nat) (n : Fin 8) (s : State), s.pow.stage = .running → s.die.run = false → s.domDead 12 = false → t0 = (s.advance dt).ctUs →
    (((s.die.port[n]).en = true ∧ (∀ m : Fin 8, m < n → (s.die.port[m]).en = false) ∧ 1000 * s.die.cycOfs ≤ t0 ∧
        (t0 - 1000 * s.die.cycOfs) % (1000 * probePeriodMs s.die.cycPeriod) = 0) →
      Completes (.probeCycleStart dt) s [.clk, .die] fun t => t.die.run = true ∧ t.die.act = n.val ∧ t.die.actUs = t0 ∧
        (t.die.port[n]).started = some (t0 : Int) ∧ (∀ m : Fin 8, m ≠ n → t.die.port[m] = s.die.port[m]) ∧ t.die.crop = s.die.crop ∧
        (∀ k : Fin 8, (s.die.port[n]).crop = k.val → (t.die.port[n]).cropIm = s.die.crop[k]) ∧
        ∀ c : Fin 64, (s.die.port[n]).tch = c.val → (t.die.port[n]).tVal = ((s.advance dt).recAt c t0).value ∧
          ((t.die.port[n]).tBad = false ↔ ((s.advance dt).recAt c t0).bad = false ∧ s.unitOf s.run.chan[c] = some 1)) ∧
    ((t0 - 1000 * s.die.cycOfs) % (1000 * probePeriodMs s.die.cycPeriod) ≠ 0 → Completes (.probeCycleStart dt) s [.clk] fun _ => True)) ∧
  ∀ (dt : Nat) (u : Int) (n : Fin 8) (cL gL cM gM cH gH : Int) (gb : Bool) (s : State) (p : ProbePort) (r : ProbeRaw), s.die.run = true →
    s.die.act = n.val → p = s.die.port[n] → p.started = some u → s.inj.isOpen = false →
    r = { c := #v[cL, cM, cH], g := #v[gL, gM, gH], guardBad := gb } →
    let e := cH - p.cStray[2]
    let empty := decide (e * 1000 < fieldAt p.cropIm 18 2 * p.c0) && decide ((p.c0 : Int) ≤ 2 * e)
    let bad := decide (2 * e < p.c0) || r.shorted || gb || (r.beyond && !r.shorted) || p.tBad || empty
    (((s.advance dt).ctUs : Int) < s.die.actUs + 31000 → Completes (.probeMeasureEnd dt cL gL cM gM cH gH gb) s [.clk] fun t => t.die = s.die) ∧
    (s.die.actUs + 31000 ≤ (s.advance dt).ctUs → Completes (.probeMeasureEnd dt cL gL cM gM cH gH gb) s [.clk, .frm, .die, .free] fun t =>
      let x := t.die.port[n]
      let fl := probeFlags x.rcd
      x.pseq = (p.pseq + 1) % 65536 ∧ x.older = p.rcd ∧ x.olderEnded = p.ended ∧ x.ready = s.die.actUs + 32000 ∧ x.ended = s.die.actUs + 31000 ∧ x.started = none ∧
      x.rcd.length = 32 ∧ fieldAt x.rcd 28 4 = twos 32 (s.die.actUs + 16000) ∧ fieldAt x.rcd 24 2 = (p.pseq + 1) % 65536 ∧
      fieldAt x.rcd 26 1 = p.crop % 256 ∧ fieldAt x.rcd 27 1 = p.calgen % 256 ∧ fieldAt x.rcd 4 4 = twos 32 p.tVal ∧
      bitOf fl 0 = decide (2 * e < p.c0) ∧ bitOf fl 1 = r.shorted ∧ bitOf fl 2 = gb ∧ bitOf fl 3 = (r.beyond && !r.shorted) ∧
      bitOf fl 4 = p.tBad ∧ bitOf fl 5 = false ∧ bitOf fl 6 = empty ∧ bitOf fl 11 = false ∧ (bitOf fl 8 = true → bitOf fl 7 = false) ∧
      (bad = true → fieldAt x.rcd 0 4 = 0x80000000 ∧ fieldAt x.rcd 8 2 = 0) ∧
      (bad = false →
        let ct := interp (cropTemp p.cropIm) p.tVal
        let mu := interp (cropMoist p.cropIm) (roundDiv (p.epscNum r p.cropIm * 1000000000) (p.epscDen * ct.1.toNat))
        fieldAt x.rcd 0 4 = twos 32 (roundDiv (mu.1 * p.gain + p.ofs * 10000) 10000) ∧ bitOf fl 9 = mu.2 ∧ bitOf fl 10 = ct.2) ∧
      x.evOpen = p.evOpen.raiseIf (decide (2 * e < p.c0) && !p.fOpen) ∧ x.evShort = p.evShort.raiseIf (r.shorted && !p.fShort) ∧
      x.evGuard = p.evGuard.raiseIf (gb && !p.fGuard) ∧ x.evRange = p.evRange.raiseIf (r.beyond && !r.shorted && !p.fRange) ∧
      x.gain = p.gain ∧ x.ofs = p.ofs ∧
      (p.airNow = false ∨ p.airTicket = none → x.cStray = p.cStray ∧ x.gStray = p.gStray ∧ x.pts = p.pts ∧ x.calgen = p.calgen ∧
        t.frm = s.frm) ∧
      (∀ k, p.airNow = true → p.airTicket = some k → x.airTicket = none ∧
        (airOk p.c0 r = true → decide (2 * e < p.c0) = false → r.shorted = false → gb = false → r.beyond = false →
          x.cStray = #v[cL - p.c0, cM - p.c0, cH - p.c0] ∧ x.gStray = r.g ∧ x.pts = [] ∧ x.calgen = (p.calgen + 1) % 256) ∧
        (airOk p.c0 r = false ∨ 2 * e < p.c0 ∨ r.shorted = true ∨ gb = true ∨ r.beyond = true →
          x.cStray = p.cStray ∧ x.gStray = p.gStray ∧ x.pts = p.pts ∧ x.calgen = p.calgen)) ∧
      t.die.crop = s.die.crop ∧
      (∀ m : Fin 8, n < m → (s.die.port[m]).en = true → (∀ k : Fin 8, n < k → k < m → (s.die.port[k]).en = false) →
        t.die.run = true ∧ t.die.act = m.val ∧ t.die.actUs = s.die.actUs + 31000 ∧ (t.die.port[m]).started = some (s.die.actUs + 31000) ∧
          ∀ k : Fin 8, k ≠ n → k ≠ m → t.die.port[k] = s.die.port[k]) ∧
      ((∀ m : Fin 8, n < m → (s.die.port[m]).en = false) → t.die.run = false ∧ ∀ k : Fin 8, k ≠ n → t.die.port[k] = s.die.port[k]))

/-- Probe configuration and calibration (chapter 8; log entry 26).
R353, R357, R362, R364, R370, R376, R377, R378 and Table 8.7: PROBE_READ MODE 1 and 2, and PROBE_CONFIG with its checks. An accepted
configuration that changes CROP sets GAIN and OFS to their defaults, discards the points and counts CALGEN, one that changes C0 sets the
strays to 0 too; no other port changes.
R365, R367, R368, R369, R378, R379: PROBE_CAL. Each KIND gets BAD_STATE on a disabled port. SAMPLE adds its point, APPLY fits the line and
sets GAIN and OFS within their bounds, RESET and DISCARD do what Table 8.7 says, AIR waits for the next measurement under a ticket (an AIR
beside a pending one gets BUSY: log entry 26).
That the row of an opcode acts at once is the model's choice (log entry 69). -/
def Obligations.ProbeOrders : Prop :=
  ((∀ (q : Req) (port en tch crop : Byte) (c0 : Half) (n k : Fin 8) (s : State), s.obeys q = true → port.toNat = n.val → crop.toNat = k.val →
    let p := s.die.port[n]
    let many := ((s.die.portsFrom 0).filter fun m => m != n).length + en.toNat
    let ok := decide (en.toNat ≤ 1) && s.tchOk tch.toNat && inR 2000 c0.toNat 50000 && cycleFits s.die.period s.die.startOfs many
    (ok = false → Completes (.probeConfigPort q port en tch crop c0) s [.frm, .auth] fun t => Answered q false 0x36 .badParam [] s t) ∧
    (ok = true → en.toNat = 1 → s.die.crop[k] = [] →
      Completes (.probeConfigPort q port en tch crop c0) s [.frm, .auth] fun t => Answered q false 0x36 .badState [] s t) ∧
    (ok = true → (en.toNat = 1 → s.die.crop[k] ≠ []) →
      Completes (.probeConfigPort q port en tch crop c0) s [.frm, .auth, .die] fun t =>
        let x := t.die.port[n]
        x.en = decide (en.toNat = 1) ∧ x.tch = tch.toNat ∧ x.crop = crop.toNat ∧ x.c0 = c0.toNat ∧
        (p.crop ≠ crop.toNat ∨ p.c0 ≠ c0.toNat → x.gain = 10000 ∧ x.ofs = 0 ∧ x.pts = [] ∧ x.calgen = (p.calgen + 1) % 256) ∧
        (p.crop = crop.toNat → p.c0 = c0.toNat → x.gain = p.gain ∧ x.ofs = p.ofs ∧ x.pts = p.pts ∧ x.calgen = p.calgen) ∧
        x.cStray = (if p.c0 = c0.toNat then p.cStray else Vector.replicate 3 0) ∧
        x.gStray = (if p.c0 = c0.toNat then p.gStray else Vector.replicate 3 0) ∧ x.pseq = p.pseq ∧ t.die.crop = s.die.crop ∧
        (∀ m : Fin 8, m ≠ n → t.die.port[m] = s.die.port[m]) ∧
        Answered q false 0x36 .ok ([1, port, en, tch, crop] ++ leBytes 2 c0.toNat) s t)) ∧
  (∀ (q : Req) (k : Byte) (img : List Byte) (i : Fin 8) (s : State), s.obeys q = true → k.toNat = i.val →
    (img.length ≠ 32 + 8 * (fieldAt img 1 1 + fieldAt img 2 1) → Completes (.probeConfigCrop q k img) s [.frm, .auth] fun t =>
      Answered q false 0x36 .badLength [] s t) ∧
    (img.length = 32 + 8 * (fieldAt img 1 1 + fieldAt img 2 1) →
      (cropOk img = false → Completes (.probeConfigCrop q k img) s [.frm, .auth] fun t => Answered q false 0x36 .badParam [] s t) ∧
      (cropOk img = true → Completes (.probeConfigCrop q k img) s [.frm, .auth, .die] fun t =>
        t.die = { s.die with crop := s.die.crop.set i img } ∧
        Answered q false 0x36 .ok ([2, k] ++ leBytes 2 (fieldAt img 4 2) ++ leBytes 4 (fieldAt img (img.length - 4) 4)) s t)) ∧
    ((∃ m : Fin 8, (s.die.port[m]).en = true ∧ (s.die.port[m]).crop = i.val) →
      Completes (.probeConfigCropErase q k) s [.frm, .auth] fun t => Answered q false 0x36 .badState [] s t) ∧
    ((∀ m : Fin 8, (s.die.port[m]).en = true → (s.die.port[m]).crop ≠ i.val) →
      Completes (.probeConfigCropErase q k) s [.frm, .auth, .die] fun t => t.die = { s.die with crop := s.die.crop.set i [] } ∧
        Answered q false 0x36 .ok [3, k] s t)) ∧
  (∀ (q : Req) (period : Byte) (ofs : Half) (s : State), s.obeys q = true →
    let ok := decide (period.toNat ≤ 5) && decide (ofs.toNat ≤ 59999) &&
      decide (ofs.toNat + 31 * (s.die.portsFrom 0).length ≤ probePeriodMs period.toNat)
    (ok = false → Completes (.probeConfigCycle q period ofs) s [.frm, .auth] fun t => Answered q false 0x36 .badParam [] s t) ∧
    (ok = true → Completes (.probeConfigCycle q period ofs) s [.frm, .auth, .die] fun t =>
      t.die = { s.die with period := period.toNat, startOfs := ofs.toNat, cycPeriod := period.toNat, cycOfs := ofs.toNat } ∧
      Answered q false 0x36 .ok ([4, period] ++ leBytes 2 ofs.toNat) s t)) ∧
  ∀ (q : Req) (port count k : Byte) (s : State), s.hears q = true →
    (count.toNat = 0 ∨ 8 < port.toNat + count.toNat → Completes (.probeReadConfig q port count) s [.frm, .auth] fun t =>
      Answered q false 0x35 .badParam [] s t) ∧
    (1 ≤ count.toNat → port.toNat + count.toNat ≤ 8 → Completes (.probeReadConfig q port count) s [.frm, .auth] fun t =>
      ∃ d : List Byte, d.length = 4 + 26 * count.toNat ∧ Answered q false 0x35 .ok d s t ∧ fieldAt d 0 1 = 1 ∧
        ∀ (j : Nat) (n : Fin 8), j < count.toNat → n.val = port.toNat + j → fieldAt d (4 + 26 * j) 1 = n.val ∧
          fieldAt d (5 + 26 * j) 1 = bit (s.die.port[n]).en ∧ fieldAt d (8 + 26 * j) 2 = (s.die.port[n]).c0 % 65536 ∧
          fieldAt d (12 + 26 * j) 2 = twos 16 (s.die.port[n]).gain) ∧
    (∀ i : Fin 8, k.toNat = i.val →
      (s.die.crop[i] = [] → Completes (.probeReadCrop q k) s [.frm, .auth] fun t => Answered q false 0x35 .badState [] s t) ∧
      (s.die.crop[i] ≠ [] → Completes (.probeReadCrop q k) s [.frm, .auth] fun t => Answered q false 0x35 .ok ([2, k] ++ s.die.crop[i]) s t)) ∧
    (8 ≤ k.toNat → Completes (.probeReadCrop q k) s [.frm, .auth] fun t => Answered q false 0x35 .badParam [] s t)) ∧
  (∀ (q : Req) (port : Byte) (oven rec : Word) (calgen : Byte) (n : Fin 8) (p : ProbePort) (s : State), s.obeys q = true →
    port.toNat = n.val → p = s.die.port[n] →
    (p.en = false → s.pendingOps < 4 → Completes (.probeCalAir q port) s [.frm, .auth] fun t => Answered q false 0x37 .badState [] s t) ∧
    (p.en = false → ∀ c ∈ ([.probeCalApply q port, .probeCalReset q port, .probeCalDiscard q port] : List Instr),
      Completes c s [.frm, .auth] fun t => Answered q false 0x37 .badState [] s t) ∧
    (p.en = true → p.airTicket = none → s.pendingOps < 4 → Completes (.probeCalAir q port) s [.frm, .auth, .die] fun t =>
      (t.die.port[n]).airTicket = some s.frm.nextTicket ∧ (t.die.port[n]).cStray = p.cStray ∧ (t.die.port[n]).calgen = p.calgen ∧
      ∃ est, Answered q false 0x37 .acceptedPending (leBytes 2 s.frm.nextTicket ++ leBytes 2 est) s t) ∧
    (p.en = true ∧ p.airTicket ≠ none ∨ 4 ≤ s.pendingOps → Completes (.probeCalAir q port) s [.frm, .auth] fun t =>
      Answered q false 0x37 .busy [] s t) ∧
    (60000 < oven.toNat ∨ 60000 < rec.toNat → Completes (.probeCalSample q port oven rec calgen) s [.frm, .auth] fun t =>
      Answered q false 0x37 .badParam [] s t) ∧
    (oven.toNat ≤ 60000 → rec.toNat ≤ 60000 →
      (p.en = false ∨ p.calgen ≠ calgen.toNat ∨ 8 ≤ p.pts.length → Completes (.probeCalSample q port oven rec calgen) s [.frm, .auth] fun t =>
        Answered q false 0x37 .badState [] s t) ∧
      (p.en = true → p.calgen = calgen.toNat → p.pts.length < 8 →
        Completes (.probeCalSample q port oven rec calgen) s [.frm, .auth, .die] fun t =>
          t.die = { s.die with port := s.die.port.set n { p with pts := ((rec.toNat : Int), (oven.toNat : Int)) :: p.pts } } ∧
          Answered q false 0x37 .ok (t.calEntry n) s t)) ∧
    (p.en = true → p.pts = [] → Completes (.probeCalApply q port) s [.frm, .auth] fun t => Answered q false 0x37 .badState [] s t) ∧
    (p.en = true → p.pts ≠ [] →
      let len := p.pts.length
      let sx := (p.pts.map fun x => x.1).sum
      let sy := (p.pts.map fun x => x.2).sum
      let sxx := (p.pts.map fun x => x.1 * x.1).sum
      let sxy := (p.pts.map fun x => x.1 * x.2).sum
      let wide := decide (∃ a ∈ p.pts, ∃ b ∈ p.pts, 2000 ≤ a.1 - b.1)
      let d := len * sxx - sx * sx
      let gain := if wide then roundDiv ((len * sxy - sx * sy) * p.gain) d.toNat else p.gain
      let ofs := if wide then roundDiv ((len * sxy - sx * sy) * p.ofs * len + (sy * d - (len * sxy - sx * sy) * sx)) (len * d).toNat
        else roundDiv (p.ofs * len + (sy - sx)) len
      (gain < 8000 ∨ 12500 < gain ∨ ofs < -5000 ∨ 5000 < ofs → Completes (.probeCalApply q port) s [.frm, .auth] fun t =>
        Answered q false 0x37 .badParam [] s t) ∧
      (8000 ≤ gain → gain ≤ 12500 → -5000 ≤ ofs → ofs ≤ 5000 → Completes (.probeCalApply q port) s [.frm, .auth, .die] fun t =>
        t.die = { s.die with port := s.die.port.set n { p with gain := gain, ofs := ofs, pts := [], calgen := (p.calgen + 1) % 256 } } ∧
        Answered q false 0x37 .ok (t.calEntry n) s t)) ∧
    (p.en = true → Completes (.probeCalReset q port) s [.frm, .auth, .die] fun t =>
      t.die = { s.die with port := s.die.port.set n { p with gain := 10000, ofs := 0, pts := [], calgen := (p.calgen + 1) % 256 } } ∧
      Answered q false 0x37 .ok (t.calEntry n) s t) ∧
    (p.en = true → Completes (.probeCalDiscard q port) s [.frm, .auth, .die] fun t =>
      t.die = { s.die with port := s.die.port.set n { p with pts := [] } } ∧ Answered q false 0x37 .ok (t.calEntry n) s t))

/-! ### Inductive drivers (chapter 9) -/

/-- Channel `n` takes an energising action or SET_I of `code` now: what R399, R544, R601 and R640 refuse does not hold. -/
def takesAction (s : State) (n : Fin 32) (code : Nat) : Prop :=
  s.actAllowed n code = true ∧ (s.drv.ch[n]).phase ≠ .fault ∧ (s.drv.ch[n]).phase ≠ .unavailable ∧ (s.isHeat n = true → s.permitOn = true) ∧
    s.pow.vpOk = true ∧ s.clockDown = false ∧ s.therm.shut = false ∧ s.estopHeld = false ∧ s.drvOwned n.val = false

/-- R397 to R402, R408, R411, R413, R422, R426, R442 to R447, R601, R640: DRV_CMD. ON and PULSE start RISE, WAIT or a restart and count
once; SET_I sets the target of a PROP channel; LATCH_A and LATCH_B drive a pair; RELEASE starts RELEASE, on a HEAT channel from whatever
sender. No channel beside those named changes. What R398 and R399 refuse gets BAD_PARAM or BAD_STATE.
That the row of an opcode acts at once is the model's choice (log entry 69). -/
def Obligations.DriverCommandsComplete : Prop :=
  (∀ (q : Req) (c : Instr) (ch : Byte) (n : Fin 32) (code : Nat) (fin : Option Nat) (s : State), s.obeys q = true → ch.toNat = n.val →
    (c = .drvCmdOn q ch 0 0 ∧ code = 1 ∧ fin = none ∨
      ∃ a : Half, c = .drvCmdPulse q ch a 0 ∧ code = 2 ∧ 1 ≤ a.toNat ∧ a.toNat ≤ 60000 ∧ fin = some (s.clk.upNs + ms a.toNat)) →
    takesAction s n code →
    let own := (s.prof n).iHold * 12500
    let i := s.wouldRun n own
    Completes c s [.frm, .auth, .drv, .inj, .log] fun t =>
      (t.drv.ch[n]).actCnt = inc32 (s.drv.ch[n]).actCnt ∧ (t.drv.ch[n]).act.pulseEnd = fin ∧ (∀ m : Fin 32, m ≠ n → t.drv.ch[m] = s.drv.ch[m]) ∧
      ((s.drv.ch[n]).phase = .idle → (t.drv.ch[n]).act.restarted = false ∧ (t.drv.ch[n]).restartCnt = (s.drv.ch[n]).restartCnt ∧
        (t.drv.ch[n]).phase = (if s.lowBoost n n = true ∧ (s.prof n).bnrStart = false then .wait else .rise) ∧
        (t.drv.ch[n]).boostNr = (s.drv.ch[n]).boostNr.raiseIf (s.lowBoost n n) ∧
        (s.lowBoost n n = true → (t.drv.ch[n]).act.waitEnd = s.clk.upNs + ms (s.prof n).tBoostWait)) ∧
      ((s.drv.ch[n]).phase = .wait → (t.drv.ch[n]).phase = .wait ∧ (t.drv.ch[n]).act.waitEnd = (s.drv.ch[n]).act.waitEnd ∨
        (t.drv.ch[n]).phase = .rise ∧ (s.drv.ch[n]).act.dirB = true) ∧
      ((s.drv.ch[n]).phase ≠ .idle → (s.drv.ch[n]).phase ≠ .wait → (t.drv.ch[n]).phase = .rise ∧ (t.drv.ch[n]).act.restarted = true ∧
        (t.drv.ch[n]).act.riseUp = s.clk.upNs ∧ (t.drv.ch[n]).restartCnt = inc16 (s.drv.ch[n]).restartCnt) ∧
      Answered q false 0x40 (if i < own ∧ 0 < s.therm.step then .throttled else .ok)
        (leBytes 1 n.val ++ leBytes 1 code ++ leBytes 2 (satTo 0xFFFF ((i + 500) / 1000))) s t) ∧
  (∀ (q : Req) (ch : Byte) (arg : Half) (n : Fin 32) (s : State), s.obeys q = true → ch.toNat = n.val → arg.toNat ≤ (s.prof n).propMax →
    takesAction s n 4 → let i := s.wouldRun n (arg.toNat * 1000)
    Completes (.drvCmdSetI q ch arg 0) s [.frm, .auth, .drv] fun t => (t.drv.ch[n]).phase = .prop ∧ (t.drv.ch[n]).target = arg.toNat ∧
      (t.drv.ch[n]).propNow = (if (s.prof n).propSlew = 0 then arg.toNat * 1000 else if (s.drv.ch[n]).phase = .prop then (s.drv.ch[n]).propNow
        else 0) ∧
      (∀ m : Fin 32, m ≠ n → t.drv.ch[m] = s.drv.ch[m]) ∧
      Answered q false 0x40 (if i < arg.toNat * 1000 ∧ 0 < s.therm.step then .throttled else .ok)
        (leBytes 1 n.val ++ leBytes 1 4 ++ leBytes 2 (satTo 0xFFFF ((i + 500) / 1000))) s t) ∧
  (∀ (q : Req) (c : Instr) (ch : Byte) (b : Bool) (n : Fin 32) (s : State), s.obeys q = true → ch.toNat = n.val →
    c = (if b then .drvCmdLatchB q ch 0 0 else .drvCmdLatchA q ch 0 0) → takesAction s n (if b then 6 else 5) →
    Completes c s [.frm, .auth, .drv, .inj, .log] fun t => (t.drv.ch[n]).actCnt = inc32 (s.drv.ch[n]).actCnt ∧ (t.drv.ch[n]).act.dirB = b ∧
      (∀ m : Fin 32, m ≠ n → t.drv.ch[m] = s.drv.ch[m]) ∧
      ((s.drv.ch[n]).phase = .idle → s.lowBoost n (if b then oddCh n else n) = false → (t.drv.ch[n]).phase = .rise) ∧
      ((s.drv.ch[n]).phase = .dwell → (s.drv.ch[n]).act.reverse = false → (s.drv.ch[n]).act.dirB ≠ b → (t.drv.ch[n]).phase = .release ∧
        (t.drv.ch[n]).relFast = true ∧ (t.drv.ch[n]).act.reverse = true) ∧
      Answered q false 0x40 .ok (leBytes 1 n.val ++ leBytes 1 (if b then 6 else 5) ++ leBytes 2 0) s t) ∧
  (∀ (q : Req) (ch : Byte) (n : Fin 32) (s : State), s.hears q = true → ch.toNat = n.val → s.paired n = false →
    (s.prof n).mode = 1 ∨ (s.prof n).mode = 2 → (s.drv.ch[n]).phase ≠ .fault → (s.drv.ch[n]).phase ≠ .unavailable →
    s.isHeat n = true ∨ s.obeys q = true ∧ s.drvOwned n.val = false →
    Completes (.drvCmdRelease q ch 0 0) s [.frm, .auth, .drv, .prog, .stitch] fun t =>
      (t.drv.ch[n]).phase = (if (s.drv.ch[n]).phase.active then .release else .idle) ∧ (∀ m : Fin 32, m ≠ n → t.drv.ch[m] = s.drv.ch[m]) ∧
      ((s.drv.ch[n]).phase = .idle → t.drv.ch[n] = s.drv.ch[n]) ∧ Answered q false 0x40 .ok (leBytes 1 n.val ++ [3, 0, 0]) s t) ∧
  (∀ (q : Req) (ch : Byte) (mask : Word) (s : State), s.hears q = true → ch.toNat < 32 → mask ≠ 0 →
    (∀ n : Fin 32, mask.getLsbD n.val = true → s.isHeat n = true ∧ (s.drv.ch[n]).phase ≠ .fault ∧ (s.drv.ch[n]).phase ≠ .unavailable ∧
      s.paired n = false) →
    Completes (.drvCmdReleaseMask q ch 0 mask) s [.frm, .auth, .drv, .prog, .stitch] fun t =>
      (∀ n : Fin 32, mask.getLsbD n.val = true → (t.drv.ch[n]).phase = (if (s.drv.ch[n]).phase.active then .release else .idle)) ∧
      (∀ n : Fin 32, mask.getLsbD n.val = false → t.drv.ch[n] = s.drv.ch[n]) ∧
      Answered q false 0x40 .ok (leBytes 1 ch.toNat ++ [7, 0, 0]) s t) ∧
  ∀ (q : Req) (ch : Byte) (arg : Half) (mask : Word) (s : State), s.obeys q = true →
    (32 ≤ ch.toNat → ∀ c ∈ ([.drvCmdOn q ch arg mask, .drvCmdPulse q ch arg mask, .drvCmdRelease q ch arg mask, .drvCmdSetI q ch arg mask,
        .drvCmdLatchA q ch arg mask, .drvCmdLatchB q ch arg mask, .drvCmdReleaseMask q ch arg mask] : List Instr),
      Completes c s [.frm, .auth] fun t => Answered q false 0x40 .badParam [] s t) ∧
    (∀ n : Fin 32, ch.toNat = n.val → (s.isHeat n = true ∧ s.permitOn = false ∨ s.pow.vpOk = false ∨ s.clockDown = true ∨ (s.drv.ch[n]).phase = .fault ∨
        (s.prof n).mode ≠ 1) → Completes (.drvCmdOn q ch 0 0) s [.frm, .auth] fun t => Answered q false 0x40 .badState [] s t)

/-- R393 to R396, R406, R417, R418, R429 and Tables 9.4, 9.6 to 9.8: DRV_PROFILE with its checks in order, DRV_PAIR and its undoing,
DRV_BUDGET, DRV_STATUS, DRV_ENERGY. A change of MODE clears the fit; a pairing or unpairing clears both, and V_TGT is V_CEIL until the next;
a profile sets V_TGT anew, of a pair's two reservoirs, and the end of a wait. No other channel changes. B_EFF is
shown in whole mA, rounded down (log entry 9).
That the row of an opcode acts at once is the model's choice (log entry 69). -/
def Obligations.DriverConfigurationComplete : Prop :=
  (∀ (q : Req) (img : List Byte) (n : Fin 32) (p : Profile) (s : State), s.obeys q = true → img.length = 32 → fieldAt img 0 1 = n.val →
    p = Profile.ofBytes img →
    let ph := (s.drv.ch[n]).phase
    let wrong := decide (ph ≠ .idle ∧ ph ≠ .wait ∧ ph ≠ .unavailable) || (s.prof n).mode == 3 || (s.paired n && p.mode != 1)
    (profileOk img = false ∨ p.heat = true ∧ s.paired n = true → Completes (.drvProfile q img) s [.frm, .auth] fun t =>
      Answered q false 0x41 .badParam [] s t) ∧
    (profileOk img = true → ¬(p.heat = true ∧ s.paired n = true) →
      (wrong = true → Completes (.drvProfile q img) s [.frm, .auth] fun t => Answered q false 0x41 .badState [] s t) ∧
      (wrong = false → s.permitOn = true ∧ ((s.prof n).heat = true ∨ p.heat = true) → Completes (.drvProfile q img) s [.frm, .auth] fun t =>
        Answered q false 0x41 .heatActive [] s t) ∧
      (wrong = false → ¬(s.permitOn = true ∧ ((s.prof n).heat = true ∨ p.heat = true)) →
        Completes (.drvProfile q img) s [.frm, .auth, .run, .drv] fun t => t.run = { s.run with prof := s.run.prof.set n p } ∧
          (t.drv.ch[n]).fit = (if (s.prof n).mode = p.mode then (s.drv.ch[n]).fit else none) ∧
          (t.drv.ch[n]).phase = (if (s.prof n).mode ≠ p.mode ∧ ph = .wait then .idle else ph) ∧
          (t.drv.ch[n]).act.waitEnd = (s.drv.ch[n]).act.waitUp + ms p.tBoostWait ∧
          (s.seqCh n = n → (t.drv.ch[n]).vTgt = (vTarget p (t.drv.ch[n]).fit (s.cRes n.val)).1) ∧
          (s.seqCh n = n → s.paired n = true →
            (t.drv.ch[oddCh n]).vTgt = (vTarget p (s.drv.ch[oddCh n]).fit (s.cRes (oddCh n).val)).1) ∧
          (s.paired n = false → (t.drv.ch[n]).goalMiss = (s.drv.ch[n]).goalMiss.raiseIf (vTarget p (t.drv.ch[n]).fit (s.cRes n.val)).2) ∧
          (∀ m : Fin 32, m ≠ n → m ≠ s.seqCh n → (s.paired n = true → m ≠ oddCh n) → t.drv.ch[m] = s.drv.ch[m]) ∧ Answered q false 0x41 .ok img s t))) ∧
  (∀ (q : Req) (ch : Byte) (e o : Fin 32) (j : Fin 16) (s : State), s.obeys q = true → ch.toNat = e.val → e.val = 2 * j.val → o.val = e.val + 1 →
    let idle := decide ((s.drv.ch[e]).phase = .idle ∧ (s.drv.ch[o]).phase = .idle)
    let may := idle && (s.prof e).mode == 1 && !(s.prof e).heat && (s.prof o).mode == 0
    (may = false → Completes (.drvPair q ch) s [.frm, .auth] fun t => Answered q false 0x44 .badState [] s t) ∧
    (may = true → Completes (.drvPair q ch) s [.frm, .auth, .run, .drv] fun t => t.run.pair = s.run.pair.set j true ∧
      t.run.prof = s.run.prof.set o { s.run.prof[o] with mode := 3 } ∧ (t.drv.ch[e]).fit = none ∧ (t.drv.ch[o]).fit = none ∧
      (t.drv.ch[e]).vTgt = (s.prof e).vCeil * 100 ∧ (t.drv.ch[o]).vTgt = (s.prof e).vCeil * 100 ∧
      (∀ m : Fin 32, m ≠ e → m ≠ o → t.drv.ch[m] = s.drv.ch[m]) ∧ Answered q false 0x44 .ok [ch, 1] s t) ∧
    (s.run.pair[j] = true → idle = true → Completes (.drvUnpair q ch) s [.frm, .auth, .run, .drv] fun t =>
      t.run.pair = s.run.pair.set j false ∧ t.run.prof = s.run.prof.set o { s.run.prof[o] with mode := 0 } ∧ (t.drv.ch[e]).fit = none ∧
      (t.drv.ch[o]).fit = none ∧ (t.drv.ch[e]).vTgt = (s.prof e).vCeil * 100 ∧ (t.drv.ch[o]).vTgt = (s.prof o).vCeil * 100 ∧ (∀ m : Fin 32, m ≠ e → m ≠ o → t.drv.ch[m] = s.drv.ch[m]) ∧ Answered q false 0x44 .ok [ch, 0] s t) ∧
    (s.run.pair[j] = true → idle = false → Completes (.drvUnpair q ch) s [.frm, .auth] fun t => Answered q false 0x44 .badState [] s t)) ∧
  (∀ (q : Req) (ch : Byte) (s : State), s.obeys q = true → ch.toNat % 2 = 1 ∨ 32 ≤ ch.toNat →
    (Completes (.drvPair q ch) s [.frm, .auth] fun t => Answered q false 0x44 .badParam [] s t) ∧
    (Completes (.drvUnpair q ch) s [.frm, .auth] fun t => Answered q false 0x44 .badParam [] s t)) ∧
  (∀ (q : Req) (b : Half) (s : State), s.obeys q = true →
    (b.toNat < 1000 ∨ 25000 < b.toNat → Completes (.drvBudget q b) s [.frm, .auth] fun t => Answered q false 0x45 .badParam [] s t) ∧
    (1000 ≤ b.toNat → b.toNat ≤ 25000 → Completes (.drvBudget q b) s [.frm, .auth, .run, .drv] fun t =>
      t.run = { s.run with budget := b.toNat } ∧ t.drv.ch = s.drv.ch ∧
      t.drv.overNow = decide (b.toNat * 125 * (8 - s.therm.step) < (sumDF s.holders).2) ∧
      Answered q false 0x45 .ok (leBytes 2 b.toNat ++ leBytes 2 (b.toNat * (8 - s.therm.step) / 8) ++ leBytes 2 s.demandMa.1 ++
        leBytes 2 s.demandMa.2) s t)) ∧
  ∀ (q : Req) (ch count : Byte) (s : State), s.hears q = true →
    (count.toNat = 0 ∨ 32 < ch.toNat + count.toNat → (Completes (.drvStatus q ch count) s [.frm, .auth] fun t =>
        Answered q false 0x42 .badParam [] s t) ∧
      (Completes (.drvEnergy q ch count) s [.frm, .auth] fun t => Answered q false 0x43 .badParam [] s t)) ∧
    (1 ≤ count.toNat → ch.toNat + count.toNat ≤ 32 →
      (Completes (.drvStatus q ch count) s [.frm, .auth] fun t => ∃ d : List Byte, d.length = 20 * count.toNat + 12 ∧
        Answered q false 0x42 .ok d s t ∧ (∀ (k : Nat) (n : Fin 32), k < count.toNat → n.val = ch.toNat + k → fieldAt d (20 * k) 1 = n.val ∧
          fieldAt d (20 * k + 1) 1 = (s.drv.ch[n]).phase.code ∧ fieldAt d (20 * k + 8) 2 = (s.drv.ch[n]).vRes % 65536 ∧
          fieldAt d (20 * k + 18) 2 = (s.drv.ch[n]).tRise % 65536) ∧ fieldAt d (20 * count.toNat + 2) 2 = s.run.budget % 65536) ∧
      (count.toNat ≤ 16 → Completes (.drvEnergy q ch count) s [.frm, .auth] fun t => ∃ d : List Byte, d.length = 32 * count.toNat ∧
        Answered q false 0x43 .ok d s t ∧ ∀ (k : Nat) (n : Fin 32), k < count.toNat → n.val = ch.toNat + k → fieldAt d (32 * k) 1 = n.val ∧
          fieldAt d (32 * k + 4) 4 = (s.drv.ch[n]).actCnt % 2 ^ 32 ∧ fieldAt d (32 * k + 16) 8 = (s.drv.ch[n]).eHold % 2 ^ 64))

/-- R384, R386, R387, R390, R401, R403, R405, R416, R425, R437, R439, R440 and Table 9.2: what moves an unpaired channel, or a pair on its even
channel, from phase to phase. An event that does not fit the channel's phase changes nothing but the time (log entry 65). No other channel
changes. Without a test session. The switches stand as the phase says (Tables 9.2, 9.3): HS_R and HS_V never both on (R383), the high side of
a HEAT channel off while the permit is off (R412), every switch off without VS_POWER or the channel's domain, or while a pair's leg commands
contradict each other (R55, R451). -/
def Obligations.DriverPhasesMove : Prop :=
  (∀ (dt : Nat) (n : Fin 32) (s : State) (d : Driver), d = s.drv.ch[n] → s.inj.isOpen = false → s.paired n = false →
    (∀ pts vRes, d.phase = .rise →
      (¬(d.act.fromLow = true ∧ s.clk.upNs + dt < d.act.riseUp + 20000) →
        Completes (.risePeakReached dt n pts vRes) s [.clk, .drv] fun t => (t.drv.ch[n]).phase = .dwell ∧ (t.drv.ch[n]).vRes = vRes ∧
          (t.drv.ch[n]).act.peak = decide (s.clk.upNs + dt - d.act.riseUp ≤ (s.prof n).tBoostMax * 10000) ∧
          (t.drv.ch[n]).tRise = satTo 0xFFFF ((s.clk.upNs + dt - d.phaseUp) / 10000) ∧
          (t.drv.ch[n]).act.points = (if d.act.fromLow then pts else none) ∧
          (t.drv.ch[n]).act.ePull = d.act.ePull + s.cRes n.val * (d.act.vStart ^ 2 - vRes ^ 2) / 20000000 ∧
          (∀ m : Fin 32, m ≠ n → t.drv.ch[m] = s.drv.ch[m]) ∧ t.drv.dg = s.drv.dg) ∧
      (d.act.fromLow = true → s.clk.upNs + dt < d.act.riseUp + 20000 → d.act.riseUp ≤ s.clk.upNs →
        Completes (.risePeakReached dt n pts vRes) s [.clk, .drv, .log] fun t => (t.drv.ch[n]).phase = .fault ∧
          (t.drv.dg[n]).fcode = .shortLoad ∧ (t.drv.dg[n]).shortLoad = (s.drv.dg[n]).shortLoad.raise)) ∧
    (∀ iHs iLs pts vRes, d.phase = .rise → d.act.riseUp + (s.prof n).tBoostMax * 10000 ≤ s.clk.upNs + dt →
      Completes (.tBoostMaxExpire dt n iHs iLs pts vRes) s [.clk, .drv] fun t =>
        (50 ≤ iHs ∨ 50 ≤ iLs → (t.drv.ch[n]).phase = .dwell ∧ (t.drv.ch[n]).act.peak = false ∧ (t.drv.ch[n]).vRes = vRes ∧
          (t.drv.ch[n]).act.points = (if d.act.fromLow then pts else none) ∧ (t.drv.ch[n]).toFault = d.toFault) ∧
        (iHs < 50 → iLs < 50 → (t.drv.ch[n]).phase = .release ∧ (t.drv.ch[n]).relFast = true ∧ (t.drv.ch[n]).toFault = .open_ ∧
          (t.drv.dg[n]).open_ = (s.drv.dg[n]).open_.raise) ∧ ∀ m : Fin 32, m ≠ n → t.drv.ch[m] = s.drv.ch[m]) ∧
    (∀ held energy, d.phase = .dwell → d.phaseUp + (s.prof n).tPeak * 10000 ≤ s.clk.upNs + dt →
      Completes (.dwellEnd dt n held energy) s [.clk, .drv] fun t => (t.drv.ch[n]).phase = .decay ∧
        (t.drv.ch[n]).pullinFail = d.pullinFail.raiseIf (!(d.act.peak && held)) ∧
        (t.drv.dg[n]).pfRun = (if d.act.peak && held then 0 else satTo 15 ((s.drv.dg[n]).pfRun + 1)) ∧
        ∀ m : Fin 32, m ≠ n → t.drv.ch[m] = s.drv.ch[m]) ∧
    (d.phase = .decay → Completes (.decayEnd dt n) s [.clk, .drv] fun t => (t.drv.ch[n]).phase = .hold ∧
      ∀ m : Fin 32, m ≠ n → t.drv.ch[m] = s.drv.ch[m]) ∧
    (∀ e, d.act.pulseEnd = some e → e ≤ s.clk.upNs + dt → (d.phase = .hold ∨ d.phase = .wait) →
      Completes (.pulseEnd dt n) s [.clk, .drv] fun t => (t.drv.ch[n]).phase = (if d.phase = .hold then .release else .idle) ∧
        (t.drv.ch[n]).act.pulseEnd = none ∧ ∀ m : Fin 32, m ≠ n → t.drv.ch[m] = s.drv.ch[m]) ∧
    ((s.prof n).tHoldMax ≠ 0 → d.phase = .hold → d.act.applied + sec (s.prof n).tHoldMax ≤ s.clk.upNs + dt →
      Completes (.tHoldMaxExpire dt n) s [.clk, .drv] fun t => (t.drv.ch[n]).phase = .release ∧ (t.drv.ch[n]).holdTo = d.holdTo.raise ∧
        ∀ m : Fin 32, m ≠ n → t.drv.ch[m] = s.drv.ch[m]) ∧
    (∀ x : Released, d.phase = .release → d.act.reverse = false → d.toFault = .none →
      ((s.run.diag[n]).pfLimit = 0 ∨ (s.drv.dg[n]).pfRun < (s.run.diag[n]).pfLimit) →
      let e := d.act.ePull + if d.act.cutRise then s.cRes n.val * (d.act.vStart ^ 2 - x.vCut ^ 2) / 20000000 else if d.act.cutDwell then x.hsv
        else 0
      Completes (.releaseEnd dt n x) s [.clk, .drv, .energy] fun t => (t.drv.ch[n]).phase = .idle ∧ (t.drv.ch[n]).vRes = x.vRes ∧
        ((s.prof n).mode = 1 → (t.drv.ch[n]).eLast = e ∧ (t.drv.ch[n]).lastRestarted = d.act.restarted ∧
          (t.drv.ch[n]).ePast = (if d.act.restarted then d.ePast else (e :: d.ePast).take 16) ∧
          (d.act.restarted = true ∨ (if d.act.cutRise && d.act.fromLow then x.points else d.act.points) = none →
            (t.drv.ch[n]).fit = d.fit ∧ (t.drv.ch[n]).fitReject = d.fitReject) ∧
          (t.drv.ch[n]).vTgt = (vTarget (s.prof n) (t.drv.ch[n]).fit (s.cRes n.val)).1) ∧
        (∀ m : Fin 32, m ≠ n → t.drv.ch[m] = s.drv.ch[m]) ∧ t.drv.dg = s.drv.dg) ∧
    (∀ x : Released, d.phase = .release → d.act.reverse = false → d.toFault ≠ .none →
      Completes (.releaseEnd dt n x) s [.clk, .drv, .energy, .log] fun t => (t.drv.ch[n]).phase = .fault ∧
        (t.drv.dg[n]).fcode = d.toFault)) ∧
  (∀ (dt : Nat) (n : Fin 32) (s : State), s.paired n = true → n.val % 2 = 0 →
    ((s.drv.ch[n]).phase = .decay → Completes (.decayEnd dt n) s [.clk, .drv] fun t => (t.drv.ch[n]).phase = .release ∧
      (t.drv.ch[n]).relFast = true) ∧
    ((s.drv.ch[n]).phase = .release → (s.drv.ch[n]).act.reverse = true → Completes (.pairReverseRise dt n) s [.clk, .drv] fun t =>
      (t.drv.ch[n]).phase = .rise ∧ (t.drv.ch[n]).act.riseUp = s.clk.upNs + dt ∧ (t.drv.ch[n]).act.reverse = false ∧
      ∀ m : Fin 32, m ≠ n → t.drv.ch[m] = s.drv.ch[m])) ∧
  (∀ (dt : Nat) (s : State), Completes (.boostOrderReview dt) s [.clk, .drv] fun t => t.drv.ch = s.drv.ch ∧ t.drv.dg = s.drv.dg ∧
    (t.drv.chgOn = true ↔ s.drv.boostOn = true ∧ ∃ n, s.wantsCharge n = true) ∧
    ∀ n : Fin 32, s.drv.boostOn = true → s.wantsCharge n = true → (∀ m : Fin 32, m ≠ n → s.wantsCharge m = true → s.before n m = true) →
      t.drv.chgCh = n.val) ∧
  (∀ (dt v : Nat) (n : Fin 32) (s : State),
    let near := decide (s.drv.chgOn = true ∧ s.drv.chgCh = n.val ∧ (s.drv.ch[n]).vTgt ≤ v + 50 ∧ v ≤ (s.drv.ch[n]).vTgt + 50 ∧ v ≤ 6000)
    (near = true → Completes (.reservoirCharged dt n v) s [.clk, .drv] fun t => (t.drv.ch[n]).vRes = v ∧
      (t.drv.ch[n]).phase = (s.drv.ch[n]).phase ∧ ∀ m : Fin 32, m ≠ n → t.drv.ch[m] = s.drv.ch[m]) ∧
    (near = false → Completes (.reservoirCharged dt n v) s [.clk] fun t => t.drv = s.drv)) ∧
  ∀ (n : Fin 32) (s : State),
    let g := s.gates n
    (g.hsR = .off ∨ g.hsV = .off) ∧ (s.isHeat n = true → s.permitOn = false → g.hsR = .off ∧ g.hsV = .off) ∧
    (s.pow.vpOk = false ∨ s.contradictory n = true ∨ s.domOn (13 + n.val) = false → g = .off) ∧
    (s.paired n = false → (s.drv.dg[n]).direct = none → s.pow.vpOk = true → s.domOn (13 + n.val) = true → s.safe.estopLines = false →
      s.ho.safeTrip = false → (s.isHeat n = true → s.permitOn = true) →
      ((s.drv.ch[n]).phase = .rise → g = { hsR := .on, ls := true, steer := .none }) ∧
      ((s.drv.ch[n]).phase = .dwell → g = { hsV := .chopped ((s.prof n).iPeak * 25000), ls := true, steer := .none }) ∧
      ((s.drv.ch[n]).phase = .hold → g = { hsV := .chopped (s.runsUa n), ls := true, steer := .none }) ∧
      ((s.drv.ch[n]).phase = .release → (s.drv.ch[n]).relFast = true → g = .off) ∧
      ((s.drv.ch[n]).phase = .idle ∨ (s.drv.ch[n]).phase = .wait ∨ (s.drv.ch[n]).phase = .fault → g = .off))


/-! ### Driver diagnostics (chapter 10) -/

/-- R432 to R441, R443, R448, R449, R451, R452, R456 to R460 and Tables 10.1, 10.2: the findings on a channel, in the off and the on state, and
what follows them. A short switches the channel off into FAULT with its code and flag, on a HEAT channel a short to supply takes the permit
with latch HEAT_SHORT; OPEN and over-temperature release it through FAST first; a wait for boost ends with RISE; a retry leaves FAULT and
checks the load; a contradictory leg command of a pair in three periods faults its even channel and ends direct drive. The conditions of Table
10.2 are judged on what the senses show (log entry 116). No other channel changes. Unpaired channels, but for leg conflicts; without a test
session. -/
def Obligations.DriverFindingsComplete : Prop :=
  (∀ (dt : Nat) (n : Fin 32) (s : State) (g : Diag), s.inj.isOpen = false → g = s.drv.dg[evenCh n] →
    ((s.advance dt).contradictory n = false → Completes (.legConflictDetect dt n) s [.clk] fun t => t.drv = s.drv) ∧
    ((s.advance dt).contradictory n = true → (s.drv.ch[evenCh n]).phase ≠ .fault → g.legUp ≤ s.clk.upNs + dt →
      (s.clk.upNs + dt < g.legUp + 2 * (1000000 / max 1 (s.prof (evenCh n)).chop) → g.legRun = 2 →
        Completes (.legConflictDetect dt n) s [.clk, .drv, .log] fun t => (t.drv.ch[evenCh n]).phase = .fault ∧
          (t.drv.dg[evenCh n]).fcode = .legConflict ∧ (t.drv.dg[evenCh n]).legConflict = g.legConflict.raise ∧
          (t.drv.dg[evenCh n]).retryAt = none ∧ (t.drv.dg[evenCh n]).direct = none ∧ (t.drv.dg[oddCh n]).direct = none) ∧
      (g.legRun < 2 → Completes (.legConflictDetect dt n) s [.clk, .drv] fun t => t.drv.ch = s.drv.ch ∧
        (t.drv.dg[evenCh n]).legConflict = g.legConflict.raise ∧ (t.drv.dg[evenCh n]).fcode = g.fcode))) ∧
  ∀ (dt : Nat) (n : Fin 32) (s : State) (d : Driver) (g : Diag), d = s.drv.ch[n] → g = s.drv.dg[n] → s.inj.isOpen = false →
    s.paired n = false →
    (∀ vDh vDl : Nat, (s.advance dt).offConditions n = true → g.offSince = some ((s.advance dt).offStart n) →
      (s.advance dt).offStart n + 2000000 ≤ s.clk.upNs + dt →
      let f := classify vDh vDl
      let run := if g.offLast = f then g.offRun + 1 else 1
      (run ≠ 10 → Completes (.offStateSample dt n vDh vDl) s [.clk, .drv] fun t => t.drv.ch = s.drv.ch ∧ (t.drv.dg[n]).offLast = f ∧
        (t.drv.dg[n]).offRun = satTo 11 run ∧ (t.drv.dg[n]).vDh = vDh ∧ (t.drv.dg[n]).vDl = vDl ∧ (t.drv.dg[n]).flags = g.flags ∧
        ∀ m : Fin 32, m ≠ n → t.drv.dg[m] = s.drv.dg[m]) ∧
      (run = 10 → g.checking = false →
        (f = .healthy → Completes (.offStateSample dt n vDh vDl) s [.clk, .drv] fun t => t.drv.ch = s.drv.ch ∧
          (t.drv.dg[n]).flags = g.flags) ∧
        (f = .open_ → Completes (.offStateSample dt n vDh vDl) s [.clk, .drv] fun t => t.drv.ch = s.drv.ch ∧
          (t.drv.dg[n]).offOpen = g.offOpen.raise) ∧
        (f = .leak → Completes (.offStateSample dt n vDh vDl) s [.clk, .drv] fun t => t.drv.ch = s.drv.ch ∧
          (t.drv.dg[n]).offLeak = g.offLeak.raise) ∧
        (f = .shortGnd → Completes (.offStateSample dt n vDh vDl) s [.clk, .drv, .log] fun t => (t.drv.ch[n]).phase = .fault ∧
          (t.drv.dg[n]).fcode = .offShortGnd ∧ (t.drv.dg[n]).shortGnd = g.shortGnd.raise ∧ ∀ m : Fin 32, m ≠ n → t.drv.ch[m] = s.drv.ch[m]) ∧
        (f = .shortSup → s.isHeat n = false → Completes (.offStateSample dt n vDh vDl) s [.clk, .drv, .log] fun t =>
          (t.drv.ch[n]).phase = .fault ∧ (t.drv.dg[n]).fcode = .offShortSup ∧ (t.drv.dg[n]).shortSup = g.shortSup.raise))) ∧
    (∀ (x : Sense) (c : Instr) (f : FCode), c = .drvShortSupDetect dt n x ∧ f = .shortSup ∧ s.isHeat n = false ∨
        c = .drvShortLoadDetect dt n x ∧ f = .shortLoad ∨ c = .drvShortGndDetect dt n x ∧ f = .shortGnd →
      (d.phase.active = true ∨ g.direct ≠ none → s.shortSeen n f x = true → Completes c s [.clk, .drv, .log] fun t =>
        (t.drv.ch[n]).phase = .fault ∧ (t.drv.dg[n]).fcode = f ∧ (t.drv.dg[n]).direct = none ∧
        (d.phase.active = true → d.phase ≠ .prop → (t.drv.ch[n]).eLast = d.act.ePull +
          (if d.phase = .rise then s.cRes n.val * (d.act.vStart ^ 2 - x.vRes ^ 2) / 20000000 else if d.phase = .dwell then x.hsv else 0)) ∧
        (t.drv.ch[n]).fit = d.fit ∧ (t.drv.ch[n]).ePast = d.ePast ∧
        (t.drv.dg[n]).retryAt = some (s.clk.upNs + dt + sec (s.run.diag[n]).retryT) ∧
        (∃ y, y.cls = 4 ∧ y.code = 1 ∧ t.log.queue = s.log.queue ++ [y]) ∧ ∀ m : Fin 32, m ≠ n → t.drv.ch[m] = s.drv.ch[m]) ∧
      (s.shortSeen n f x = false ∨ d.phase.active = false ∧ g.direct = none → Completes c s [.clk] fun _ => True)) ∧
    (∀ x : Sense, d.phase.active = true → s.shortSeen n .shortSup x = true → s.isHeat n = true → s.safe.permit = .on → s.safe.relBad = false →
      Completes (.drvShortSupDetect dt n x) s [.clk, .loop, .drv, .prog, .safe, .inj, .log, .cnt] fun t => Safety.removed 0x0C t ∧
        (t.safe.latch[Latch.heatShort.bit]).set = true ∧ t.safe.permit = .locked ∧ (t.drv.ch[n]).phase = .fault ∧
        (t.drv.dg[n]).fcode = .shortSup) ∧
    (∀ (ma ns : Nat) (full : Bool), d.phase = .hold ∨ d.phase = .prop ∧ d.propNow ≠ 0 →
      let lost := full && decide (1000000 ≤ ns) && decide (2 * ma * 1000 < s.runsUa n)
      (lost = true → Completes (.drvOpenDetect dt n ma ns full) s [.clk, .drv] fun t =>
        (t.drv.ch[n]).phase = .release ∧ (t.drv.ch[n]).relFast = true ∧ (t.drv.ch[n]).toFault = .open_ ∧
        (t.drv.dg[n]).open_ = g.open_.raise ∧ ∀ m : Fin 32, m ≠ n → t.drv.ch[m] = s.drv.ch[m]) ∧
      (lost = false → Completes (.drvOpenDetect dt n ma ns full) s [.clk] fun _ => True)) ∧
    (∀ v : Nat, d.phase = .wait →
      (s.isHeat n = true → s.permitOn = false →
        (9 * d.vTgt ≤ 10 * v → Completes (.boostWaitReady dt n v) s [.clk, .drv] fun t => (t.drv.ch[n]).phase = .idle) ∧
        (d.act.waitEnd ≤ s.clk.upNs + dt → Completes (.tBoostWaitExpire dt n) s [.clk, .drv] fun t => (t.drv.ch[n]).phase = .idle)) ∧
      ((s.isHeat n = true → s.permitOn = true) → 9 * d.vTgt ≤ 10 * v → Completes (.boostWaitReady dt n v) s [.clk, .drv] fun t => (t.drv.ch[n]).phase = .rise ∧
        (t.drv.ch[n]).act.riseUp = s.clk.upNs + dt ∧ (t.drv.ch[n]).act.pulseEnd = d.act.pulseEnd ∧
        ∀ m : Fin 32, m ≠ n → t.drv.ch[m] = s.drv.ch[m]) ∧
      (10 * v < 9 * d.vTgt → Completes (.boostWaitReady dt n v) s [.clk, .drv] fun t => (t.drv.ch[n]).phase = .wait) ∧
      ((s.isHeat n = true → s.permitOn = true) → d.act.waitEnd ≤ s.clk.upNs + dt →
        Completes (.tBoostWaitExpire dt n) s [.clk, .drv] fun t => (t.drv.ch[n]).phase = .rise ∧
        (t.drv.ch[n]).act.riseUp = s.clk.upNs + dt ∧ ∀ m : Fin 32, m ≠ n → t.drv.ch[m] = s.drv.ch[m])) ∧
    (∀ tj : Int, 1700 ≤ tj →
      (d.phase = .hold → Completes (.drvOvertemp dt n tj) s [.clk, .drv] fun t => (t.drv.ch[n]).phase = .release ∧
        (t.drv.ch[n]).relFast = true ∧ (t.drv.ch[n]).toFault = .overtemp ∧ (t.drv.dg[n]).overtemp = g.overtemp.raise) ∧
      (d.phase = .fault → Completes (.drvOvertemp dt n tj) s [.clk, .drv] fun t => t.drv.ch = s.drv.ch ∧ (t.drv.dg[n]).fcode = g.fcode ∧
        (t.drv.dg[n]).overtemp = g.overtemp.raise)) ∧
    (∀ tj : Int, tj ≤ 1400 → g.fcode = .overtemp → Completes (.drvOvertempRecover dt n tj) s [.clk, .drv] fun t =>
      (t.drv.ch[n]).phase = .idle ∧ (t.drv.dg[n]).fcode = .none ∧ (t.drv.dg[n]).retryLeft = g.retryLeft ∧
      ∀ m : Fin 32, m ≠ n → t.drv.ch[m] = s.drv.ch[m]) ∧
    (∀ u, d.phase = .fault → g.retryAt = some u → u ≤ s.clk.upNs + dt →
      ((s.run.diag[n]).retryMode = 0 ∨ g.retryLeft = 0 → Completes (.drvRetryTimer dt n) s [.clk, .drv] fun t => t.drv.ch = s.drv.ch ∧
        (t.drv.dg[n]).fcode = g.fcode ∧ (t.drv.dg[n]).retryLeft = g.retryLeft) ∧
      ((s.run.diag[n]).retryMode ≠ 0 → g.retryLeft ≠ 0 → g.fcode.retries = true → Completes (.drvRetryTimer dt n) s [.clk, .drv, .log] fun t =>
        (t.drv.ch[n]).phase = .idle ∧ (t.drv.dg[n]).fcode = .none ∧ (t.drv.dg[n]).retryLeft = g.retryLeft - 1 ∧
        (t.drv.dg[n]).checking = true ∧ (∃ x, x.cls = 4 ∧ x.code = 2 ∧ t.log.queue = s.log.queue ++ [x]))) ∧
    (∀ u, g.cleanUp = some u → d.phase ≠ .fault → u + sec 3600 ≤ s.clk.upNs + dt → Completes (.drvRetryRestore dt n) s [.clk, .drv] fun t =>
      (t.drv.dg[n]).retryLeft = (s.run.diag[n]).retryMax ∧ t.drv.ch = s.drv.ch) ∧
    ∀ (u sw peak : Nat), g.direct = some (u, sw) → u ≤ s.clk.upNs + dt → d.phase = .idle →
      Completes (.directDriveEnd dt n peak) s [.clk, .drv] fun t => (t.drv.ch[n]).phase = .idle ∧ (t.drv.dg[n]).direct = none ∧
        (t.drv.dg[n]).peakI = peak

/-- R460, R461, R463, R464, R470 to R473 and Table 10.4: DRV_DIAG and DRV_FAULT_CLEAR. A clear takes the channels named out of FAULT but one
whose OVERTEMP still stands above 140 °C, which REFUSED names; a direct drive needs a test session, PHASE 0, no HEAT and no permit. PEAK in
its reply is a free value (log entry 16).
That the row of an opcode acts at once is the model's choice (log entry 69). -/
def Obligations.DriverDiagnosticOrdersComplete : Prop :=
  (∀ (q : Req) (ch offEn mode maxN tm pf : Byte) (s : State), s.obeys q = true →
    (∀ n : Fin 32, ch.toNat = n.val → offEn.toNat ≤ 1 → mode.toNat ≤ 2 → maxN.toNat ≤ 15 → tm ≠ 0 → pf.toNat ≤ 15 →
      (mode.toNat = 2 → s.isHeat n = false) →
      Completes (.drvDiagConfig q ch offEn mode maxN tm pf) s [.frm, .auth, .run, .drv] fun t =>
        t.run = { s.run with diag := s.run.diag.set n { offEn := decide (offEn.toNat = 1), retryMode := mode.toNat, retryMax := maxN.toNat,
                                                        retryT := tm.toNat, pfLimit := pf.toNat } } ∧
        (t.drv.dg[n]).retryLeft = maxN.toNat ∧ (t.drv.dg[n]).fcode = (s.drv.dg[n]).fcode ∧ t.drv.ch = s.drv.ch ∧
        (∀ m : Fin 32, m ≠ n → t.drv.dg[m] = s.drv.dg[m]) ∧ Answered q false 0x46 .ok [1, ch, offEn, mode, maxN, tm, pf] s t) ∧
    (32 ≤ ch.toNat ∨ 1 < offEn.toNat ∨ 2 < mode.toNat ∨ 15 < maxN.toNat ∨ tm = 0 ∨ 15 < pf.toNat ∨
        (∃ n : Fin 32, ch.toNat = n.val ∧ mode.toNat = 2 ∧ s.isHeat n = true) →
      Completes (.drvDiagConfig q ch offEn mode maxN tm pf) s [.frm, .auth] fun t => Answered q false 0x46 .badParam [] s t)) ∧
  (∀ (q : Req) (ch sw dur : Byte) (n : Fin 32) (s : State), s.obeys q = true → ch.toNat = n.val →
    (15 < sw.toNat ∨ dur = 0 ∨ 100 < dur.toNat → Completes (.drvDiagDirect q ch sw dur) s [.frm, .auth] fun t =>
      Answered q false 0x46 .badParam [] s t) ∧
    (sw.toNat ≤ 15 → dur ≠ 0 → dur.toNat ≤ 100 →
      (s.inj.isOpen = false ∨ (s.drv.ch[n]).phase ≠ .idle ∨ s.isHeat n = true → Completes (.drvDiagDirect q ch sw dur) s [.frm, .auth] fun t =>
        Answered q false 0x46 .badState [] s t) ∧
      (s.inj.isOpen = true → (s.drv.ch[n]).phase = .idle → (s.drv.dg[n]).direct = none → s.isHeat n = false →
        (s.permitOn = true → Completes (.drvDiagDirect q ch sw dur) s [.frm, .auth] fun t => Answered q false 0x46 .heatActive [] s t) ∧
        (s.permitOn = false → Completes (.drvDiagDirect q ch sw dur) s [.frm, .auth, .drv, .free] fun t => t.drv.ch = s.drv.ch ∧
          (t.drv.dg[n]).direct = some (s.clk.upNs + ms dur.toNat, sw.toNat) ∧ (∀ m : Fin 32, m ≠ n → t.drv.dg[m] = s.drv.dg[m]) ∧
          ∃ peak, Answered q false 0x46 .ok ([2, ch, sw] ++ leBytes 2 peak) s t)))) ∧
  ∀ (q : Req) (mask : Word) (flags : Byte) (s : State), s.obeys q = true →
    (mask = 0 ∨ 7 < flags.toNat → Completes (.drvFaultClear q mask flags) s [.frm, .auth] fun t => Answered q false 0x47 .badParam [] s t) ∧
    (mask ≠ 0 → flags.toNat ≤ 7 → Completes (.drvFaultClear q mask flags) s [.frm, .auth, .drv] fun t =>
      (∀ n : Fin 32, mask.getLsbD n.val = false → t.drv.ch[n] = s.drv.ch[n] ∧ t.drv.dg[n] = s.drv.dg[n]) ∧
      (∀ n : Fin 32, mask.getLsbD n.val = true →
        (bitOf flags.toNat 0 = true → (s.drv.ch[n]).phase = .fault → s.clearRefused n = false →
          (t.drv.ch[n]).phase = .idle ∧ (t.drv.dg[n]).fcode = .none) ∧
        (bitOf flags.toNat 0 = false ∨ s.clearRefused n = true → (t.drv.ch[n]).phase = (s.drv.ch[n]).phase ∧
          (t.drv.dg[n]).fcode = (s.drv.dg[n]).fcode) ∧
        (bitOf flags.toNat 1 = true → (t.drv.dg[n]).flags = 0 ∧ (t.drv.dg[n]).open_.cnt = (s.drv.dg[n]).open_.cnt) ∧
        (bitOf flags.toNat 1 = false → (t.drv.dg[n]).flags = (s.drv.dg[n]).flags) ∧
        (t.drv.dg[n]).retryLeft = (if bitOf flags.toNat 2 then (s.run.diag[n]).retryMax else (s.drv.dg[n]).retryLeft)) ∧
      ∃ cleared refused : Nat, Answered q false 0x47 .ok (leBytes 4 mask.toNat ++ leBytes 4 cleared ++ leBytes 4 refused) s t ∧
        ∀ n : Fin 32, (bitOf cleared n.val = true ↔ mask.getLsbD n.val = true ∧ bitOf flags.toNat 0 = true ∧
            (s.drv.ch[n]).phase = .fault ∧ s.clearRefused n = false) ∧
          (bitOf refused n.val = true ↔ mask.getLsbD n.val = true ∧ bitOf flags.toNat 0 = true ∧ (s.drv.ch[n]).phase = .fault ∧
            s.clearRefused n = true))

/-! ### Fans (chapter 11) -/

/-- R479 to R481, R483 to R485, R490 to R494, R496 to R498, R501, R503, R506, R509 and Tables 11.4, 11.5: what the fan block does by itself. No
channel beside the one named changes. A fan whose domain is not on does not start, one whose domain is to go off ramps down (R60). The
conditions of Table 11.5 are judged on the values measured. A group without members proves no airflow (log entry 19). Without a test session. -/
def Obligations.FansRun : Prop :=
  (∀ (dt : Nat) (s : State), s.fan.lastForm ≠ some ((s.clk.upNs + dt) / 1000000) → s.fanStageOff = false →
    Completes (.fanTargetForm dt) s [.clk, .fan, .log] fun t => ∀ n : Fin 12, (s.domDead (45 + n.val) = false) →
      (s.fan.ch[n]).state.able = true → s.fanGroupOf n.val = none →
      let c := s.fanCfg n
      let goal := s.fanTarget n
      (t.fan.ch[n]).target = goal ∧ (t.fan.ch[n]).thrCapped = s.fanCapped n ∧
      let leaving := s.pow.pdOff.getLsbD (45 + n.val)
      ((s.fan.ch[n]).state = .stopped → c.dmin ≤ goal → leaving = false → s.domOn (45 + n.val) = true → (t.fan.ch[n]).state = .spinUp ∧ (t.fan.ch[n]).duty = c.dmin * 1000 ∧
        (t.fan.ch[n]).stateUp = s.clk.upNs + dt) ∧
      ((s.fan.ch[n]).state = .stopped → goal < c.dmin ∨ leaving = true ∨ s.domOn (45 + n.val) = false → (t.fan.ch[n]).state = .stopped) ∧
      ((s.fan.ch[n]).state = .running → c.dmin ≤ goal → leaving = false → (t.fan.ch[n]).state = .running ∧
        (c.ramp = 0 → (t.fan.ch[n]).duty = goal * 1000) ∧
        (c.ramp ≠ 0 → (t.fan.ch[n]).duty ≤ (s.fan.ch[n]).duty + c.ramp ∧ (s.fan.ch[n]).duty ≤ (t.fan.ch[n]).duty + c.ramp)) ∧
      ((s.fan.ch[n]).state = .running → goal < c.dmin ∨ leaving = true → c.ramp = 0 → (t.fan.ch[n]).state = .stopped ∧ (t.fan.ch[n]).duty = 0)) ∧
  (∀ (s : State) (n : Fin 12),
    let c := s.fanCfg n
    let own := s.modeTarget n
    let lift := max own (s.foDuty n.val)
    (c.mode = 0 → s.fanTarget n = 0) ∧
    (c.mode ≠ 0 → s.fanWish n = min c.dmax
      (if (s.inFailover n.val = true ∧ (s.fan.ch[n]).state.able = true) ∨ (s.fan.ch[n]).foCmd = true then lift else own)) ∧
    (c.mode ≠ 0 → n.val < 6 → s.fanTarget n = min (s.fanWish n) (max c.dfloor (c.dmax * (8 - s.therm.step) / 8))) ∧
    (6 ≤ n.val → s.fanTarget n = s.fanWish n)) ∧
  (∀ (dt : Nat) (n : Fin 12) (s : State) (f : Fan), f = s.fan.ch[n] → s.inj.isOpen = false →
    (f.state = .spinUp → f.stateUp + sec (s.fanCfg n).tSpin ≤ s.clk.upNs + dt → (s.fanCfg n).senseEn = false ∨ s.runOkNow n = true →
      Completes (.fanSpinUpEnd dt n) s [.clk, .fan] fun t => (t.fan.ch[n]).state = .running ∧ (t.fan.ch[n]).duty = f.duty ∧
        t.fan.grp = s.fan.grp ∧ ∀ m : Fin 12, m ≠ n → t.fan.ch[m] = s.fan.ch[m]) ∧
    (∀ c : Instr, (c = .fanSpinUpEnd dt n ∧ f.state = .spinUp ∧ f.stateUp + sec (s.fanCfg n).tSpin ≤ s.clk.upNs + dt) ∨
        (c = .fanStallDetect dt n ∧ f.state = .running ∧ ∃ u, f.lowUp = some u ∧ u + ms (100 * (s.fanCfg n).stallT) ≤ s.clk.upNs + dt) →
      (s.fanCfg n).senseEn = true → s.runOkNow n = false →
      Completes c s [.clk, .fan, .log] fun t => (t.fan.ch[n]).state = (if f.retryLeft = 0 then .fault else .retryWait) ∧
        (t.fan.ch[n]).duty = 0 ∧ (t.fan.ch[n]).stall = f.stall.raise ∧ (t.fan.ch[n]).retryLeft = f.retryLeft ∧
        (t.fan.ch[n]).fcode = (if f.retryLeft = 0 then .stall else f.fcode) ∧
        (∀ g : Fin 4, s.fanGroupOf n.val = some g → (t.fan.grp[g]).failover = true ∧
          (t.fan.grp[g]).foEvt = (s.fan.grp[g]).foEvt.raiseIf (!(s.fan.grp[g]).failover)) ∧
        ∀ m : Fin 12, m ≠ n → t.fan.ch[m] = s.fan.ch[m]) ∧
    (f.state = .retryWait → f.stallUp + sec (s.fanCfg n).retryInt ≤ s.clk.upNs + dt →
      ((s.fanCfg n).dmin ≤ s.fanTarget n → Completes (.fanRetryTimer dt n) s [.clk, .fan, .log] fun t => (t.fan.ch[n]).state = .spinUp ∧
        (t.fan.ch[n]).retryLeft = f.retryLeft - 1 ∧ (t.fan.ch[n]).duty = (s.fanCfg n).dmin * 1000 ∧
        (∃ x, x.cls = 5 ∧ x.code = 2 ∧ t.log.queue = s.log.queue ++ [x]) ∧ ∀ m : Fin 12, m ≠ n → t.fan.ch[m] = s.fan.ch[m]) ∧
      (s.fanTarget n < (s.fanCfg n).dmin → Completes (.fanRetryTimer dt n) s [.clk, .fan] fun t => (t.fan.ch[n]).state = .stopped ∧
        (t.fan.ch[n]).retryLeft = f.retryLeft)) ∧
    (f.state = .running → f.stateUp + sec 3600 ≤ s.clk.upNs + dt → Completes (.fanRetryRestore dt n) s [.clk, .fan] fun t =>
      (t.fan.ch[n]).retryLeft = (s.fanCfg n).retryMax ∧ (t.fan.ch[n]).state = .running) ∧
    (∀ (w : FanElec) (code : FanFault), f.state = .running →
      (∃ ma i, w = .overcurrent ma i ∧ code = .overcurrent ∧ (if n.val < 6 then 4400 < ma else 2200 < ma) ∧ 100000000 ≤ i) ∨
        (∃ v i, w = .short true v i ∧ code = .short ∧ 1000000 ≤ i ∧
          (if n.val < 6 then 5000 * v < f.dutyOut * s.pow.vsPower else 2 * v < s.pow.vsPower)) ∨
        (∃ tj, w = .overtemp tj ∧ code = .overtemp ∧ 1700 ≤ tj) →
      Completes (.fanElectricalFault dt n w) s [.clk, .fan, .log] fun t => (t.fan.ch[n]).state = .fault ∧
        (t.fan.ch[n]).fcode = code ∧ (t.fan.ch[n]).duty = 0 ∧ (t.fan.ch[n]).overcurrent = f.overcurrent.raiseIf (code == .overcurrent) ∧
        (t.fan.ch[n]).short = f.short.raiseIf (code == .short) ∧ (t.fan.ch[n]).overtemp = f.overtemp.raiseIf (code == .overtemp) ∧
        (∀ g : Fin 4, s.fanGroupOf n.val = some g → (t.fan.grp[g]).failover = true) ∧ ∀ m : Fin 12, m ≠ n → t.fan.ch[m] = s.fan.ch[m]) ∧
    (∀ (w : FanElec), (∃ ma i, w = .overcurrent ma i ∧ (i < 100000000 ∨ ma ≤ 2200)) ∨ (∃ l v i, w = .short l v i ∧ (l = false ∨ i < 1000000)) →
      Completes (.fanElectricalFault dt n w) s [.clk] fun _ => True) ∧
    (∀ tj : Int, tj < 1700 → Completes (.fanElectricalFault dt n (.overtemp tj)) s [.clk, .fan] fun t =>
      t.fan = { s.fan with ch := vmod s.fan.ch n fun x => { x with tj := tj } }) ∧
    (∀ tj : Int, tj ≤ 1400 → f.state = .fault → f.fcode = .overtemp → Completes (.fanOvertempRecover dt n tj) s [.clk, .fan] fun t =>
      (t.fan.ch[n]).state = .stopped ∧ (t.fan.ch[n]).fcode = .none ∧ ∀ m : Fin 12, m ≠ n → t.fan.ch[m] = s.fan.ch[m]) ∧
    (n.val < 6 → f.shootUp ≤ s.clk.upNs + dt →
      (s.clk.upNs + dt < f.shootUp + 10000 → f.shootRun = 2 → f.state = .running →
        Completes (.shootBlockDetect dt n) s [.clk, .fan, .log] fun t => (t.fan.ch[n]).state = .fault ∧ (t.fan.ch[n]).fcode = .shoot ∧
          (t.fan.ch[n]).shootBlock = f.shootBlock.raise ∧ ∀ m : Fin 12, m ≠ n → t.fan.ch[m] = s.fan.ch[m]) ∧
      (f.shootRun < 2 → Completes (.shootBlockDetect dt n) s [.clk, .fan] fun t => (t.fan.ch[n]).state = f.state ∧
        (t.fan.ch[n]).shootBlock = f.shootBlock.raise)) ∧
    (6 ≤ n.val → s.domOn (45 + n.val) = true → Completes (.tachEdge dt n) s [.clk, .fan] fun t =>
      (t.fan.ch[n]).lastEdge = some (s.clk.upNs + dt) ∧ (t.fan.ch[n]).edges = (s.clk.upNs + dt) :: f.edges ∧
      ((s.fanCfg n).ppr ≤ f.revEdge + 1 → (t.fan.ch[n]).revCnt = (f.revCnt + 1) % 65536 ∧ (t.fan.ch[n]).revEdge = 0) ∧
      (f.revEdge + 1 < (s.fanCfg n).ppr → (t.fan.ch[n]).revCnt = f.revCnt ∧ (t.fan.ch[n]).revEdge = f.revEdge + 1) ∧
      ∀ m : Fin 12, m ≠ n → t.fan.ch[m] = s.fan.ch[m])) ∧
  (∀ (dt : Nat) (g : Fin 4) (s : State), (s.fan.grp[g]).failover = true →
    ((∀ n : Fin 12, bitOf (s.run.fgrp[g]).members n.val = true → (s.fanCfg n).mode = 0 ∨
        ∃ u, (s.fan.ch[n]).okUp = some u ∧ u + sec (s.run.fgrp[g]).foHold ≤ s.clk.upNs + dt) →
      Completes (.fanFailoverExit dt g) s [.clk, .fan] fun t => (t.fan.grp[g]).failover = false ∧ t.fan.ch = s.fan.ch) ∧
    (∀ n : Fin 12, bitOf (s.run.fgrp[g]).members n.val = true → (s.fanCfg n).mode ≠ 0 → (s.fan.ch[n]).okUp = none →
      Completes (.fanFailoverExit dt g) s [.clk] fun _ => True)) ∧
  ∀ (dt : Nat) (s : State), Completes (.airOkUpdate dt) s [.clk, .fan] fun t => ∀ g : Fin 4,
    ((t.fan.grp[g]).airOk = true ↔ (s.run.fgrp[g]).members ≠ 0 ∧ (s.run.fgrp[g]).nAir ≤
      ((List.finRange 12).filter fun n => bitOf (s.run.fgrp[g]).members n.val && s.runOkNow n).length) ∧
    (t.fan.grp[g]).failover = (s.fan.grp[g]).failover ∧ ∀ n : Fin 12, (t.fan.ch[n]).runOk = s.runOkNow n ∧
      (t.fan.ch[n]).state = (s.fan.ch[n]).state

/-- R478, R482, R487, R494, R497, R500, R504, R507, R511 to R517 and Tables 11.3, 11.6 to 11.8: the fan opcodes with their checks in order.
FAILOVER stands whoever sends it. No channel, table or group beside those named changes. What a change of MODE leaves of a channel's
targets is the model's choice (log entry 18).
That the row of an opcode acts at once is the model's choice (log entry 69). -/
def Obligations.FanOrdersComplete : Prop :=
  (∀ (q : Req) (ch : Byte) (arg : Half) (n : Fin 12) (s : State), s.obeys q = true → ch.toNat = n.val →
    (arg.toNat ≤ 1000 → (s.fanCfg n).mode = 1 → s.therm.shut = false → s.fanOwned n.val = false →
      Completes (.fanCmdSet q ch arg 0) s [.frm, .auth, .fan] fun t =>
        t.fan = { s.fan with ch := vmod s.fan.ch n fun f => { f with manual := arg.toNat } } ∧
        Answered q false 0x50 (if t.fanCapped n then .throttled else .ok)
          (leBytes 1 n.val ++ leBytes 1 1 ++ leBytes 2 (2 ^ n.val) ++ leBytes 2 (t.fanTarget n)) s t) ∧
    (1000 < arg.toNat → Completes (.fanCmdSet q ch arg 0) s [.frm, .auth] fun t => Answered q false 0x50 .badParam [] s t) ∧
    (arg.toNat ≤ 1000 → (s.fanCfg n).mode ≠ 1 → Completes (.fanCmdSet q ch arg 0) s [.frm, .auth] fun t =>
      Answered q false 0x50 .badState [] s t)) ∧
  (∀ (q : Req) (mask : Half) (on : Bool) (s : State), mask ≠ 0 → mask.toNat < 4096 →
    (if on then s.hears q = true else s.obeys q = true) →
    Completes (if on then .fanCmdFailover q 0 0 mask else .fanCmdResume q 0 0 mask) s [.frm, .auth, .fan] fun t =>
      (∀ n : Fin 12, mask.getLsbD n.val = true → t.fan.ch[n] = { s.fan.ch[n] with foCmd := on }) ∧
      (∀ n : Fin 12, mask.getLsbD n.val = false → t.fan.ch[n] = s.fan.ch[n]) ∧ t.fan.grp = s.fan.grp ∧
      ∃ st eff, (st = .ok ∨ on = true ∧ st = .throttled ∧ ∃ n : Fin 12, mask.getLsbD n.val = true ∧ t.fanCapped n = true) ∧
        Answered q false 0x50 st (leBytes 1 0 ++ leBytes 1 (if on then 3 else 4) ++ leBytes 2 mask.toNat ++ leBytes 2 eff) s t) ∧
  (∀ (q : Req) (img : List Byte) (n : Fin 12) (c : FanCfg) (s : State), s.obeys q = true → img.length = 32 → fieldAt img 0 1 = n.val →
    c = FanCfg.ofBytes img →
    let noTable := c.mode = 2 ∧ ∃ k : Fin 8, c.table = k.val ∧ s.fan.tbl[k] = []
    let badSrc := ∃ i : Fin 4, s.badSource c.src[i] = true
    (fanCfgOk img = false ∨ noTable ∨ badSrc → Completes (.fanConfig q img) s [.frm, .auth] fun t => Answered q false 0x51 .badParam [] s t) ∧
    (fanCfgOk img = true → ¬noTable → ¬badSrc →
      (c.senseEn = false → (s.fanGroupOf n.val).isSome = true → Completes (.fanConfig q img) s [.frm, .auth] fun t =>
        Answered q false 0x51 .badState [] s t) ∧
      (c.senseEn = true ∨ s.fanGroupOf n.val = none →
        (∀ g : Fin 4, s.permitOn = true → s.fanGroupOf n.val = some g → bitOf s.safe.cfg.airGrp g.val = true →
          Completes (.fanConfig q img) s [.frm, .auth] fun t => Answered q false 0x51 .heatActive [] s t) ∧
        (s.permitOn = false ∨ s.fanGroupOf n.val = none → Completes (.fanConfig q img) s [.frm, .auth, .run, .fan, .log] fun t =>
          t.run = { s.run with fan := s.run.fan.set n c } ∧
          ((s.fanCfg n).mode ≠ 0 → c.mode = 0 → (t.fan.ch[n]).state = .off ∧ (t.fan.ch[n]).duty = (s.fan.ch[n]).duty ∧
            (t.fan.ch[n]).runOk = false) ∧
          ((s.fanCfg n).mode = 0 → c.mode ≠ 0 → s.fanDown n = false → (t.fan.ch[n]).state = .stopped ∧ (t.fan.ch[n]).tref = none) ∧
          ((s.fanCfg n).mode = c.mode → (t.fan.ch[n]).state = (s.fan.ch[n]).state ∧ (t.fan.ch[n]).duty = (s.fan.ch[n]).duty ∧
            (t.fan.ch[n]).manual = (s.fan.ch[n]).manual) ∧
          (∀ m : Fin 12, m ≠ n → t.fan.ch[m] = s.fan.ch[m]) ∧ t.fan.tbl = s.fan.tbl ∧ Answered q false 0x51 .ok img s t)))) ∧
  (∀ (q : Req) (tn : Byte) (img : List Byte) (s : State), s.obeys q = true →
    (img.length ≠ 12 + 8 * fieldAt img 1 1 → Completes (.fanTable q tn img) s [.frm, .auth] fun t => Answered q false 0x52 .badLength [] s t) ∧
    (img.length = 12 + 8 * fieldAt img 1 1 → fanTableOk tn.toNat img = false → Completes (.fanTable q tn img) s [.frm, .auth] fun t =>
      Answered q false 0x52 .badParam [] s t) ∧
    (∀ k : Fin 8, img.length = 12 + 8 * fieldAt img 1 1 → fanTableOk tn.toNat img = true → tn.toNat = k.val →
      Completes (.fanTable q tn img) s [.frm, .auth, .fan] fun t => t.fan = { s.fan with tbl := s.fan.tbl.set k img } ∧
        Answered q false 0x52 .ok (tn :: leBytes 2 (fieldAt img 6 2) ++ leBytes 4 (fieldAt img (img.length - 4) 4)) s t)) ∧
  (∀ (q : Req) (g nAir foHold pad : Byte) (members foDuty : Half) (k : Fin 4) (s : State), s.obeys q = true → g.toNat = k.val →
    let ok := pad = 0 ∧ members.toNat < 4096 ∧ foDuty.toNat ≤ 1000 ∧ foHold ≠ 0 ∧
      (if members = 0 then nAir = 0 else 1 ≤ nAir.toNat ∧ nAir.toNat ≤ ((List.finRange 12).filter fun n => members.getLsbD n.val).length)
    let clash := ∃ n : Fin 12, members.getLsbD n.val = true ∧ ((s.fanCfg n).senseEn = false ∨ ∃ h, h ≠ k ∧ s.fanGroupOf n.val = some h)
    (¬ok → Completes (.fanGroup q g members nAir foDuty foHold pad) s [.frm, .auth] fun t => Answered q false 0x53 .badParam [] s t) ∧
    (ok → clash → Completes (.fanGroup q g members nAir foDuty foHold pad) s [.frm, .auth] fun t => Answered q false 0x53 .badState [] s t) ∧
    (ok → ¬clash → s.permitOn = true → bitOf s.safe.cfg.airGrp k.val = true →
      Completes (.fanGroup q g members nAir foDuty foHold pad) s [.frm, .auth] fun t => Answered q false 0x53 .heatActive [] s t) ∧
    (ok → ¬clash → s.permitOn = false ∨ bitOf s.safe.cfg.airGrp k.val = false →
      Completes (.fanGroup q g members nAir foDuty foHold pad) s [.frm, .auth, .run, .fan] fun t =>
        t.run = { s.run with fgrp := s.run.fgrp.set k { members := members.toNat, nAir := nAir.toNat, foDuty := foDuty.toNat,
                                                        foHold := foHold.toNat } } ∧ t.fan.ch = s.fan.ch ∧
        Answered q false 0x53 .ok ([g] ++ leBytes 2 members.toNat ++ [nAir] ++ leBytes 2 foDuty.toNat ++ [foHold, 0]) s t)) ∧
  (∀ (q : Req) (ch count : Byte) (s : State), s.hears q = true →
    (count.toNat = 0 ∨ 12 < ch.toNat + count.toNat → Completes (.fanStatus q ch count) s [.frm, .auth] fun t =>
      Answered q false 0x54 .badParam [] s t) ∧
    (1 ≤ count.toNat → ch.toNat + count.toNat ≤ 12 → Completes (.fanStatus q ch count) s [.frm, .auth] fun t => ∃ d : List Byte,
      d.length = 24 * count.toNat + 10 ∧ Answered q false 0x54 .ok d s t ∧ ∀ (k : Nat) (n : Fin 12), k < count.toNat →
        n.val = ch.toNat + k → fieldAt d (24 * k) 1 = n.val ∧ fieldAt d (24 * k + 2) 1 = (s.fan.ch[n]).state.code ∧
        fieldAt d (24 * k + 4) 2 = (s.fan.ch[n]).target % 65536 ∧ fieldAt d (24 * k + 8) 2 = (s.fan.ch[n]).speed % 65536)) ∧
  ∀ (q : Req) (mask : Half) (flags : Byte) (s : State), s.obeys q = true →
    (mask = 0 ∨ 4096 ≤ mask.toNat ∨ 7 < flags.toNat → Completes (.fanRetry q mask flags) s [.frm, .auth] fun t =>
      Answered q false 0x55 .badParam [] s t) ∧
    (mask ≠ 0 → mask.toNat < 4096 → flags.toNat ≤ 7 → Completes (.fanRetry q mask flags) s [.frm, .auth, .fan] fun t =>
      (∀ n : Fin 12, mask.getLsbD n.val = false → t.fan.ch[n] = s.fan.ch[n]) ∧
      (∀ n : Fin 12, mask.getLsbD n.val = true →
        (bitOf flags.toNat 0 = true → (s.fan.ch[n]).state = .fault → ¬((s.fan.ch[n]).fcode = .overtemp ∧ 1400 < s.fanTj n) →
          (t.fan.ch[n]).state = .stopped ∧ (t.fan.ch[n]).fcode = .none) ∧
        (bitOf flags.toNat 0 = false ∨ (s.fan.ch[n]).fcode = .overtemp ∧ 1400 < s.fanTj n → (t.fan.ch[n]).state = (s.fan.ch[n]).state ∧
          (t.fan.ch[n]).fcode = (s.fan.ch[n]).fcode) ∧
        (t.fan.ch[n]).evt = (if bitOf flags.toNat 1 then 0 else (s.fan.ch[n]).evt) ∧
        (t.fan.ch[n]).retryLeft = (if bitOf flags.toNat 2 then (s.fanCfg n).retryMax else (s.fan.ch[n]).retryLeft)) ∧
      ∃ cleared refused : Nat, Answered q false 0x55 .ok (leBytes 2 mask.toNat ++ leBytes 2 cleared ++ leBytes 2 refused) s t)

/-! ### Programme, conveyor line, stitch list, energy (chapter 12) -/

/-- R519, R521, R524, R555 to R558 and Tables 12.9 to 12.11: the programme opcodes. PROG_LOAD sets the items named and leaves the others at
their defaults, PROG_SET changes only those named; PROG_START and PROG_STOP wait for the process tick, their reply showing the state that
follows (log entry 34); both status replies are read.
That the row of an opcode acts at once is the model's choice (log entry 69). -/
def Obligations.ProgrammeOrdersComplete : Prop :=
  (∀ (q : Req) (kind count : Byte) (items : List Byte) (s : State), s.obeys q = true →
    (items.length ≠ 6 * count.toNat → Completes (.progLoad q kind count items) s [.frm, .auth] fun t => Answered q false 0x60 .badLength [] s t) ∧
    (items.length = 6 * count.toNat → kind.toNat = 0 ∨ 5 < kind.toNat ∨ itemPairs count.toNat items = none →
      Completes (.progLoad q kind count items) s [.frm, .auth] fun t => Answered q false 0x60 .badParam [] s t) ∧
    (∀ l, items.length = 6 * count.toNat → 1 ≤ kind.toNat → kind.toNat ≤ 5 → itemPairs count.toNat items = some l →
      itemsOk kind.toNat (l.foldl (fun a x => putItem x a) []) l = true →
      (s.prog.state.ended = false → Completes (.progLoad q kind count items) s [.frm, .auth] fun t => Answered q false 0x60 .badState [] s t) ∧
      (s.prog.state.ended = true → Completes (.progLoad q kind count items) s [.frm, .auth, .prog, .log] fun t =>
        t.prog.kind = kind.toNat ∧ t.prog.state = .idle ∧ t.prog.hcause = 0 ∧ t.prog.reqs = [] ∧
        ((l.map fun x => x.1).Pairwise (fun a b => a ≠ b) → (∀ x ∈ l, itemOf t.prog.items x.1 = x.2) ∧
          ∀ id, (∀ x ∈ l, x.1 ≠ id) → itemOf t.prog.items id = itemOf [] id) ∧
        Answered q false 0x60 .ok [kind, count] s t))) ∧
  (∀ (q : Req) (count : Byte) (items : List Byte) (s : State), s.obeys q = true →
    (items.length ≠ 6 * count.toNat → Completes (.progSet q count items) s [.frm, .auth] fun t => Answered q false 0x64 .badLength [] s t) ∧
    (∀ l, items.length = 6 * count.toNat → itemPairs count.toNat items = some l →
      itemsOk s.prog.kind (l.foldl (fun a x => putItem x a) s.prog.items) l = true →
      (s.prog.state.ended = false → (∃ x ∈ l, ∃ r, itemRow x.1 = some r ∧ r.live = false) →
        Completes (.progSet q count items) s [.frm, .auth] fun t => Answered q false 0x64 .badState [] s t) ∧
      (s.prog.state.ended = true ∨ (∀ x ∈ l, ∃ r, itemRow x.1 = some r ∧ r.live = true) →
        Completes (.progSet q count items) s [.frm, .auth, .prog] fun t => t.prog.state = s.prog.state ∧ t.prog.kind = s.prog.kind ∧
          ((l.map fun x => x.1).Pairwise (fun a b => a ≠ b) → (s.prog.items.map fun x => x.1).Pairwise (fun a b => a < b) →
            (∀ x ∈ l, itemOf t.prog.items x.1 = x.2) ∧ ∀ id, (∀ x ∈ l, x.1 ≠ id) → itemOf t.prog.items id = itemOf s.prog.items id) ∧
          Answered q false 0x64 .ok (count :: l.flatMap itemBytes) s t))) ∧
  (∀ (q : Req) (s : State), s.obeys q = true →
    let st := s.prog.state
    let kind := BitVec.ofNat 8 s.prog.kind
    let say := fun (dest : PState) (r : ProgReq) (opc : Nat) (t : State) =>
      t.prog = { s.prog with reqs := s.prog.reqs ++ [r] } ∧ Answered q false opc .ok [kind, BitVec.ofNat 8 dest.code] s t
    (s.prog.kind = 0 ∨ st.ended = false ∨ s.startBad = true → Completes (.progStartStart q) s [.frm, .auth] fun t =>
      Answered q false 0x61 .badState [] s t) ∧
    (s.prog.kind ≠ 0 → st.ended = true → s.startBad = false → Completes (.progStartStart q) s [.frm, .auth, .prog]
      (say (if s.prog.kind = 1 then .fill else if s.prog.kind = 2 then .start else .run) .start 0x61)) ∧
    (st ≠ .hold → st ≠ .heatLock → Completes (.progStartResume q) s [.frm, .auth] fun t => Answered q false 0x61 .badState [] s t) ∧
    (∀ n : Fin 8, st = .hold ∨ st = .heatLock → s.heating = true → s.item 0x0200 = 2 → s.itemN 0x0201 = n.val → (s.loop[n]).permitShut = true →
      Completes (.progStartResume q) s [.frm, .auth] fun t => Answered q false 0x61 .badState [] s t) ∧
    (st = .hold ∨ st = .heatLock → s.heating = false ∨ s.item 0x0200 ≠ 2 → Completes (.progStartResume q) s [.frm, .auth, .prog]
      (say s.resumeTo .resume 0x61)) ∧
    (st = .idle → ∀ c ∈ ([.progStopOrderly q, .progStopHold q, .progStopAbort q] : List Instr), Completes c s [.frm, .auth] fun t =>
      Answered q false 0x62 .badState [] s t) ∧
    (st = .done ∨ st = .aborted → ∀ c ∈ ([.progStopOrderly q, .progStopHold q] : List Instr), Completes c s [.frm, .auth] fun t =>
      Answered q false 0x62 .badState [] s t) ∧
    (st ≠ .idle → Completes (.progStopAbort q) s [.frm, .auth, .prog] (say .aborted .abort 0x62)) ∧
    (st = .run → Completes (.progStopHold q) s [.frm, .auth, .prog] (say .hold .hold 0x62)) ∧
    (st = .run → Completes (.progStopOrderly q) s [.frm, .auth, .prog] (say (if s.heating then .cooldown else .done) .orderly 0x62))) ∧
  ∀ (q : Req) (first count : Byte) (s : State), s.hears q = true →
    (Completes (.progStatusSummary q) s [.frm, .auth] fun t => ∃ d : List Byte, d.length = 42 ∧ Answered q false 0x63 .ok d s t ∧
      fieldAt d 0 1 = s.prog.kind % 256 ∧ fieldAt d 1 1 = s.prog.state.code ∧ fieldAt d 2 1 = s.prog.hcause % 256 ∧
      bitOf (fieldAt d 3 1) 1 = s.permitOn ∧ fieldAt d 16 2 = s.prog.u % 65536 ∧ fieldAt d 22 4 = s.prog.kdry % 2 ^ 32) ∧
    (count.toNat = 0 ∨ 60 < count.toNat ∨ s.itemN 0x030A < first.toNat + count.toNat →
      Completes (.progStatusParcels q first count) s [.frm, .auth] fun t => Answered q false 0x63 .badParam [] s t) ∧
    (1 ≤ count.toNat → count.toNat ≤ 60 → first.toNat + count.toNat ≤ s.itemN 0x030A →
      Completes (.progStatusParcels q first count) s [.frm, .auth] fun t => ∃ d : List Byte, d.length = 3 + 16 * count.toNat ∧
        Answered q false 0x63 .ok d s t ∧ ∀ (k : Nat) (p : Parcel), k < count.toNat → s.prog.parcels[first.toNat + k]? = some p →
          fieldAt d (3 + 16 * k) 4 = twos 32 p.mIn ∧ fieldAt d (11 + 16 * k) 6 = p.tEntry % 2 ^ 48)

/-- R520 to R523, R526, R527, R531, R533 to R536 and Tables 12.2, 12.3: what a process tick makes of the programme's state and outputs, the
strokes of a discharge, the storing of parcels and the decision of aeration. A process tick whose work is done, or a boundary that is none,
changes nothing; one that falls in a held tick waits for the next COMMIT (log entry 119), and calls for the cold junctions of the groups that
scan all the same (R842). -/
def Obligations.ProgrammeRuns : Prop :=
  (∀ s : State, s.procDue = false → Completes .processTick s [] fun _ => True) ∧
  (∀ s : State, s.procDue = true → s.sys.held = true → Completes .processTick s [.clk, .sys, .fe] fun t =>
    t.sys = { s.sys with procHeld := true } ∧ t.clk = { s.clk with lastProc := some (s.ctUs / 100000) } ∧
      ∀ g : Fin 4, (t.fe.grp[g]).cjDue = (s.fe.grp[g]).scanning) ∧
  (∀ (s : State) (fin : PState → Nat → State → Prop), s.procDue = true → s.sys.held = false → s.prog.kind ≠ 0 →
    (fin = fun p c t => t.prog.state = p ∧ t.prog.hcause = c ∧ t.prog.stateUp = s.clk.upNs ∧ t.prog.reqs = [] ∧ t.prog.lostPermit = none ∧
      t.prog.holdEvt = s.prog.holdEvt.raiseIf (p == .hold || p == .heatLock) ∧ t.prog.items = s.prog.items ∧
      t.safe.ctrlReq = (s.heating && (p == .start || p == .run)) ∧ t.safe.permit = s.safe.permit ∧
      (∀ n : Fin 12, bitOf (s.itemN 0x0100) n.val = true → (t.fan.ch[n]).proc = t.progFanTgt) ∧
      ∀ n : Fin 12, bitOf (s.itemN 0x0100) n.val = false → (t.fan.ch[n]).proc = (s.fan.ch[n]).proc) →
    let go := fun (p : PState) (c : Nat) =>
      Completes .processTick s [.clk, .sys, .fe, .loop, .drv, .fan, .prog, .energy, .safe, .log, .free] (fin p c)
    let st := s.prog.state
    (s.prog.lostPermit = some false → s.prog.reqs = [] → s.heating = true → st = .start ∨ st = .run → go .heatLock 5) ∧
    (s.prog.lostPermit = none → s.prog.reqs = [.abort] → st ≠ .idle → go .aborted 0) ∧
    (s.prog.lostPermit = none → s.prog.reqs = [.hold] → st = .start ∨ st = .run ∨ st = .cooldown ∨ st = .fill ∨ st = .unload → go .hold 1) ∧
    (s.prog.lostPermit = none → s.prog.reqs = [.orderly] → st.ended = false → s.heating = false → go .done 0) ∧
    (s.prog.lostPermit = none → s.prog.reqs = [] →
      (st = .fill → s.inputReads 0x0500 = true → go .start 0) ∧
      (st = .start → s.heating = true → s.permitOn = false → s.prog.stateUp + sec (s.itemN 0x0104) ≤ s.clk.upNs → go .hold 3) ∧
      (st = .run → s.prog.kind = 1 → s.prog.stateUp + sec (60 * s.itemN 0x0502) ≤ s.clk.upNs → go .cooldown 0) ∧
      (st = .cooldown → s.prog.kind ≠ 1 → s.grainCool s.ctUs = true → go .done 0) ∧
      (st = .cooldown → s.prog.kind = 1 → s.grainCool s.ctUs = true → go .unload 0) ∧
      (st = .unload → s.inputReads 0x0501 = true → s.item 0x0503 = 0 → go .done 0) ∧
      (st = .unload → s.inputReads 0x0501 = true → s.item 0x0503 = 1 → go .fill 0) ∧
      (st = .unload → s.inputReads 0x0501 = false → s.prog.stateUp + sec (60 * s.itemN 0x0504) ≤ s.clk.upNs → go .hold 4) ∧
      (st = .run → s.heating = true → s.discharges = false → s.progEventTo s.ctUs = none → s.plenum600 s.ctUs = none → go .hold 2) ∧
      (st = .hold ∨ st = .heatLock ∨ st.ended = true →
        Completes .processTick s [.clk, .sys, .fe, .loop, .drv, .fan, .prog, .energy, .safe, .log, .free] fun t => t.prog.state = st ∧
          t.prog.hcause = s.prog.hcause ∧ t.prog.stateUp = s.prog.stateUp)) ∧
    ∀ (pv : Int) (n : Fin 8), s.prog.lostPermit = none → s.prog.reqs = [] → st = .run → s.heating = true → s.discharges = false →
      s.progEventTo s.ctUs = none → s.plenum600 s.ctUs = some pv → s.prog.ePrev = none → s.item 0x0200 = 2 → s.itemN 0x0201 = n.val →
      0 ≤ s.item 0x0208 → s.item 0x0208 ≤ s.item 0x0209 → 0 < s.item 0x0207 → (s.loCfg n).mode = 3 →
      Completes .processTick s [.clk, .sys, .fe, .loop, .drv, .fan, .prog, .energy, .safe, .log, .free] fun t => t.prog.state = .run ∧
        (t.prog.u : Int) = roundDiv (s.item 0x0208) 100 ∧ t.prog.pv = some (roundDiv pv 600) ∧ (t.loop[n]).want = some (4000 + 16 * t.prog.u) ∧
        t.prog.sp = some (moveTo (s.prog.sp.getD pv) (s.item 0x0204 * 600) (s.itemN 0x0205))) ∧
  (∀ (dt : Nat) (s : State) (n : Fin 32), s.progOn = true → s.discharges = true → s.item 0x0300 = 2 → s.itemByte 0x0301 0 = n.val →
    s.itemByte 0x0301 1 = 0xFF → s.prog.q ≠ 0 →
    (s.prog.strokeUp ≤ s.clk.upNs + dt → s.clk.upNs + dt < s.prog.strokeUp + ms s.strokeMs → Completes (.dischargeStroke dt) s [.clk] fun _ => True) ∧
    (s.prog.strokeUp + ms s.strokeMs ≤ s.clk.upNs + dt → s.drvRefuses n 2 = false → (s.drv.ch[n]).phase = .idle → s.lowBoost n n = false →
      Completes (.dischargeStroke dt) s [.clk, .drv, .prog, .inj, .log] fun t => (t.drv.ch[n]).phase = .rise ∧
        (t.drv.ch[n]).act.pulseEnd = some (s.clk.upNs + dt + ms (s.itemN 0x0306)) ∧ t.prog.strokeUp = s.clk.upNs + dt ∧
        t.prog.accrued = s.prog.accrued + (if s.prog.kind = 2 then s.itemN 0x0305 * 21600 else 0) ∧
        ∀ m : Fin 32, m ≠ n → t.drv.ch[m] = s.drv.ch[m])) ∧
  (∀ (dt : Nat) (s : State), s.pow.stage = .running → s.prog.storeUp + sec 60 ≤ s.clk.upNs + dt →
    Completes (.parcelStore dt) s [.clk, .prog] fun t =>
      t.prog = { s.prog with storeParcels := s.prog.parcels, storeKdry := s.prog.kdry, storeUp := s.clk.upNs + dt }) ∧
  ∀ (dt now : Nat) (s : State) (g rh : Int), s.prog.state = .run → s.prog.aerLast = none → s.prog.aerUp = none → now = (s.advance dt).ctUs + 1 →
    peakOf (s.validVals 0x0400 now) = some g → s.validVal (s.itemN 0x0401) now = some rh →
    let amb := s.ambient now
    let may := decide (rh ≤ s.item 0x0402 ∧ s.item 0x0406 ≤ amb)
    let must := decide (s.item 0x0402 + s.item 0x0403 < rh ∨ amb < s.item 0x0406)
    (s.prog.kind = 4 → Completes (.aerationDecision dt) s [.clk, .fan, .prog] fun t => t.prog.pinFault = false ∧
      (s.prog.fansOn = false → t.prog.fansOn = (may && decide (s.item 0x0404 ≤ g - amb))) ∧
      (s.prog.fansOn = true → t.prog.fansOn = !(must || decide (g - amb ≤ s.item 0x0405)))) ∧
    (s.prog.kind = 3 → Completes (.aerationDecision dt) s [.clk, .fan, .prog] fun t => t.prog.pinFault = false ∧
      t.prog.fansOn = (if s.prog.fansOn then !must else may))

/-- R537 to R542, R622 and Table 12.5: the conveyor line. START starts the most downstream enabled stage at once, each further one T_START
after the stage below showed motion; an upstream-first stop stops the first at once and each further one T_CLEAR after the one above; a stage
fault stops it and the stages upstream; RESET clears faults at rest, and gets BAD_STATE otherwise (log entry 140). A digital input reads its new
level once that has held for 3 ms. Stages without a proving input show motion while they run (log entry
39).
That the row of an opcode acts at once is the model's choice (log entry 69). -/
def Obligations.ConveyorComplete : Prop :=
  (∀ (q : Req) (k : Byte) (j : Fin 8) (s : State), s.obeys q = true → k.toNat < 8 → s.conv.lstate = .idle → s.conv.running = [] →
    s.conv.faultMask = 0 → s.levelHigh = false → k.toNat ≤ j.val → (s.run.stage[j]).en = true →
    (∀ i : Fin 8, j < i → (s.run.stage[i]).en = false) →
    Completes (.convCmdStart q k) s [.frm, .auth, .drv, .conv, .inj, .log] fun t => (t.conv.stage[j]).running = true ∧
      (t.conv.stage[j]).startUp = s.clk.upNs ∧ (∀ i : Fin 8, i ≠ j → t.conv.stage[i] = s.conv.stage[i]) ∧ t.conv.goal = k.toNat ∧
      t.conv.lstate = (if ∃ i : Fin 8, k.toNat ≤ i.val ∧ i ≠ j ∧ (s.run.stage[i]).en = true then .starting else .running) ∧
      (∀ n : Fin 32, (s.run.stage[j]).out = n.val → s.drvRefuses n 1 = false → (s.drv.ch[n]).phase = .idle → s.lowBoost n n = false →
        (t.drv.ch[n]).phase = .rise) ∧
      Answered q false 0x65 .ok (t.convReply) s t) ∧
  (∀ (q : Req) (k : Byte) (s : State), s.obeys q = true →
    (8 ≤ k.toNat → Completes (.convCmdStart q k) s [.frm, .auth] fun t => Answered q false 0x65 .badParam [] s t) ∧
    (k.toNat < 8 → s.conv.faultMask ≠ 0 ∨ s.levelHigh = true ∨ s.conv.lstate = .faultStop → Completes (.convCmdStart q k) s [.frm, .auth] fun t =>
      Answered q false 0x65 .badState [] s t) ∧
    (s.conv.lstate ≠ .faultStop → Completes (.convCmdStopNow q 0) s [.frm, .auth, .drv, .conv, .inj, .log] fun t => t.conv.running = [] ∧
      t.conv.lstate = .idle ∧ t.conv.faultMask = s.conv.faultMask ∧ Answered q false 0x65 .ok (t.convReply) s t) ∧
    (s.conv.running = [] → s.conv.lstate = .idle ∨ s.conv.lstate = .faultStop →
      Completes (.convCmdReset q 0) s [.frm, .auth, .conv] fun t => t.conv.lstate = .idle ∧ t.conv.faultMask = 0 ∧ t.conv.running = [] ∧
        Answered q false 0x65 .ok (t.convReply) s t) ∧
    (s.conv.running ≠ [] ∨ s.conv.lstate ≠ .idle ∧ s.conv.lstate ≠ .faultStop → Completes (.convCmdReset q 0) s [.frm, .auth] fun t => Answered q false 0x65 .badState [] s t)) ∧
  (∀ (q : Req) (j : Fin 8) (rest : List (Fin 8)) (s : State), s.hears q = true → s.conv.running = j :: rest →
    s.conv.lstate = .running ∨ s.conv.lstate = .starting →
    Completes (.convCmdStopUpstream q 0) s [.frm, .auth, .drv, .conv, .inj, .log] fun t => (t.conv.stage[j]).running = false ∧
      (t.conv.stage[j]).stopUp = s.clk.upNs ∧ (∀ i : Fin 8, i ≠ j → t.conv.stage[i] = s.conv.stage[i]) ∧
      t.conv.lstate = (if rest = [] then .idle else .stopping) ∧ Answered q false 0x65 .ok (t.convReply) s t) ∧
  (∀ (q : Req) (b : List Byte) (s : State), s.obeys q = true →
    (∀ k : Fin 8, fieldAt b 0 1 = 1 → b.length = 12 → fieldAt b 1 1 = k.val →
      let c := StageCfg.ofBytes b
      (stageOk b = false → Completes (.convConfigStage q b) s [.frm, .auth] fun t => Answered q false 0x66 .badParam [] s t) ∧
      (stageOk b = true → s.conv.lstate ≠ .idle ∨ c.en = true ∧ s.stageConflict k c.out = true →
        Completes (.convConfigStage q b) s [.frm, .auth] fun t => Answered q false 0x66 .badState [] s t) ∧
      (stageOk b = true → s.conv.lstate = .idle → c.en = false ∨ s.stageConflict k c.out = false →
        Completes (.convConfigStage q b) s [.frm, .auth, .run, .conv] fun t => t.run = { s.run with stage := s.run.stage.set k c } ∧
          Answered q false 0x66 .ok b s t)) ∧
    (fieldAt b 0 1 = 2 → b.length = 7 →
      (lineOk b = false → Completes (.convConfigLine q b) s [.frm, .auth] fun t => Answered q false 0x66 .badParam [] s t) ∧
      (lineOk b = true → s.conv.lstate ≠ .idle → Completes (.convConfigLine q b) s [.frm, .auth] fun t => Answered q false 0x66 .badState [] s t) ∧
      (lineOk b = true → s.conv.lstate = .idle → Completes (.convConfigLine q b) s [.frm, .auth, .run] fun t =>
        t.run = { s.run with line := LineCfg.ofBytes b } ∧ Answered q false 0x66 .ok b s t))) ∧
  ∀ (dt : Nat) (k : Fin 8) (s : State),
    (∀ j : Fin 8, s.conv.lstate = .starting → (s.run.stage[k]).en = true → s.conv.goal ≤ k.val → (s.conv.stage[k]).running = false →
      s.below k = some j → (s.conv.stage[j]).running = true → (s.conv.stage[j]).moved = true →
      ((s.conv.stage[j]).movedUp + ms (100 * (s.run.stage[k]).tStart) ≤ s.clk.upNs + dt →
        Completes (.stageStartDelay dt k) s [.clk, .drv, .conv, .inj, .log] fun t => (t.conv.stage[k]).running = true ∧
          (t.conv.stage[k]).startUp = s.clk.upNs + dt ∧ ∀ i : Fin 8, i ≠ k → t.conv.stage[i] = s.conv.stage[i]) ∧
      ((s.conv.stage[j]).movedUp ≤ s.clk.upNs + dt → s.clk.upNs + dt < (s.conv.stage[j]).movedUp + ms (100 * (s.run.stage[k]).tStart) →
        Completes (.stageStartDelay dt k) s [.clk] fun _ => True)) ∧
    (∀ j : Fin 8, s.conv.lstate = .stopping ∨ s.conv.lstate = .faultStop → (s.conv.stage[k]).running = true → s.above k = some j →
      (s.conv.stage[j]).running = false → (s.conv.stage[j]).stopUp + sec (s.run.stage[k]).tClear ≤ s.clk.upNs + dt →
      Completes (.stageClearDelay dt k) s [.clk, .drv, .conv] fun t => (t.conv.stage[k]).running = false ∧
        (t.conv.stage[k]).stopUp = s.clk.upNs + dt ∧ ∀ i : Fin 8, i ≠ k → t.conv.stage[i] = s.conv.stage[i]) ∧
    ((s.conv.stage[k]).running = true → (s.conv.stage[k]).fault = none → (s.conv.stage[k]).moved = false →
      (s.conv.stage[k]).startUp + sec (s.run.stage[k]).tProve ≤ s.clk.upNs + dt →
      Completes (.stageProveTimeout dt k) s [.clk, .drv, .conv] fun t => t.conv.lstate = .faultStop ∧
        (t.conv.stage[k]).fault = some .motion ∧ t.conv.faultEvt = s.conv.faultEvt.raise ∧
        (∀ j : Fin 8, j ≤ k → (t.conv.stage[j]).running = false) ∧ ∀ j : Fin 8, k < j → t.conv.stage[j] = s.conv.stage[j]) ∧
    ∀ (di : Fin 16) (level : Bool) (ns : Nat),
    (ns < 3000000 ∨ s.awake = false → Completes (.diFilterChange dt di level ns) s [.clk] fun t => t.dio = s.dio) ∧
    (3000000 ≤ ns → s.awake = true → Completes (.diFilterChange dt di level ns) s [.clk, .conv, .dio] fun t =>
      t.dio.di.getLsbD di.val = level ∧ (∀ i : Fin 16, i ≠ di → t.dio.di.getLsbD i.val = s.dio.di.getLsbD i.val) ∧
      t.conv.lstate = s.conv.lstate ∧ t.conv.running = s.conv.running)

/-- R546 to R550, R553, R554, R559 and Tables 12.6 to 12.9: the stitch list and the metering windows. A write stores its entries or none of
them; while CTRL runs the executor carries out or refuses the earliest entry at its TIME, at a control tick's instant after that tick (R547), and a REPEAT entry stays pending with TIME moved by PERIOD. A mean
over no event is a free value (log entry 1).
That the row of an opcode acts at once is the model's choice (log entry 69). -/
def Obligations.StitchAndEnergyComplete : Prop :=
  (∀ (q : Req) (first count : Byte) (b : List Byte) (s : State), s.obeys q = true →
    let l := entriesOf first.toNat count.toNat b
    let late := fun (x : Nat × List Byte) => decide ((Stitch.ofBytes x.2).time < s.applyAt + 1000)
    (b.length ≠ 16 * count.toNat → Completes (.stitchWrite q first count b) s [.frm, .auth] fun t => Answered q false 0x67 .badLength [] s t) ∧
    (b.length = 16 * count.toNat →
      (count.toNat = 0 ∨ 32 < count.toNat ∨ 256 < first.toNat + count.toNat ∨ (∃ x ∈ l, s.stitchOk x.2 = false) →
        Completes (.stitchWrite q first count b) s [.frm, .auth] fun t => Answered q false 0x67 .badParam [] s t) ∧
      (1 ≤ count.toNat → count.toNat ≤ 32 → first.toNat + count.toNat ≤ 256 → (∀ x ∈ l, s.stitchOk x.2 = true) →
        ((∃ x ∈ l, s.stitchConflict (Stitch.ofBytes x.2) = true) → Completes (.stitchWrite q first count b) s [.frm, .auth] fun t =>
          Answered q false 0x67 .badState [] s t) ∧
        ((∀ x ∈ l, s.stitchConflict (Stitch.ofBytes x.2) = false) → Completes (.stitchWrite q first count b) s [.frm, .auth, .stitch] fun t =>
          (∀ i : Fin 256, (∀ x ∈ l, x.1 ≠ i.val) → t.stitch.e[i] = s.stitch.e[i]) ∧
          (∀ (i : Fin 256) (x : Nat × List Byte), x ∈ l → x.1 = i.val →
            t.stitch.e[i] = (if late x then s.stitch.e[i] else Stitch.ofBytes x.2)) ∧
          Answered q false 0x67 (if ∃ x ∈ l, late x = true then .late else .ok)
            ([first, count] ++ l.map fun x => BitVec.ofNat 8 (bit (late x))) s t)))) ∧
  (∀ (q : Req) (first : Byte) (count : Half) (s : State), s.obeys q = true →
    (count.toNat = 0 ∨ 256 < first.toNat + count.toNat → Completes (.stitchClear q first count) s [.frm, .auth] fun t =>
      Answered q false 0x68 .badParam [] s t) ∧
    (1 ≤ count.toNat → first.toNat + count.toNat ≤ 256 → Completes (.stitchClear q first count) s [.frm, .auth, .stitch] fun t =>
      (∀ i : Fin 256, t.stitch.e[i] = (if first.toNat ≤ i.val ∧ i.val < first.toNat + count.toNat then {} else s.stitch.e[i])) ∧
      Answered q false 0x68 .ok ([first] ++ leBytes 2 count.toNat) s t)) ∧
  (∀ (q : Req) (first count : Byte) (s : State), s.hears q = true →
    (count.toNat = 0 ∨ 56 < count.toNat ∨ 256 < first.toNat + count.toNat → Completes (.stitchStatus q first count) s [.frm, .auth] fun t =>
      Answered q false 0x69 .badParam [] s t) ∧
    (1 ≤ count.toNat → count.toNat ≤ 56 → first.toNat + count.toNat ≤ 256 → Completes (.stitchStatus q first count) s [.frm, .auth] fun t =>
      ∃ d : List Byte, d.length = 8 + 18 * count.toNat ∧ Answered q false 0x69 .ok d s t ∧
        fieldAt d 0 2 = (s.stitch.e.toList.filter fun x => x.state == .pending).length ∧
        ((∀ x ∈ s.stitch.e.toList, x.state ≠ .pending) → fieldAt d 2 6 = 0xFFFFFFFFFFFF))) ∧
  (∀ (dt : Nat) (i : Fin 256) (s : State) (x : Stitch), x = s.stitch.e[i] → x.state = .pending →
    (∀ j : Fin 256, (s.stitch.e[j]).state = .pending → x.time < (s.stitch.e[j]).time ∨ x.time = (s.stitch.e[j]).time ∧ i ≤ j) →
    let now := (s.advance dt).ctUs
    let due := s.ctrlRuns && (decide (x.time < now) || (x.time == now && !(s.advance dt).tickFirst))
    (due = false → Completes (.stitchExecute dt) s [.clk] fun _ => True) ∧
    (due = true →
      (∀ n : Fin 12, x.kind = 0x10 → x.tgt = n.val → (s.fanCfg n).mode = 1 → s.therm.shut = false →
        Completes (.stitchExecute dt) s [.clk, .fan, .stitch] fun t => t.fan = { s.fan with ch := vmod s.fan.ch n fun f => { f with manual := x.arg } } ∧
          t.stitch.e = s.stitch.e.set i { x with exec := (x.exec + 1) % 256, time := if x.repeat_ then x.time + 1000 * x.period else x.time,
                                                 state := if x.repeat_ then .pending else .done }) ∧
      (∀ n : Fin 12, x.kind = 0x10 → x.tgt = n.val → (s.fanCfg n).mode ≠ 1 ∨ s.therm.shut = true →
        Completes (.stitchExecute dt) s [.clk, .stitch] fun t => t.stitch.refuse = s.stitch.refuse.raise ∧
          t.stitch.e = s.stitch.e.set i { x with time := if x.repeat_ then x.time + 1000 * x.period else x.time,
                                                 state := if x.repeat_ then .pending else .refused }) ∧
      (∀ n : Fin 32, 1 ≤ x.kind → x.kind ≤ 6 → x.tgt = n.val → s.drvRefuses n x.kind = true →
        Completes (.stitchExecute dt) s [.clk, .stitch] fun t => t.stitch.refuse = s.stitch.refuse.raise ∧
          (t.stitch.e[i]).state = (if x.repeat_ then .pending else .refused)) ∧
      (∀ n : Fin 8, x.kind = 0x20 → x.tgt = n.val → (s.loCfg n).heat = true → s.permitOn = false →
        Completes (.stitchExecute dt) s [.clk, .stitch] fun t => t.stitch.refuse = s.stitch.refuse.raise ∧
          (t.stitch.e[i]).state = (if x.repeat_ then .pending else .refused)))) ∧
  ∀ (q : Req) (s : State), s.hears q = true → let i := senderIx q.sender
    let w := s.energy.now.wRem - (s.energy.win[i]).wRem
    let shown := fun (d : List Byte) => d.length = 46 ∧ fieldAt d 0 6 = s.energy.winStart[i] % 2 ^ 48 ∧
      fieldAt d 14 4 = satTo 0xFFFFFFFF (s.energy.now.actN - (s.energy.win[i]).actN) ∧
      (s.energy.now.actN - (s.energy.win[i]).actN ≠ 0 → fieldAt d 10 4 =
        ratio32 (s.energy.now.actE - (s.energy.win[i]).actE) (s.energy.now.actN - (s.energy.win[i]).actN)) ∧
      (w < 1000000000 → fieldAt d 38 4 = 0xFFFFFFFF ∧ fieldAt d 42 4 = 0xFFFFFFFF)
    (Completes (.energyRead q) s [.frm, .auth, .free] fun t => ∃ d, Answered q false 0x6A .ok d s t ∧ shown d) ∧
    (Completes (.energyReadRestart q) s [.frm, .auth, .energy, .free] fun t => t.energy.now = s.energy.now ∧
      t.energy.win = s.energy.win.set i s.energy.now ∧ t.energy.winStart = s.energy.winStart.set i s.ctUs ∧
      ∃ d, Answered q false 0x6A .ok d s t ∧ shown d)

/-! ### Lichen mode (chapter 13) -/

/-- R572, R574, R576, R579, R580 and Tables 13.2, 13.3: LICHEN_CONFIG is stored as sent where R580 finds nothing wrong. At both entries to
lichen mode SM keeps a permit that is on, and starts its timer, exactly where unattended heat is allowed; else it removes the permit. It
removes it when its timer runs out. Each such removal sets HEAT_END, and the programme is told that lichen policy was the reason.
That HEAT_END stays clear where the permit was off already is the model's reading (log entry 91).
That the row of an opcode acts at once is the model's choice (log entry 69). -/
def Obligations.LichenHeatPolicy : Prop :=
  (∀ (q : Req) (b : List Byte) (s : State), s.obeys q = true →
    (b.length ≠ 12 → Completes (.lichenConfig q b) s [.frm, .auth] fun t => Answered q false 0x27 .badLength [] s t) ∧
    (b.length = 12 → 2 ≤ fieldAt b 0 1 ∨ fieldAt b 7 1 ≠ 0 ∨ 1000 < fieldAt b 4 2 ∨ (∃ n : Fin 12, bitsOf (fieldAt b 1 3) (2 * n.val) 2 = 3) →
      Completes (.lichenConfig q b) s [.frm, .auth] fun t => Answered q false 0x27 .badParam [] s t) ∧
    (b.length = 12 → fieldAt b 0 1 < 2 → fieldAt b 7 1 = 0 → fieldAt b 4 2 ≤ 1000 →
      (∀ n : Fin 12, bitsOf (fieldAt b 1 3) (2 * n.val) 2 ≠ 3) → Completes (.lichenConfig q b) s [.frm, .auth, .lich] fun t =>
        (t.lich.cfg.progAuto = true ↔ fieldAt b 0 1 = 1) ∧ (∀ n : Fin 12, t.lich.cfg.fanAct[n] = bitsOf (fieldAt b 1 3) (2 * n.val) 2) ∧
        t.lich.cfg.lduty = fieldAt b 4 2 ∧ t.lich.cfg.loFault = fieldAt b 6 1 ∧ t.lich.cfg.drvRel = fieldAt b 8 4 ∧
        t.lich = { s.lich with cfg := t.lich.cfg } ∧
        Answered q false 0x27 .ok (b ++ leBytes 1 (if s.safe.cfg.unattEn then 1 else 0) ++ leBytes 1 s.safe.cfg.heatMax ++
          leBytes 2 s.frm.hostTo) s t)) ∧
  (∀ (c : Instr) (s : State), (∃ q : Req, c = .needleGiveLichen q ∧ s.obeys q = true) ∨
      c = .hostTimeoutExpire ∧ s.atTick = true ∧ s.frm.holder ≠ .lichen ∧ s.frm.hostTo * 100000000 ≤ s.quietNs →
    Completes c s [.frm, .auth, .loop, .drv, .fan, .prog, .lich, .safe, .inj, .log, .cnt] fun t => t.frm.holder = .lichen ∧
      (s.safe.permit = .on → s.safe.cfg.unattEn = true → s.safe.cfg.heatMax ≠ 0 → t.safe.permit = .on ∧
        t.safe.lichenTmr = some (s.clk.upNs + 60000000000 * s.safe.cfg.heatMax) ∧ t.lich.heatEnd = s.lich.heatEnd ∧
        t.prog.lostPermit = s.prog.lostPermit ∧ ∀ n : Fin 32, t.drv.ch[n] = s.drv.ch[n]) ∧
      (s.safe.permit = .on → s.safe.cfg.unattEn = false ∨ s.safe.cfg.heatMax = 0 → Safety.removed 0x0D t ∧
        t.safe.lichenTmr = s.safe.lichenTmr ∧ t.lich.heatEnd = s.lich.heatEnd.raise ∧ t.prog.lostPermit = some true) ∧
      (s.safe.permit ≠ .on → t.safe.permit = s.safe.permit ∧ t.lich.heatEnd = s.lich.heatEnd ∧ t.prog.lostPermit = s.prog.lostPermit)) ∧
  ∀ (dt : Nat) (s : State),
    (s.safe.lichenTmr = none → Completes (.lichenHeatExpire dt) s [.clk] fun _ => True) ∧
    ∀ u, s.safe.lichenTmr = some u →
      (s.clk.upNs + dt < u → Completes (.lichenHeatExpire dt) s [.clk] fun _ => True) ∧
      (u ≤ s.clk.upNs + dt → s.safe.permit ≠ .on → Completes (.lichenHeatExpire dt) s [.clk, .safe] fun t =>
        t.safe = { s.safe with lichenTmr := none }) ∧
      (u ≤ s.clk.upNs + dt → s.safe.permit = .on → Completes (.lichenHeatExpire dt) s [.clk, .loop, .drv, .prog, .lich, .safe, .log, .cnt]
        fun t => Safety.removed 0x0D t ∧ t.safe.lichenTmr = none ∧ t.lich.heatEnd = s.lich.heatEnd.raise ∧ t.prog.lostPermit = some true ∧
          ∀ n : Fin 32, (s.run.prof[n]).heat = false → t.drv.ch[n] = s.drv.ch[n])

/-! ### Thermal management (chapter 14) -/

/-- Throttling, thermal shutdown, TS7 and the thermal opcodes (chapter 14; log entries 92, 93).
R586, R587, R591, R592, R595 to R600 and R602: the samples, THERM_MAX and the throttle; a fourth invalid sample in a row makes a sensor
invalid and raises s to 4; a second invalid sensor, or a comparator, brings shutdown, which turns every output off and removes the permit;
10 s below 135 °C end it. Nothing is sampled unless the node is awake. A first change of s needs no dwell (log entry 92).
R588 to R590, R605 to R607 and Table 14.4: TS7, THERM_READ and THERM_CONFIG. Without SAMPLE nothing but the reply comes of THERM_READ;
the period counts from the THERM_CONFIG that changed it, and an invalid sample leaves the last one in place (log entry 93).
That the row of an opcode acts at once is the model's choice (log entry 69). -/
def Obligations.ThermalManagement : Prop :=
  ((∀ (dt : Nat) (t : Vector Int 7) (s : State), s.awake = true → 20000000 ≤ s.clk.upNs + dt →
    (∀ i : Fin 7, s.injOn 0x0801 i.val = false ∧ s.injOn 0x0802 i.val = false) → (∀ i : Fin 7, (s.therm.ts[i]).invalid = false) →
    s.therm.shut = false →
    let k := s.therm.step
    ((∀ i : Fin 7, -550 ≤ t[i] ∧ t[i] ≤ 2000) → Completes (.thermSample dt t) s [.clk, .drv, .therm, .log] fun u =>
      u.drv.ch = s.drv.ch ∧ u.therm.shut = false ∧
      (∀ i : Fin 7, (u.therm.ts[i]).samples = (t[i] :: (s.therm.ts[i]).samples).take 16 ∧ (u.therm.ts[i]).invalid = false) ∧
      ∃ m, u.therm.max = some m ∧ (∀ (i : Fin 7) x, (u.therm.ts[i]).temp = some x → x ≤ m) ∧ (∀ x, u.ts7Now = some x → x ≤ m) ∧
        ((∃ i : Fin 7, u.therm.hotId = i.val ∧ (u.therm.ts[i]).temp = some m) ∨ u.therm.hotId = 7 ∧ u.ts7Now = some m) ∧
        ((s.therm.stepUp + 2000000000 ≤ s.clk.upNs + dt ∨ s.therm.stepUps = 0) →
          (k < 8 → 10 * ((s.therm.cfg.tStart + 3 * k : Nat) : Int) ≤ m → u.therm.step = k + 1) ∧
          (0 < k → m < 10 * ((s.therm.cfg.tStart + 3 * (k - 1) : Nat) : Int) - 50 → u.therm.step = k - 1) ∧
          (k = 8 ∨ m < 10 * ((s.therm.cfg.tStart + 3 * k : Nat) : Int) →
            k = 0 ∨ 10 * ((s.therm.cfg.tStart + 3 * (k - 1) : Nat) : Int) - 50 ≤ m → u.therm.step = k)) ∧
        (s.clk.upNs + dt < s.therm.stepUp + 2000000000 → s.therm.stepUps ≠ 0 → u.therm.step = k)) ∧
    (∀ j : Fin 7, 3 ≤ (s.therm.ts[j]).badRun → t[j] < -550 ∨ 2000 < t[j] → (∀ i : Fin 7, i ≠ j → -550 ≤ t[i] ∧ t[i] ≤ 2000) →
      Completes (.thermSample dt t) s [.clk, .drv, .therm, .inj, .log] fun u => (u.therm.ts[j]).invalid = true ∧ (u.therm.ts[j]).temp = none ∧
        (∀ i : Fin 7, i ≠ j → (u.therm.ts[i]).invalid = false) ∧ u.therm.evTs = s.therm.evTs.raise ∧ 4 ≤ u.therm.step ∧
        (k < 4 → u.therm.step = 4 ∧ u.therm.evStepUp = s.therm.evStepUp.raise) ∧ u.therm.shut = false) ∧
    (∀ i j : Fin 7, i ≠ j → 3 ≤ (s.therm.ts[i]).badRun → 3 ≤ (s.therm.ts[j]).badRun → t[i] < -550 ∨ 2000 < t[i] → t[j] < -550 ∨ 2000 < t[j] →
      Completes (.thermSample dt t) s [.clk, .loop, .drv, .fan, .prog, .therm, .safe, .inj, .log, .cnt] fun u =>
        u.therm.shut = true ∧ u.therm.step = 8 ∧ u.safe.permit ≠ .on)) ∧
  (∀ (dt : Nat) (t : Vector Int 7) (s : State), s.awake = false → Completes (.thermSample dt t) s [.clk] fun _ => True) ∧
  ∀ (dt : Nat) (s : State),
    (s.awake = true → s.therm.shut = false → (∃ i : Fin 7, 10 ≤ (s.therm.ts[i]).hotRun) →
      Completes (.thermalShutdown dt) s [.clk, .loop, .drv, .fan, .prog, .therm, .safe, .inj, .log, .cnt] fun u =>
        u.therm.shut = true ∧ u.therm.step = 8 ∧ u.therm.stepUp = s.clk.upNs + dt ∧ u.therm.evShut = s.therm.evShut.raise ∧
        u.drv.boostOn = false ∧ (∀ n : Fin 32, (u.drv.ch[n]).phase.quiet = true) ∧
        (∀ n : Fin 12, ((u.fan.ch[n]).state = .off ∨ (u.fan.ch[n]).state = .unavailable) ∧
          ((s.fan.ch[n]).state ≠ .unavailable → (u.fan.ch[n]).duty = 0)) ∧
        (∀ n : Fin 8, (u.loop[n]).now = 0) ∧ (u.safe.latch[Latch.thermal.bit]).set = true ∧ u.safe.permit ≠ .on ∧
        (s.safe.permit = .on → Safety.removed 0x0B u)) ∧
    (s.awake = false ∨ s.therm.shut = true ∨ (∀ i : Fin 7, (s.therm.ts[i]).hotRun < 10) → Completes (.thermalShutdown dt) s [.clk] fun _ => True) ∧
    (∀ c, s.therm.shut = true → s.therm.coolUp = some c → c + 10000000000 ≤ s.clk.upNs + dt →
      Completes (.shutdownExit dt) s [.clk, .loop, .drv, .fan, .therm, .log] fun u => u.therm.shut = false ∧ u.therm.step = s.therm.step ∧
        u.therm.stepUp = s.therm.stepUp ∧ u.drv.boostOn = s.pow.vpOk) ∧
    (s.therm.shut = false ∨ s.therm.coolUp = none → Completes (.shutdownExit dt) s [.clk] fun _ => True)) ∧
  ((∀ (dt : Nat) (s : State), let now := s.clk.upNs + dt
    (s.awake = true → s.therm.cfg.ts7Period ≠ 0 → s.therm.ts7Timer + 1000000000 * s.therm.cfg.ts7Period ≤ now →
      Completes (.ts7PeriodTimer dt) s [.clk, .therm] fun u =>
        u.therm = { s.therm with ts7Start := some (s.therm.ts7Start.getD now), ts7Timer := now }) ∧
    (s.awake = false ∨ s.therm.cfg.ts7Period = 0 → Completes (.ts7PeriodTimer dt) s [.clk] fun _ => True) ∧
    (∀ b, s.awake = true → s.therm.ts7Start = some b → b + 2000000 ≤ now → s.injOn 0x0803 0 = false → ∀ x : Int,
      (-550 ≤ x → x ≤ 2000 → Completes (.ts7SampleEnd dt x) s [.clk, .therm, .inj, .log] fun u => u.therm.ts7 = some x ∧ u.therm.ts7Up = now ∧
        u.therm.ts7Fresh = true ∧ u.therm.ts7Start = none ∧ u.therm.evAmb = s.therm.evAmb.raiseIf (decide (800 < x)) ∧
        u.therm.evTs = s.therm.evTs ∧ u.therm.ts = s.therm.ts ∧ u.therm.step = s.therm.step ∧ u.therm.shut = s.therm.shut) ∧
      (x < -550 ∨ 2000 < x → Completes (.ts7SampleEnd dt x) s [.clk, .therm] fun u => u.therm.ts7 = s.therm.ts7 ∧
        u.therm.ts7Up = s.therm.ts7Up ∧ u.therm.ts7Start = none ∧ u.therm.evAmb = s.therm.evAmb ∧ u.therm.step = s.therm.step ∧
        (s.therm.ts7Inv = false → 3 ≤ s.therm.ts7Bad → u.therm.ts7Temp = none ∧ u.therm.evTs = s.therm.evTs.raise))) ∧
    (s.therm.ts7Fresh = true → s.therm.ts7Up + 10000000000 ≤ now → Completes (.ts7Stale dt) s [.clk, .therm] fun u =>
      u.therm.ts7Fresh = false ∧ u.ts7Now = none ∧ u.therm.ts7 = s.therm.ts7) ∧
    (now < s.therm.ts7Up + 10000000000 → Completes (.ts7Stale dt) s [.clk] fun _ => True)) ∧
  (∀ (q : Req) (flags : Byte) (s : State), s.hears q = true →
    (1 < flags.toNat → Completes (.thermRead q flags) s [.frm, .auth] (Answered q false 0x13 .badParam [] s) ∧
      Completes (.thermReadSample q flags) s [.frm, .auth] (Answered q false 0x13 .badParam [] s)) ∧
    (flags.toNat ≤ 1 → ∃ d : List Byte, d.length = 34 ∧ fieldAt d 0 1 = s.therm.step % 256 ∧ bitOf (fieldAt d 1 1) 0 = s.therm.shut ∧
      fieldAt d 2 2 = tempCode s.therm.max % 65536 ∧ fieldAt d 4 1 = s.therm.hotId % 256 ∧
      (∀ i : Fin 7, fieldAt d (6 + 2 * i.val) 2 = tempCode (s.therm.ts[i]).temp % 65536) ∧ fieldAt d 24 2 = s.bEff % 65536 ∧
      (flags.toNat = 0 → Completes (.thermRead q flags) s [.frm, .auth] (Answered q false 0x13 .ok d s)) ∧
      (Completes (.thermReadSample q flags) s [.frm, .auth, .therm] fun u =>
        u.therm = { s.therm with ts7Start := some (s.therm.ts7Start.getD s.clk.upNs) } ∧ Answered q false 0x13 .ok d s u))) ∧
  ∀ (q : Req) (tStart pad : Byte) (period : Half) (s : State), s.obeys q = true →
    (tStart.toNat < 100 ∨ 120 < tStart.toNat ∨ 1 ≤ period.toNat ∧ period.toNat < 10 ∨ 3600 < period.toNat ∨ pad ≠ 0 →
      Completes (.thermConfig q tStart period pad) s [.frm, .auth] (Answered q false 0x26 .badParam [] s)) ∧
    (100 ≤ tStart.toNat → tStart.toNat ≤ 120 → period.toNat = 0 ∨ 10 ≤ period.toNat ∧ period.toNat ≤ 3600 → pad = 0 →
      Completes (.thermConfig q tStart period pad) s [.frm, .auth, .run, .therm] fun u =>
        u.run = { s.run with therm := { tStart := tStart.toNat, ts7Period := period.toNat } } ∧ u.therm.cfg = u.run.therm ∧
        u.therm = { s.therm with cfg := u.therm.cfg, ts7Timer := u.therm.ts7Timer } ∧
        u.therm.ts7Timer = (if s.therm.cfg.ts7Period = period.toNat then s.therm.ts7Timer else s.clk.upNs) ∧
        Answered q false 0x26 .ok ([tStart] ++ leBytes 2 period.toNat ++ [0]) s u))

/-! ### Functional safety (chapter 15) -/

/-- The safety inputs stand where the last cycle left them, at `levels`, and no test session is open. -/
def steadyInputs (levels : BitVec 8) (s : State) : Prop :=
  s.inj.isOpen = false ∧ (s.safe.airUp.isSome = s.airProven) ∧ ∀ i : Fin 4,
    (s.safe.si[i]).a.fresh = false ∧ (s.safe.si[i]).a.raw = levels.getLsbD (2 * i.val) ∧ (s.safe.si[i]).a.filt = levels.getLsbD (2 * i.val) ∧
    (s.safe.si[i]).b.fresh = false ∧ (s.safe.si[i]).b.raw = levels.getLsbD (2 * i.val + 1) ∧
    (s.safe.si[i]).b.filt = levels.getLsbD (2 * i.val + 1) ∧
    (s.safe.si[i]).demand = (siDemand i.val (levels.getLsbD (2 * i.val)) || siDemand i.val (levels.getLsbD (2 * i.val + 1)))

/-- R16, R617, R619, R622, R629, R636 to R639, R657 and Tables 15.4, 15.6, 15.7: one SM cycle. With inputs that do not change it grants the
permit where it is armed and no bit of MISSING is set, removes it where CTRL's request has gone, the HEAT map differs or a high-limit record
is invalid, and else leaves it as it is. A channel of SI0 or SI3 that has been open for SI_FILT brings the demand, its latch and the
removal; SI0 also the emergency-stop lines. -/
def Obligations.SmCycleGrantsAndRemoves : Prop :=
  (∀ (dt : Nat) (levels : BitVec 8) (a b : Nat) (s : State), s.pow.smUp = true → steadyInputs levels s →
    let v := s.advance dt
    let l : List Part := [.clk, .frm, .loop, .drv, .fan, .prog, .safe, .inj, .log, .cnt]
    (v.missing = 0 → s.clockDown = false → s.safe.permit = .armed → a ≤ 600 → s.safe.cfg.patternD = false ∨ s.pow.vsPower ≤ b + 600 →
      Completes (.smCycle dt levels a b) s l fun t => t.safe.permit = .on ∧ t.safe.aCmd = true ∧ t.safe.bCmd = true ∧
        t.safe.lastT = v.ctUs ∧ t.safe.grantUp = s.clk.upNs + dt ∧ t.safe.latch = s.safe.latch) ∧
    (v.missing ≠ 0 ∨ s.clockDown = true → s.safe.permit = .armed → s.safe.proof = none → a ≤ 600 → s.safe.cfg.patternD = false ∨ s.pow.vsPower ≤ b + 600 →
      (∀ i : Fin 4, (s.siHit i) = true → i.val = 1 ∨ i.val = 2) →
      Completes (.smCycle dt levels a b) s l fun t => t.safe.permit = .armed ∧ t.safe.aCmd = s.safe.aCmd ∧ t.safe.latch = s.safe.latch) ∧
    (s.safe.permit = .on → s.siHit 0 = false → s.siHit 3 = false →
      (s.safe.ctrlReq = false → Completes (.smCycle dt levels a b) s l fun t => Safety.removed 0x02 t) ∧
      (s.safe.ctrlReq = true → s.heatMapBad = true → Completes (.smCycle dt levels a b) s l fun t => Safety.removed 0x0A t ∧
        (t.safe.latch[Latch.config.bit]).set = true ∧ t.safe.permit = .locked) ∧
      (s.safe.ctrlReq = true → s.heatMapBad = false → s.hlBad 0 = true ∨ s.hlBad 1 = true →
        Completes (.smCycle dt levels a b) s l fun t => Safety.removed 0x08 t) ∧
      (s.safe.ctrlReq = true → s.heatMapBad = false → s.hlBad 0 = false → s.hlBad 1 = false →
        Completes (.smCycle dt levels a b) s l fun t => t.safe.permit = .on ∧ t.safe.latch = s.safe.latch ∧
          t.safe.removeCnt = s.safe.removeCnt ∧ t.safe.flamed = (s.safe.flamed || s.siHit 2)))) ∧
  (∀ (dt : Nat) (levels : BitVec 8) (a b : Nat) (i : Fin 4) (k : Bool) (s : State), s.pow.smUp = true → s.inj.isOpen = false →
    i.val = 0 ∨ i.val = 3 → s.siOn i.val = true → levels.getLsbD (2 * i.val + (if k then 1 else 0)) = false →
    let c := if k then (s.safe.si[i]).b else (s.safe.si[i]).a
    c.fresh = false → c.raw = false → c.rawUp + ms s.safe.cfg.siFilt ≤ s.clk.upNs + dt →
    (s.safe.si[i]).demand = false → (s.safe.si[i]).diag = false →
    Completes (.smCycle dt levels a b) s [.clk, .frm, .loop, .drv, .fan, .prog, .safe, .inj, .log, .cnt] fun t =>
      (t.safe.si[i]).demand = true ∧ (t.safe.latch[(if i.val = 0 then Latch.estop else Latch.thermostat).bit]).set = true ∧
      t.safe.permit ≠ .on ∧ (s.safe.permit = .on → Safety.heatQuiet t = true) ∧
      (i.val = 0 → t.safe.estopLines = true ∧ t.safe.proof = none ∧
        (s.safe.estopLines = false → ∀ n : Fin 32, (t.drv.ch[n]).phase.quiet = true)) ∧
      (i.val = 0 → s.safe.permit = .on → t.safe.lastReason = 0x03)) ∧
  ∀ (dt : Nat) (levels : BitVec 8) (a b : Nat) (s : State), s.pow.smUp = false → Completes (.smCycle dt levels a b) s [.clk] fun _ => True

/-- R612 to R614, R618, R620, R621, R623, R624, R626, R632 to R635, R643 and Tables 15.7, 15.9: what SM's detectors do. Each sets its latch and
removes a permit that is on, under the reason of Table 15.7; those without a latch set none. The removal at a static HP_B enable is SM's own
(log entry 96). -/
def Obligations.SafetyDetectors : Prop :=
  ∀ (dt : Nat) (s : State), let now := s.clk.upNs + dt
    let finding := fun (k : Latch) (r : Nat) (t : State) => (t.safe.latch[k.bit]).set = true ∧ t.safe.permit ≠ .on ∧
      (s.safe.permit = .on → Safety.removed r t)
    let l : List Part := [.clk, .loop, .drv, .prog, .safe, .inj, .log, .cnt]
    (∀ c : Instr, c = .smLockstepMismatch dt ∨ c = .smEccError dt ∨ (∃ ns, c = .smWatchdogMiss dt ns ∧ (ns < 500000 ∨ 2000000 < ns)) → Completes c s (.ho :: l) fun t =>
      finding .smSelf 0x10 t ∧ (s.safe.permit = .on → t.safe.aCmd = false ∧ t.safe.bCmd = false)) ∧
    (∀ ns, s.inj.isOpen = false → 500000 ≤ ns → ns ≤ 2000000 → Completes (.smWatchdogMiss dt ns) s [.clk] fun _ => True) ∧
    (Completes (.hpBEnableStatic dt) s l fun t => t.safe.bCmd = false ∧ t.safe.permit ≠ .on ∧ (s.safe.permit = .on → Safety.removed 0x0A t) ∧
      (s.safe.relBad = false → t.safe.latch = s.safe.latch)) ∧
    (∀ (ofB : Bool) (v : Nat), s.inj.isOpen = false →
      let at_ := now - s.safe.grantUp
      let sampled := decide (s.safe.permit = .on ∧ 50000000 ≤ at_ ∧ at_ % 50000000 = 250000 + if ofB then 25000000 else 0)
      let off := if ofB then decide (s.pow.vsPower < 2 * v) else decide (2 * v < s.pow.vsPower)
      (s.pow.smUp = true → sampled = true → off = false → Completes (.hpTestPulse dt ofB v) s l fun t => finding .hpDiag 0x0A t) ∧
      (s.pow.smUp = false ∨ sampled = false ∨ off = true → Completes (.hpTestPulse dt ofB v) s [.clk] fun _ => True)) ∧
    (∀ (ofB : Bool) (ua ns : Nat),
      let open_ := decide (s.safe.permit = .on ∧ 100000000 ≤ now - s.safe.grantUp ∧ 100000000 ≤ ns ∧ ua < 5000)
      (open_ = true → Completes (.hpOpenDetect dt ofB ua ns) s [.clk, .safe] fun t => t.safe = { s.safe with hpOpen := true }) ∧
      (open_ = false → Completes (.hpOpenDetect dt ofB ua ns) s [.clk] fun _ => True)) ∧
    (∀ u, s.safe.noAirUp = some u → s.safe.permit = .on → max u s.safe.grantUp + ms s.safe.cfg.airFilt ≤ now →
      Completes (.airflowLoss dt) s l fun t => Safety.removed 0x04 t ∧ (s.safe.relBad = false → t.safe.latch = s.safe.latch)) ∧
    (s.safe.noAirUp = none ∨ s.safe.permit ≠ .on → Completes (.airflowLoss dt) s [.clk] fun _ => True) ∧
    (∀ (g : Fin 4) u, s.safe.airXUp[g] = some u → u + 100000000 ≤ now → Completes (.airOkDisagree dt g) s l fun t => finding .config 0x0A t) ∧
    (∀ u, s.safe.removedUp = some u → u + ms (100 * s.safe.cfg.flameOffT) ≤ now →
      (s.siHit 2 = true → Completes (.flameOffTimeout dt) s [.clk, .safe, .log] fun t => (t.safe.latch[Latch.flame.bit]).set = true ∧
        t.safe.removedUp = none ∧ (s.safe.permit ≠ .on → t.safe.permit ≠ .on)) ∧
      (s.siHit 2 = false → Completes (.flameOffTimeout dt) s [.clk, .safe] fun t => t.safe = { s.safe with removedUp := none })) ∧
    (s.safe.permit = .on → s.safe.cfg.flameT ≠ 0 → s.safe.flamed = false → s.safe.grantUp + sec s.safe.cfg.flameT ≤ now →
      Completes (.flameProveTimeout dt) s l fun t => Safety.removed 0x05 t ∧ (s.safe.relBad = false → t.safe.latch = s.safe.latch)) ∧
    (s.inj.isOpen = false → (s.pow.smUp = true → Completes (.scrcRecheck dt false) s l fun t => t.safe.cfgOk = false ∧ finding .config 0x0A t) ∧
      Completes (.scrcRecheck dt true) s [.clk, .safe] fun t => t.safe = { s.safe with cfgOk := true }) ∧
    (∀ (i : Fin 4) u, s.pow.smUp = true → s.siOn i.val = true → (s.safe.si[i]).diag = false →
      ((s.safe.si[i]).diffUp = some u → u + ms (s.safe.cfg.siDisc + 1) ≤ now →
        Completes (.siDiscrepancy dt i) s [.clk, .frm, .loop, .drv, .fan, .prog, .safe, .inj, .log, .cnt] fun t =>
          (t.safe.si[i]).diag = true ∧ t.siHit i = true ∧ finding .siDiag 0x0A t ∧
          (i.val = 0 → (s.safe.si[i]).demand = false → (t.safe.latch[Latch.estop.bit]).set = true ∧ t.safe.estopLines = true)) ∧
      ∀ own other : BitVec 4, s.siOssd i.val = false →
        (2 ≤ (s.safe.si[i]).a.noPulse ∧ own.getLsbD i.val = true ∨ (s.safe.si[i]).b.raw = true ∧ other.getLsbD i.val = false) →
        Completes (.testOutputPulse dt false own other) s [.clk, .frm, .loop, .drv, .fan, .prog, .safe, .inj, .log, .cnt] fun t =>
          (t.safe.si[i]).diag = true ∧ finding .siDiag 0x0A t) ∧
    ((∀ i : Fin 4, s.siOn i.val = false ∨ s.siOssd i.val = true) → ∀ (ofB : Bool) (own other : BitVec 4),
      Completes (.testOutputPulse dt ofB own other) s [.clk] fun _ => True)

/-- R637, R645, R646, R649 to R656 and Tables 15.11, 15.13: the safety opcodes. PERMIT_DROP stands from any sender and also disarms (log entry
15); SAFE_RESET clears the latches whose condition holds and never grants; CONFIRM makes a pending image active. The shared judgement of
SI_DIAG is log entry 25; a pending image stands for 60 s.
That the row of an opcode acts at once is the model's choice (log entry 69). -/
def Obligations.SafetyOrders : Prop :=
  (∀ (q : Req) (s : State), s.obeys q = true →
    (s.safe.cfg.heatEn = false → Completes (.permitRequest q) s [.frm, .auth] (Answered q false 0x71 .badState [] s)) ∧
    (s.safe.cfg.heatEn = true → s.safe.anyLatch = true → Completes (.permitRequest q) s [.frm, .auth] (Answered q false 0x71 .safetyLocked [] s)) ∧
    (s.safe.cfg.heatEn = true → s.safe.anyLatch = false →
      Completes (.permitRequest q) s [.frm, .auth, .safe] fun t =>
        t.safe = { s.safe with permit := if s.safe.permit = .off then .armed else s.safe.permit } ∧
        Answered q false 0x71 .ok (leBytes 1 t.safe.permit.code ++ leBytes 4 t.missing) s t)) ∧
  (∀ (q : Req) (s : State), s.hears q = true →
    Completes (.permitDrop q) s [.frm, .auth, .loop, .drv, .prog, .stitch, .safe, .log, .cnt] fun t =>
      t.safe.permit ≠ .on ∧ t.safe.permit ≠ .armed ∧ (s.safe.permit = .on → Safety.removed 0x01 t) ∧
      (s.safe.permit = .off ∨ s.safe.permit = .locked → t.safe = s.safe) ∧
      (∀ i : Fin 256, (s.stitch.e[i]).state = .pending → cancelledKind (s.stitch.e[i]).kind = true → s.stitchHeat s.stitch.e[i] = true →
        (t.stitch.e[i]).state = .cancelled) ∧ Answered q false 0x72 .ok (leBytes 1 t.safe.permit.code) s t) ∧
  (∀ (q : Req) (img : List Byte) (s : State), s.obeys q = true →
    (img.length ≠ 40 → Completes (.safeConfigWrite q img) s [.frm, .auth] (Answered q false 0x73 .badLength [] s)) ∧
    (img.length = 40 → safeImageOk img = false → Completes (.safeConfigWrite q img) s [.frm, .auth] (Answered q false 0x73 .badParam [] s)) ∧
    (img.length = 40 → safeImageOk img = true → s.safe.permit = .on →
      Completes (.safeConfigWrite q img) s [.frm, .auth] (Answered q false 0x73 .heatActive [] s)) ∧
    (img.length = 40 → safeImageOk img = true → s.safe.permit ≠ .on → Completes (.safeConfigWrite q img) s [.frm, .auth, .safe] fun t =>
      t.safe = { s.safe with pendCfg := some (SafeCfg.ofBytes img, s.clk.upNs) } ∧
      Answered q false 0x73 .ok (safeCfgReply 1 (SafeCfg.ofBytes img) 1) s t)) ∧
  (∀ (q : Req) (scrc : Word) (s : State), s.obeys q = true →
    (s.safe.pendCfg = none ∨ (∃ c u, s.safe.pendCfg = some (c, u) ∧ 60000000000 ≤ s.clk.upNs - u) → Completes (.safeConfigConfirm q scrc) s [.frm, .auth] (Answered q false 0x73 .badState [] s)) ∧
    ∀ c u, s.safe.pendCfg = some (c, u) → s.clk.upNs - u < 60000000000 →
      (scrc.toNat ≠ c.scrc → Completes (.safeConfigConfirm q scrc) s [.frm, .auth] (Answered q false 0x73 .badParam [] s)) ∧
      (scrc.toNat = c.scrc → s.safe.permit = .on → Completes (.safeConfigConfirm q scrc) s [.frm, .auth] (Answered q false 0x73 .heatActive [] s)) ∧
      (scrc.toNat = c.scrc → s.safe.permit ≠ .on → s.confirmOk c = false →
        Completes (.safeConfigConfirm q scrc) s [.frm, .auth] (Answered q false 0x73 .badState [] s)) ∧
      (scrc.toNat = c.scrc → s.safe.permit ≠ .on → s.confirmOk c = true →
        Completes (.safeConfigConfirm q scrc) s [.frm, .auth, .drv, .fan, .safe, .log] fun t => t.safe.cfg = c ∧ t.safe.pendCfg = none ∧
          t.safe.cfgAct = true ∧ t.safe.latch = s.safe.latch ∧ t.safe.permit = (if s.safe.anyLatch then .locked else .off) ∧
          Answered q false 0x73 .ok (safeCfgReply 2 c 2) s t)) ∧
  (∀ (dt : Nat) (s : State) c u, s.safe.pendCfg = some (c, u) →
    (u + 60000000000 ≤ s.clk.upNs + dt → Completes (.safeConfigExpire dt) s [.clk, .safe] fun t => t.safe = { s.safe with pendCfg := none }) ∧
    (s.clk.upNs + dt < u + 60000000000 → Completes (.safeConfigExpire dt) s [.clk] fun _ => True)) ∧
  (∀ (q : Req) (s : State), s.hears q = true → s.trusts q = true →
    (Completes (.safeConfigRead q 0) s [.frm, .auth] (Answered q false 0x74 .ok (0 :: s.safe.cfg.toBytes) s)) ∧
    (s.safe.pendCfg = none ∨ (∃ c u, s.safe.pendCfg = some (c, u) ∧ 60000000000 ≤ s.clk.upNs - u) → Completes (.safeConfigRead q 1) s [.frm, .auth] (Answered q false 0x74 .badState [] s)) ∧
    (∀ c u, s.safe.pendCfg = some (c, u) → s.clk.upNs - u < 60000000000 → Completes (.safeConfigRead q 1) s [.frm, .auth] (Answered q false 0x74 .ok (1 :: c.toBytes) s)) ∧
    ∀ w : Byte, 1 < w.toNat → Completes (.safeConfigRead q w) s [.frm, .auth] (Answered q false 0x74 .badParam [] s)) ∧
  (∀ (q : Req) (s : State), s.hears q = true → Completes (.safeStatus q) s [.frm, .auth] fun t => ∃ d : List Byte, d.length = 34 ∧
    Answered q false 0x70 .ok d s t ∧ bitOf (fieldAt d 0 4) 0 = s.permitOn ∧ bitsOf (fieldAt d 0 4) 8 4 = s.safe.permit.code ∧
    bitsOf (fieldAt d 0 4) 16 8 = s.safe.lastReason % 256 ∧ fieldAt d 8 4 = s.safe.latches ∧ fieldAt d 20 4 = s.dio.di.toNat ∧
    fieldAt d 24 6 = s.safe.lastT % 2 ^ 48 ∧ fieldAt d 32 2 = s.safe.ptDay % 65536) ∧
  (∀ (q : Req) (c : Instr) (kind : Nat) (s : State), s.obeys q = true → c = .proofTestPermit q ∧ kind = 1 ∨ c = .proofTestRelease q ∧ kind = 2 →
    (4 ≤ s.pendingOps → Completes c s [.frm, .auth] (Answered q false 0x75 .busy [] s)) ∧
    (s.pendingOps < 4 → s.safe.permit = .on → Completes c s [.frm, .auth] (Answered q false 0x75 .heatActive [] s)) ∧
    (s.pendingOps < 4 → s.safe.permit ≠ .on → s.safe.ctrlReq = true ∨ s.inj.isOpen = true ∨ s.safe.proof.isSome = true ∨
        kind = 2 ∧ (∃ n : Fin 32, (s.drv.ch[n]).phase ≠ .idle) → Completes c s [.frm, .auth] (Answered q false 0x75 .badState [] s)) ∧
    (s.safe.permit ≠ .on → s.safe.ctrlReq = false → s.inj.isOpen = false → s.safe.proof = none → s.pendingOps < 4 →
      kind = 1 ∨ (∀ n : Fin 32, (s.drv.ch[n]).phase = .idle) → Completes c s [.frm, .auth, .safe] fun t =>
        t.safe = { s.safe with proof := some { ticket := s.frm.nextTicket, kind := kind, startUp := s.clk.upNs } } ∧
        ∃ est, Answered q false 0x75 .acceptedPending (leBytes 2 s.frm.nextTicket ++ leBytes 2 est) s t)) ∧
  (∀ (q : Req) (s : State), s.obeys q = true → s.safe.permit ≠ .on → s.safe.ctrlReq = false → s.inj.isOpen = false →
    Completes (.proofTestReport q) s [.frm, .auth] fun t => ∃ d : List Byte, d.length = 38 ∧ Answered q false 0x75 .ok d s t ∧
      fieldAt d 0 6 = s.safe.ptPass[0].1 % 2 ^ 48 ∧ fieldAt d 6 1 = s.safe.ptPass[0].2 % 256) ∧
  (∀ (dt : Nat) (pass : Bool) (fstep detail : Byte) (s : State) (p : Proof), s.safe.proof = some p → p.kind = 1 ∨ p.kind = 2 →
    let k : Fin 2 := if p.kind = 1 then 0 else 1
    let o : Fin 2 := if p.kind = 1 then 1 else 0
    Completes (.proofTestDone dt pass fstep detail) s [.clk, .frm, .safe, .log] fun t => t.safe.proof = none ∧
      t.safe.ptPass[k] = ((s.advance dt).ctUs, if pass then 0 else 1) ∧ t.safe.ptPass[o] = s.safe.ptPass[o] ∧
      t.safe.ptDay = (if pass = true ∧ s.safe.ptOk[o] = true then 0 else s.safe.ptDay) ∧
      t.frm = ((s.advance dt).finish p.ticket .ok (leBytes 1 p.kind ++ [if pass then 0 else 1, fstep, detail])).frm) ∧
  (∀ (dt : Nat) (s : State),
    (s.safe.dayUp + 86400000000000 ≤ s.clk.upNs + dt → Completes (.ptAgeDay dt) s [.clk, .safe] fun t =>
      t.safe = { s.safe with ptDay := inc16 s.safe.ptDay, dayUp := s.safe.dayUp + 86400000000000 }) ∧
    (s.clk.upNs + dt < s.safe.dayUp + 86400000000000 → Completes (.ptAgeDay dt) s [.clk] fun _ => True)) ∧
  ∀ (q : Req) (mask : Word) (s : State), s.obeys q = true →
    (2 ^ 14 ≤ mask.toNat → Completes (.safeReset q mask) s [.frm, .auth] (Answered q false 0x76 .badParam [] s)) ∧
    (mask.toNat < 2 ^ 14 → Completes (.safeReset q mask) s [.frm, .auth, .drv, .fan, .safe, .log] fun t =>
      let s1 := if bitOf mask.toNat 6 = true ∧ s.mayReset .siDiag = true then s.siForget else s
      let clears : Latch → Bool := fun k => bitOf mask.toNat k.bit.val && (if k = .siDiag then s else s1).mayReset k
      (∀ k : Latch, (t.safe.latch[k.bit]).cnt = (s.safe.latch[k.bit]).cnt ∧
        (t.safe.latch[k.bit]).set = ((s.safe.latch[k.bit]).set && !clears k)) ∧
      t.safe.si = s1.safe.si ∧
      t.safe.permit = (if s.safe.permit = .locked ∧ t.safe.anyLatch = false then .off else s.safe.permit) ∧
      (t.safe.latch[Latch.smSelf.bit]).set = (s.safe.latch[Latch.smSelf.bit]).set ∧
      ∃ cleared : Nat, cleared ≤ mask.toNat ∧ (∀ k : Latch, bitOf cleared k.bit.val = clears k) ∧
        Answered q false 0x76 .ok (leBytes 4 cleared ++ leBytes 4 (mask.toNat - cleared)) s t)

/-! ### Fault injection, field log and counters (chapter 16) -/

/-- R661, R662, R664 to R669, R672 and Table 16.6: the test session and its injections. Values outside those listed get BAD_PARAM, a
precondition that fails BAD_STATE; a fan of a group named in AIR_GRP needs FLAGS.SAFETY (log entry 46). Clearing an injection or ending the session changes nothing that the injection caused.
That the row of an opcode acts at once is the model's choice (log entry 69). -/
def Obligations.TestSessionsComplete : Prop :=
  (∀ (q : Req) (flags : Byte) (timeout : Half) (s : State), s.obeys q = true →
    let same := fun (t : State) => t.inj.slots = s.inj.slots ∧ t.inj.isOpen = s.inj.isOpen ∧ t.inj.owner = s.inj.owner
    (1 < flags.toNat ∨ timeout.toNat < 10 ∨ 3600 < timeout.toNat → Completes (.testOpen q flags timeout) s [.frm, .auth, .inj] fun t =>
      same t ∧ Answered q true 0x30 .badParam [] s t) ∧
    (flags.toNat ≤ 1 → 10 ≤ timeout.toNat → timeout.toNat ≤ 3600 →
      (s.safe.permit = .on → Completes (.testOpen q flags timeout) s [.frm, .auth, .inj] fun t => same t ∧ Answered q true 0x30 .heatActive [] s t) ∧
      (s.safe.permit ≠ .on →
        s.inj.isOpen = true ∨ s.safe.proof.isSome = true ∨ s.inHandover = true ∨ flags.toNat = 1 ∧ s.safe.ctrlReq = true →
        Completes (.testOpen q flags timeout) s [.frm, .auth, .inj] fun t => same t ∧ Answered q true 0x30 .badState [] s t) ∧
      (s.safe.permit ≠ .on → s.inj.isOpen = false → s.safe.proof = none → s.inHandover = false →
        flags.toNat = 0 ∨ s.safe.ctrlReq = false → Completes (.testOpen q flags timeout) s [.frm, .auth, .inj, .log] fun t =>
          t.inj = { s.inj with isOpen := true, safety := decide (flags.toNat = 1), owner := q.sender, timeout := timeout.toNat,
                               lastUp := s.clk.upNs } ∧ Answered q true 0x30 .ok ([flags] ++ leBytes 2 timeout.toNat) s t))) ∧
  (∀ (q : Req) (id arg dur : Half) (tgt : Byte) (s : State), s.obeys q = true →
    let listed := s.injListed id.toNat tgt.toNat arg.toNat dur.toNat = true ∧ dur.toNat ≤ 60000
    let barred := s.injReady id.toNat tgt.toNat = false ∨ s.injSafety id.toNat tgt.toNat = true ∧ s.inj.safety = false
    (∀ g : Fin 4, id.toNat / 256 = 5 → bitOf s.safe.cfg.airGrp g.val = true → bitOf (s.run.fgrp[g]).members tgt.toNat = true →
      s.injSafety id.toNat tgt.toNat = true) ∧
    (¬listed → Completes (.inject q id tgt arg dur) s [.frm, .auth, .inj] fun t => t.inj.slots = s.inj.slots ∧
      Answered q true 0x31 .badParam [] s t) ∧
    (listed → s.inj.isOpen = false ∨ s.inj.owner ≠ q.sender ∨ barred → Completes (.inject q id tgt arg dur) s [.frm, .auth, .inj] fun t =>
      t.inj.slots = s.inj.slots ∧ Answered q true 0x31 .badState [] s t) ∧
    (listed → s.inj.isOpen = true → s.inj.owner = q.sender → ¬barred →
      (s.slotFor id.toNat tgt.toNat = none → Completes (.inject q id tgt arg dur) s [.frm, .auth, .inj] fun t => t.inj.slots = s.inj.slots ∧
        Answered q true 0x31 .busy [] s t) ∧
      ∀ i : Fin 8, s.slotFor id.toNat tgt.toNat = some i → Completes (.inject q id tgt arg dur) s [.frm, .auth, .inj, .log] fun t =>
        let x := t.inj.slots[i]
        x.id = id.toNat ∧ x.tgt = tgt.toNat ∧ x.arg = arg.toNat ∧ x.dur = dur.toNat ∧ x.act = true ∧ x.startUp = s.clk.upNs ∧
          (∀ j : Fin 8, j ≠ i → t.inj.slots[j] = s.inj.slots[j]) ∧ t.inj.lastUp = s.clk.upNs ∧
          Answered q true 0x31 .ok ([BitVec.ofNat 8 i.val] ++ leBytes 2 id.toNat ++ [tgt]) s t)) ∧
  (∀ (q : Req) (slot : Byte) (s : State), s.obeys q = true →
    (8 ≤ slot.toNat → slot.toNat ≠ 0xFF → Completes (.injectClear q slot) s [.frm, .auth, .inj] fun t => t.inj.slots = s.inj.slots ∧
      Answered q true 0x32 .badParam [] s t) ∧
    (slot.toNat < 8 ∨ slot.toNat = 0xFF → s.inj.isOpen = false ∨ s.inj.owner ≠ q.sender →
      Completes (.injectClear q slot) s [.frm, .auth, .inj] fun t => t.inj.slots = s.inj.slots ∧ Answered q true 0x32 .badState [] s t) ∧
    (slot.toNat < 8 ∨ slot.toNat = 0xFF → s.inj.isOpen = true → s.inj.owner = q.sender →
      Completes (.injectClear q slot) s [.frm, .auth, .inj, .log] fun t => t.inj.isOpen = true ∧
        (∀ i : Fin 8, i.val = slot.toNat ∨ slot.toNat = 0xFF → t.inj.slots[i] = { s.inj.slots[i] with act := false }) ∧
        (∀ i : Fin 8, i.val ≠ slot.toNat → slot.toNat ≠ 0xFF → t.inj.slots[i] = s.inj.slots[i]) ∧
        ∃ m : Byte, (∀ i : Fin 8, m.getLsbD i.val = (decide (i.val = slot.toNat ∨ slot.toNat = 0xFF) && (s.inj.slots[i]).act)) ∧
          Answered q true 0x32 .ok [m] s t)) ∧
  (∀ (q : Req) (s : State), s.obeys q = true →
    (s.inj.isOpen = false ∨ s.inj.owner ≠ q.sender → Completes (.testClose q) s [.frm, .auth] (Answered q true 0x33 .badState [] s)) ∧
    (s.inj.isOpen = true → s.inj.owner = q.sender → Completes (.testClose q) s [.frm, .auth, .inj, .log] fun t => t.inj.isOpen = false ∧
      (∀ i : Fin 8, t.inj.slots[i] = { s.inj.slots[i] with act := false }) ∧ t.inj.det = s.inj.det ∧
      Answered q true 0x33 .ok (leBytes 1 s.inj.mask) s t)) ∧
  ∀ (dt : Nat) (s : State),
    (∀ i : Fin 8, (s.inj.slots[i]).act = true → (s.inj.slots[i]).dur ≠ 0 →
      (s.inj.slots[i]).startUp + ms (s.inj.slots[i]).dur ≤ s.clk.upNs + dt → Completes (.injectExpire dt i) s [.clk, .inj, .log] fun t =>
        t.inj.slots[i] = { s.inj.slots[i] with act := false } ∧ ∀ j : Fin 8, j ≠ i → t.inj.slots[j] = s.inj.slots[j]) ∧
    (∀ i : Fin 8, (s.inj.slots[i]).act = false ∨ (s.inj.slots[i]).dur = 0 → Completes (.injectExpire dt i) s [.clk] fun _ => True) ∧
    (s.inj.isOpen = true → s.inj.lastUp + sec s.inj.timeout ≤ s.clk.upNs + dt → Completes (.testTimeout dt) s [.clk, .inj, .log] fun t =>
      t.inj.isOpen = false ∧ ∀ i : Fin 8, (t.inj.slots[i]).act = false) ∧
    (s.inj.isOpen = false → Completes (.testTimeout dt) s [.clk] fun _ => True)

/-- R678 to R683, R844 to R847 and Table 16.6: the log unit writes its oldest entry under the next ENO, or drops it beyond ten in the
interval unless CLASS is 0x09; a full log loses its oldest entry, counted where it was good and unread. LOG_READ, LOG_INFO and
COUNTERS_READ.
That the row of an opcode acts at once is the model's choice (log entry 69). -/
def Obligations.FieldLogComplete : Prop :=
  (∀ (dt : Nat) (torn : Bool) (s : State), let g := s.log
    (g.queue = [] → Completes (.logEntryWrite dt torn) s [.clk] fun _ => True) ∧
    ∀ x rest, g.queue = x :: rest →
      (10 ≤ g.accepted → x.cls ≠ 9 → Completes (.logEntryWrite dt torn) s [.clk, .log, .se] fun t =>
        t.log = { g with queue := rest, dropped := inc32 g.dropped, drop := g.drop.raise }) ∧
      (g.accepted < 10 ∨ x.cls = 9 → let e : LogEntry := { x with eno := g.eno, good := !torn }
        (g.entries.length < 2048 → Completes (.logEntryWrite dt torn) s [.clk, .log, .se] fun t =>
          t.log = { g with queue := rest, entries := e :: g.entries, eno := (g.eno + 1) % 2 ^ 32, accepted := g.accepted + 1 }) ∧
        ∀ old, g.entries.length = 2048 → g.entries.getLast? = some old → old.good = true →
          Completes (.logEntryWrite dt torn) s [.clk, .log, .se] fun t => t.log.queue = rest ∧ t.log.entries = e :: g.entries.dropLast ∧
            t.log.eno = (g.eno + 1) % 2 ^ 32 ∧ t.log.accepted = g.accepted + 1 ∧ t.log.overwrites = inc32 g.overwrites ∧
            t.log.lostUnread = (if g.unread old then inc32 g.lostUnread else g.lostUnread) ∧
            t.log.ovr = g.ovr.raiseIf (g.unread old) ∧ t.log.dropped = g.dropped ∧ t.log.readMark = g.readMark)) ∧
  (∀ (q : Req) (first : Word) (count : Byte) (s : State), s.hears q = true → s.trusts q = true → let g := s.log
    let newest := first.toNat = 0xFFFFFFFF
    (count.toNat = 0 ∨ 31 < count.toNat ∨ ¬newest ∧ (g.held = [] ∨ later first.toNat g.newest = true) →
      Completes (.logRead q first count) s [.frm, .auth] (Answered q true 0x20 .badParam [] s)) ∧
    ∀ es : List LogEntry, 1 ≤ count.toNat → count.toNat ≤ 31 →
      (newest ∧ es = (g.held.take count.toNat).reverse ∨
        ¬newest ∧ g.held ≠ [] ∧ later first.toNat g.newest = false ∧
          es = (g.held.reverse.filter fun x => !later first.toNat x.eno).take count.toNat) →
      Completes (.logRead q first count) s (if q.auth then [.frm, .auth, .log] else [.frm, .auth]) fun t =>
        Answered q true 0x20 .ok (leBytes 4 ((es.head?.map LogEntry.eno).getD g.oldest) ++
          [BitVec.ofNat 8 es.length, if !decide newest && later g.oldest first.toNat then 1 else 0] ++ es.flatMap LogEntry.toBytes) s t ∧
        t.log = { g with readMark := t.log.readMark } ∧
        (∀ x, q.auth = true → es.getLast? = some x → g.readMark = none → t.log.readMark = some x.eno) ∧
        (∀ x m, q.auth = true → es.getLast? = some x → g.readMark = some m →
          t.log.readMark = (if later x.eno m then some x.eno else some m))) ∧
  ∀ (q : Req) (s : State), s.hears q = true →
    (Completes (.logInfo q) s [.frm, .auth] fun t => ∃ d : List Byte, d.length = 28 ∧ Answered q true 0x21 .ok d s t ∧
      fieldAt d 0 4 = s.log.newest % 2 ^ 32 ∧ fieldAt d 4 4 = s.log.oldest % 2 ^ 32 ∧ fieldAt d 8 2 = s.log.held.length % 65536 ∧
      fieldAt d 10 4 = s.log.readMark.getD 0xFFFFFFFF % 2 ^ 32 ∧ fieldAt d 14 4 = s.log.overwrites % 2 ^ 32 ∧
      fieldAt d 18 4 = s.log.lostUnread % 2 ^ 32 ∧ fieldAt d 22 4 = s.log.dropped % 2 ^ 32 ∧ fieldAt d 26 2 = s.log.discarded % 65536 ∧
      (s.log.held = [] → fieldAt d 0 4 = (s.log.eno + 2 ^ 32 - 1) % 2 ^ 32 ∧ fieldAt d 4 4 = s.log.eno % 2 ^ 32)) ∧
    (Completes (.countersRead q) s [.frm, .auth] fun t => ∃ d : List Byte, d.length = 28 ∧ Answered q true 0x22 .ok d s t ∧
      fieldAt d 0 4 = satTo 0xFFFFFFFF (s.clk.upNs / 1000000000) ∧ fieldAt d 4 4 = hours s.lifeUs ∧ fieldAt d 8 4 = hours s.heatUs ∧
      fieldAt d 12 4 = s.cnt.starts % 2 ^ 32 ∧ fieldAt d 16 4 = s.cnt.moss % 2 ^ 32 ∧ fieldAt d 24 4 = s.log.eno % 2 ^ 32)
/-! ### Address space and stream engine (chapter 17) -/

/-- R6, R673, R676, R689 to R699, R719: MEM_READ, MEM_WRITE, FLAG_CLEAR, and writes to registers on the bus. A span outside one region or
touching the protected part is refused; a read is synchronised in the snapshot window only; a write reaches the host buffer area, W1C flags
and the few RW registers of Table 17.6 and nothing else. Orders take effect at the command (log entry 69). -/
def Obligations.MemoryAndFlagsComplete : Prop :=
  (∀ (q : Req) (addr : Word) (len : Half) (s : State), s.hears q = true → s.trusts q = true →
    let a := addr.toNat
    let n := len.toNat
    let head := leBytes 4 a ++ leBytes 2 n
    let unsync := fun (b : Bool) (t : State) => ((t.frm.replies[senderIx q.sender]).getLast?).map Reply.unsync = some b
    (n = 0 ∨ 1016 < n → Completes (.memRead q addr len) s [.frm, .auth] fun t => Answered q true 0x00 .badParam [] s t) ∧
    (1 ≤ n → n ≤ 1016 →
      (∀ r ∈ regions, ¬(r.1 ≤ a ∧ a + n ≤ r.2)) ∨ (0x2003F000 < a + n ∧ a < 0x20040000 ∧ 0x20000000 ≤ a) ∨
        (0x50000000 ≤ a ∧ a < 0x50004000 ∧ 0x800 < a % 0x800 + n) →
      Completes (.memRead q addr len) s [.frm, .auth] fun t => Answered q true 0x00 .rangeFault [] s t) ∧
    (1 ≤ n → n ≤ 1016 → 0x40000000 ≤ a → a + n ≤ 0x400B0000 → a % 4 ≠ 0 ∨ n % 4 ≠ 0 →
      Completes (.memRead q addr len) s [.frm, .auth] fun t => Answered q true 0x00 .badParam [] s t) ∧
    (1 ≤ n → n ≤ 1016 → 0x10070000 ≤ a → a + n ≤ 0x10080000 → Completes (.memRead q addr len) s [.frm, .auth] fun t =>
      Answered q true 0x00 .ok (head ++ memSpan s.mem a n) s t ∧ unsync true t) ∧
    (n = 4 → 0x40000000 ≤ a → a + n ≤ 0x400B0000 → a % 4 = 0 → a ≠ 0x40010080 → a < 0x40071000 ∨ 0x40071200 ≤ a →
      Completes (.memRead q addr len) s [.frm, .auth] fun t =>
        Answered q true 0x00 .ok (head ++ leBytes 4 ((s.noteValid q.sender).reg a)) s t ∧ unsync true t) ∧
    (n = 4 → a = 0x40010080 → Completes (.memRead q addr len) s [.clk, .frm, .auth] fun t => t.clk = s.latchHi.clk ∧
      Answered q true 0x00 .ok (head ++ leBytes 4 (s.reg a)) s t ∧ unsync true t) ∧
    (1 ≤ n → 0x50000000 ≤ a → a < 0x50004000 → a % 0x800 + n ≤ 0x800 → n ≤ 1016 → s.pubNow = none →
      Completes (.memRead q addr len) s [.frm, .auth] fun t => unsync false t ∧
        Answered q true 0x00 .ok (head ++ (List.range n).map fun i => s.snapByte (a - 0x50000000 + i)) s t) ∧
    (1 ≤ n → n ≤ 1016 → 0x30000000 ≤ a → a + n ≤ 0x30400000 → s.flashBusy a n = true →
      Completes (.memRead q addr len) s [.frm, .auth] fun t => Answered q true 0x00 .busy [] s t)) ∧
  (∀ (q : Req) (addr : Word) (bytes : List Byte) (s : State), s.obeys q = true →
    let a := addr.toNat
    let n := bytes.length
    (n = 0 ∨ 1016 < n ∧ n < 65536 → Completes (.memWrite q addr bytes) s [.frm, .auth] fun t => Answered q true 0x01 .badParam [] s t) ∧
    (1 ≤ n → n ≤ 1016 → ¬(0x10070000 ≤ a ∧ a + n ≤ 0x10080000) → a < 0x40000000 ∨ 0x400B0000 ≤ a ∨ 0x40090000 ≤ a ∧ a < 0x400A0000 →
      Completes (.memWrite q addr bytes) s [.frm, .auth] fun t => Answered q true 0x01 .rangeFault [] s t) ∧
    (1 ≤ n → n ≤ 1016 → 0x10070000 ≤ a → a + n ≤ 0x10080000 → memWf s.mem = true →
      Completes (.memWrite q addr bytes) s [.frm, .auth, .mem] fun t =>
        (∀ x, memGet t.mem x = (if a ≤ x ∧ x < a + n then bytes.getD (x - a) 0 else memGet s.mem x)) ∧ memWf t.mem = true ∧
        Answered q true 0x01 .ok (leBytes 4 a ++ leBytes 2 n) s t) ∧
    (∀ r : RegInfo, n = 4 → a % 4 = 0 → regInfo a = some r → let v := leNat bytes
      (v &&& r.wo ≠ 0 → Completes (.memWrite q addr bytes) s [.frm, .auth] fun t => Answered q true 0x01 .rangeFault [] s t) ∧
      (v &&& r.wo = 0 → v &&& r.fields ≠ v → Completes (.memWrite q addr bytes) s [.frm, .auth] fun t =>
        Answered q true 0x01 .badParam [] s t) ∧
      (v &&& r.wo = 0 → v &&& r.fields = v → rdRing a = none →
        Completes (.memWrite q addr bytes) s (touches (.memWrite q addr bytes)) fun t =>
          Only [.frm] (s.regWrite a v) t ∧ Answered q true 0x01 .ok (leBytes 4 a ++ leBytes 2 4) s t ∧ t.mem = s.mem)) ∧
    (∀ b : Fin 4, n = 4 → a = 0x4007020C + 0x20 * b.val → let v := leNat bytes
      let size := (s.run.rb[b]).size
      let d := (v + size - (s.se.rb[b]).rd) % size
      (size ≤ v ∨ (s.se.rb[b]).fill < d → Completes (.memWrite q addr bytes) s [.frm, .auth] fun t => Answered q true 0x01 .badParam [] s t) ∧
      (v < size → d ≤ (s.se.rb[b]).fill → s.run.readsRing b = true → Completes (.memWrite q addr bytes) s [.frm, .auth] fun t =>
        Answered q true 0x01 .badState [] s t) ∧
      (v < size → d ≤ (s.se.rb[b]).fill → s.run.readsRing b = false → (∀ m : Fin 8, (s.scOf m).state ≠ .armed) →
        Completes (.memWrite q addr bytes) s [.frm, .auth, .se] fun t =>
          (t.se.rb[b]).rd = v ∧ (t.se.rb[b]).fill = (s.se.rb[b]).fill - d ∧ (t.se.rb[b]).wr = (s.se.rb[b]).wr ∧
          Answered q true 0x01 .ok (leBytes 4 a ++ leBytes 2 4) s t))) ∧
  (∀ (q : Req) (addr mask : Word) (s : State), s.obeys q = true →
    let a := addr.toNat
    let m := mask.toNat
    (a % 4 ≠ 0 ∨ regInfo a = none → Completes (.flagClear q addr mask) s [.frm, .auth] fun t => Answered q true 0x23 .rangeFault [] s t) ∧
    ∀ r : RegInfo, a % 4 = 0 → regInfo a = some r →
      (r.w1c = 0 → Completes (.flagClear q addr mask) s [.frm, .auth] fun t => Answered q true 0x23 .rangeFault [] s t) ∧
      (r.w1c ≠ 0 → m &&& r.w1c ≠ m → Completes (.flagClear q addr mask) s [.frm, .auth] fun t => Answered q true 0x23 .badParam [] s t) ∧
      (r.w1c ≠ 0 → m &&& r.w1c = m → Completes (.flagClear q addr mask) s (touches (.flagClear q addr mask)) fun t =>
        Only [.frm] (s.clearFlags a m) t ∧
          Answered q true 0x23 .ok (leBytes 4 a ++ leBytes 4 (((s.noteValid q.sender).clearFlags a m).reg a)) s t)) ∧
  (∀ (s : State) (m : Nat),
    (∀ n : Fin 64, let t := s.clearFlags (0x40020300 + 4 * n.val) m
      Only [.fe] s t ∧ (∀ j : Fin 64, j ≠ n → t.fe.ch[j] = s.fe.ch[j]) ∧
        (t.fe.ch[n]).ovr = (if bitOf m 0 then { (s.fe.ch[n]).ovr with set := false } else (s.fe.ch[n]).ovr) ∧
        (t.fe.ch[n]).burn = (if bitOf m 1 then { (s.fe.ch[n]).burn with set := false } else (s.fe.ch[n]).burn)) ∧
    ∀ n : Fin 16, let t := s.clearFlags (0x40070000 + 16 * n.val) m
      Only [.se] s t ∧ (∀ j : Fin 16, j ≠ n → t.se.ch[j] = s.se.ch[j]) ∧ (t.se.ch[n]).state = (s.se.ch[n]).state ∧
        (t.se.ch[n]).doneEvt = (if bitOf m 16 then { (s.se.ch[n]).doneEvt with set := false } else (s.se.ch[n]).doneEvt) ∧
        (t.se.ch[n]).err = (if bitOf m 17 then { (s.se.ch[n]).err with set := false } else (s.se.ch[n]).err)) ∧
  ∀ (dt addr : Nat) (value : Word) (strobes : BitVec 4) (s : State),
    (s.awake = false ∨ addr % 4 ≠ 0 → Completes (.registerWrite dt addr value strobes) s [.clk] fun _ => True) ∧
    (s.awake = true → addr % 4 = 0 → regInfo addr = none → addr ∉ ([0x40000040, 0x40000044, 0x40000048] : List Nat) →
      Completes (.registerWrite dt addr value strobes) s [.clk] fun _ => True) ∧
    (s.awake = true → addr = 0x40000014 → value.getLsbD 0 = true → value.getLsbD 1 = false → strobes.getLsbD 0 = true →
      s.injOn 0x0907 0 = false → Completes (.registerWrite dt addr value strobes) s [.clk, .sys] fun t =>
        t.sys = { s.sys with commit := true }) ∧
    (s.awake = true → addr = 0x40000064 → Completes (.registerWrite dt addr value strobes) s [.clk, .pow] fun t =>
      t.pow = { s.pow with wakeCfg := if strobes.getLsbD 0 then value.toNat % 16 else s.pow.wakeCfg }) ∧
    ∀ b : Fin 4, let size := (s.run.rb[b]).size
      let d := (value.toNat + size - (s.se.rb[b]).rd) % size
      (s.awake = false ∨ size ≤ value.toNat ∨ (s.se.rb[b]).fill < d ∨ s.run.readsRing b = true →
        Completes (.rbRdWrite dt b value) s [.clk] fun _ => True) ∧
      (s.awake = true → value.toNat < size → d ≤ (s.se.rb[b]).fill → s.run.readsRing b = false → (∀ m : Fin 8, (s.scOf m).state ≠ .armed) →
        Completes (.rbRdWrite dt b value) s [.clk, .se] fun t =>
          (t.se.rb[b]).rd = value.toNat ∧ (t.se.rb[b]).fill = (s.se.rb[b]).fill - d ∧
          (t.se.rb[b]).loEvt = (s.se.rb[b]).loEvt.raiseIf
            (decide ((s.run.rb[b]).lo < (s.se.rb[b]).fill ∧ (s.se.rb[b]).fill - d ≤ (s.run.rb[b]).lo)) ∧
          ∀ c : Fin 4, c ≠ b → t.se.rb[c] = s.se.rb[c])

/-- R705, R707 to R730: the stream opcodes, the start of a chain, its triggers, the end of a descriptor and of a chain, bus errors and their
retries, the SNAP deadline. What a chain stopped between two bursts had moved is free (log entry 62); the alignment of a peripheral source is
judged with the descriptor's codes (log entry 101); RUN_NOW, RESTART and a stopped chain's end are read as log entry 102 says.
That the row of an opcode acts at once is the model's choice (log entry 69). -/
def Obligations.StreamEngine : Prop :=
  (∀ (q : Req) (slot : Byte) (d : List Byte) (s : State), s.obeys q = true → d.length = 32 →
    let k := slot.toNat
    (k < 16 ∨ 63 < k ∨ dOk d = false → Completes (.scConfigDescriptor q slot d) s [.frm, .auth] fun t =>
      Answered q true 0x02 .badParam [] s t) ∧
    (∀ i : Fin 48, k = i.val + 16 → dOk d = true → let r := { s.run with desc := s.run.desc.set i d }
      r.streamOk = true →
      (dSrcOk d = false ∨ dDstOk d = false → Completes (.scConfigDescriptor q slot d) s [.frm, .auth] fun t =>
        Answered q true 0x02 .rangeFault [] s t) ∧
      (dSrcOk d = true → dDstOk d = true → (∃ n : Fin 8, (s.scOf n).state ≠ .idle ∧ k ∈ s.run.chain n) →
        Completes (.scConfigDescriptor q slot d) s [.frm, .auth] fun t => Answered q true 0x02 .badState [] s t) ∧
      (dSrcOk d = true → dDstOk d = true → (∀ n : Fin 8, (s.scOf n).state ≠ .idle → k ∉ s.run.chain n) →
        Completes (.scConfigDescriptor q slot d) s [.frm, .auth, .run] fun t => t.run = r ∧ Answered q true 0x02 .ok (1 :: slot :: d) s t))) ∧
  (∀ (q : Req) (x : Byte) (p ph : Word) (s : State), s.obeys q = true →
    (3 < x.toNat ∨ p.toNat < 100 ∨ 60000000 < p.toNat ∨ p.toNat ≤ ph.toNat → Completes (.scConfigTimer q x p ph) s [.frm, .auth] fun t =>
      Answered q true 0x02 .badParam [] s t) ∧
    (∀ i : Fin 4, x.toNat = i.val → 100 ≤ p.toNat → p.toNat ≤ 60000000 → ph.toNat < p.toNat →
      (∀ n : Fin 8, (s.scOf n).state ≠ .idle → ∀ d ∈ s.run.descs n, dTrig d ≠ 0x10 + i.val) →
      Completes (.scConfigTimer q x p ph) s [.frm, .auth, .run, .se] fun t =>
        t.run = { s.run with tmr := s.run.tmr.set i { period := p.toNat, phase := ph.toNat } } ∧ t.se.ch = s.se.ch ∧ t.se.rb = s.se.rb ∧
        Answered q true 0x02 .ok ([2, x] ++ leBytes 4 p.toNat ++ leBytes 4 ph.toNat) s t)) ∧
  (∀ (q : Req) (x : Byte) (base size hi lo : Word) (s : State), s.obeys q = true →
    let c : RbCfg := { base := base.toNat, size := size.toNat, hi := hi.toNat, lo := lo.toNat }
    let fits := c.base % 4 = 0 ∧ 64 ≤ c.size ∧ c.size ≤ 65536 ∧ c.size % 4 = 0 ∧ 1 ≤ c.hi ∧ c.hi ≤ c.size ∧ c.lo < c.size
    (3 < x.toNat ∨ ¬fits → Completes (.scConfigRing q x base size hi lo) s [.frm, .auth] fun t => Answered q true 0x02 .badParam [] s t) ∧
    (∀ b : Fin 4, x.toNat = b.val → fits → let r := { s.run with rb := s.run.rb.set b c }
      r.streamOk = true →
      (¬(0x10070000 ≤ c.base ∧ c.base + c.size ≤ 0x10080000) → Completes (.scConfigRing q x base size hi lo) s [.frm, .auth] fun t =>
        Answered q true 0x02 .rangeFault [] s t) ∧
      (0x10070000 ≤ c.base → c.base + c.size ≤ 0x10080000 → (∀ n : Fin 8, (s.scOf n).state = .idle) → (s.run.rb[b]).size = 0 →
        Completes (.scConfigRing q x base size hi lo) s [.frm, .auth, .run] fun t => t.run = r ∧
          Answered q true 0x02 .ok ([3, x] ++ leBytes 4 c.base ++ leBytes 4 c.size ++ leBytes 4 c.hi ++ leBytes 4 c.lo) s t))) ∧
  (∀ (q : Req) (x f : Byte) (s : State), s.obeys q = true →
    (x.toNat < 8 ∨ 15 < x.toNat ∨ ¬(16 ≤ f.toNat ∧ f.toNat ≤ 63 ∨ f.toNat = 0xFF) → Completes (.scConfigChannel q x f) s [.frm, .auth] fun t =>
      Answered q true 0x02 .badParam [] s t) ∧
    (∀ n : Fin 8, x.toNat = n.val + 8 → 16 ≤ f.toNat ∧ f.toNat ≤ 63 ∨ f.toNat = 0xFF →
      let r := { s.run with first := s.run.first.set n f.toNat, firstSet := s.run.firstSet.set n true }
      r.streamOk = true →
      ((s.scOf n).state ≠ .idle → Completes (.scConfigChannel q x f) s [.frm, .auth] fun t => Answered q true 0x02 .badState [] s t) ∧
      ((s.scOf n).state = .idle → Completes (.scConfigChannel q x f) s [.frm, .auth, .run] fun t => t.run = r ∧
        Answered q true 0x02 .ok [4, x, f] s t))) ∧
  (∀ (q : Req) (x : Byte) (s : State) (n : Fin 8), s.obeys q = true → x.toNat = n.val + 8 → let c := s.scOf n
    let say := fun (opc : Nat) (t : State) => Answered q true opc .ok [x, BitVec.ofNat 8 (t.scOf n).state.code] s t
    let turned := fun (i : Instr) => Completes i s [.frm, .auth] fun t => Answered q true 0x03 .badState [] s t
    let begun := fun (t : State) => (t.scOf n).state = .run ∧ (t.scOf n).cur = s.run.first[n] ∧ (t.scOf n).offset = 0 ∧
      (t.scOf n).ecode = 0 ∧ (t.scOf n).err = c.err ∧ (∀ m : Fin 16, m ≠ hostChan n → t.se.ch[m] = s.se.ch[m]) ∧ t.se.rb = s.se.rb
    let roomy := ∀ b : Fin 4, s.run.ringNeed n b ≤ (s.run.rb[b]).size - (s.se.rb[b]).fill
    (c.state = .idle → s.run.wellFormed n = true → Completes (.scStartArm q x) s [.frm, .auth, .se] fun t =>
      t.se = { s.se with ch := s.se.ch.set (hostChan n) { c with state := .armed } } ∧ say 0x03 t) ∧
    (c.state ≠ .idle ∨ s.run.wellFormed n = false → turned (.scStartArm q x)) ∧
    (c.state = .idle ∨ c.state = .armed → s.run.wellFormed n = true → roomy → dCrcOk (s.run.slot s.run.first[n]) = true →
      Completes (.scStartRunNow q x) s [.frm, .auth, .se] fun t => begun t ∧ say 0x03 t) ∧
    (∀ d rest, c.state = .idle → s.run.wellFormed n = true → ¬roomy → s.run.descs n = d :: rest →
      Completes (.scStartRunNow q x) s [.frm, .auth, .se] fun t =>
        t.scOf n = { c with state := if dRearm d then .armed else .idle, skip := c.skip.raise, failUp := none } ∧
        (∀ b : Fin 4, t.se.rb[b] = { s.se.rb[b] with
          ovf := (s.se.rb[b]).ovf.raiseIf (decide ((s.run.rb[b]).size - (s.se.rb[b]).fill < s.run.ringNeed n b)) }) ∧ say 0x03 t) ∧
    (¬(c.state = .idle ∨ c.state = .armed) ∨ s.run.wellFormed n = false → turned (.scStartRunNow q x)) ∧
    (c.state ≠ .halt → turned (.scStartResume q x) ∧ turned (.scStartRestart q x)) ∧
    (c.state = .halt → c.ecode = 1 → s.snapLeft n c.cur = false → Completes (.scStartResume q x) s [.frm, .auth, .se] fun t =>
      (t.scOf n).state = .run ∧ (t.scOf n).cur = c.cur ∧ (t.scOf n).offset = c.offset ∧ (t.scOf n).ecode = 0 ∧ (t.scOf n).retries = 0 ∧
      say 0x03 t) ∧
    (c.state = .halt → s.snapLeft n c.cur = true → (∀ h ∈ s.snap.hist, ¬(some h.slot = c.snapSlot ∧ h.bidx = c.snapBidx)) →
      Completes (.scStartResume q x) s [.frm, .auth, .se] fun t => (t.scOf n).state = .halt ∧ (t.scOf n).ecode = 3 ∧ say 0x03 t) ∧
    (c.state = .halt → roomy → dCrcOk (s.run.slot s.run.first[n]) = true →
      Completes (.scStartRestart q x) s [.frm, .auth, .se] fun t => begun t ∧ say 0x03 t) ∧
    (Completes (.scStopChainEnd q x) s [.frm, .auth, .se] fun t =>
      t.se = { s.se with ch := s.se.ch.set (hostChan n) { c with state := if c.state = .run ∨ c.state = .stopping then .stopping else .idle } } ∧
      say 0x04 t) ∧
    (c.state = .idle ∨ c.state = .armed ∨ c.state = .halt → Completes (.scStopBurstEnd q x) s [.frm, .auth, .se] fun t =>
      t.scOf n = { c with state := .idle, failUp := none } ∧ say 0x04 t) ∧
    (c.state = .run ∨ c.state = .stopping → Completes (.scStopBurstEnd q x) s [.clk, .frm, .auth, .se, .mem, .free] fun t =>
      (t.scOf n).state = .idle ∧ (t.scOf n).doneEvt = c.doneEvt ∧ t.se.rb = s.se.rb ∧
      (∀ m : Fin 16, m ≠ hostChan n → t.se.ch[m] = s.se.ch[m]) ∧ say 0x04 t)) ∧
  (∀ (q : Req) (x count : Byte) (s : State), s.hears q = true →
    (15 < x.toNat ∨ count.toNat = 0 ∨ 16 < x.toNat + count.toNat → Completes (.scStatus q x count) s [.frm, .auth] fun t =>
      Answered q true 0x05 .badParam [] s t) ∧
    (x.toNat ≤ 15 → 1 ≤ count.toNat → x.toNat + count.toNat ≤ 16 → Completes (.scStatus q x count) s [.frm, .auth] fun t =>
      ∃ d : List Byte, d.length = 12 * count.toNat + 64 ∧ Answered q true 0x05 .ok d s t ∧
        (∀ (n : Fin 16) (i : Nat), n.val = x.toNat + i → i < count.toNat → let c := s.se.ch[n]
          fieldAt d (12 * i) 1 = n.val ∧ fieldAt d (12 * i + 1) 1 = c.state.code ∧ fieldAt d (12 * i + 2) 1 = c.cur % 256 ∧
            fieldAt d (12 * i + 3) 1 = c.ecode % 256 ∧ fieldAt d (12 * i + 8) 4 = c.eaddr % 2 ^ 32) ∧
        ∀ b : Fin 4, let o := 12 * count.toNat + 16 * b.val
          fieldAt d o 4 = (s.se.rb[b]).wr % 2 ^ 32 ∧ fieldAt d (o + 4) 4 = (s.se.rb[b]).rd % 2 ^ 32 ∧
            fieldAt d (o + 8) 4 = (s.se.rb[b]).fill % 2 ^ 32)) ∧
  ∀ (dt : Nat) (s : State) (n : Fin 8), let c := s.scOf n
    let d := s.curDesc n
    let others := fun (t : State) => ∀ m : Fin 16, m ≠ hostChan n → t.se.ch[m] = s.se.ch[m]
    (∀ (x : Fin 4) (p : ScTimer) (d1 : List Byte) (rest : List (List Byte)), p = s.run.tmr[x] →
      let ct := (s.advance dt).ctUs
      (p.period = 0 → Completes (.streamTimerFire dt x) s [.clk] fun _ => True) ∧
      (1 < p.period → p.phase ≤ ct → 1 < (ct - p.phase) % p.period → Completes (.streamTimerFire dt x) s [.clk] fun _ => True) ∧
      (1 < p.period → p.phase ≤ ct → (ct - p.phase) % p.period = 0 → s.se.tmrLast[x] ≠ some ct → s.run.descs n = d1 :: rest →
        dTrig d1 = 0x10 + x.val → dDmode d1 ≠ 2 → rest = [] → dCrcOk d1 = true →
        (∀ m : Fin 8, m ≠ n → ∀ e ∈ (s.run.descs m).head?, dTrig e ≠ 0x10 + x.val) →
        (c.state = .armed → Completes (.streamTimerFire dt x) s [.clk, .se] fun t => (t.scOf n).state = .run ∧
          (t.scOf n).cur = s.run.first[n] ∧ (t.scOf n).trigUp = s.clk.upNs + dt ∧
          (∀ h, s.snap.hist.head? = some h → (t.scOf n).snapSlot = some h.slot ∧ (t.scOf n).snapBidx = h.bidx) ∧ others t) ∧
        (c.state = .run → Completes (.streamTimerFire dt x) s [.clk, .se] fun t => t.scOf n = { c with trigMiss := c.trigMiss.raise } ∧ others t) ∧
        (c.state = .idle ∨ c.state = .halt ∨ c.state = .stopping → Completes (.streamTimerFire dt x) s [.clk, .se] fun t =>
          t.scOf n = c ∧ others t))) ∧
    (∀ k : Fin 16, k.val < 8 → Completes (.descriptorDone dt k) s [.clk] (fun _ => True) ∧ Completes (.burstRetry dt k) s [.clk] (fun _ => True) ∧
      Completes (.snapDeadline dt k) s [.clk] (fun _ => True) ∧ ∀ o a, Completes (.burstBusError dt k o a) s [.clk] fun _ => True) ∧
    (c.state = .idle ∨ c.state = .armed ∨ c.state = .halt → Completes (.descriptorDone dt (hostChan n)) s [.clk] (fun _ => True) ∧
      Completes (.burstRetry dt (hostChan n)) s [.clk] (fun _ => True) ∧ Completes (.snapDeadline dt (hostChan n)) s [.clk] (fun _ => True) ∧
      ∀ o a, Completes (.burstBusError dt (hostChan n) o a) s [.clk] fun _ => True) ∧
    (c.state = .run → c.failUp = none → s.snapLeft n c.cur = false → memWf s.mem = true → dSmode d = 0 → dDmode d = 0 →
      0x10070000 ≤ dSrc d → dSrc d + dLen d ≤ 0x10080000 → c.offset = 0 →
      let moved := fun (t : State) => memWf t.mem = true ∧ ∀ x, memGet t.mem x =
        (if dDst d ≤ x ∧ x < dDst d + dLen d then memGet s.mem (dSrc d + (x - dDst d)) else memGet s.mem x)
      (dNext d ≠ 0xFF → dCrcOk (s.run.slot (dNext d)) = true → Completes (.descriptorDone dt (hostChan n)) s [.clk, .se, .mem] fun t =>
        moved t ∧ (t.scOf n).state = .run ∧ (t.scOf n).cur = dNext d ∧ (t.scOf n).offset = 0 ∧ others t ∧ t.se.rb = s.se.rb) ∧
      (dNext d ≠ 0xFF → dCrcOk (s.run.slot (dNext d)) = false → Completes (.descriptorDone dt (hostChan n)) s [.clk, .se, .mem] fun t =>
        moved t ∧ (t.scOf n).state = .halt ∧ (t.scOf n).ecode = 2 ∧ (t.scOf n).err = c.err.raise ∧ others t ∧ t.se.rb = s.se.rb) ∧
      (dNext d = 0xFF → c.wrPend = Vector.replicate 4 0 → c.rdPend = Vector.replicate 4 0 →
        (∀ m : Fin 8, ∀ e ∈ (s.run.descs m).head?, dTrig e ≠ 0x48 + n.val) →
        Completes (.descriptorDone dt (hostChan n)) s [.clk, .se, .mem] fun t => moved t ∧ (t.scOf n).doneEvt = c.doneEvt.raise ∧
          (t.scOf n).state = (if ∃ e ∈ (s.run.descs n).head?, dRearm e = true then .armed else .idle) ∧ others t ∧ t.se.rb = s.se.rb)) ∧
    (∀ b : Fin 4, c.state = .run → c.failUp = none → s.snapLeft n c.cur = false → dSmode d = 0 → dDmode d = 2 → dDrb d = b → c.offset = 0 → 0 < dLen d →
      0x10070000 ≤ dSrc d → dSrc d + dLen d ≤ 0x10080000 → dNext d = 0xFF → c.wrPend = Vector.replicate 4 0 →
      c.rdPend = Vector.replicate 4 0 → let r := s.se.rb[b]
      let g := s.run.rb[b]
      0 < g.size → (∀ m : Fin 8, (s.scOf m).state ≠ .armed) → (∀ e ∈ (s.run.descs n).head?, dRearm e = false) →
      Completes (.descriptorDone dt (hostChan n)) s [.clk, .se, .mem] fun t =>
        (t.se.rb[b]).wr = (r.wr + dLen d) % g.size ∧ (t.se.rb[b]).rd = r.rd % g.size ∧ (t.se.rb[b]).fill = r.fill + dLen d ∧
        (t.se.rb[b]).hiEvt = r.hiEvt.raiseIf (decide (r.fill < g.hi ∧ g.hi ≤ r.fill + dLen d)) ∧
        (∀ e : Fin 4, e ≠ b → t.se.rb[e] = s.se.rb[e]) ∧ (t.scOf n).state = .idle ∧ (t.scOf n).doneEvt = c.doneEvt.raise) ∧
    (∀ (a : Nat), c.state = .run → c.failUp = none → s.snapLeft n c.cur = false → c.offset < dLen d → wordsOnly d = false →
      (c.retries < dRetry d → Completes (.burstBusError dt (hostChan n) c.offset a) s [.clk, .se, .mem, .free] fun t =>
        (t.scOf n).state = .run ∧ (t.scOf n).failUp = some (s.clk.upNs + dt) ∧ (t.scOf n).retries = c.retries ∧ (t.scOf n).err = c.err ∧ others t) ∧
      (dRetry d ≤ c.retries → Completes (.burstBusError dt (hostChan n) c.offset a) s [.clk, .se, .mem, .free] fun t =>
        (t.scOf n).state = .halt ∧ (t.scOf n).ecode = 1 ∧ (t.scOf n).eaddr = a ∧ (t.scOf n).err = c.err.raise ∧ others t ∧ t.se.rb = s.se.rb)) ∧
    (∀ u, c.state = .run → c.failUp = some u → s.snapLeft n c.cur = false →
      (u + 1000 ≤ s.clk.upNs + dt → Completes (.burstRetry dt (hostChan n)) s [.clk, .se] fun t =>
        t.scOf n = { c with failUp := none, retries := c.retries + 1 } ∧ others t) ∧
      (u ≤ s.clk.upNs + dt → s.clk.upNs + dt < u + 1000 → Completes (.burstRetry dt (hostChan n)) s [.clk] fun _ => True)) ∧
    (c.state = .run → s.snapLeft n c.cur = true → c.trigUp + 20000 ≤ s.clk.upNs + dt →
      Completes (.snapDeadline dt (hostChan n)) s [.clk, .se, .mem, .free] fun t => (t.scOf n).state = .halt ∧ (t.scOf n).ecode = 3 ∧
        (t.scOf n).err = c.err.raise ∧ t.se.rb = s.se.rb ∧ others t) ∧
    (c.state = .run → s.snapLeft n c.cur = true → c.trigUp ≤ s.clk.upNs + dt → s.clk.upNs + dt < c.trigUp + 20000 →
      Completes (.snapDeadline dt (hostChan n)) s [.clk] fun _ => True)
/-! ### Firmware update (chapter 18) -/

/-- R742 to R744: what one delta operation yields, from the base image and the stream. -/
def deltaRules : Prop :=
  ∀ (base : Nat → Byte) (len room ofs n : Nat) (rest : List Byte), ofs < 2 ^ 32 → n < 65536 →
    deltaOp base len room (0 :: rest) = .fin ∧
    (∀ c : Byte, 4 < c.toNat → deltaOp base len room (c :: rest) = .bad 4) ∧
    (1 ≤ n → n ≤ room → ofs + n ≤ len →
      deltaOp base len room (1 :: leBytes 4 ofs ++ leBytes 4 n ++ rest) = .out ((List.range n).map fun i => base (ofs + i)) 9) ∧
    (1 ≤ n → n ≤ room → len < ofs + n → deltaOp base len room (1 :: leBytes 4 ofs ++ leBytes 4 n ++ rest) = .bad 5) ∧
    (n = 0 ∨ room < n → deltaOp base len room (1 :: leBytes 4 ofs ++ leBytes 4 n ++ rest) = .bad 4) ∧
    (∀ d : List Byte, d.length = n → 1 ≤ n → n ≤ 4096 → n ≤ room → ofs + n ≤ len →
      deltaOp base len room (2 :: leBytes 4 ofs ++ leBytes 2 n ++ d ++ rest) =
        .out ((List.range n).map fun i => base (ofs + i) + d.getD i 0) (7 + n)) ∧
    (∀ d : List Byte, d.length = n → 1 ≤ n → n ≤ 4096 → n ≤ room → deltaOp base len room (3 :: leBytes 2 n ++ d ++ rest) = .out d (3 + n)) ∧
    (4096 < n → deltaOp base len room (3 :: leBytes 2 n ++ rest) = .bad 4) ∧
    ∀ v : Byte, 1 ≤ n → n ≤ room → deltaOp base len room (4 :: leBytes 4 n ++ v :: rest) = .out (List.replicate n v) 6

/-- R738, R742 to R764: a transfer from UPDATE_BEGIN to VERIFIED. Every check in its order, SIG by its arithmetic (log entry 142); an erase of the whole target bank, never another;
a repeat compared byte for byte; no word programmed that is not erased; what ends tainted or aborted leaves an EMPTY bank.
That the row of an opcode acts at once is the model's choice (log entry 69). -/
def Obligations.UpdateTransfer : Prop :=
  (∀ (q : Req) (p : List Byte) (s : State), s.obeys q = true →
    let h := p.drop 4
    let k := Skein.ofBytes h
    let u := s.upd
    let replace := fieldAt p 0 1 = 1
    let form := fieldAt p 0 1 ≤ 1 ∧ fieldAt p 1 3 = 0 ∧ skeinOk h = true
    let may := (u.state = .idle ∨ u.state = .tainted ∨ u.state = .committed ∨ (u.state = .receiving ∨ u.state = .verified) ∧ replace) ∧
      s.ho.phase = .none
    let no := fun (st : Status) => Completes (.updateBegin q p) s [.frm, .auth] fun t => Answered q true 0x10 st [] s t
    (p.length ≠ 260 → no .badLength) ∧
    (p.length = 260 → ¬form → no .badParam) ∧
    (p.length = 260 → form → ¬may → no .badState) ∧
    (p.length = 260 → form → may → 4 ≤ s.pendingOps → no .busy) ∧
    (p.length = 260 → form → may → s.pendingOps < 4 → skeinBinds h = false → no .bindingMismatch) ∧
    (p.length = 260 → form → may → s.pendingOps < 4 → skeinBinds h = true → s.therm.shut = true ∨ s.pow.vlOk = false → no .badState) ∧
    (p.length = 260 → form → may → s.pendingOps < 4 → skeinBinds h = true → s.therm.shut = false → s.pow.vlOk = true →
      Completes (.updateBegin q p) s [.frm, .auth, .log, .upd] fun t => t.upd.state = .erasing ∧ t.upd.hdr = k ∧ t.upd.header = h ∧
        t.upd.ticket = s.frm.nextTicket ∧ t.upd.tid = nextTid u.tidCnt ∧ t.upd.tidCnt = nextTid u.tidCnt ∧ t.upd.checked = false ∧
        t.upd.ledger = [] ∧ t.upd.queue = [] ∧ t.upd.outLen = 0 ∧ t.upd.repeatCnt = u.repeatCnt ∧
        (¬(u.state = .receiving ∨ u.state = .verified) → t.upd.dir = u.dir ∧ t.upd.bank = s.targetBank k.typ ∧ t.log = s.log) ∧
        (u.state = .receiving ∨ u.state = .verified → (t.upd.dir[s.xferBank]).state = .empty ∧
          (t.upd.dir[s.xferBank]).erases = (u.dir[s.xferBank]).erases ∧ ∀ i : Fin 8, i ≠ s.xferBank → t.upd.dir[i] = u.dir[i]) ∧
        Answered q true 0x10 .acceptedPending (leBytes 2 s.frm.nextTicket ++ leBytes 2 ((70 + eraseMs k.typ) / 10)) s t)) ∧
  (∀ (dt : Nat) (blank : Bool) (s : State),
    let u := s.upd
    let sig := skeinSigned u.header
    let k := u.hdr
    let b := s.xferBank
    let base := s.bankOf k.typ.ix
    let done := fun (st : Status) (data : List Byte) (t : State) => t.frm = ((s.advance dt).finish u.ticket st data).frm
    let failed := fun (st : Status) => Completes (.updateBeginChecked dt) s [.clk, .frm, .log, .upd] fun t =>
      t.upd.state = .idle ∧ t.upd.dir = u.dir ∧ t.upd.tidCnt = u.tidCnt ∧ done st [] t
    (u.state ≠ .erasing ∨ u.checked = true → Completes (.updateBeginChecked dt) s [.clk] fun _ => True) ∧
    (u.state ≠ .erasing ∨ u.checked = false → Completes (.flashEraseDone dt blank) s [.clk] fun _ => True) ∧
    (u.state = .erasing → u.checked = false → u.abortDue = false →
      (sig = false → failed .signatureFail) ∧
      (sig = true → k.epoch < u.fused → failed .versionRollback) ∧
      (∀ i, sig = true → u.fused ≤ k.epoch → base = some i → k.version < (u.dir[i]).version → k.downgrade = false →
        failed .versionRollback) ∧
      (∀ i, sig = true → u.fused ≤ k.epoch → base = some i → (u.dir[i]).version ≤ k.version ∨ k.downgrade = true → k.delta = true →
        (u.dir[i]).version ≠ k.srcVer → failed .incompatible) ∧
      (sig = true → u.fused ≤ k.epoch → (∀ i, base = some i → (u.dir[i]).version ≤ k.version ∨ k.downgrade = true) → k.delta = false →
        s.admits k.typ k.minver k.version = false → failed .incompatible) ∧
      (sig = true → u.fused ≤ k.epoch → (∀ i, base = some i → (u.dir[i]).version ≤ k.version ∨ k.downgrade = true) → k.delta = false →
        s.admits k.typ k.minver k.version = true →
        Completes (.updateBeginChecked dt) s [.clk, .sys, .log, .upd, .mem] fun t => t.upd.state = .erasing ∧ t.upd.checked = true ∧
          (t.upd.dir[b]).state = .transfer ∧ (t.upd.dir[b]).erases = inc32 (u.dir[b]).erases ∧ (t.upd.dir[b]).version = k.version ∧
          (∀ i : Fin 8, i ≠ b → t.upd.dir[i] = u.dir[i]) ∧
          (∀ x, bankBase b.val ≤ x → x < bankBase b.val + bankSize b.val → memGet t.mem x = 0xFF) ∧
          (∀ x, x < bankBase b.val ∨ bankBase b.val + bankSize b.val ≤ x → memGet t.mem x = memGet s.mem x) ∧
          t.sys = { s.sys with stbyUp := if k.typ = .ctrl then false else s.sys.stbyUp })) ∧
    (u.state = .erasing → u.checked = true → u.abortDue = false →
      (blank = true → Completes (.flashEraseDone dt blank) s [.clk, .frm, .upd] fun t =>
        t.upd = { u with state := .receiving, ticket := 0 } ∧
        done .ok (leBytes 2 u.tid ++ leBytes 1 k.typ.code ++ leBytes 1 (if k.delta then 1 else 0) ++ leBytes 1 u.bank ++ leBytes 1 0 ++
          leBytes 4 k.imgLen ++ leBytes 4 k.payLen) t) ∧
      (blank = false → Completes (.flashEraseDone dt blank) s [.clk, .frm, .upd] fun t => t.upd.state = .idle ∧
        (t.upd.dir[b]).state = .empty ∧ (t.upd.dir[b]).erases = (u.dir[b]).erases ∧ (∀ i : Fin 8, i ≠ b → t.upd.dir[i] = u.dir[i]) ∧
        done .busError [] t)) ∧
    (u.state = .erasing → u.checked = true → u.abortDue = true → Completes (.flashEraseDone dt blank) s [.clk, .frm, .log, .upd] fun t =>
      t.upd.state = .idle ∧ t.upd.reason = 8 ∧ (t.upd.dir[b]).state = .empty ∧ done .badState [] t)) ∧
  deltaRules ∧
  (∀ (q : Req) (p : List Byte) (s : State), s.obeys q = true →
    let u := s.upd
    let ofs := fieldAt p 4 4
    let data := p.drop 8
    let n := data.length
    let b := s.xferBank
    let a := bankBase b.val + ofs
    let no := fun (st : Status) => Completes (.updateBlock q p) s [.frm, .auth] fun t => Answered q true 0x11 st [] s t
    let yes := fun (rfl : Byte) (t : State) => Answered q true 0x11 .ok (leBytes 2 u.tid ++ leBytes 4 ofs ++ leBytes 2 n ++ [rfl]) s t
    let tainted := fun (reason : Nat) (st : Status) => Completes (.updateBlock q p) s [.frm, .auth, .log, .upd] fun t =>
      t.upd.state = .tainted ∧ t.upd.reason = reason ∧ t.upd.taint = u.taint.raise ∧ t.upd.queue = [] ∧ t.upd.ledger = u.ledger ∧
        (t.upd.dir[b]).state = .empty ∧ (∀ i : Fin 8, i ≠ b → t.upd.dir[i] = u.dir[i]) ∧ Answered q true 0x11 st [] s t
    let form := 4 ≤ n ∧ n ≤ 1016 ∧ n % 4 = 0
    let named := fieldAt p 0 2 = u.tid ∧ fieldAt p 2 2 = 0 ∧ ofs % 4 = 0 ∧ ofs + n ≤ u.hdr.payLen
    let overlaps := ∃ x ∈ u.ledger, x.1 < ofs + n ∧ ofs < x.2
    let inside := ∃ x ∈ u.ledger, x.1 ≤ ofs ∧ ofs + n ≤ x.2
    (¬form → no .badLength) ∧
    (form → ¬named → no .badParam) ∧
    (form → named → u.state = .tainted → no .tainted) ∧
    (form → named → u.state ≠ .tainted → u.state ≠ .receiving → no .badState) ∧
    (form → named → u.state = .receiving → 131072 < (u.queue.map fun x => x.2.length).sum → no .busy) ∧
    (form → named → u.state = .receiving → (u.queue.map fun x => x.2.length).sum ≤ 131072 →
      (overlaps → ¬inside → no .badParam) ∧
      (inside → u.hdr.delta = false → u.queue = [] →
        (memSpan s.mem a n = data → Completes (.updateBlock q p) s [.frm, .auth, .upd] fun t =>
          t.upd = { u with repeatCnt := inc16 u.repeatCnt } ∧ yes 1 t) ∧
        (memSpan s.mem a n ≠ data → tainted 1 .tainted)) ∧
      (inside → u.hdr.delta = true → ofs < ledgerEnd u.ledger - u.buf.length → no .badParam) ∧
      (¬overlaps → u.hdr.delta = true → ofs ≠ ledgerEnd u.ledger → no .badParam) ∧
      (¬overlaps → ¬inside → u.hdr.delta = false → u.queue = [] → let led := ledgerAdd u.ledger (ofs, ofs + n)
        (64 < led.length → no .badState) ∧
        (led.length ≤ 64 → (∃ i, i < n ∧ memGet s.mem (a + i) ≠ 0xFF) → tainted 2 .notErased) ∧
        (led.length ≤ 64 → (∀ i, i < n → memGet s.mem (a + i) = 0xFF) → Completes (.updateBlock q p) s [.frm, .auth, .se, .upd] fun t =>
          t.upd = { u with queue := [(a, data)], ledger := led, buf := [] } ∧ yes 0 t)) ∧
      (¬overlaps → ¬inside → u.hdr.delta = true → ofs = ledgerEnd u.ledger → ∀ reason, (s.deltaBlock data).2.2 = some reason →
        tainted reason .badParam))) ∧
  (∀ (dt a : Nat) (w rest : List Byte) (s : State), s.upd.state = .receiving → s.upd.queue = [(a, w ++ rest)] → w.length = 4 →
    rest.length % 4 = 0 → memWf s.mem = true →
    let put := fun (t : State) => memWf t.mem = true ∧ ∀ x, memGet t.mem x = (if a ≤ x ∧ x < a + 4 then w.getD (x - a) 0 else memGet s.mem x)
    (Completes (.programComplete dt 1 true) s [.clk, .upd, .mem] fun t => put t ∧
      t.upd = { s.upd with queue := if rest = [] then [] else [(a + 4, rest)], outLen := s.upd.outLen + 4 }) ∧
    (Completes (.programComplete dt 1 false) s [.clk, .log, .upd, .mem] fun t => t.upd.state = .tainted ∧ t.upd.reason = 3 ∧ t.upd.queue = [] ∧
      (t.upd.dir[s.xferBank]).state = .empty ∧ ∀ x, x < a ∨ a + 4 ≤ x → memGet t.mem x = memGet s.mem x)) ∧
  (∀ (dt words : Nat) (ok : Bool) (s : State), s.upd.state ≠ .receiving → s.upd.state ≠ .verifying →
    Completes (.programComplete dt words ok) s [.clk] fun _ => True) ∧
  (∀ (q : Req) (tid : Half) (s : State), s.obeys q = true →
    let u := s.upd
    let whole := u.ledger = [(0, u.hdr.payLen)] ∧ (u.hdr.delta = true → u.delta.ended = true)
    let no := fun (st : Status) => Completes (.updateVerify q tid) s [.frm, .auth] fun t => Answered q true 0x12 st [] s t
    (4 ≤ s.pendingOps → no .busy) ∧
    (s.pendingOps < 4 → tid.toNat ≠ u.tid → no .badParam) ∧
    (s.pendingOps < 4 → tid.toNat = u.tid → u.state = .tainted → no .tainted) ∧
    (s.pendingOps < 4 → tid.toNat = u.tid → u.state ≠ .tainted → u.state ≠ .receiving ∨ ¬whole → no .badState) ∧
    (tid.toNat = u.tid → u.state = .receiving → whole → s.pendingOps < 4 → Completes (.updateVerify q tid) s [.frm, .auth, .upd] fun t =>
      t.upd = { u with state := .verifying, ticket := s.frm.nextTicket } ∧ ∃ est, Answered q true 0x12 .acceptedPending
        (leBytes 2 s.frm.nextTicket ++ leBytes 2 est) s t) ∧
    (u.state = .idle ∨ u.state = .committed → Completes (.updateAbort q tid) s [.frm, .auth] fun t => Answered q true 0x14 .badState [] s t) ∧
    (u.state ≠ .idle → u.state ≠ .committed → tid.toNat ≠ u.tid → tid.toNat ≠ 0xFFFF → Completes (.updateAbort q tid) s [.frm, .auth] fun t =>
      Answered q true 0x14 .badParam [] s t) ∧
    (u.state = .erasing ∨ u.state = .verifying → tid.toNat = u.tid ∨ tid.toNat = 0xFFFF → Completes (.updateAbort q tid) s [.frm, .auth, .upd]
      fun t => t.upd = { u with abortDue := true } ∧ Answered q true 0x14 .ok (leBytes 2 u.tid) s t) ∧
    (u.state = .receiving ∨ u.state = .verified ∨ u.state = .tainted → tid.toNat = u.tid ∨ tid.toNat = 0xFFFF →
      Completes (.updateAbort q tid) s [.frm, .auth, .log, .upd] fun t => t.upd.state = .idle ∧ t.upd.reason = 8 ∧ t.upd.queue = [] ∧
        (t.upd.dir[s.xferBank]).state = .empty ∧ (∀ i : Fin 8, i ≠ s.xferBank → t.upd.dir[i] = u.dir[i]) ∧
        Answered q true 0x14 .ok (leBytes 2 u.tid) s t)) ∧
  (∀ (dt : Nat) (s : State), let u := s.upd
    let b := s.xferBank
    let same := sha256 (s.bankSpan b 0 u.hdr.imgLen) = u.hdr.imgHash
    (u.state ≠ .verifying ∨ u.queue ≠ [] → Completes (.verifyDone dt) s [.clk] fun _ => True) ∧
    (u.state = .verifying → u.queue = [] → u.abortDue = false →
      (same → Completes (.verifyDone dt) s [.clk, .frm, .log, .upd] fun t => t.upd.state = .verified ∧ t.upd.ticket = 0 ∧
        t.upd.dir = vmod u.dir b (fun d => { d with state := .verified }) ∧
        t.frm = ((s.advance dt).finish u.ticket .ok (leBytes 2 u.tid ++ leBytes 4 u.hdr.imgLen)).frm) ∧
      (¬same → Completes (.verifyDone dt) s [.clk, .frm, .log, .upd] fun t => t.upd.state = .tainted ∧ t.upd.reason = 6 ∧
        t.upd.vfail = u.vfail.raise ∧ t.upd.taint = u.taint.raise ∧ (t.upd.dir[b]).state = .empty ∧
        t.frm = ((s.advance dt).finish u.ticket .signatureFail []).frm))) ∧
  ∀ (q : Req) (s : State), s.hears q = true → let u := s.upd
    Completes (.updateStatus q) s [.frm, .auth] fun t => ∃ d : List Byte, d.length = 26 ∧ Answered q true 0x15 .ok d s t ∧
      fieldAt d 0 1 = u.state.code ∧ fieldAt d 3 1 = u.reason % 256 ∧ fieldAt d 6 2 = u.ticket % 65536 ∧
      (u.state = .idle → fieldAt d 1 2 = 0 ∧ fieldAt d 4 2 = 0 ∧ fieldAt d 8 1 = 0) ∧
      (u.state ≠ .idle → fieldAt d 1 1 = u.hdr.typ.code ∧ fieldAt d 4 2 = u.tid % 65536) ∧
      fieldAt d 9 1 = u.ledger.length % 256 ∧ fieldAt d 10 4 = u.hdr.imgLen % 2 ^ 32 ∧
      fieldAt d 14 4 = (u.ledger.map fun x => x.2 - x.1).sum % 2 ^ 32 ∧ fieldAt d 22 4 = u.outLen % 2 ^ 32

/-! ### Activation, fallback, spore mode (chapter 19) -/

/-- R760, R761, R769 to R776, R787, R788, R790: UPDATE_COMMIT in its order of checks, what it starts for each image type, and the CTRL
handover up to catch-up with its refusal and its abandonments.
That the row of an opcode acts at once is the model's choice (log entry 69). -/
def Obligations.ActivationStarts : Prop :=
  (∀ (q : Req) (tid : Half) (s : State), s.obeys q = true →
    let u := s.upd
    let k := u.hdr
    let b := s.xferBank
    let no := fun (st : Status) => Completes (.updateCommit q tid) s [.frm, .auth] fun t => Answered q true 0x13 st [] s t
    let heat := k.typ = .safe ∧ s.safe.permit = .on
    let may := tid.toNat = u.tid ∧ u.state = .verified ∧ ¬heat ∧ s.admits k.typ k.minver k.version = true ∧ s.ho.phase = .none
    let first := s.pendingOps < 4
    (4 ≤ s.pendingOps → no .busy) ∧
    (first → tid.toNat ≠ u.tid → no .badParam) ∧
    (first → tid.toNat = u.tid → u.state = .tainted → no .tainted) ∧
    (first → tid.toNat = u.tid → u.state ≠ .tainted → u.state ≠ .verified → no .badState) ∧
    (first → tid.toNat = u.tid → u.state = .verified → heat → no .heatActive) ∧
    (first → tid.toNat = u.tid → u.state = .verified → ¬heat → s.admits k.typ k.minver k.version = false → no .incompatible) ∧
    (first → tid.toNat = u.tid → u.state = .verified → ¬heat → s.admits k.typ k.minver k.version = true → s.ho.phase ≠ .none → no .busy) ∧
    (may → s.pendingOps < 4 → Completes (.updateCommit q tid) s [.pow, .ring, .frm, .auth, .inj, .log, .upd, .ho] fun t =>
      t.upd.state = .committed ∧ t.upd.dir = vmod u.dir b (fun d => { d with state := .committed }) ∧ t.ho.phase = .boot ∧
      t.ho.typ = some k.typ ∧ t.ho.tid = u.tid ∧ t.ho.ticket = s.frm.nextTicket ∧ t.ho.applied = s.clk.upNs ∧ t.ho.phaseUp = s.clk.upNs ∧
      t.ho.fallback = s.ho.fallback ∧ t.ho.abandon = s.ho.abandon ∧ t.pow.smUp = (s.pow.smUp && decide (k.typ ≠ .safe)) ∧
      (k.typ = .safe → t.ho.safePath = true) ∧ (k.typ = .port → t.ring.ca.linkDown = true ∧ t.ring.cb.linkDown = true) ∧
      (k.typ ≠ .port → t.ring = s.ring) ∧ (k.typ = .ctrl → t.inj.isOpen = false) ∧ (k.typ ≠ .ctrl → t.inj = s.inj) ∧
      t.ho.calDue = decide (k.typ = .cal) ∧
      Answered q true 0x13 .acceptedPending (leBytes 2 s.frm.nextTicket ++ leBytes 2 (commitEst k.typ)) s t)) ∧
  (∀ (dt pages : Nat) (s : State), let v := s.advance dt
    (s.ho.phase ≠ .boot ∨ s.ho.typ ≠ some .ctrl → (∀ ok, Completes (.handoverBootDone dt ok pages) s [.clk] fun _ => True) ∧
      Completes (.handoverBootTimeout dt) s [.clk] fun _ => True) ∧
    (s.ho.phase = .boot → s.ho.typ = some .ctrl → s.hashPasses s.xferBank = true → s.clk.upNs + dt ≤ s.ho.applied + 400000000 →
      (Completes (.handoverBootDone dt true pages) s [.clk, .sys, .ho] fun t => t.sys = { s.sys with stbyUp := true } ∧
        t.ho = { s.ho with phase := .snapshot, phaseUp := s.clk.upNs + dt, pageMax := min 48 pages }) ∧
      Completes (.handoverBootDone dt false pages) s [.clk, .sys, .frm, .log, .upd, .ho] (Abandoned 3 .incompatible v)) ∧
    (s.ho.phase = .boot → s.ho.typ = some .ctrl → s.ho.applied + 400000000 ≤ s.clk.upNs + dt →
      Completes (.handoverBootTimeout dt) s [.clk, .sys, .frm, .log, .upd, .ho] (Abandoned 2 .badState v)) ∧
    (s.ho.phase = .boot → s.ho.typ = some .ctrl → s.ho.applied ≤ s.clk.upNs + dt → s.clk.upNs + dt < s.ho.applied + 400000000 →
      Completes (.handoverBootTimeout dt) s [.clk] fun _ => True) ∧
    (s.ho.phase = .snapshot ∨ s.ho.phase = .catchup ∧ s.ho.passed = false → s.ho.applied + 2000000000 ≤ s.clk.upNs + dt →
      Completes (.catchupTimeout dt) s [.clk, .sys, .frm, .log, .upd, .ho] (Abandoned 2 .badState v)) ∧
    (s.ho.phase ≠ .snapshot → s.ho.phase ≠ .catchup ∨ s.ho.passed = true → Completes (.catchupTimeout dt) s [.clk] fun _ => True) ∧
    (s.ho.safePath = true → Completes (.estopPathOpen dt) s [.clk, .drv, .fan, .log, .ho] fun t => t.ho = { s.ho with safeTrip := true } ∧
      ∀ n : Fin 32, (t.drv.ch[n]).phase.quiet = true) ∧
    (s.ho.safePath = false → Completes (.estopPathOpen dt) s [.clk] fun _ => True))

/-- R777 to R786, R787 to R793, Table 19.3: the switch, the trial window and its causes of fallback, the fallbacks of each type, the end
of the window with the fuse.
That the row of an opcode acts at once is the model's choice (log entry 69). -/
def Obligations.TrialAndFallback : Prop :=
  (∀ (s : State) (t : Nat), s.ho.typ = some .ctrl →
    (s.ho.phase = .switch → let v := s.hoTick t
      Only [.sys, .log, .cnt, .upd, .ho] s v ∧ v.sys = { s.sys with active := 1 - s.sys.active, stbyUp := true } ∧ v.ho.phase = .trial ∧
        v.ho.passed = false ∧ v.ho.switched = true ∧ v.ho.phaseUp = s.clk.upNs ∧ v.cnt = { s.cnt with handovers := inc32 s.cnt.handovers } ∧
        (v.upd.dir[s.xferBank]).state = .inService ∧ (v.upd.dir[s.xferBank]).trial = true ∧
        ∀ i : Fin 8, i ≠ s.xferBank → v.upd.dir[i] = { s.upd.dir[i] with
          state := if i.val / 2 = s.xferBank.val / 2 ∧ (s.upd.dir[i]).state = .inService then .resident else (s.upd.dir[i]).state }) ∧
    (s.ho.phase = .catchup → s.ho.passed = true → s.ho.ticks = 0 → let v := s.hoTick t
      Only [.ho] s v ∧ v.ho.phase = (if t % 100000 ≠ 0 ∧ (t + 1000) % 100000 ≠ 0 then .switch else .catchup)) ∧
    (s.ho.phase = .catchup → s.ho.passed = false → let v := s.hoTick t
      Only [.ho] s v ∧ v.ho = { s.ho with passed := decide (s.ho.lag ≤ 1), ticks := if s.ho.lag ≤ 1 then 0 else s.ho.ticks }) ∧
    (s.ho.phase = .snapshot → let v := s.hoTick t
      Only [.ho] s v ∧ v.ho.pages = s.ho.pages + 1 ∧ v.ho.phase = (if s.ho.pageMax ≤ s.ho.pages + 1 then .catchup else .snapshot))) ∧
  (∀ (s : State) (c : Nat), s.ho.fbDue = some c → s.ho.typ = some .ctrl → let v := s.hoFallback
    v.sys = { s.sys with active := 1 - s.sys.active, stbyUp := false, missRun := 0 } ∧ v.ho.phase = .none ∧ v.ho.result = 1 ∧
      v.ho.fbCause = c ∧ v.ho.lastFb = c ∧ v.ho.fallback = s.ho.fallback.raise ∧ v.ho.fbDue = none ∧
      ∀ i : Fin 8, let d := s.upd.dir[i]
        (i.val < 2 → d.trial = true → (v.upd.dir[i]).state = .empty) ∧
        (i.val < 2 → d.trial = false → d.state = .resident → v.upd.dir[i] = { d with state := .inService }) ∧
        (2 ≤ i.val → v.upd.dir[i] = d)) ∧
  (∀ (dt : Nat) (s : State), let due := fun (c : Nat) (t : State) =>
      t.ho = { s.ho with phase := .fallback, phaseUp := s.clk.upNs + dt, fbDue := some c }
    (s.ho.phase = .trial → s.ho.typ = some .ctrl →
      (Completes (.selfCheckReport dt true) s [.clk, .ho] fun t => t.ho = { s.ho with passed := true }) ∧
      Completes (.selfCheckReport dt false) s [.clk, .ho] (due 1) ∧ Completes (.sramEccError dt) s [.clk, .ho] (due 5)) ∧
    (s.ho.phase ≠ .trial ∨ s.ho.typ ≠ some .ctrl → (∀ p, Completes (.selfCheckReport dt p) s [.clk] fun _ => True) ∧
      Completes (.sramEccError dt) s [.clk] fun _ => True) ∧
    (s.ho.phase = .trial → s.ho.typ = some .port → s.ho.phaseUp + 100000000 ≤ s.clk.upNs + dt →
      (s.ring.ca.lock = false ∨ s.ring.cb.lock = false → Completes (.portLockTimeout dt) s [.clk, .ho] (due 9)) ∧
      (s.ring.ca.lock = true → s.ring.cb.lock = true → Completes (.portLockTimeout dt) s [.clk] fun _ => True)) ∧
    (s.ho.phase ≠ .trial ∨ s.ho.typ ≠ some .port → Completes (.portLockTimeout dt) s [.clk] fun _ => True) ∧
    (s.ho.phase = .trial → s.ho.typ = some .ctrl → s.ho.passed = false → s.ho.phaseUp + 10000000000 ≤ s.clk.upNs + dt →
      Completes (.trialWindowEnd dt) s [.clk, .ho] (due 2)) ∧
    (∀ b : Fin 8, s.ho.phase = .trial → s.ho.typ = some .ctrl → s.ho.passed = true → s.bankOf 0 = some b →
      s.ho.phaseUp + 10000000000 ≤ s.clk.upNs + dt → Completes (.trialWindowEnd dt) s [.clk, .frm, .log, .upd, .ho] fun t =>
        t.ho.phase = .none ∧ t.ho.result = 0 ∧ t.ho.fbCause = 0 ∧ t.upd.dir = vmod s.upd.dir b (fun d => { d with trial := false }) ∧
        t.upd.fused = (if s.upd.fused < (s.upd.dir[b]).epoch then min 64 (s.upd.dir[b]).epoch else s.upd.fused) ∧
        ∃ data, t.frm = ((s.advance dt).finish s.ho.ticket .ok data).frm) ∧
    (s.ho.phase ≠ .trial ∨ s.ho.phaseUp ≤ s.clk.upNs + dt ∧ s.clk.upNs + dt < s.ho.phaseUp + 10000000000 →
      Completes (.trialWindowEnd dt) s [.clk] fun _ => True) ∧
    (s.ho.typ = some .port → s.ho.phaseUp + 1000000 ≤ s.clk.upNs + dt →
      (s.ho.phase = .boot → Completes (.portReload dt) s [.clk, .ring, .upd, .ho] fun t => t.ho.phase = .trial ∧
        (t.upd.dir[s.xferBank]).state = .inService ∧ (t.upd.dir[s.xferBank]).trial = true ∧ t.ring.ca.lock = false ∧ t.ring.cb.lock = false ∧
        t.ring.addr = s.ring.addr ∧ t.ring.ca.kept = [] ∧ t.ring.cb.kept = [] ∧ t.ring.ca.held = [] ∧ t.ring.cb.held = []) ∧
      (s.ho.phase = .fallback → s.ho.fbDue = none → Completes (.portReload dt) s [.clk, .ring, .frm, .log, .ho] fun t => t.ho.phase = .none ∧
        t.ho.result = 1 ∧ t.ho.lastFb = s.ho.fbCause ∧ t.ho.fallback = s.ho.fallback.raise ∧ t.ring.ca.lock = false ∧ t.ring.cb.lock = false)) ∧
    (s.ho.typ ≠ some .port → Completes (.portReload dt) s [.clk] fun _ => True) ∧
    (∀ ok, s.pow.smUp = true ∨ s.ho.typ ≠ some .safe → Completes (.smRestartDone dt ok) s [.clk] fun _ => True) ∧
    (s.pow.smUp = false → s.ho.typ = some .safe →
      (s.ho.phase = .boot → Completes (.smRestartDone dt true) s [.clk, .pow, .drv, .fan, .safe, .log, .upd, .ho] fun t => t.pow.smUp = true ∧
        t.ho.phase = .trial ∧ t.ho.safePath = false ∧ (t.upd.dir[s.xferBank]).state = .inService ∧ (t.upd.dir[s.xferBank]).trial = true ∧
        t.safe.permit ≠ .on ∧ (s.ho.safeTrip = true → (t.safe.latch[0]).set = true)) ∧
      (s.ho.phase = .boot → Completes (.smRestartDone dt false) s [.clk, .upd, .ho] fun t => t.ho.phase = .fallback ∧ t.ho.fbCause = 7 ∧
        (∀ i : Fin 8, i.val / 2 = 1 → (s.upd.dir[i]).state = .committed → (t.upd.dir[i]).state = .empty)) ∧
      (∀ ok, s.ho.phase = .fallback → Completes (.smRestartDone dt ok) s [.clk, .pow, .frm, .drv, .fan, .safe, .log, .ho] fun t =>
        t.pow.smUp = true ∧ t.ho.phase = .none ∧ t.ho.result = 1 ∧ t.ho.fallback = s.ho.fallback.raise ∧ t.safe.permit ≠ .on ∧
        (ok = false → (t.safe.latch[Latch.smSelf.bit]).set = true) ∧
        (s.ho.safeTrip = true → (t.safe.latch[0]).set = true)))) ∧
  (∀ (q : Req) (s : State), s.hears q = true →
    (Completes (.imageInfo q) s [.frm, .auth] fun t => ∃ d : List Byte, d.length = 168 ∧ Answered q true 0x16 .ok d s t ∧
      fieldAt d 0 1 = s.upd.fused % 256 ∧ fieldAt d 1 1 = 8 ∧ ∀ i : Fin 8, let o := 2 + 20 * i.val
        let b := s.upd.dir[i]
        fieldAt d o 1 = i.val / 2 + 1 ∧ fieldAt d (o + 1) 1 = i.val % 2 ∧ fieldAt d (o + 2) 1 = b.state.code ∧
          bitOf (fieldAt d (o + 3) 1) 0 = b.trial ∧ fieldAt d (o + 4) 4 = b.version % 2 ^ 32 ∧ fieldAt d (o + 8) 1 = b.epoch % 256 ∧
          fieldAt d (o + 12) 4 = b.imgLen % 2 ^ 32 ∧ fieldAt d (o + 16) 4 = b.erases % 2 ^ 32) ∧
    (Completes (.handoverStatus q) s [.frm, .auth] fun t => ∃ d : List Byte, d.length = 22 ∧ Answered q true 0x17 .ok d s t ∧
      fieldAt d 0 1 = s.ho.phase.code ∧ fieldAt d 2 2 = s.ho.tid % 65536 ∧ fieldAt d 4 2 = s.ho.ticket % 65536 ∧
      fieldAt d 6 1 = s.ho.result % 256 ∧ fieldAt d 7 1 = s.ho.fbCause % 256 ∧ fieldAt d 12 2 = s.ho.pages % 65536 ∧
      fieldAt d 14 1 = s.ho.lag % 256 ∧ (s.ho.phase ≠ .trial → fieldAt d 16 2 = 0))) ∧
  ∀ (q : Req) (key : Half) (s : State), s.obeys q = true →
    let no := fun (st : Status) => Completes (.sporeEnter q key) s [.frm, .auth] fun t => Answered q true 0x18 st [] s t
    let busy := s.updOpen = true ∨ s.ho.phase ≠ .none ∨ s.inj.isOpen = true
    (key.toNat ≠ 0x5350 → no .badParam) ∧ (key.toNat = 0x5350 → s.safe.permit = .on → no .heatActive) ∧
    (key.toNat = 0x5350 → s.safe.permit ≠ .on → busy → no .badState) ∧
    (key.toNat = 0x5350 → s.safe.permit ≠ .on → ¬busy → Completes (.sporeEnter q key) s [.frm, .auth] fun t => Answered q true 0x18 .ok [] s t ∧
      (((t.frm.replies[senderIx q.sender]).getLast?).bind Reply.resetAfter) = some 6)

/-! ### What every step keeps -/

/-- Memory keeps its canonical form over every step, from every state that has it: addresses strictly rising, no entry equal to what an
unlisted address reads as (log entry 51). -/
def Obligations.MemoryStaysCanonical : Prop :=
  ∀ s t : State, memWf s.mem = true → step s = .next t → memWf t.mem = true

/-- The state after reset has memory in canonical form with nothing listed, an empty queue, no power on any output, no permit, no session and
the factory configuration. -/
def Obligations.ResetState : Prop :=
  memWf State.reset.mem = true ∧ State.reset.mem = [] ∧ State.reset.pending = [] ∧ State.reset.pow.stage = .off ∧
    State.reset.safe.permit ≠ .on ∧ State.reset.safe.aCmd = false ∧ State.reset.safe.bCmd = false ∧ State.reset.run = RunCfg.factory ∧
    State.reset.frm.holder = .none ∧ State.reset.inj.isOpen = false ∧ State.reset.auth.openS = Vector.replicate 3 none ∧
    (∀ n : Fin 32, (State.reset.drv.ch[n]).phase.quiet = true) ∧ Safety.safe State.reset = true

/-- R573, and R15, R636 and Table 15.6 in part, over every command and state: a permit that a step turns on was turned on by a cycle of SM, with heat enabled,
no latch set, CTRL's request standing, the needle not with lichen mode, CTRL running and no test session open. No host order, stream channel,
injection or control core can turn it on. -/
def Obligations.PermitOnlyFromSm : Prop :=
  ∀ (c : Instr) (rest : List Instr) (s t : State), s.pending = c :: rest → step s = .next t → s.safe.permit ≠ .on → t.safe.permit = .on →
    (∃ dt levels a b, c = .smCycle dt levels a b) ∧ s.pow.smUp = true ∧ t.safe.cfg.heatEn = true ∧ t.safe.anyLatch = false ∧
      t.safe.ctrlReq = true ∧ t.frm.holder ≠ .lichen ∧ t.pow.stage = .running ∧ t.inj.isOpen = false

/-- R14, R777, R781, R785, over every command and state: SYS.CORE_ROLE.ACTIVE changes only at a control-tick boundary at which a handover
switches or a fallback is due, or at a start. -/
def Obligations.ActiveOnlyAtTick : Prop :=
  ∀ (c : Instr) (rest : List Instr) (s t : State), s.pending = c :: rest → step s = .next t → t.sys.active ≠ s.sys.active →
    (∃ l, c = .controlTick l ∧ s.ho.typ = some .ctrl ∧ (s.ho.phase = .switch ∨ s.ho.fbDue ≠ none)) ∨
      t.clk.upNs = 0 ∧ ∃ dt, c = .vsLogicPowerUp dt ∨ c = .vsLogicRecoverInPowerDown dt ∨ c = .fullReset dt ∨ c = .mossShutdown dt ∨
        c = .svcWake dt ∨ (∃ p, c = .wakeSymbolRx dt p) ∨ ∃ r, c = .di00Wake dt r


/-- Every command completes from every state: exec answers a next state and no fault or refusal (NOTES.md, Stops: none), and nothing changes
but the parts that `touches` names for the command. What the command does to those parts is stated command by command above. -/
def Obligations.EveryCommandCompletes : Prop :=
  ∀ (i : Instr) (s : State), Completes i s (touches i) fun t => t.pending = s.pending
end

