-- ==== Sys2Proof/Laws/Memory.lean ====
section
/-! SUPPORT. The memory list: a read after a write, and every operation keeps the canonical form. -/

namespace Sys2Proof.Machine

theorem memWfFrom_le {lo lo' : Nat} {m : List Host.Cell} (h : memWfFrom lo' m = true) (hl : lo ≤ lo') : memWfFrom lo m = true := by
  cases m with
  | nil => rfl
  | cons c r =>
    simp only [memWfFrom, Bool.and_eq_true, decide_eq_true_eq] at h ⊢
    exact ⟨⟨by omega, h.1.2⟩, h.2⟩

/-- An address below every entry reads as unlisted. -/
theorem memGet_below {lo : Nat} {m : List Host.Cell} (h : memWfFrom lo m = true) {a : Nat} (ha : a < lo) : memGet m a = memDefault a := by
  induction m generalizing lo with
  | nil => rfl
  | cons c r ih =>
    simp only [memWfFrom, Bool.and_eq_true, decide_eq_true_eq] at h
    unfold memGet
    rw [if_neg (by simp; omega)]
    exact ih h.2 (by omega)

/-- A write leaves every other address alone. -/
theorem memGet_put_other (m : List Host.Cell) (a x : Nat) (b : Byte) (h : x ≠ a) : memGet (memPut m a b) x = memGet m x := by
  induction m with
  | nil =>
    unfold memPut
    split
    · rfl
    · unfold memGet
      rw [if_neg (by simp; omega)]
      rfl
  | cons c r ih =>
    unfold memPut
    split
    · split
      · rfl
      · conv => lhs; unfold memGet
        rw [if_neg (by simp; omega)]
    · split
      · rename_i h2
        have h3 : c.1 ≠ x := by
          have : c.1 = a := by simpa using h2
          omega
        split
        · conv => rhs; unfold memGet
          rw [if_neg (by simpa using h3)]
        · conv => lhs; unfold memGet
          conv => rhs; unfold memGet
          rw [if_neg (by simp; omega), if_neg (by simpa using h3)]
      · conv => lhs; unfold memGet
        conv => rhs; unfold memGet
        rw [ih]

theorem memGet_put_from {lo : Nat} {m : List Host.Cell} (h : memWfFrom lo m = true) (a : Nat) (b : Byte) : memGet (memPut m a b) a = b := by
  induction m generalizing lo with
  | nil =>
    unfold memPut
    split
    · rename_i e; exact (by simpa using e : b = memDefault a).symm
    · unfold memGet; rw [if_pos (by simp)]
  | cons c r ih =>
    have h' := h
    simp only [memWfFrom, Bool.and_eq_true, decide_eq_true_eq] at h
    unfold memPut
    split
    · split
      · rename_i h1 e
        have : memWfFrom c.1 (c :: r) = true := by
          simp only [memWfFrom, Bool.and_eq_true, decide_eq_true_eq]
          exact ⟨⟨Nat.le_refl _, h.1.2⟩, h.2⟩
        rw [memGet_below this h1]
        exact (by simpa using e : b = memDefault a).symm
      · conv => lhs; unfold memGet
        rw [if_pos (by simp)]
    · split
      · rename_i h1 h2
        have h3 : c.1 = a := by simpa using h2
        split
        · rename_i e
          rw [memGet_below h.2 (by omega)]
          exact (by simpa using e : b = memDefault a).symm
        · conv => lhs; unfold memGet
          rw [if_pos (by simp)]
      · rename_i h1 h2
        conv => lhs; unfold memGet
        rw [if_neg h2]
        exact ih h.2

/-- A read after a write gives what was written. -/
theorem memGet_put_same {m : List Host.Cell} (h : memWf m = true) (a : Nat) (b : Byte) : memGet (memPut m a b) a = b := memGet_put_from h a b

theorem memPut_wf_from {lo : Nat} {m : List Host.Cell} (h : memWfFrom lo m = true) (a : Nat) (b : Byte) (ha : lo ≤ a) : memWfFrom lo (memPut m a b) = true := by
  induction m generalizing lo with
  | nil =>
    unfold memPut
    split
    · rfl
    · rename_i e
      simp only [memWfFrom, Bool.and_eq_true, decide_eq_true_eq]
      exact ⟨⟨ha, by simpa using e⟩, trivial⟩
  | cons c r ih =>
    have h' := h
    simp only [memWfFrom, Bool.and_eq_true, decide_eq_true_eq] at h
    unfold memPut
    split
    · split
      · exact h'
      · rename_i h1 e
        simp only [memWfFrom, Bool.and_eq_true, decide_eq_true_eq]
        exact ⟨⟨ha, by simpa using e⟩, ⟨⟨by omega, h.1.2⟩, h.2⟩⟩
    · split
      · rename_i h1 h2
        have h3 : c.1 = a := by simpa using h2
        split
        · exact memWfFrom_le h.2 (by omega)
        · rename_i e
          simp only [memWfFrom, Bool.and_eq_true, decide_eq_true_eq]
          exact ⟨⟨ha, by simpa using e⟩, by rw [← h3]; exact h.2⟩
      · rename_i h1 h2
        have h3 : ¬ c.1 = a := by simpa using h2
        simp only [memWfFrom, Bool.and_eq_true, decide_eq_true_eq]
        exact ⟨h.1, ih h.2 (by omega)⟩

/-- A write keeps the canonical form. -/
theorem memPut_wf {m : List Host.Cell} (h : memWf m = true) (a : Nat) (b : Byte) : memWf (memPut m a b) = true :=
  memPut_wf_from h a b (Nat.zero_le a)

theorem memPutAll_wf {m : List Host.Cell} (h : memWf m = true) (a : Nat) (p : List Byte) : memWf (memPutAll m a p) = true := by
  induction p generalizing m a with
  | nil => exact h
  | cons b r ih => exact ih (memPut_wf h a b) (a + 1)

/-- What a run of bytes written from `a` on reads as. -/
theorem memGet_putAll {m : List Host.Cell} (h : memWf m = true) (a x : Nat) (p : List Byte) :
    memGet (memPutAll m a p) x = if a ≤ x ∧ x < a + p.length then p.getD (x - a) 0 else memGet m x := by
  induction p generalizing m a with
  | nil => rw [if_neg (by simp)]; rfl
  | cons b r ih =>
    show memGet (memPutAll (memPut m a b) (a + 1) r) x = _
    rw [ih (memPut_wf h a b)]
    by_cases e : x = a
    · subst e
      rw [if_neg (by omega), memGet_put_same h, if_pos (by simp)]
      simp
    · rw [memGet_put_other _ _ _ _ e]
      by_cases g : a + 1 ≤ x ∧ x < a + 1 + r.length
      · rw [if_pos g, if_pos (by simp; omega)]
        have : x - a = (x - (a + 1)) + 1 := by omega
        rw [this]; simp
      · rw [if_neg g, if_neg (by simp; omega)]

theorem memClear_wf_from {lo : Nat} {m : List Host.Cell} (h : memWfFrom lo m = true) (x y : Nat) : memWfFrom lo (memClear m x y) = true := by
  induction m generalizing lo with
  | nil => rfl
  | cons c r ih =>
    simp only [memWfFrom, Bool.and_eq_true, decide_eq_true_eq] at h
    unfold memClear
    rw [List.filter_cons]
    split
    · simp only [memWfFrom, Bool.and_eq_true, decide_eq_true_eq]
      exact ⟨h.1, ih h.2⟩
    · exact memWfFrom_le (ih h.2) (by omega)

/-- Clearing a span keeps the canonical form. -/
theorem memClear_wf {m : List Host.Cell} (h : memWf m = true) (x y : Nat) : memWf (memClear m x y) = true := memClear_wf_from h x y

theorem memGet_clear_from {lo : Nat} {m : List Host.Cell} (h : memWfFrom lo m = true) (x y a : Nat) :
    memGet (memClear m x y) a = if x ≤ a ∧ a < y then memDefault a else memGet m a := by
  induction m generalizing lo with
  | nil => simp [memClear, memGet]
  | cons c r ih =>
    have h' := h
    simp only [memWfFrom, Bool.and_eq_true, decide_eq_true_eq] at h
    have i := ih h.2
    unfold memClear at i ⊢
    rw [List.filter_cons]
    split
    · rename_i k
      simp only [Bool.or_eq_true, decide_eq_true_eq] at k
      conv => lhs; unfold memGet
      by_cases e : c.1 = a
      · rw [if_pos (by simpa using e), if_neg (by omega)]
        unfold memGet; rw [if_pos (by simpa using e)]
      · rw [if_neg (show ¬ ((c.1 == a) = true) by simpa using e), i]
        conv => rhs; unfold memGet
        rw [if_neg (show ¬ ((c.1 == a) = true) by simpa using e)]
    · rename_i k
      simp only [Bool.or_eq_true, decide_eq_true_eq, not_or, Nat.not_lt, Nat.not_le] at k
      rw [i]
      by_cases g : x ≤ a ∧ a < y
      · rw [if_pos g, if_pos g]
      · rw [if_neg g, if_neg g]
        conv => rhs; unfold memGet
        rw [if_neg (by simp; omega)]

/-- What a cleared span reads as. -/
theorem memGet_clear {m : List Host.Cell} (h : memWf m = true) (x y a : Nat) :
    memGet (memClear m x y) a = if x ≤ a ∧ a < y then memDefault a else memGet m a := memGet_clear_from h x y a

end Sys2Proof.Machine
end

