-- ==== Sys2Proof/Laws/Only.lean ====
section
/-! SUPPORT. How `Only` is used: a change of a listed part drops out of the question which parts two states share. -/

namespace Sys2Proof.Machine

theorem Part.same_refl (p : Part) (s : State) : p.same s s := by cases p <;> rfl

theorem Part.same_symm {p : Part} {s t : State} (h : p.same s t) : p.same t s := by cases p <;> exact Eq.symm h

theorem Part.same_trans {p : Part} {s t u : State} (h : p.same s t) (k : p.same t u) : p.same s u := by cases p <;> exact Eq.trans h k

theorem Only.rfl {l : List Part} {s : State} : Only l s s := fun p _ => p.same_refl s

@[simp] theorem Only.refl (l : List Part) (s : State) : Only l s s ↔ True := ⟨fun _ => trivial, fun _ => Only.rfl⟩

theorem Only.trans {l : List Part} {s t u : State} (h : Only l s t) (k : Only l t u) : Only l s u :=
  fun p hp => Part.same_trans (h p hp) (k p hp)

theorem Within.mem {k l : List Part} (h : Within k l) {p : Part} (m : p ∈ k) : p ∈ l := by
  have := List.all_eq_true.1 h p m
  simpa using this

/-- A step that touches only parts of `k` does not matter to `Only l` where `k` lies within `l`. -/
theorem Only.congr {k l : List Part} {s t u : State} (h : Within k l) (c : Only k t u) : Only l s u ↔ Only l s t :=
  ⟨fun a p hp => Part.same_trans (a p hp) (Part.same_symm (c p fun m => hp (h.mem m))),
   fun a p hp => Part.same_trans (a p hp) (c p fun m => hp (h.mem m))⟩

/-- Both branches. -/
theorem Only.ite {l : List Part} {s a b : State} {c : Prop} [Decidable c] (h : Only l s a) (k : Only l s b) : Only l s (if c then a else b) := by
  split <;> assumption

/-- A fold of steps that each touch only parts of `l`. -/
theorem Only.each {α : Type} {l : List Part} {s t : State} {k : List α} {f : State → α → State} (h : Only l s t)
    (c : ∀ u a, Only l u (f u a)) : Only l s (t.each k f) := by
  unfold State.each
  induction k generalizing t with
  | nil => exact h
  | cons a k ih => exact ih (h.trans (c t a))

/-- A fold of answers, each made on the state of the one before. -/
theorem Only.answers {α : Type} {l : List Part} {s : State} {k : List α} {f : Res → α → Res} {r : Res} (h : Only l s r.s)
    (c : ∀ r a, Only l r.s (f r a).s) : Only l s (k.foldl f r).s := by
  induction k generalizing r with
  | nil => exact h
  | cons a k ih => exact ih (h.trans (c r a))

/-! ### What a part that is not listed reads as -/

theorem Only.clk {l : List Part} {s t : State} (h : Only l s t) (m : Part.clk ∉ l := by decide) : t.clk = s.clk := Eq.symm (h .clk m)
theorem Only.sys {l : List Part} {s t : State} (h : Only l s t) (m : Part.sys ∉ l := by decide) : t.sys = s.sys := Eq.symm (h .sys m)
theorem Only.pow {l : List Part} {s t : State} (h : Only l s t) (m : Part.pow ∉ l := by decide) : t.pow = s.pow := Eq.symm (h .pow m)
theorem Only.ring {l : List Part} {s t : State} (h : Only l s t) (m : Part.ring ∉ l := by decide) : t.ring = s.ring := Eq.symm (h .ring m)
theorem Only.frm {l : List Part} {s t : State} (h : Only l s t) (m : Part.frm ∉ l := by decide) : t.frm = s.frm := Eq.symm (h .frm m)
theorem Only.auth {l : List Part} {s t : State} (h : Only l s t) (m : Part.auth ∉ l := by decide) : t.auth = s.auth := Eq.symm (h .auth m)
theorem Only.run {l : List Part} {s t : State} (h : Only l s t) (m : Part.run ∉ l := by decide) : t.run = s.run := Eq.symm (h .run m)
theorem Only.cfgs {l : List Part} {s t : State} (h : Only l s t) (m : Part.cfgs ∉ l := by decide) : t.cfgs = s.cfgs := Eq.symm (h .cfgs m)
theorem Only.fe {l : List Part} {s t : State} (h : Only l s t) (m : Part.fe ∉ l := by decide) : t.fe = s.fe := Eq.symm (h .fe m)
theorem Only.tab {l : List Part} {s t : State} (h : Only l s t) (m : Part.tab ∉ l := by decide) : t.tab = s.tab := Eq.symm (h .tab m)
theorem Only.snap {l : List Part} {s t : State} (h : Only l s t) (m : Part.snap ∉ l := by decide) : t.snap = s.snap := Eq.symm (h .snap m)
theorem Only.loop {l : List Part} {s t : State} (h : Only l s t) (m : Part.loop ∉ l := by decide) : t.loop = s.loop := Eq.symm (h .loop m)
theorem Only.die {l : List Part} {s t : State} (h : Only l s t) (m : Part.die ∉ l := by decide) : t.die = s.die := Eq.symm (h .die m)
theorem Only.drv {l : List Part} {s t : State} (h : Only l s t) (m : Part.drv ∉ l := by decide) : t.drv = s.drv := Eq.symm (h .drv m)
theorem Only.fan {l : List Part} {s t : State} (h : Only l s t) (m : Part.fan ∉ l := by decide) : t.fan = s.fan := Eq.symm (h .fan m)
theorem Only.prog {l : List Part} {s t : State} (h : Only l s t) (m : Part.prog ∉ l := by decide) : t.prog = s.prog := Eq.symm (h .prog m)
theorem Only.conv {l : List Part} {s t : State} (h : Only l s t) (m : Part.conv ∉ l := by decide) : t.conv = s.conv := Eq.symm (h .conv m)
theorem Only.stitch {l : List Part} {s t : State} (h : Only l s t) (m : Part.stitch ∉ l := by decide) : t.stitch = s.stitch := Eq.symm (h .stitch m)
theorem Only.energy {l : List Part} {s t : State} (h : Only l s t) (m : Part.energy ∉ l := by decide) : t.energy = s.energy := Eq.symm (h .energy m)
theorem Only.lich {l : List Part} {s t : State} (h : Only l s t) (m : Part.lich ∉ l := by decide) : t.lich = s.lich := Eq.symm (h .lich m)
theorem Only.therm {l : List Part} {s t : State} (h : Only l s t) (m : Part.therm ∉ l := by decide) : t.therm = s.therm := Eq.symm (h .therm m)
theorem Only.safe {l : List Part} {s t : State} (h : Only l s t) (m : Part.safe ∉ l := by decide) : t.safe = s.safe := Eq.symm (h .safe m)
theorem Only.inj {l : List Part} {s t : State} (h : Only l s t) (m : Part.inj ∉ l := by decide) : t.inj = s.inj := Eq.symm (h .inj m)
theorem Only.log {l : List Part} {s t : State} (h : Only l s t) (m : Part.log ∉ l := by decide) : t.log = s.log := Eq.symm (h .log m)
theorem Only.cnt {l : List Part} {s t : State} (h : Only l s t) (m : Part.cnt ∉ l := by decide) : t.cnt = s.cnt := Eq.symm (h .cnt m)
theorem Only.se {l : List Part} {s t : State} (h : Only l s t) (m : Part.se ∉ l := by decide) : t.se = s.se := Eq.symm (h .se m)
theorem Only.upd {l : List Part} {s t : State} (h : Only l s t) (m : Part.upd ∉ l := by decide) : t.upd = s.upd := Eq.symm (h .upd m)
theorem Only.ho {l : List Part} {s t : State} (h : Only l s t) (m : Part.ho ∉ l := by decide) : t.ho = s.ho := Eq.symm (h .ho m)
theorem Only.dio {l : List Part} {s t : State} (h : Only l s t) (m : Part.dio ∉ l := by decide) : t.dio = s.dio := Eq.symm (h .dio m)
theorem Only.mem {l : List Part} {s t : State} (h : Only l s t) (m : Part.mem ∉ l := by decide) : t.mem = s.mem := Eq.symm (h .mem m)
theorem Only.freeEq {l : List Part} {s t : State} (h : Only l s t) (m : Part.free ∉ l := by decide) : t.free = s.free := Eq.symm (h .free m)
theorem Only.pending {l : List Part} {s t : State} (h : Only l s t) (m : Part.pending ∉ l := by decide) : t.pending = s.pending := Eq.symm (h .pending m)

end Sys2Proof.Machine
end

