-- ==== Sys2Proof/Laws/Touch.lean ====
section
/-! SUPPORT. Which parts of the state each operation may change: one lemma per operation, read as "this operation drops out". -/

namespace Sys2Proof.Machine

theorem Res.bad_only {l : List Part} {s t : State} {st : Status} (h : Only l s t) : Only l s (Res.bad st t).s := h

theorem Res.ok_only {l : List Part} {s t : State} {d : List Byte} (h : Only l s t) : Only l s (Res.ok d t).s := h

theorem Within.trans {j k l : List Part} (h : Within j k) (c : Within k l) : Within j l :=
  List.all_eq_true.2 fun _ m => List.contains_iff_mem.2 (c.mem (h.mem m))

@[simp] theorem State.mClk_only {l : List Part} {s : State} (t : State) (f : Clock → Clock)
    (h : Within [.clk] l) : Only l s (t.mClk f) ↔ Only l s t :=
  Only.congr h (by intro p hp; cases p <;> first | rfl | exact absurd (by simp) hp)

@[simp] theorem State.mSys_only {l : List Part} {s : State} (t : State) (f : Sys → Sys) (h : Within [.sys] l) : Only l s (t.mSys f) ↔ Only l s t :=
  Only.congr h (by intro p hp; cases p <;> first | rfl | exact absurd (by simp) hp)

@[simp] theorem State.mPow_only {l : List Part} {s : State} (t : State) (f : Power → Power)
    (h : Within [.pow] l) : Only l s (t.mPow f) ↔ Only l s t :=
  Only.congr h (by intro p hp; cases p <;> first | rfl | exact absurd (by simp) hp)

@[simp] theorem State.mRing_only {l : List Part} {s : State} (t : State) (f : Ring → Ring)
    (h : Within [.ring] l) : Only l s (t.mRing f) ↔ Only l s t :=
  Only.congr h (by intro p hp; cases p <;> first | rfl | exact absurd (by simp) hp)

@[simp] theorem State.mFrm_only {l : List Part} {s : State} (t : State) (f : Frames → Frames)
    (h : Within [.frm] l) : Only l s (t.mFrm f) ↔ Only l s t :=
  Only.congr h (by intro p hp; cases p <;> first | rfl | exact absurd (by simp) hp)

@[simp] theorem State.mAuth_only {l : List Part} {s : State} (t : State) (f : Auth → Auth)
    (h : Within [.auth] l) : Only l s (t.mAuth f) ↔ Only l s t :=
  Only.congr h (by intro p hp; cases p <;> first | rfl | exact absurd (by simp) hp)

@[simp] theorem State.mRun_only {l : List Part} {s : State} (t : State) (f : RunCfg → RunCfg)
    (h : Within [.run] l) : Only l s (t.mRun f) ↔ Only l s t :=
  Only.congr h (by intro p hp; cases p <;> first | rfl | exact absurd (by simp) hp)

@[simp] theorem State.mCfgs_only {l : List Part} {s : State} (t : State) (f : CfgStore → CfgStore)
    (h : Within [.cfgs] l) : Only l s (t.mCfgs f) ↔ Only l s t :=
  Only.congr h (by intro p hp; cases p <;> first | rfl | exact absurd (by simp) hp)

@[simp] theorem State.mFe_only {l : List Part} {s : State} (t : State) (f : FrontEnd → FrontEnd)
    (h : Within [.fe] l) : Only l s (t.mFe f) ↔ Only l s t :=
  Only.congr h (by intro p hp; cases p <;> first | rfl | exact absurd (by simp) hp)

@[simp] theorem State.mTab_only {l : List Part} {s : State} (t : State) (f : Tables → Tables)
    (h : Within [.tab] l) : Only l s (t.mTab f) ↔ Only l s t :=
  Only.congr h (by intro p hp; cases p <;> first | rfl | exact absurd (by simp) hp)

@[simp] theorem State.mSnap_only {l : List Part} {s : State} (t : State) (f : Snaps → Snaps)
    (h : Within [.snap] l) : Only l s (t.mSnap f) ↔ Only l s t :=
  Only.congr h (by intro p hp; cases p <;> first | rfl | exact absurd (by simp) hp)

@[simp] theorem State.mLoop_only {l : List Part} {s : State} (t : State) (f : Vector LoopOut 8 → Vector LoopOut 8)
    (h : Within [.loop] l) : Only l s (t.mLoop f) ↔ Only l s t :=
  Only.congr h (by intro p hp; cases p <;> first | rfl | exact absurd (by simp) hp)

@[simp] theorem State.mDie_only {l : List Part} {s : State} (t : State) (f : Probes → Probes)
    (h : Within [.die] l) : Only l s (t.mDie f) ↔ Only l s t :=
  Only.congr h (by intro p hp; cases p <;> first | rfl | exact absurd (by simp) hp)

@[simp] theorem State.mDrv_only {l : List Part} {s : State} (t : State) (f : Drivers → Drivers)
    (h : Within [.drv] l) : Only l s (t.mDrv f) ↔ Only l s t :=
  Only.congr h (by intro p hp; cases p <;> first | rfl | exact absurd (by simp) hp)

@[simp] theorem State.mFan_only {l : List Part} {s : State} (t : State) (f : Fans → Fans) (h : Within [.fan] l) : Only l s (t.mFan f) ↔ Only l s t :=
  Only.congr h (by intro p hp; cases p <;> first | rfl | exact absurd (by simp) hp)

@[simp] theorem State.mProg_only {l : List Part} {s : State} (t : State) (f : Prog → Prog)
    (h : Within [.prog] l) : Only l s (t.mProg f) ↔ Only l s t :=
  Only.congr h (by intro p hp; cases p <;> first | rfl | exact absurd (by simp) hp)

@[simp] theorem State.mConv_only {l : List Part} {s : State} (t : State) (f : Conveyor → Conveyor)
    (h : Within [.conv] l) : Only l s (t.mConv f) ↔ Only l s t :=
  Only.congr h (by intro p hp; cases p <;> first | rfl | exact absurd (by simp) hp)

@[simp] theorem State.mStitch_only {l : List Part} {s : State} (t : State) (f : Stitches → Stitches)
    (h : Within [.stitch] l) : Only l s (t.mStitch f) ↔ Only l s t :=
  Only.congr h (by intro p hp; cases p <;> first | rfl | exact absurd (by simp) hp)

@[simp] theorem State.mEnergy_only {l : List Part} {s : State} (t : State) (f : Energy → Energy)
    (h : Within [.energy] l) : Only l s (t.mEnergy f) ↔ Only l s t :=
  Only.congr h (by intro p hp; cases p <;> first | rfl | exact absurd (by simp) hp)

@[simp] theorem State.mLich_only {l : List Part} {s : State} (t : State) (f : Lichen → Lichen)
    (h : Within [.lich] l) : Only l s (t.mLich f) ↔ Only l s t :=
  Only.congr h (by intro p hp; cases p <;> first | rfl | exact absurd (by simp) hp)

@[simp] theorem State.mTherm_only {l : List Part} {s : State} (t : State) (f : Therm → Therm)
    (h : Within [.therm] l) : Only l s (t.mTherm f) ↔ Only l s t :=
  Only.congr h (by intro p hp; cases p <;> first | rfl | exact absurd (by simp) hp)

@[simp] theorem State.mSafe_only {l : List Part} {s : State} (t : State) (f : Safe → Safe)
    (h : Within [.safe] l) : Only l s (t.mSafe f) ↔ Only l s t :=
  Only.congr h (by intro p hp; cases p <;> first | rfl | exact absurd (by simp) hp)

@[simp] theorem State.mInj_only {l : List Part} {s : State} (t : State) (f : Inject → Inject)
    (h : Within [.inj] l) : Only l s (t.mInj f) ↔ Only l s t :=
  Only.congr h (by intro p hp; cases p <;> first | rfl | exact absurd (by simp) hp)

@[simp] theorem State.mLog_only {l : List Part} {s : State} (t : State) (f : Log → Log) (h : Within [.log] l) : Only l s (t.mLog f) ↔ Only l s t :=
  Only.congr h (by intro p hp; cases p <;> first | rfl | exact absurd (by simp) hp)

@[simp] theorem State.mCnt_only {l : List Part} {s : State} (t : State) (f : Counters → Counters)
    (h : Within [.cnt] l) : Only l s (t.mCnt f) ↔ Only l s t :=
  Only.congr h (by intro p hp; cases p <;> first | rfl | exact absurd (by simp) hp)

@[simp] theorem State.mSe_only {l : List Part} {s : State} (t : State) (f : Stream → Stream) (h : Within [.se] l) : Only l s (t.mSe f) ↔ Only l s t :=
  Only.congr h (by intro p hp; cases p <;> first | rfl | exact absurd (by simp) hp)

@[simp] theorem State.mUpd_only {l : List Part} {s : State} (t : State) (f : Update → Update)
    (h : Within [.upd] l) : Only l s (t.mUpd f) ↔ Only l s t :=
  Only.congr h (by intro p hp; cases p <;> first | rfl | exact absurd (by simp) hp)

@[simp] theorem State.mHo_only {l : List Part} {s : State} (t : State) (f : Handover → Handover)
    (h : Within [.ho] l) : Only l s (t.mHo f) ↔ Only l s t :=
  Only.congr h (by intro p hp; cases p <;> first | rfl | exact absurd (by simp) hp)

@[simp] theorem State.mDio_only {l : List Part} {s : State} (t : State) (f : Dio → Dio) (h : Within [.dio] l) : Only l s (t.mDio f) ↔ Only l s t :=
  Only.congr h (by intro p hp; cases p <;> first | rfl | exact absurd (by simp) hp)

@[simp] theorem State.mMem_only {l : List Part} {s : State} (t : State) (f : List Host.Cell → List Host.Cell)
    (h : Within [.mem] l) : Only l s (t.mMem f) ↔ Only l s t :=
  Only.congr h (by intro p hp; cases p <;> first | rfl | exact absurd (by simp) hp)

@[simp] theorem State.mDrvCh_only {l : List Part} {s : State} (t : State) (n : Fin 32) (f : Driver → Driver)
    (h : Within [.drv] l) : Only l s (t.mDrvCh n f) ↔ Only l s t :=
  Only.congr h (by intro p hp; cases p <;> first | rfl | exact absurd (by simp) hp)

@[simp] theorem State.mDiag_only {l : List Part} {s : State} (t : State) (n : Fin 32) (f : Diag → Diag)
    (h : Within [.drv] l) : Only l s (t.mDiag n f) ↔ Only l s t :=
  Only.congr h (by intro p hp; cases p <;> first | rfl | exact absurd (by simp) hp)

@[simp] theorem State.mFanCh_only {l : List Part} {s : State} (t : State) (n : Fin 12) (f : Fan → Fan)
    (h : Within [.fan] l) : Only l s (t.mFanCh n f) ↔ Only l s t :=
  Only.congr h (by intro p hp; cases p <;> first | rfl | exact absurd (by simp) hp)

@[simp] theorem State.mFanGrp_only {l : List Part} {s : State} (t : State) (g : Fin 4) (f : FanGrp → FanGrp)
    (h : Within [.fan] l) : Only l s (t.mFanGrp g f) ↔ Only l s t :=
  Only.congr h (by intro p hp; cases p <;> first | rfl | exact absurd (by simp) hp)

@[simp] theorem State.mLo_only {l : List Part} {s : State} (t : State) (n : Fin 8) (f : LoopOut → LoopOut)
    (h : Within [.loop] l) : Only l s (t.mLo n f) ↔ Only l s t :=
  Only.congr h (by intro p hp; cases p <;> first | rfl | exact absurd (by simp) hp)

@[simp] theorem State.mCh_only {l : List Part} {s : State} (t : State) (n : Fin 64) (f : Chan → Chan)
    (h : Within [.fe] l) : Only l s (t.mCh n f) ↔ Only l s t :=
  Only.congr h (by intro p hp; cases p <;> first | rfl | exact absurd (by simp) hp)

@[simp] theorem State.mGrp_only {l : List Part} {s : State} (t : State) (g : Fin 4) (f : Group → Group)
    (h : Within [.fe] l) : Only l s (t.mGrp g f) ↔ Only l s t :=
  Only.congr h (by intro p hp; cases p <;> first | rfl | exact absurd (by simp) hp)

@[simp] theorem State.mPort_only {l : List Part} {s : State} (t : State) (n : Fin 8) (f : ProbePort → ProbePort)
    (h : Within [.die] l) : Only l s (t.mPort n f) ↔ Only l s t :=
  Only.congr h (by intro p hp; cases p <;> first | rfl | exact absurd (by simp) hp)

@[simp] theorem State.advance_only {l : List Part} {s : State} (t : State) (ns : Nat) (h : Within [.clk] l) :
    Only l s (t.advance ns) ↔ Only l s t := by
  refine Only.congr h ?_
  unfold State.advance
  repeat' first
    | with_reducible exact Only.rfl
    | exact Eq.refl true
    | with_reducible intro _ _
    | with_reducible refine (State.mClk_only _ _ ?_).2 ?_

@[simp] theorem State.drew_only {l : List Part} {s : State} (t : State) (h : Within [.free] l) : Only l s t.drew ↔ Only l s t :=
  Only.congr h (by intro p hp; cases p <;> first | rfl | exact absurd (by simp) hp)

@[simp] theorem State.logAs_only {l : List Part} {s : State} (t : State) (orig : Nat) (cls : Nat) (code : Nat) (inj : Bool) (data : List Byte)
    (h : Within [.log] l) :
    Only l s (t.logAs orig cls code inj data) ↔ Only l s t := by
  refine Only.congr h ?_
  unfold State.logAs
  repeat' first
    | with_reducible exact Only.rfl
    | exact Eq.refl true
    | with_reducible intro _ _
    | with_reducible refine (State.mLog_only _ _ ?_).2 ?_

@[simp] theorem State.logE_only {l : List Part} {s : State} (t : State) (cls : Nat) (code : Nat) (data : List Byte) (h : Within [.log] l) :
    Only l s (t.logE cls code data) ↔ Only l s t := by
  refine Only.congr h ?_
  unfold State.logE
  repeat' first
    | with_reducible exact Only.rfl
    | exact Eq.refl true
    | with_reducible refine Only.ite ?_ ?_
    | with_reducible intro _ _
    | with_reducible refine (State.logAs_only _ _ _ _ _ _ ?_).2 ?_

@[simp] theorem State.detected_only {l : List Part} {s : State} (t : State) (id : Nat) (tgt : Nat) (latch : Nat) (h : Within [.inj, .log] l) :
    Only l s (t.detected id tgt latch) ↔ Only l s t := by
  refine Only.congr h ?_
  unfold State.detected
  repeat' first
    | with_reducible exact Only.rfl
    | exact Eq.refl true
    | with_reducible refine Only.ite ?_ ?_
    | with_reducible intro _ _
    | with_reducible refine (State.logAs_only _ _ _ _ _ _ ?_).2 ?_
    | with_reducible refine (State.mInj_only _ _ ?_).2 ?_
    | split

@[simp] theorem State.logHw_only {l : List Part} {s : State} (t : State) (id : Nat) (tgt : Nat) (cls : Nat) (code : Nat) (data : List Byte)
    (h : Within [.log] l) :
    Only l s (t.logHw id tgt cls code data) ↔ Only l s t := by
  refine Only.congr h ?_
  unfold State.logHw
  repeat' first
    | with_reducible exact Only.rfl
    | exact Eq.refl true
    | with_reducible intro _ _
    | with_reducible refine (State.logAs_only _ _ _ _ _ _ ?_).2 ?_

@[simp] theorem State.logSm_only {l : List Part} {s : State} (t : State) (code : Nat) (inj : Bool) (data : List Byte) (h : Within [.log] l) :
    Only l s (t.logSm code inj data) ↔ Only l s t := by
  refine Only.congr h ?_
  unfold State.logSm
  repeat' first
    | with_reducible exact Only.rfl
    | exact Eq.refl true
    | with_reducible intro _ _
    | with_reducible refine (State.logAs_only _ _ _ _ _ _ ?_).2 ?_

theorem State.withTicket_only {l : List Part} {s t : State} {q : Req} {opc est : Nat} {f : Nat → State → State} (h : Within [.frm] l)
    (hf : ∀ n u, Only l u (f n u)) (c : Only l s t) : Only l s (t.withTicket q opc est f).s := by
  unfold State.withTicket
  split
  · exact c
  · exact ((State.mFrm_only _ _ h).2 c).trans (hf _ _)

@[simp] theorem State.finish_only {l : List Part} {s : State} (t : State) (t' : Nat) (st : Status) (data : List Byte) (h : Within [.frm] l) :
    Only l s (t.finish t' st data) ↔ Only l s t := by
  refine Only.congr h ?_
  unfold State.finish
  repeat' first
    | with_reducible exact Only.rfl
    | exact Eq.refl true
    | with_reducible refine Only.ite ?_ ?_
    | with_reducible intro _ _
    | with_reducible refine (State.mFrm_only _ _ ?_).2 ?_

@[simp] theorem State.pushReply_only {l : List Part} {s : State} (t : State) (who : Sender) (r : Reply) (h : Within [.frm] l) :
    Only l s (t.pushReply who r) ↔ Only l s t := by
  refine Only.congr h ?_
  unfold State.pushReply
  repeat' first
    | with_reducible exact Only.rfl
    | exact Eq.refl true
    | with_reducible intro _ _
    | with_reducible refine (State.mFrm_only _ _ ?_).2 ?_

@[simp] theorem State.countReply_only {l : List Part} {s : State} (t : State) (st : Status) (h : Within [.frm] l) :
    Only l s (t.countReply st) ↔ Only l s t := by
  refine Only.congr h ?_
  unfold State.countReply
  repeat' first
    | with_reducible exact Only.rfl
    | exact Eq.refl true
    | with_reducible intro _ _
    | with_reducible refine (State.mFrm_only _ _ ?_).2 ?_
    | split

@[simp] theorem State.noteValid_only {l : List Part} {s : State} (t : State) (who : Sender) (h : Within [.frm] l) :
    Only l s (t.noteValid who) ↔ Only l s t := by
  refine Only.congr h ?_
  unfold State.noteValid
  repeat' first
    | with_reducible exact Only.rfl
    | exact Eq.refl true
    | with_reducible refine Only.ite ?_ ?_
    | with_reducible intro _ _
    | with_reducible refine (State.mFrm_only _ _ ?_).2 ?_

@[simp] theorem State.holdByHost_only {l : List Part} {s : State} (t : State)  (h : Within [.prog] l) :
    Only l s (t.holdByHost) ↔ Only l s t := by
  refine Only.congr h ?_
  unfold State.holdByHost
  repeat' first
    | with_reducible exact Only.rfl
    | exact Eq.refl true
    | with_reducible intro _ _
    | with_reducible refine (State.mProg_only _ _ ?_).2 ?_

@[simp] theorem State.stitchCancel_only {l : List Part} {s : State} (t : State) (p : Stitch → Bool) (h : Within [.stitch] l) :
    Only l s (t.stitchCancel p) ↔ Only l s t := by
  refine Only.congr h ?_
  unfold State.stitchCancel
  repeat' first
    | with_reducible exact Only.rfl
    | exact Eq.refl true
    | with_reducible refine Only.ite ?_ ?_
    | with_reducible intro _ _
    | with_reducible refine (State.mStitch_only _ _ ?_).2 ?_

@[simp] theorem State.storeTable_only {l : List Part} {s : State} (t : State) (t' : Fin 24) (img : List Byte) (h : Within [.tab] l) :
    Only l s (t.storeTable t' img) ↔ Only l s t := by
  refine Only.congr h ?_
  unfold State.storeTable
  repeat' first
    | with_reducible exact Only.rfl
    | exact Eq.refl true
    | with_reducible intro _ _
    | with_reducible refine (State.mTab_only _ _ ?_).2 ?_

@[simp] theorem State.loSettle_only {l : List Part} {s : State} (t : State) (n : Fin 8) (h : Within [.loop] l) :
    Only l s (t.loSettle n) ↔ Only l s t := by
  refine Only.congr h ?_
  unfold State.loSettle
  repeat' first
    | with_reducible exact Only.rfl
    | exact Eq.refl true
    | with_reducible refine Only.ite ?_ ?_
    | with_reducible intro _ _
    | with_reducible refine (State.mLo_only _ _ _ ?_).2 ?_

@[simp] theorem State.loopsSettle_only {l : List Part} {s : State} (t : State)  (h : Within [.loop] l) :
    Only l s (t.loopsSettle) ↔ Only l s t := by
  refine Only.congr h ?_
  unfold State.loopsSettle
  repeat' first
    | with_reducible exact Only.rfl
    | exact Eq.refl true
    | with_reducible refine Only.each ?_ ?_
    | with_reducible intro _ _
    | with_reducible refine (State.loSettle_only _ _ ?_).2 ?_

@[simp] theorem State.loProcess_only {l : List Part} {s : State} (t : State) (n : Fin 8) (ua : Option Nat) (h : Within [.loop] l) :
    Only l s (t.loProcess n ua) ↔ Only l s t := by
  refine Only.congr h ?_
  unfold State.loProcess
  repeat' first
    | with_reducible exact Only.rfl
    | exact Eq.refl true
    | with_reducible refine Only.ite ?_ ?_
    | with_reducible intro _ _
    | with_reducible refine (State.loSettle_only _ _ ?_).2 ?_
    | with_reducible refine (State.mLo_only _ _ _ ?_).2 ?_

@[simp] theorem State.heatClose_only {l : List Part} {s : State} (t : State)  (h : Within [.loop] l) :
    Only l s (t.heatClose) ↔ Only l s t := by
  refine Only.congr h ?_
  unfold State.heatClose
  repeat' first
    | with_reducible exact Only.rfl
    | exact Eq.refl true
    | with_reducible refine Only.ite ?_ ?_
    | with_reducible refine Only.each ?_ ?_
    | with_reducible intro _ _
    | with_reducible refine (State.loSettle_only _ _ ?_).2 ?_
    | with_reducible refine (State.mLo_only _ _ _ ?_).2 ?_

@[simp] theorem State.loopSpells_only {l : List Part} {s : State} (t : State)  (h : Within [.loop] l) :
    Only l s (t.loopSpells) ↔ Only l s t := by
  refine Only.congr h ?_
  unfold State.loopSpells
  repeat' first
    | with_reducible exact Only.rfl
    | exact Eq.refl true
    | with_reducible refine Only.each ?_ ?_
    | with_reducible intro _ _
    | with_reducible refine (State.mLo_only _ _ _ ?_).2 ?_

@[simp] theorem State.loopsTick_only {l : List Part} {s : State} (t : State) (t' : Nat) (h : Within [.loop] l) :
    Only l s (t.loopsTick t') ↔ Only l s t := by
  refine Only.congr h ?_
  unfold State.loopsTick
  repeat' first
    | with_reducible exact Only.rfl
    | exact Eq.refl true
    | with_reducible refine Only.ite ?_ ?_
    | with_reducible refine Only.each ?_ ?_
    | with_reducible intro _ _
    | with_reducible refine (State.loSettle_only _ _ ?_).2 ?_
    | with_reducible refine (State.mLo_only _ _ _ ?_).2 ?_

@[simp] theorem State.setLoop_only {l : List Part} {s : State} (t : State) (n : Fin 8) (c : LoopCfg) (h : Within [.run, .loop] l) :
    Only l s (t.setLoop n c) ↔ Only l s t := by
  refine Only.congr h ?_
  unfold State.setLoop
  repeat' first
    | with_reducible exact Only.rfl
    | exact Eq.refl true
    | with_reducible refine Only.ite ?_ ?_
    | with_reducible intro _ _
    | with_reducible refine (State.loSettle_only _ _ ?_).2 ?_
    | with_reducible refine (State.mLo_only _ _ _ ?_).2 ?_
    | with_reducible refine (State.mRun_only _ _ ?_).2 ?_

@[simp] theorem State.loAct_only {l : List Part} {s : State} (t : State) (n : Fin 8) (action : Nat) (ua : Nat)
    (h : Within [.loop, .prog, .stitch] l) :
    Only l s (t.loAct n action ua) ↔ Only l s t := by
  refine Only.congr h ?_
  unfold State.loAct
  repeat' first
    | with_reducible exact Only.rfl
    | exact Eq.refl true
    | with_reducible refine Only.ite ?_ ?_
    | with_reducible intro _ _
    | with_reducible refine (State.holdByHost_only _ ?_).2 ?_
    | with_reducible refine (State.loSettle_only _ _ ?_).2 ?_
    | with_reducible refine (State.mLo_only _ _ _ ?_).2 ?_
    | with_reducible refine (State.stitchCancel_only _ _ ?_).2 ?_
    | split

@[simp] theorem State.rebudget_only {l : List Part} {s : State} (t : State) (h : Within [.drv] l) :
    Only l s (t.rebudget) ↔ Only l s t := by
  refine Only.congr h ?_
  unfold State.rebudget
  repeat' first
    | with_reducible exact Only.rfl
    | exact Eq.refl true
    | with_reducible intro _ _
    | with_reducible refine (State.mDrv_only _ _ ?_).2 ?_

@[simp] theorem State.retarget_only {l : List Part} {s : State} (t : State) (c : Fin 32) (h : Within [.drv] l) :
    Only l s (t.retarget c) ↔ Only l s t := by
  refine Only.congr h ?_
  unfold State.retarget
  repeat' first
    | with_reducible exact Only.rfl
    | exact Eq.refl true
    | with_reducible intro _ _
    | with_reducible refine (State.mDrvCh_only _ _ _ ?_).2 ?_

@[simp] theorem State.refit_only {l : List Part} {s : State} (t : State) (n : Fin 32) (c : Fin 32) (a : Actuation) (vm : Option (Nat × Nat))
    (h : Within [.drv] l) :
    Only l s (t.refit n c a vm) ↔ Only l s t := by
  refine Only.congr h ?_
  unfold State.refit
  repeat' first
    | with_reducible exact Only.rfl
    | exact Eq.refl true
    | with_reducible refine Only.ite ?_ ?_
    | with_reducible intro _ _
    | with_reducible refine (State.mDrvCh_only _ _ _ ?_).2 ?_
    | with_reducible refine (State.retarget_only _ _ ?_).2 ?_
    | split

@[simp] theorem State.chargeReview_only {l : List Part} {s : State} (t : State)  (h : Within [.drv] l) :
    Only l s (t.chargeReview) ↔ Only l s t := by
  refine Only.congr h ?_
  unfold State.chargeReview
  repeat' first
    | with_reducible exact Only.rfl
    | exact Eq.refl true
    | with_reducible refine Only.ite ?_ ?_
    | with_reducible intro _ _
    | with_reducible refine (State.mDrv_only _ _ ?_).2 ?_
    | split

@[simp] theorem State.toPhase_only {l : List Part} {s : State} (t : State) (n : Fin 32) (p : Phase) (h : Within [.drv] l) :
    Only l s (t.toPhase n p) ↔ Only l s t := by
  refine Only.congr h ?_
  unfold State.toPhase
  repeat' first
    | with_reducible exact Only.rfl
    | exact Eq.refl true
    | with_reducible intro _ _
    | with_reducible refine (State.mDrvCh_only _ _ _ ?_).2 ?_
    | with_reducible refine (State.rebudget_only _ ?_).2 ?_

@[simp] theorem State.startRise_only {l : List Part} {s : State} (t : State) (n : Fin 32) (h : Within [.drv] l) :
    Only l s (t.startRise n) ↔ Only l s t := by
  refine Only.congr h ?_
  unfold State.startRise
  repeat' first
    | with_reducible exact Only.rfl
    | exact Eq.refl true
    | with_reducible intro _ _
    | with_reducible refine (State.chargeReview_only _ ?_).2 ?_
    | with_reducible refine (State.mDrvCh_only _ _ _ ?_).2 ?_
    | with_reducible refine (State.toPhase_only _ _ _ ?_).2 ?_

@[simp] theorem State.release_only {l : List Part} {s : State} (t : State) (n : Fin 32) (fast : Bool) (h : Within [.drv] l) :
    Only l s (t.release n fast) ↔ Only l s t := by
  refine Only.congr h ?_
  unfold State.release
  repeat' first
    | with_reducible exact Only.rfl
    | exact Eq.refl true
    | with_reducible intro _ _
    | with_reducible refine (State.mDrvCh_only _ _ _ ?_).2 ?_
    | with_reducible refine (State.toPhase_only _ _ _ ?_).2 ?_
    | split
    | dsimp only

@[simp] theorem State.releaseAll_only {l : List Part} {s : State} (t : State) (h : Within [.drv] l) :
    Only l s (t.releaseAll) ↔ Only l s t := by
  refine Only.congr h ?_
  unfold State.releaseAll
  repeat' first
    | with_reducible exact Only.rfl
    | exact Eq.refl true
    | with_reducible refine Only.each ?_ ?_
    | with_reducible intro _ _
    | with_reducible refine (State.mDiag_only _ _ _ ?_).2 ?_
    | with_reducible refine (State.release_only _ _ _ ?_).2 ?_

@[simp] theorem State.heatStep_only {l : List Part} {s : State} (t : State) (n : Fin 32) (h : Within [.drv] l) :
    Only l s (t.heatStep n) ↔ Only l s t := by
  refine Only.congr h ?_
  unfold State.heatStep
  repeat' first
    | with_reducible exact Only.rfl
    | exact Eq.refl true
    | with_reducible refine Only.ite ?_ ?_
    | with_reducible intro _ _
    | with_reducible refine (State.mDrvCh_only _ _ _ ?_).2 ?_
    | with_reducible refine (State.release_only _ _ _ ?_).2 ?_
    | split

@[simp] theorem State.heatRelease_only {l : List Part} {s : State} (t : State)  (h : Within [.drv] l) :
    Only l s (t.heatRelease) ↔ Only l s t := by
  refine Only.congr h ?_
  unfold State.heatRelease
  repeat' first
    | with_reducible exact Only.rfl
    | exact Eq.refl true
    | with_reducible refine Only.each ?_ ?_
    | with_reducible intro _ _
    | with_reducible refine (State.heatStep_only _ _ ?_).2 ?_

@[simp] theorem State.toFault_only {l : List Part} {s : State} (t : State) (n : Fin 32) (f : FCode) (h : Within [.drv, .inj, .log] l) :
    Only l s (t.toFault n f) ↔ Only l s t := by
  refine Only.congr h ?_
  unfold State.toFault
  repeat' first
    | with_reducible exact Only.rfl
    | exact Eq.refl true
    | with_reducible refine Only.ite ?_ ?_
    | with_reducible intro _ _
    | with_reducible refine (State.detected_only _ _ _ _ ?_).2 ?_
    | with_reducible refine (State.logAs_only _ _ _ _ _ _ ?_).2 ?_
    | with_reducible refine (State.mDiag_only _ _ _ ?_).2 ?_
    | with_reducible refine (State.mDrvCh_only _ _ _ ?_).2 ?_
    | with_reducible refine (State.toPhase_only _ _ _ ?_).2 ?_

@[simp] theorem State.findShort_only {l : List Part} {s : State} (t : State) (n : Fin 32) (f : FCode) (hsv : Nat) (vRes : Nat)
    (h : Within [.drv, .inj, .log] l) :
    Only l s (t.findShort n f hsv vRes) ↔ Only l s t := by
  refine Only.congr h ?_
  unfold State.findShort
  repeat' first
    | with_reducible exact Only.rfl
    | exact Eq.refl true
    | with_reducible refine Only.ite ?_ ?_
    | with_reducible intro _ _
    | with_reducible refine (State.mDiag_only _ _ _ ?_).2 ?_
    | with_reducible refine (State.mDrvCh_only _ _ _ ?_).2 ?_
    | with_reducible refine (State.toFault_only _ _ _ ?_).2 ?_

@[simp] theorem State.raiseBoostNr_only {l : List Part} {s : State} (t : State) (n : Fin 32) (h : Within [.drv, .inj, .log] l) :
    Only l s (t.raiseBoostNr n) ↔ Only l s t := by
  refine Only.congr h ?_
  unfold State.raiseBoostNr
  repeat' first
    | with_reducible exact Only.rfl
    | exact Eq.refl true
    | with_reducible intro _ _
    | with_reducible refine (State.detected_only _ _ _ _ ?_).2 ?_
    | with_reducible refine (State.mDrvCh_only _ _ _ ?_).2 ?_

@[simp] theorem State.energise_only {l : List Part} {s : State} (t : State) (n : Fin 32) (a : Action) (h : Within [.drv, .inj, .log] l) :
    Only l s (t.energise n a) ↔ Only l s t := by
  refine Only.congr h ?_
  unfold State.energise
  repeat' first
    | with_reducible exact Only.rfl
    | exact Eq.refl true
    | with_reducible refine Only.ite ?_ ?_
    | with_reducible intro _ _
    | with_reducible refine (State.chargeReview_only _ ?_).2 ?_
    | with_reducible refine (State.mDiag_only _ _ _ ?_).2 ?_
    | with_reducible refine (State.mDrvCh_only _ _ _ ?_).2 ?_
    | with_reducible refine (State.raiseBoostNr_only _ _ ?_).2 ?_
    | with_reducible refine (State.startRise_only _ _ ?_).2 ?_
    | with_reducible refine (State.toPhase_only _ _ _ ?_).2 ?_
    | split
    | dsimp only

@[simp] theorem State.setI_only {l : List Part} {s : State} (t : State) (n : Fin 32) (ma : Nat) (h : Within [.drv] l) :
    Only l s (t.setI n ma) ↔ Only l s t := by
  refine Only.congr h ?_
  unfold State.setI
  repeat' first
    | with_reducible exact Only.rfl
    | exact Eq.refl true
    | with_reducible refine Only.ite ?_ ?_
    | with_reducible intro _ _
    | with_reducible refine (State.mDiag_only _ _ _ ?_).2 ?_
    | with_reducible refine (State.mDrvCh_only _ _ _ ?_).2 ?_
    | with_reducible refine (State.rebudget_only _ ?_).2 ?_
    | with_reducible refine (State.toPhase_only _ _ _ ?_).2 ?_

@[simp] theorem State.bleed_only {l : List Part} {s : State} (t : State) (n : Fin 32) (h : Within [.drv, .free] l) :
    Only l s (t.bleed n) ↔ Only l s t := by
  refine Only.congr h ?_
  unfold State.bleed
  repeat' first
    | with_reducible exact Only.rfl
    | exact Eq.refl true
    | with_reducible refine Only.ite ?_ ?_
    | with_reducible intro _ _
    | with_reducible refine (State.drew_only _ ?_).2 ?_
    | with_reducible refine (State.mDrvCh_only _ _ _ ?_).2 ?_

@[simp] theorem State.driversMs_only {l : List Part} {s : State} (t : State) (h : Within [.drv, .free] l) :
    Only l s (t.driversMs) ↔ Only l s t := by
  refine Only.congr h ?_
  unfold State.driversMs
  repeat' first
    | with_reducible exact Only.rfl
    | exact Eq.refl true
    | with_reducible refine Only.ite ?_ ?_
    | with_reducible refine Only.each ?_ ?_
    | with_reducible intro _ _
    | with_reducible refine (State.bleed_only _ _ ?_).2 ?_
    | with_reducible refine (State.mDrvCh_only _ _ _ ?_).2 ?_
    | with_reducible refine (State.rebudget_only _ ?_).2 ?_

@[simp] theorem State.drvAct_only {l : List Part} {s : State} (t : State) (n : Fin 32) (code : Nat) (arg : Nat)
    (h : Within [.drv, .prog, .stitch, .inj, .log] l) :
    Only l s (t.drvAct n code arg) ↔ Only l s t := by
  refine Only.congr h ?_
  unfold State.drvAct
  repeat' first
    | with_reducible exact Only.rfl
    | exact Eq.refl true
    | with_reducible refine Only.ite ?_ ?_
    | with_reducible intro _ _
    | with_reducible refine (State.energise_only _ _ _ ?_).2 ?_
    | with_reducible refine (State.holdByHost_only _ ?_).2 ?_
    | with_reducible refine (State.release_only _ _ _ ?_).2 ?_
    | with_reducible refine (State.setI_only _ _ _ ?_).2 ?_
    | with_reducible refine (State.stitchCancel_only _ _ ?_).2 ?_
    | split

@[simp] theorem State.setProfile_only {l : List Part} {s : State} (t : State) (n : Fin 32) (p : Profile) (h : Within [.run, .drv] l) :
    Only l s (t.setProfile n p) ↔ Only l s t := by
  refine Only.congr h ?_
  unfold State.setProfile
  repeat' first
    | with_reducible exact Only.rfl
    | exact Eq.refl true
    | with_reducible refine Only.ite ?_ ?_
    | with_reducible intro _ _
    | with_reducible refine (State.chargeReview_only _ ?_).2 ?_
    | with_reducible refine (State.mDiag_only _ _ _ ?_).2 ?_
    | with_reducible refine (State.mDrvCh_only _ _ _ ?_).2 ?_
    | with_reducible refine (State.mRun_only _ _ ?_).2 ?_
    | with_reducible refine (State.rebudget_only _ ?_).2 ?_
    | with_reducible refine (State.retarget_only _ _ ?_).2 ?_
    | with_reducible refine (State.toPhase_only _ _ _ ?_).2 ?_

@[simp] theorem State.meterRelease_only {l : List Part} {s : State} (t : State) (n : Fin 32) (h : Within [.drv, .energy] l) :
    Only l s (t.meterRelease n) ↔ Only l s t := by
  refine Only.congr h ?_
  unfold State.meterRelease
  repeat' first
    | with_reducible exact Only.rfl
    | exact Eq.refl true
    | with_reducible refine Only.ite ?_ ?_
    | with_reducible intro _ _
    | with_reducible refine (State.mDrvCh_only _ _ _ ?_).2 ?_
    | with_reducible refine (State.mEnergy_only _ _ ?_).2 ?_

@[simp] theorem State.setLatch_only {l : List Part} {s : State} (t : State) (k : Latch) (reason : Nat) (inj : Bool) (h : Within [.safe, .log] l) :
    Only l s (t.setLatch k reason inj) ↔ Only l s t := by
  refine Only.congr h ?_
  unfold State.setLatch
  repeat' first
    | with_reducible exact Only.rfl
    | exact Eq.refl true
    | with_reducible refine Only.ite ?_ ?_
    | with_reducible intro _ _
    | with_reducible refine (State.logSm_only _ _ _ _ ?_).2 ?_
    | with_reducible refine (State.mSafe_only _ _ ?_).2 ?_

@[simp] theorem State.permitOff_only {l : List Part} {s : State} (t : State) (reason : Nat) (latch : Option Latch) (inj : Bool)
    (h : Within [.safe, .log, .cnt] l) :
    Only l s (t.permitOff reason latch inj) ↔ Only l s t := by
  refine Only.congr h ?_
  unfold State.permitOff
  repeat' first
    | with_reducible exact Only.rfl
    | exact Eq.refl true
    | with_reducible refine Only.ite ?_ ?_
    | with_reducible intro _ _
    | with_reducible refine (State.logSm_only _ _ _ _ ?_).2 ?_
    | with_reducible refine (State.mCnt_only _ _ ?_).2 ?_
    | with_reducible refine (State.mSafe_only _ _ ?_).2 ?_

@[simp] theorem State.permitGone_only {l : List Part} {s : State} (t : State) (reason : Nat) (latch : Option Latch) (inj : Bool)
    (h : Within [.loop, .drv, .prog, .safe, .log, .cnt] l) :
    Only l s (t.permitGone reason latch inj) ↔ Only l s t := by
  refine Only.congr h ?_
  unfold State.permitGone
  repeat' first
    | with_reducible exact Only.rfl
    | exact Eq.refl true
    | with_reducible refine Only.ite ?_ ?_
    | with_reducible intro _ _
    | with_reducible refine (State.heatClose_only _ ?_).2 ?_
    | with_reducible refine (State.heatRelease_only _ ?_).2 ?_
    | with_reducible refine (State.mProg_only _ _ ?_).2 ?_
    | with_reducible refine (State.permitOff_only _ _ _ _ ?_).2 ?_
    | with_reducible refine (State.setLatch_only _ _ _ _ ?_).2 ?_

@[simp] theorem State.latchOf_only {l : List Part} {s : State} (t : State) (latch : Option Latch) (reason : Nat) (inj : Bool)
    (h : Within [.safe, .log] l) :
    Only l s (t.latchOf latch reason inj) ↔ Only l s t := by
  refine Only.congr h ?_
  unfold State.latchOf
  repeat' first
    | with_reducible exact Only.rfl
    | exact Eq.refl true
    | with_reducible intro _ _
    | with_reducible refine (State.setLatch_only _ _ _ _ ?_).2 ?_
    | split

@[simp] theorem State.removePermit_only {l : List Part} {s : State} (t : State) (reason : Nat) (latch : Option Latch) (inj : Bool)
    (h : Within [.loop, .drv, .prog, .safe, .log, .cnt] l) :
    Only l s (t.removePermit reason latch inj) ↔ Only l s t := by
  refine Only.congr h ?_
  unfold State.removePermit
  repeat' first
    | with_reducible exact Only.rfl
    | exact Eq.refl true
    | with_reducible refine Only.ite ?_ ?_
    | with_reducible intro _ _
    | with_reducible refine (State.latchOf_only _ _ _ _ ?_).2 ?_
    | with_reducible refine (State.mSafe_only _ _ ?_).2 ?_
    | with_reducible refine (State.permitGone_only _ _ _ _ ?_).2 ?_
    | split
    | dsimp only

@[simp] theorem State.safetyFinding_only {l : List Part} {s : State} (t : State) (k : Latch) (id : Nat) (tgt : Nat)
    (h : Within [.loop, .drv, .prog, .safe, .inj, .log, .cnt] l) :
    Only l s (t.safetyFinding k id tgt) ↔ Only l s t := by
  refine Only.congr h ?_
  unfold State.safetyFinding
  repeat' first
    | with_reducible exact Only.rfl
    | exact Eq.refl true
    | with_reducible intro _ _
    | with_reducible refine (State.detected_only _ _ _ _ ?_).2 ?_
    | with_reducible refine (State.removePermit_only _ _ _ _ ?_).2 ?_

@[simp] theorem State.heatShort_only {l : List Part} {s : State} (t : State) (n : Fin 32) (id : Nat)
    (h : Within [.loop, .drv, .prog, .safe, .log, .cnt] l) :
    Only l s (t.heatShort n id) ↔ Only l s t := by
  refine Only.congr h ?_
  unfold State.heatShort
  repeat' first
    | with_reducible exact Only.rfl
    | exact Eq.refl true
    | with_reducible refine Only.ite ?_ ?_
    | with_reducible intro _ _
    | with_reducible refine (State.removePermit_only _ _ _ _ ?_).2 ?_

@[simp] theorem State.leaveFault_only {l : List Part} {s : State} (t : State) (n : Fin 32) (h : Within [.drv] l) :
    Only l s (t.leaveFault n) ↔ Only l s t := by
  refine Only.congr h ?_
  unfold State.leaveFault
  repeat' first
    | with_reducible exact Only.rfl
    | exact Eq.refl true
    | with_reducible intro _ _
    | with_reducible refine (State.mDiag_only _ _ _ ?_).2 ?_
    | with_reducible refine (State.toPhase_only _ _ _ ?_).2 ?_

@[simp] theorem State.redoAction_only {l : List Part} {s : State} (t : State) (n : Fin 32) (h : Within [.drv, .inj, .log] l) :
    Only l s (t.redoAction n) ↔ Only l s t := by
  refine Only.congr h ?_
  unfold State.redoAction
  repeat' first
    | with_reducible exact Only.rfl
    | exact Eq.refl true
    | with_reducible refine Only.ite ?_ ?_
    | with_reducible intro _ _
    | with_reducible refine (State.energise_only _ _ _ ?_).2 ?_
    | with_reducible refine (State.mDiag_only _ _ _ ?_).2 ?_
    | with_reducible refine (State.setI_only _ _ _ ?_).2 ?_
    | split

@[simp] theorem State.offFinding_only {l : List Part} {s : State} (t : State) (n : Fin 32) (f : OffFind)
    (h : Within [.loop, .drv, .prog, .safe, .inj, .log, .cnt] l) :
    Only l s (t.offFinding n f) ↔ Only l s t := by
  refine Only.congr h ?_
  unfold State.offFinding
  repeat' first
    | with_reducible exact Only.rfl
    | exact Eq.refl true
    | with_reducible refine Only.ite ?_ ?_
    | with_reducible intro _ _
    | with_reducible refine (State.detected_only _ _ _ _ ?_).2 ?_
    | with_reducible refine (State.heatShort_only _ _ _ ?_).2 ?_
    | with_reducible refine (State.mDiag_only _ _ _ ?_).2 ?_
    | with_reducible refine (State.redoAction_only _ _ ?_).2 ?_
    | with_reducible refine (State.toFault_only _ _ _ ?_).2 ?_
    | split

@[simp] theorem State.offSample_only {l : List Part} {s : State} (t : State) (n : Fin 32) (vDh : Nat) (vDl : Nat)
    (h : Within [.loop, .drv, .prog, .safe, .inj, .log, .cnt] l) :
    Only l s (t.offSample n vDh vDl) ↔ Only l s t := by
  refine Only.congr h ?_
  unfold State.offSample
  repeat' first
    | with_reducible exact Only.rfl
    | exact Eq.refl true
    | with_reducible refine Only.ite ?_ ?_
    | with_reducible intro _ _
    | with_reducible refine (State.mDiag_only _ _ _ ?_).2 ?_
    | with_reducible refine (State.offFinding_only _ _ _ ?_).2 ?_

@[simp] theorem State.directOff_only {l : List Part} {s : State} (t : State) (n : Fin 32) (h : Within [.drv] l) :
    Only l s (t.directOff n) ↔ Only l s t := by
  refine Only.congr h ?_
  unfold State.directOff
  repeat' first
    | with_reducible exact Only.rfl
    | exact Eq.refl true
    | with_reducible intro _ _
    | with_reducible refine (State.mDiag_only _ _ _ ?_).2 ?_

@[simp] theorem State.onShort_only {l : List Part} {s : State} (t : State) (n : Fin 32) (f : FCode) (x : Sense)
    (h : Within [.loop, .drv, .prog, .safe, .inj, .log, .cnt] l) :
    Only l s (t.onShort n f x) ↔ Only l s t := by
  refine Only.congr h ?_
  unfold State.onShort
  repeat' first
    | with_reducible exact Only.rfl
    | exact Eq.refl true
    | with_reducible refine Only.ite ?_ ?_
    | with_reducible intro _ _
    | with_reducible refine (State.directOff_only _ _ ?_).2 ?_
    | with_reducible refine (State.findShort_only _ _ _ _ _ ?_).2 ?_
    | with_reducible refine (State.heatShort_only _ _ _ ?_).2 ?_

@[simp] theorem State.onOpen_only {l : List Part} {s : State} (t : State) (n : Fin 32) (ma : Nat) (ns : Nat) (full : Bool) (h : Within [.drv] l) :
    Only l s (t.onOpen n ma ns full) ↔ Only l s t := by
  refine Only.congr h ?_
  unfold State.onOpen
  repeat' first
    | with_reducible exact Only.rfl
    | exact Eq.refl true
    | with_reducible refine Only.ite ?_ ?_
    | with_reducible intro _ _
    | with_reducible refine (State.mDiag_only _ _ _ ?_).2 ?_
    | with_reducible refine (State.mDrvCh_only _ _ _ ?_).2 ?_
    | with_reducible refine (State.release_only _ _ _ ?_).2 ?_

@[simp] theorem State.overtemp_only {l : List Part} {s : State} (t : State) (n : Fin 32) (h : Within [.drv, .inj, .log] l) :
    Only l s (t.overtemp n) ↔ Only l s t := by
  refine Only.congr h ?_
  unfold State.overtemp
  repeat' first
    | with_reducible exact Only.rfl
    | exact Eq.refl true
    | with_reducible intro _ _
    | with_reducible refine (State.detected_only _ _ _ _ ?_).2 ?_
    | with_reducible refine (State.mDiag_only _ _ _ ?_).2 ?_
    | with_reducible refine (State.mDrvCh_only _ _ _ ?_).2 ?_
    | with_reducible refine (State.release_only _ _ _ ?_).2 ?_
    | with_reducible refine (State.toFault_only _ _ _ ?_).2 ?_
    | split
    | dsimp only

@[simp] theorem State.legConflict_only {l : List Part} {s : State} (t : State) (n : Fin 32) (h : Within [.drv, .inj, .log] l) :
    Only l s (t.legConflict n) ↔ Only l s t := by
  refine Only.congr h ?_
  unfold State.legConflict
  repeat' first
    | with_reducible exact Only.rfl
    | exact Eq.refl true
    | with_reducible refine Only.ite ?_ ?_
    | with_reducible intro _ _
    | with_reducible refine (State.detected_only _ _ _ _ ?_).2 ?_
    | with_reducible refine (State.directOff_only _ _ ?_).2 ?_
    | with_reducible refine (State.mDiag_only _ _ _ ?_).2 ?_
    | with_reducible refine (State.toFault_only _ _ _ ?_).2 ?_

@[simp] theorem State.retry_only {l : List Part} {s : State} (t : State) (n : Fin 32) (h : Within [.drv, .log] l) :
    Only l s (t.retry n) ↔ Only l s t := by
  refine Only.congr h ?_
  unfold State.retry
  repeat' first
    | with_reducible exact Only.rfl
    | exact Eq.refl true
    | with_reducible refine Only.ite ?_ ?_
    | with_reducible intro _ _
    | with_reducible refine (State.leaveFault_only _ _ ?_).2 ?_
    | with_reducible refine (State.logE_only _ _ _ _ ?_).2 ?_
    | with_reducible refine (State.mDiag_only _ _ _ ?_).2 ?_

@[simp] theorem State.fanEval_only {l : List Part} {s : State} (t : State) (n : Fin 12) (h : Within [.fan] l) :
    Only l s (t.fanEval n) ↔ Only l s t := by
  refine Only.congr h ?_
  unfold State.fanEval
  repeat' first
    | with_reducible exact Only.rfl
    | exact Eq.refl true
    | with_reducible refine Only.ite ?_ ?_
    | with_reducible intro _ _
    | with_reducible refine (State.mFanCh_only _ _ _ ?_).2 ?_

@[simp] theorem State.fanSpeeds_only {l : List Part} {s : State} (t : State)  (h : Within [.fan] l) :
    Only l s (t.fanSpeeds) ↔ Only l s t := by
  refine Only.congr h ?_
  unfold State.fanSpeeds
  repeat' first
    | with_reducible exact Only.rfl
    | exact Eq.refl true
    | with_reducible refine Only.ite ?_ ?_
    | with_reducible refine Only.each ?_ ?_
    | with_reducible intro _ _
    | with_reducible refine (State.fanEval_only _ _ ?_).2 ?_
    | with_reducible refine (State.mFanCh_only _ _ _ ?_).2 ?_

@[simp] theorem State.fanTo_only {l : List Part} {s : State} (t : State) (n : Fin 12) (st : FanState) (h : Within [.fan] l) :
    Only l s (t.fanTo n st) ↔ Only l s t := by
  refine Only.congr h ?_
  unfold State.fanTo
  repeat' first
    | with_reducible exact Only.rfl
    | exact Eq.refl true
    | with_reducible refine Only.ite ?_ ?_
    | with_reducible intro _ _
    | with_reducible refine (State.fanEval_only _ _ ?_).2 ?_
    | with_reducible refine (State.mFanCh_only _ _ _ ?_).2 ?_

@[simp] theorem State.foTrigger_only {l : List Part} {s : State} (t : State) (n : Fin 12) (h : Within [.fan, .log] l) :
    Only l s (t.foTrigger n) ↔ Only l s t := by
  refine Only.congr h ?_
  unfold State.foTrigger
  repeat' first
    | with_reducible exact Only.rfl
    | exact Eq.refl true
    | with_reducible refine Only.ite ?_ ?_
    | with_reducible intro _ _
    | with_reducible refine (State.logAs_only _ _ _ _ _ _ ?_).2 ?_
    | with_reducible refine (State.mFanGrp_only _ _ _ ?_).2 ?_
    | split

@[simp] theorem State.fanStart_only {l : List Part} {s : State} (t : State) (n : Fin 12) (h : Within [.fan] l) :
    Only l s (t.fanStart n) ↔ Only l s t := by
  refine Only.congr h ?_
  unfold State.fanStart
  repeat' first
    | with_reducible exact Only.rfl
    | exact Eq.refl true
    | with_reducible intro _ _
    | with_reducible refine (State.fanTo_only _ _ _ ?_).2 ?_
    | with_reducible refine (State.mFanCh_only _ _ _ ?_).2 ?_

@[simp] theorem State.fanFault_only {l : List Part} {s : State} (t : State) (n : Fin 12) (f : FanFault) (h : Within [.fan, .log] l) :
    Only l s (t.fanFault n f) ↔ Only l s t := by
  refine Only.congr h ?_
  unfold State.fanFault
  repeat' first
    | with_reducible exact Only.rfl
    | exact Eq.refl true
    | with_reducible refine Only.ite ?_ ?_
    | with_reducible intro _ _
    | with_reducible refine (State.fanTo_only _ _ _ ?_).2 ?_
    | with_reducible refine (State.foTrigger_only _ _ ?_).2 ?_
    | with_reducible refine (State.logHw_only _ _ _ _ _ _ ?_).2 ?_
    | with_reducible refine (State.mFanCh_only _ _ _ ?_).2 ?_

@[simp] theorem State.fanStall_only {l : List Part} {s : State} (t : State) (n : Fin 12) (h : Within [.fan, .inj, .log] l) :
    Only l s (t.fanStall n) ↔ Only l s t := by
  refine Only.congr h ?_
  unfold State.fanStall
  repeat' first
    | with_reducible exact Only.rfl
    | exact Eq.refl true
    | with_reducible refine Only.ite ?_ ?_
    | with_reducible intro _ _
    | with_reducible refine (State.detected_only _ _ _ _ ?_).2 ?_
    | with_reducible refine (State.fanFault_only _ _ _ ?_).2 ?_
    | with_reducible refine (State.fanTo_only _ _ _ ?_).2 ?_
    | with_reducible refine (State.foTrigger_only _ _ ?_).2 ?_
    | with_reducible refine (State.logHw_only _ _ _ _ _ _ ?_).2 ?_
    | with_reducible refine (State.mFanCh_only _ _ _ ?_).2 ?_

@[simp] theorem State.fanRetryNow_only {l : List Part} {s : State} (t : State) (n : Fin 12) (h : Within [.fan, .log] l) :
    Only l s (t.fanRetryNow n) ↔ Only l s t := by
  refine Only.congr h ?_
  unfold State.fanRetryNow
  repeat' first
    | with_reducible exact Only.rfl
    | exact Eq.refl true
    | with_reducible refine Only.ite ?_ ?_
    | with_reducible intro _ _
    | with_reducible refine (State.fanStart_only _ _ ?_).2 ?_
    | with_reducible refine (State.fanTo_only _ _ _ ?_).2 ?_
    | with_reducible refine (State.logHw_only _ _ _ _ _ _ ?_).2 ?_
    | with_reducible refine (State.mFanCh_only _ _ _ ?_).2 ?_

@[simp] theorem State.fanSettle_only {l : List Part} {s : State} (t : State) (n : Fin 12) (h : Within [.fan, .log] l) :
    Only l s (t.fanSettle n) ↔ Only l s t := by
  refine Only.congr h ?_
  unfold State.fanSettle
  repeat' first
    | with_reducible exact Only.rfl
    | exact Eq.refl true
    | with_reducible refine Only.ite ?_ ?_
    | with_reducible intro _ _
    | with_reducible refine (State.fanRetryNow_only _ _ ?_).2 ?_
    | with_reducible refine (State.fanTo_only _ _ _ ?_).2 ?_
    | with_reducible refine (State.foTrigger_only _ _ ?_).2 ?_
    | with_reducible refine (State.mFanCh_only _ _ _ ?_).2 ?_
    | split

@[simp] theorem State.fansSettle_only {l : List Part} {s : State} (t : State)  (h : Within [.fan, .log] l) :
    Only l s (t.fansSettle) ↔ Only l s t := by
  refine Only.congr h ?_
  unfold State.fansSettle
  repeat' first
    | with_reducible exact Only.rfl
    | exact Eq.refl true
    | with_reducible refine Only.each ?_ ?_
    | with_reducible intro _ _
    | with_reducible refine (State.fanSettle_only _ _ ?_).2 ?_

@[simp] theorem State.fanMs_only {l : List Part} {s : State} (t : State) (n : Fin 12) (h : Within [.fan, .log] l) :
    Only l s (t.fanMs n) ↔ Only l s t := by
  refine Only.congr h ?_
  unfold State.fanMs
  repeat' first
    | with_reducible exact Only.rfl
    | exact Eq.refl true
    | with_reducible refine Only.ite ?_ ?_
    | with_reducible intro _ _
    | with_reducible refine (State.fanSettle_only _ _ ?_).2 ?_
    | with_reducible refine (State.fanStart_only _ _ ?_).2 ?_
    | with_reducible refine (State.fanTo_only _ _ _ ?_).2 ?_
    | with_reducible refine (State.mFanCh_only _ _ _ ?_).2 ?_
    | split
    | dsimp only

@[simp] theorem State.countFull_only {l : List Part} {s : State} (t : State) (h : Within [.frm] l) :
    Only l s (t.countFull) ↔ Only l s t := by
  refine Only.congr h ?_
  unfold State.countFull
  repeat' first
    | with_reducible exact Only.rfl
    | exact Eq.refl true
    | with_reducible intro _ _
    | with_reducible refine (State.mFrm_only _ _ ?_).2 ?_

theorem Op.barred_only {l : List Part} {s t : State} {o : Op} {q : Req} {r : Res} (h : Within [.auth] l) (c : Only l s t)
    (e : o.barred q t = some r) : Only l s r.s := by
  unfold Op.barred at e
  split_ifs at e <;> cases e <;> first | exact c | exact (State.mAuth_only t _ h).2 c

theorem Op.screen_only {l : List Part} {s t : State} {o : Op} {q : Req} {r : Res} (h : Within [.auth] l) (c : Only l s t)
    (e : o.screen q t = some r) : Only l s r.s := by
  unfold Op.screen at e
  cases b : o.barred q t with
  | some r' => rw [b] at e; cases e; exact Op.barred_only h c b
  | none =>
    rw [b] at e
    simp only [Option.none_or, Op.unready] at e
    split_ifs at e <;> cases e <;> exact c

@[simp] theorem State.setFan_only {l : List Part} {s : State} (t : State) (n : Fin 12) (c : FanCfg) (h : Within [.run, .fan, .log] l) :
    Only l s (t.setFan n c) ↔ Only l s t := by
  refine Only.congr h ?_
  unfold State.setFan
  repeat' first
    | with_reducible exact Only.rfl
    | exact Eq.refl true
    | with_reducible refine Only.ite ?_ ?_
    | with_reducible intro _ _
    | with_reducible refine (State.fanEval_only _ _ ?_).2 ?_
    | with_reducible refine (State.fanSettle_only _ _ ?_).2 ?_
    | with_reducible refine (State.fanTo_only _ _ _ ?_).2 ?_
    | with_reducible refine (State.mFanCh_only _ _ _ ?_).2 ?_
    | with_reducible refine (State.mRun_only _ _ ?_).2 ?_

@[simp] theorem State.airUpdate_only {l : List Part} {s : State} (t : State)  (h : Within [.fan] l) :
    Only l s (t.airUpdate) ↔ Only l s t := by
  refine Only.congr h ?_
  unfold State.airUpdate
  repeat' first
    | with_reducible exact Only.rfl
    | exact Eq.refl true
    | with_reducible refine Only.each ?_ ?_
    | with_reducible intro _ _
    | with_reducible refine (State.mFanGrp_only _ _ _ ?_).2 ?_

@[simp] theorem State.thermMax_only {l : List Part} {s : State} (t : State)  (h : Within [.therm] l) :
    Only l s (t.thermMax) ↔ Only l s t := by
  refine Only.congr h ?_
  unfold State.thermMax
  repeat' first
    | with_reducible exact Only.rfl
    | exact Eq.refl true
    | with_reducible intro _ _
    | with_reducible refine (State.mTherm_only _ _ ?_).2 ?_
    | split

@[simp] theorem State.setStep_only {l : List Part} {s : State} (t : State) (n : Nat) (h : Within [.drv, .therm, .log] l) :
    Only l s (t.setStep n) ↔ Only l s t := by
  refine Only.congr h ?_
  unfold State.setStep
  repeat' first
    | with_reducible exact Only.rfl
    | exact Eq.refl true
    | with_reducible refine Only.ite ?_ ?_
    | with_reducible intro _ _
    | with_reducible refine (State.logHw_only _ _ _ _ _ _ ?_).2 ?_
    | with_reducible refine (State.mTherm_only _ _ ?_).2 ?_
    | with_reducible refine (State.rebudget_only _ ?_).2 ?_

@[simp] theorem State.throttle_only {l : List Part} {s : State} (t : State)  (h : Within [.drv, .therm, .log] l) :
    Only l s (t.throttle) ↔ Only l s t := by
  refine Only.congr h ?_
  unfold State.throttle
  repeat' first
    | with_reducible exact Only.rfl
    | exact Eq.refl true
    | with_reducible refine Only.ite ?_ ?_
    | with_reducible intro _ _
    | with_reducible refine Res.bad_only ?_
    | with_reducible refine Res.ok_only ?_
    | with_reducible refine (State.mTherm_only _ _ ?_).2 ?_
    | with_reducible refine (State.setStep_only _ _ ?_).2 ?_

@[simp] theorem State.enterShutdown_only {l : List Part} {s : State} (t : State) 
    (h : Within [.loop, .drv, .fan, .prog, .therm, .safe, .inj, .log, .cnt] l) :
    Only l s (t.enterShutdown) ↔ Only l s t := by
  refine Only.congr h ?_
  unfold State.enterShutdown
  repeat' first
    | with_reducible exact Only.rfl
    | exact Eq.refl true
    | with_reducible refine Only.ite ?_ ?_
    | with_reducible refine Only.each ?_ ?_
    | with_reducible intro _ _
    | with_reducible refine (State.detected_only _ _ _ _ ?_).2 ?_
    | with_reducible refine (State.fansSettle_only _ ?_).2 ?_
    | with_reducible refine (State.logAs_only _ _ _ _ _ _ ?_).2 ?_
    | with_reducible refine (State.loopsSettle_only _ ?_).2 ?_
    | with_reducible refine (State.mDrv_only _ _ ?_).2 ?_
    | with_reducible refine (State.mTherm_only _ _ ?_).2 ?_
    | with_reducible refine (State.releaseAll_only _ ?_).2 ?_
    | with_reducible refine (State.removePermit_only _ _ _ _ ?_).2 ?_
    | with_reducible refine (State.setStep_only _ _ ?_).2 ?_

@[simp] theorem State.thermSample_only {l : List Part} {s : State} (t : State) (t' : Vector Int 7)
    (h : Within [.loop, .drv, .fan, .prog, .therm, .safe, .inj, .log, .cnt] l) :
    Only l s (t.thermSample t') ↔ Only l s t := by
  refine Only.congr h ?_
  unfold State.thermSample
  repeat' first
    | with_reducible exact Only.rfl
    | exact Eq.refl true
    | with_reducible refine Only.ite ?_ ?_
    | with_reducible refine Only.each ?_ ?_
    | with_reducible intro _ _
    | with_reducible refine (State.detected_only _ _ _ _ ?_).2 ?_
    | with_reducible refine (State.enterShutdown_only _ ?_).2 ?_
    | with_reducible refine (State.logHw_only _ _ _ _ _ _ ?_).2 ?_
    | with_reducible refine (State.mTherm_only _ _ ?_).2 ?_
    | with_reducible refine (State.thermMax_only _ ?_).2 ?_
    | with_reducible refine (State.throttle_only _ ?_).2 ?_

@[simp] theorem State.ts7Begin_only {l : List Part} {s : State} (t : State)  (h : Within [.therm] l) :
    Only l s (t.ts7Begin) ↔ Only l s t := by
  refine Only.congr h ?_
  unfold State.ts7Begin
  repeat' first
    | with_reducible exact Only.rfl
    | exact Eq.refl true
    | with_reducible intro _ _
    | with_reducible refine (State.mTherm_only _ _ ?_).2 ?_

@[simp] theorem State.domRelease_only {l : List Part} {s : State} (t : State) (d : Nat) (h : Within [.drv, .fan] l) :
    Only l s (t.domRelease d) ↔ Only l s t := by
  refine Only.congr h ?_
  unfold State.domRelease
  repeat' first
    | with_reducible exact Only.rfl
    | exact Eq.refl true
    | with_reducible refine Only.ite ?_ ?_
    | with_reducible intro _ _
    | with_reducible refine (State.mFanCh_only _ _ _ ?_).2 ?_
    | with_reducible refine (State.release_only _ _ _ ?_).2 ?_
    | split

@[simp] theorem State.domAgain_only {l : List Part} {s : State} (t : State) (d : Nat) (h : Within [.pow, .loop, .drv, .fan, .log] l) :
    Only l s (t.domAgain d) ↔ Only l s t := by
  refine Only.congr h ?_
  unfold State.domAgain
  repeat' first
    | with_reducible exact Only.rfl
    | exact Eq.refl true
    | with_reducible refine Only.ite ?_ ?_
    | with_reducible intro _ _
    | with_reducible refine (State.fansSettle_only _ ?_).2 ?_
    | with_reducible refine (State.loopsSettle_only _ ?_).2 ?_
    | with_reducible refine (State.mPow_only _ _ ?_).2 ?_
    | with_reducible refine (State.toPhase_only _ _ _ ?_).2 ?_
    | split

@[simp] theorem State.domGone_only {l : List Part} {s : State} (t : State) (d : Nat) (h : Within [.pow, .fe, .drv] l) :
    Only l s (t.domGone d) ↔ Only l s t := by
  refine Only.congr h ?_
  unfold State.domGone
  repeat' first
    | with_reducible exact Only.rfl
    | exact Eq.refl true
    | with_reducible refine Only.ite ?_ ?_
    | with_reducible intro _ _
    | with_reducible refine (State.mDrvCh_only _ _ _ ?_).2 ?_
    | with_reducible refine (State.mFe_only _ _ ?_).2 ?_
    | with_reducible refine (State.mPow_only _ _ ?_).2 ?_
    | split

@[simp] theorem State.domAsk_only {l : List Part} {s : State} (t : State) (d : Nat) (want : Bool) (h : Within [.pow, .fe, .drv, .fan] l) :
    Only l s (t.domAsk d want) ↔ Only l s t := by
  refine Only.congr h ?_
  unfold State.domAsk
  repeat' first
    | with_reducible exact Only.rfl
    | exact Eq.refl true
    | with_reducible refine Only.ite ?_ ?_
    | with_reducible intro _ _
    | with_reducible refine (State.domGone_only _ _ ?_).2 ?_
    | with_reducible refine (State.domRelease_only _ _ ?_).2 ?_
    | with_reducible refine (State.mPow_only _ _ ?_).2 ?_

@[simp] theorem State.domAskAll_only {l : List Part} {s : State} (t : State) (want : Nat → Bool) (h : Within [.pow, .fe, .drv, .fan] l) :
    Only l s (t.domAskAll want) ↔ Only l s t := by
  refine Only.congr h ?_
  unfold State.domAskAll
  repeat' first
    | with_reducible exact Only.rfl
    | exact Eq.refl true
    | with_reducible refine Only.each ?_ ?_
    | with_reducible intro _ _
    | with_reducible refine (State.domAsk_only _ _ _ ?_).2 ?_

@[simp] theorem State.pdReview_only {l : List Part} {s : State} (t : State) (h : Within [.pow, .fe, .drv, .fan] l) :
    Only l s (t.pdReview) ↔ Only l s t := by
  refine Only.congr h ?_
  unfold State.pdReview
  repeat' first
    | with_reducible exact Only.rfl
    | exact Eq.refl true
    | with_reducible intro _ _
    | with_reducible refine (State.domAskAll_only _ _ ?_).2 ?_

@[simp] theorem State.domLost_only {l : List Part} {s : State} (t : State) (d : Nat) (h : Within [.loop, .drv, .fan, .log] l) :
    Only l s (t.domLost d) ↔ Only l s t := by
  refine Only.congr h ?_
  unfold State.domLost
  repeat' first
    | with_reducible exact Only.rfl
    | exact Eq.refl true
    | with_reducible refine Only.ite ?_ ?_
    | with_reducible intro _ _
    | with_reducible refine (State.fansSettle_only _ ?_).2 ?_
    | with_reducible refine (State.loopsSettle_only _ ?_).2 ?_
    | with_reducible refine (State.toPhase_only _ _ _ ?_).2 ?_
    | split

@[simp] theorem State.toSpore_only {l : List Part} {s : State} (t : State) (c : Nat) (h : Within [.pow, .log, .ho] l) :
    Only l s (t.toSpore c) ↔ Only l s t := by
  refine Only.congr h ?_
  unfold State.toSpore
  repeat' first
    | with_reducible exact Only.rfl
    | exact Eq.refl true
    | with_reducible intro _ _
    | with_reducible refine (State.logE_only _ _ _ _ ?_).2 ?_
    | with_reducible refine (State.mHo_only _ _ ?_).2 ?_
    | with_reducible refine (State.mPow_only _ _ ?_).2 ?_

@[simp] theorem State.pdFaulted_only {l : List Part} {s : State} (t : State) (d : Nat) (h : Within [.pow, .inj, .log] l) :
    Only l s (t.pdFaulted d) ↔ Only l s t := by
  refine Only.congr h ?_
  unfold State.pdFaulted
  repeat' first
    | with_reducible exact Only.rfl
    | exact Eq.refl true
    | with_reducible intro _ _
    | with_reducible refine (State.detected_only _ _ _ _ ?_).2 ?_
    | with_reducible refine (State.logHw_only _ _ _ _ _ _ ?_).2 ?_
    | with_reducible refine (State.mPow_only _ _ ?_).2 ?_

@[simp] theorem State.domFailed_only {l : List Part} {s : State} (t : State) (d : Nat) (h : Within [.pow, .loop, .drv, .fan, .inj, .log, .ho] l) :
    Only l s (t.domFailed d) ↔ Only l s t := by
  refine Only.congr h ?_
  unfold State.domFailed
  repeat' first
    | with_reducible exact Only.rfl
    | exact Eq.refl true
    | with_reducible refine Only.ite ?_ ?_
    | with_reducible intro _ _
    | with_reducible refine (State.domLost_only _ _ ?_).2 ?_
    | with_reducible refine (State.mPow_only _ _ ?_).2 ?_
    | with_reducible refine (State.pdFaulted_only _ _ ?_).2 ?_
    | with_reducible refine (State.toSpore_only _ _ ?_).2 ?_

@[simp] theorem State.vpLost_only {l : List Part} {s : State} (t : State) (high : Bool)
    (h : Within [.pow, .loop, .drv, .fan, .prog, .safe, .inj, .log, .cnt] l) :
    Only l s (t.vpLost high) ↔ Only l s t := by
  refine Only.congr h ?_
  unfold State.vpLost
  repeat' first
    | with_reducible exact Only.rfl
    | exact Eq.refl true
    | with_reducible refine Only.ite ?_ ?_
    | with_reducible intro _ _
    | with_reducible refine (State.detected_only _ _ _ _ ?_).2 ?_
    | with_reducible refine (State.fansSettle_only _ ?_).2 ?_
    | with_reducible refine (State.logAs_only _ _ _ _ _ _ ?_).2 ?_
    | with_reducible refine (State.loopsSettle_only _ ?_).2 ?_
    | with_reducible refine (State.mDrv_only _ _ ?_).2 ?_
    | with_reducible refine (State.mPow_only _ _ ?_).2 ?_
    | with_reducible refine (State.releaseAll_only _ ?_).2 ?_
    | with_reducible refine (State.removePermit_only _ _ _ _ ?_).2 ?_

@[simp] theorem State.outputsGone_only {l : List Part} {s : State} (t : State)  (h : Within [.loop, .fan] l) :
    Only l s (t.outputsGone) ↔ Only l s t := by
  refine Only.congr h ?_
  unfold State.outputsGone
  exact (State.mLoop_only _ _ (by decide)).2 ((State.mFan_only _ _ (by decide)).2 Only.rfl)

@[simp] theorem State.vpBack_only {l : List Part} {s : State} (t : State)  (h : Within [.pow, .loop, .drv, .fan, .log] l) :
    Only l s (t.vpBack) ↔ Only l s t := by
  refine Only.congr h ?_
  unfold State.vpBack
  repeat' first
    | with_reducible exact Only.rfl
    | exact Eq.refl true
    | with_reducible refine Only.ite ?_ ?_
    | with_reducible intro _ _
    | with_reducible refine (State.chargeReview_only _ ?_).2 ?_
    | with_reducible refine (State.fansSettle_only _ ?_).2 ?_
    | with_reducible refine (State.loopsSettle_only _ ?_).2 ?_
    | with_reducible refine (State.mDrv_only _ _ ?_).2 ?_
    | with_reducible refine (State.mPow_only _ _ ?_).2 ?_

@[simp] theorem State.avsStep_only {l : List Part} {s : State} (t : State) (up : Bool) (h : Within [.sys, .inj, .log] l) :
    Only l s (t.avsStep up) ↔ Only l s t := by
  refine Only.congr h ?_
  unfold State.avsStep
  repeat' first
    | with_reducible exact Only.rfl
    | exact Eq.refl true
    | with_reducible refine Only.ite ?_ ?_
    | with_reducible intro _ _
    | with_reducible refine (State.detected_only _ _ _ _ ?_).2 ?_
    | with_reducible refine (State.logHw_only _ _ _ _ _ _ ?_).2 ?_
    | with_reducible refine (State.mSys_only _ _ ?_).2 ?_

@[simp] theorem State.clockTrip_only {l : List Part} {s : State} (t : State)  (h : Within [.sys, .drv, .safe, .log, .cnt] l) :
    Only l s (t.clockTrip) ↔ Only l s t := by
  refine Only.congr h ?_
  unfold State.clockTrip
  repeat' first
    | with_reducible exact Only.rfl
    | exact Eq.refl true
    | with_reducible refine Only.ite ?_ ?_
    | with_reducible intro _ _
    | with_reducible refine (State.logAs_only _ _ _ _ _ _ ?_).2 ?_
    | with_reducible refine (State.mCnt_only _ _ ?_).2 ?_
    | with_reducible refine (State.mSafe_only _ _ ?_).2 ?_
    | with_reducible refine (State.mSys_only _ _ ?_).2 ?_
    | with_reducible refine (State.releaseAll_only _ ?_).2 ?_

@[simp] theorem State.adoptCh_only {l : List Part} {s : State} (t : State) (n : Fin 64) (h : Within [.fe] l) :
    Only l s (t.adoptCh n) ↔ Only l s t := by
  refine Only.congr h ?_
  unfold State.adoptCh
  repeat' first
    | with_reducible exact Only.rfl
    | exact Eq.refl true
    | with_reducible refine Only.ite ?_ ?_
    | with_reducible intro _ _
    | with_reducible refine (State.mCh_only _ _ _ ?_).2 ?_

@[simp] theorem State.adoptGroup_only {l : List Part} {s : State} (t : State) (g : Fin 4) (h : Within [.fe] l) :
    Only l s (t.adoptGroup g) ↔ Only l s t := by
  refine Only.congr h ?_
  unfold State.adoptGroup
  repeat' first
    | with_reducible exact Only.rfl
    | exact Eq.refl true
    | with_reducible refine Only.each ?_ ?_
    | with_reducible intro _ _
    | with_reducible refine (State.adoptCh_only _ _ ?_).2 ?_
    | with_reducible refine (State.mGrp_only _ _ _ ?_).2 ?_

@[simp] theorem State.endScan_only {l : List Part} {s : State} (t : State) (g : Fin 4) (h : Within [.fe] l) :
    Only l s (t.endScan g) ↔ Only l s t := by
  refine Only.congr h ?_
  unfold State.endScan
  repeat' first
    | with_reducible exact Only.rfl
    | exact Eq.refl true
    | with_reducible refine Only.ite ?_ ?_
    | with_reducible intro _ _
    | with_reducible refine (State.adoptGroup_only _ _ ?_).2 ?_
    | with_reducible refine (State.mGrp_only _ _ _ ?_).2 ?_

@[simp] theorem State.scanBegin_only {l : List Part} {s : State} (t : State) (g : Fin 4) (h : Within [.fe] l) :
    Only l s (t.scanBegin g) ↔ Only l s t := by
  refine Only.congr h ?_
  unfold State.scanBegin
  repeat' first
    | with_reducible exact Only.rfl
    | exact Eq.refl true
    | with_reducible intro _ _
    | with_reducible refine (State.adoptGroup_only _ _ ?_).2 ?_
    | with_reducible refine (State.mGrp_only _ _ _ ?_).2 ?_

@[simp] theorem State.scanSlips_only {l : List Part} {s : State} (t : State) (t' : Nat) (h : Within [.fe] l) :
    Only l s (t.scanSlips t') ↔ Only l s t := by
  refine Only.congr h ?_
  unfold State.scanSlips
  repeat' first
    | with_reducible exact Only.rfl
    | exact Eq.refl true
    | with_reducible refine Only.ite ?_ ?_
    | with_reducible refine Only.each ?_ ?_
    | with_reducible intro _ _
    | with_reducible refine (State.mGrp_only _ _ _ ?_).2 ?_

@[simp] theorem State.smJudge_only {l : List Part} {s : State} (t : State) (k : Fin 2) (n : Fin 64) (r : ChRec) (t' : Option Int)
    (h : Within [.loop, .drv, .prog, .safe, .inj, .log, .cnt] l) :
    Only l s (t.smJudge k n r t') ↔ Only l s t := by
  refine Only.congr h ?_
  unfold State.smJudge
  repeat' first
    | with_reducible exact Only.rfl
    | exact Eq.refl true
    | with_reducible refine Only.ite ?_ ?_
    | with_reducible intro _ _
    | with_reducible refine (State.mSafe_only _ _ ?_).2 ?_
    | with_reducible refine (State.removePermit_only _ _ _ _ ?_).2 ?_
    | with_reducible refine (State.safetyFinding_only _ _ _ _ ?_).2 ?_

@[simp] theorem State.smConvert_only {l : List Part} {s : State} (t : State) (n : Fin 64) (r : ChRec) (x : Int) (clamped : Bool)
    (h : Within [.loop, .drv, .prog, .safe, .inj, .log, .cnt] l) :
    Only l s (t.smConvert n r x clamped) ↔ Only l s t := by
  refine Only.congr h ?_
  unfold State.smConvert
  repeat' first
    | with_reducible exact Only.rfl
    | exact Eq.refl true
    | with_reducible intro _ _
    | with_reducible refine (State.smJudge_only _ _ _ _ _ ?_).2 ?_
    | split

@[simp] theorem State.convKeep_only {l : List Part} {s : State} (t : State) (n : Fin 64) (v : Conv) (r : ChRec) (h : Within [.fe] l) :
    Only l s (t.convKeep n v r) ↔ Only l s t := by
  refine Only.congr h ?_
  unfold State.convKeep
  repeat' first
    | with_reducible exact Only.rfl
    | exact Eq.refl true
    | with_reducible intro _ _
    | with_reducible refine (State.mCh_only _ _ _ ?_).2 ?_

@[simp] theorem State.convDetect_only {l : List Part} {s : State} (t : State) (n : Fin 64) (clamped : Bool) (burnt : Bool)
    (h : Within [.inj, .log] l) :
    Only l s (t.convDetect n clamped burnt) ↔ Only l s t := by
  refine Only.congr h ?_
  unfold State.convDetect
  repeat' first
    | with_reducible exact Only.rfl
    | exact Eq.refl true
    | with_reducible refine Only.ite ?_ ?_
    | with_reducible intro _ _
    | with_reducible refine (State.detected_only _ _ _ _ ?_).2 ?_

@[simp] theorem State.convDone_only {l : List Part} {s : State} (t : State) (n : Fin 64) (v : Conv)
    (h : Within [.fe, .loop, .drv, .prog, .safe, .inj, .log, .cnt] l) :
    Only l s (t.convDone n v) ↔ Only l s t := by
  refine Only.congr h ?_
  unfold State.convDone
  repeat' first
    | with_reducible exact Only.rfl
    | exact Eq.refl true
    | with_reducible intro _ _
    | with_reducible refine (State.convDetect_only _ _ _ _ ?_).2 ?_
    | with_reducible refine (State.convKeep_only _ _ _ _ ?_).2 ?_
    | with_reducible refine (State.smConvert_only _ _ _ _ _ ?_).2 ?_

@[simp] theorem State.finishPair_only {l : List Part} {s : State} (t : State) (p : Fin 64) (n : Fin 64) (v : Conv)
    (h : Within [.fe, .loop, .drv, .prog, .safe, .inj, .log, .cnt] l) :
    Only l s (t.finishPair p n v) ↔ Only l s t := by
  refine Only.congr h ?_
  unfold State.finishPair
  repeat' first
    | with_reducible exact Only.rfl
    | exact Eq.refl true
    | with_reducible refine Only.ite ?_ ?_
    | with_reducible intro _ _
    | with_reducible refine (State.convDone_only _ _ _ ?_).2 ?_
    | with_reducible refine (State.mCh_only _ _ _ ?_).2 ?_

@[simp] theorem State.calFrom_only {l : List Part} {s : State} (t : State) (start : Nat) (h : Within [.fe] l) :
    Only l s (t.calFrom start) ↔ Only l s t := by
  refine Only.congr h ?_
  unfold State.calFrom
  repeat' first
    | with_reducible exact Only.rfl
    | exact Eq.refl true
    | with_reducible refine Only.ite ?_ ?_
    | with_reducible intro _ _
    | with_reducible refine (State.mFe_only _ _ ?_).2 ?_
    | split

@[simp] theorem State.convTaken_only {l : List Part} {s : State} (t : State) (n : Fin 64) (v : Conv) (h : Within [.fe, .energy] l) :
    Only l s (t.convTaken n v) ↔ Only l s t := by
  refine Only.congr h ?_
  unfold State.convTaken
  repeat' first
    | with_reducible exact Only.rfl
    | exact Eq.refl true
    | with_reducible intro _ _
    | with_reducible refine (State.mCh_only _ _ _ ?_).2 ?_
    | with_reducible refine (State.mEnergy_only _ _ ?_).2 ?_
    | with_reducible refine (State.mGrp_only _ _ _ ?_).2 ?_

@[simp] theorem State.convForm_only {l : List Part} {s : State} (t : State) (n : Fin 64) (v : Conv)
    (h : Within [.fe, .loop, .drv, .prog, .safe, .inj, .log, .cnt] l) :
    Only l s (t.convForm n v) ↔ Only l s t := by
  refine Only.congr h ?_
  unfold State.convForm
  repeat' first
    | with_reducible exact Only.rfl
    | exact Eq.refl true
    | with_reducible refine Only.ite ?_ ?_
    | with_reducible intro _ _
    | with_reducible refine (State.convDone_only _ _ _ ?_).2 ?_
    | with_reducible refine (State.finishPair_only _ _ _ _ ?_).2 ?_
    | with_reducible refine (State.mCh_only _ _ _ ?_).2 ?_
    | split

@[simp] theorem State.slotEnded_only {l : List Part} {s : State} (t : State) (g : Fin 4) (h : Within [.fe] l) :
    Only l s (t.slotEnded g) ↔ Only l s t := by
  refine Only.congr h ?_
  unfold State.slotEnded
  repeat' first
    | with_reducible exact Only.rfl
    | exact Eq.refl true
    | with_reducible refine Only.ite ?_ ?_
    | with_reducible intro _ _
    | with_reducible refine (State.endScan_only _ _ ?_).2 ?_

@[simp] theorem State.convert_only {l : List Part} {s : State} (t : State) (n : Fin 64) (raw0 : Int) (clamp0 : Option Bool)
    (h : Within [.fe, .loop, .drv, .prog, .energy, .safe, .inj, .log, .cnt] l) :
    Only l s (t.convert n raw0 clamp0) ↔ Only l s t := by
  refine Only.congr h ?_
  unfold State.convert
  repeat' first
    | with_reducible exact Only.rfl
    | exact Eq.refl true
    | with_reducible intro _ _
    | with_reducible refine (State.convForm_only _ _ _ ?_).2 ?_
    | with_reducible refine (State.convTaken_only _ _ _ ?_).2 ?_
    | with_reducible refine (State.slotEnded_only _ _ ?_).2 ?_

@[simp] theorem State.checkSm_only {l : List Part} {s : State} (t : State) (g : Fin 4) (good : Bool)
    (h : Within [.loop, .drv, .prog, .safe, .inj, .log, .cnt] l) :
    Only l s (t.checkSm g good) ↔ Only l s t := by
  refine Only.congr h ?_
  unfold State.checkSm
  repeat' first
    | with_reducible exact Only.rfl
    | exact Eq.refl true
    | with_reducible refine Only.ite ?_ ?_
    | with_reducible intro _ _
    | with_reducible refine (State.mSafe_only _ _ ?_).2 ?_
    | with_reducible refine (State.removePermit_only _ _ _ _ ?_).2 ?_
    | with_reducible refine (State.safetyFinding_only _ _ _ _ ?_).2 ?_
    | split

@[simp] theorem State.checkNoted_only {l : List Part} {s : State} (t : State) (g : Fin 4) (good : Bool) (h : Within [.fe, .inj, .log] l) :
    Only l s (t.checkNoted g good) ↔ Only l s t := by
  refine Only.congr h ?_
  unfold State.checkNoted
  repeat' first
    | with_reducible exact Only.rfl
    | exact Eq.refl true
    | with_reducible refine Only.ite ?_ ?_
    | with_reducible intro _ _
    | with_reducible refine (State.detected_only _ _ _ _ ?_).2 ?_
    | with_reducible refine (State.mGrp_only _ _ _ ?_).2 ?_

@[simp] theorem State.checkSlot_only {l : List Part} {s : State} (t : State) (g : Fin 4) (zero : Int) (ref : Int)
    (h : Within [.fe, .loop, .drv, .prog, .safe, .inj, .log, .cnt] l) :
    Only l s (t.checkSlot g zero ref) ↔ Only l s t := by
  refine Only.congr h ?_
  unfold State.checkSlot
  repeat' first
    | with_reducible exact Only.rfl
    | exact Eq.refl true
    | with_reducible intro _ _
    | with_reducible refine (State.checkNoted_only _ _ _ ?_).2 ?_
    | with_reducible refine (State.checkSm_only _ _ _ ?_).2 ?_
    | with_reducible refine (State.slotEnded_only _ _ ?_).2 ?_

@[simp] theorem State.cjSample_only {l : List Part} {s : State} (t : State) (i : Fin 8) (t0 : Int) (h : Within [.fe, .inj, .log] l) :
    Only l s (t.cjSample i t0) ↔ Only l s t := by
  refine Only.congr h ?_
  unfold State.cjSample
  repeat' first
    | with_reducible exact Only.rfl
    | exact Eq.refl true
    | with_reducible refine Only.ite ?_ ?_
    | with_reducible intro _ _
    | with_reducible refine (State.detected_only _ _ _ _ ?_).2 ?_
    | with_reducible refine (State.mFe_only _ _ ?_).2 ?_

@[simp] theorem State.mSc_only {l : List Part} {s : State} (t : State) (n : Fin 16) (f : ScChan → ScChan) (h : Within [.se] l) :
    Only l s (t.mSc n f) ↔ Only l s t := by
  refine Only.congr h ?_
  unfold State.mSc
  repeat' first
    | with_reducible exact Only.rfl
    | exact Eq.refl true
    | with_reducible intro _ _
    | with_reducible refine (State.mSe_only _ _ ?_).2 ?_

@[simp] theorem State.mRb_only {l : List Part} {s : State} (t : State) (b : Fin 4) (f : Rb → Rb) (h : Within [.se] l) :
    Only l s (t.mRb b f) ↔ Only l s t := by
  refine Only.congr h ?_
  unfold State.mRb
  repeat' first
    | with_reducible exact Only.rfl
    | exact Eq.refl true
    | with_reducible intro _ _
    | with_reducible refine (State.mSe_only _ _ ?_).2 ?_

@[simp] theorem State.scHalt_only {l : List Part} {s : State} (t : State) (n : Fin 8) (e : Nat) (h : Within [.se] l) :
    Only l s (t.scHalt n e) ↔ Only l s t := by
  refine Only.congr h ?_
  unfold State.scHalt
  repeat' first
    | with_reducible exact Only.rfl
    | exact Eq.refl true
    | with_reducible intro _ _
    | with_reducible refine (State.mSc_only _ _ _ ?_).2 ?_

@[simp] theorem State.scEnter_only {l : List Part} {s : State} (t : State) (n : Fin 8) (slot : Nat) (h : Within [.se] l) :
    Only l s (t.scEnter n slot) ↔ Only l s t := by
  refine Only.congr h ?_
  unfold State.scEnter
  repeat' first
    | with_reducible exact Only.rfl
    | exact Eq.refl true
    | with_reducible refine Only.ite ?_ ?_
    | with_reducible intro _ _
    | with_reducible refine (State.mSc_only _ _ _ ?_).2 ?_
    | with_reducible refine (State.scHalt_only _ _ _ ?_).2 ?_

@[simp] theorem State.scRest_only {l : List Part} {s : State} (t : State) (n : Fin 8) (h : Within [.se] l) :
    Only l s (t.scRest n) ↔ Only l s t := by
  refine Only.congr h ?_
  unfold State.scRest
  repeat' first
    | with_reducible exact Only.rfl
    | exact Eq.refl true
    | with_reducible refine Only.ite ?_ ?_
    | with_reducible intro _ _
    | with_reducible refine (State.mSc_only _ _ _ ?_).2 ?_

@[simp] theorem State.scBegin_only {l : List Part} {s : State} (t : State) (n : Fin 8) (h : Within [.se] l) :
    Only l s (t.scBegin n) ↔ Only l s t := by
  refine Only.congr h ?_
  unfold State.scBegin
  repeat' first
    | with_reducible exact Only.rfl
    | exact Eq.refl true
    | with_reducible refine Only.each ?_ ?_
    | with_reducible intro _ _
    | with_reducible refine (State.mRb_only _ _ _ ?_).2 ?_
    | with_reducible refine (State.mSc_only _ _ _ ?_).2 ?_
    | with_reducible refine (State.scEnter_only _ _ _ ?_).2 ?_
    | with_reducible refine (State.scRest_only _ _ ?_).2 ?_
    | split

@[simp] theorem State.scTrigger_only {l : List Part} {s : State} (t : State) (t' : Nat) (h : Within [.se] l) :
    Only l s (t.scTrigger t') ↔ Only l s t := by
  refine Only.congr h ?_
  unfold State.scTrigger
  repeat' first
    | with_reducible exact Only.rfl
    | exact Eq.refl true
    | with_reducible refine Only.ite ?_ ?_
    | with_reducible refine Only.each ?_ ?_
    | with_reducible intro _ _
    | with_reducible refine (State.mSc_only _ _ _ ?_).2 ?_
    | with_reducible refine (State.scBegin_only _ _ ?_).2 ?_
    | split

@[simp] theorem State.scDone_only {l : List Part} {s : State} (t : State) (k : Fin 8) (h : Within [.se] l) :
    Only l s (t.scDone k) ↔ Only l s t := by
  refine Only.congr h ?_
  unfold State.scDone
  repeat' first
    | with_reducible exact Only.rfl
    | exact Eq.refl true
    | with_reducible intro _ _
    | with_reducible refine (State.mSc_only _ _ _ ?_).2 ?_
    | with_reducible refine (State.scTrigger_only _ _ ?_).2 ?_

@[simp] theorem State.estopFollow_only {l : List Part} {s : State} (t : State)  (h : Within [.drv, .fan, .safe, .log] l) :
    Only l s (t.estopFollow) ↔ Only l s t := by
  refine Only.congr h ?_
  unfold State.estopFollow
  repeat' first
    | with_reducible exact Only.rfl
    | exact Eq.refl true
    | with_reducible refine Only.ite ?_ ?_
    | with_reducible intro _ _
    | with_reducible refine (State.fansSettle_only _ ?_).2 ?_
    | with_reducible refine (State.mSafe_only _ _ ?_).2 ?_
    | with_reducible refine (State.releaseAll_only _ ?_).2 ?_

@[simp] theorem State.proofEnd_only {l : List Part} {s : State} (t : State) (result : Nat) (fstep : Nat) (detail : Nat)
    (h : Within [.frm, .safe, .log] l) :
    Only l s (t.proofEnd result fstep detail) ↔ Only l s t := by
  refine Only.congr h ?_
  unfold State.proofEnd
  repeat' first
    | with_reducible exact Only.rfl
    | exact Eq.refl true
    | with_reducible refine Only.ite ?_ ?_
    | with_reducible intro _ _
    | with_reducible refine (State.finish_only _ _ _ _ ?_).2 ?_
    | with_reducible refine (State.logSm_only _ _ _ _ ?_).2 ?_
    | with_reducible refine (State.mSafe_only _ _ ?_).2 ?_
    | split

@[simp] theorem State.proofAbort_only {l : List Part} {s : State} (t : State)  (h : Within [.frm, .safe, .log] l) :
    Only l s (t.proofAbort) ↔ Only l s t := by
  refine Only.congr h ?_
  unfold State.proofAbort
  repeat' first
    | with_reducible exact Only.rfl
    | exact Eq.refl true
    | with_reducible intro _ _
    | with_reducible refine (State.proofEnd_only _ _ _ _ ?_).2 ?_

@[simp] theorem State.siEnter_only {l : List Part} {s : State} (t : State) (i : Fin 4)
    (h : Within [.frm, .loop, .drv, .fan, .prog, .safe, .log, .cnt] l) :
    Only l s (t.siEnter i) ↔ Only l s t := by
  refine Only.congr h ?_
  unfold State.siEnter
  repeat' first
    | with_reducible exact Only.rfl
    | exact Eq.refl true
    | with_reducible refine Only.ite ?_ ?_
    | with_reducible intro _ _
    | with_reducible refine (State.estopFollow_only _ ?_).2 ?_
    | with_reducible refine (State.proofAbort_only _ ?_).2 ?_
    | with_reducible refine (State.removePermit_only _ _ _ _ ?_).2 ?_

@[simp] theorem State.siDiagSet_only {l : List Part} {s : State} (t : State) (i : Fin 4) (id : Nat)
    (h : Within [.frm, .loop, .drv, .fan, .prog, .safe, .inj, .log, .cnt] l) :
    Only l s (t.siDiagSet i id) ↔ Only l s t := by
  refine Only.congr h ?_
  unfold State.siDiagSet
  repeat' first
    | with_reducible exact Only.rfl
    | exact Eq.refl true
    | with_reducible refine Only.ite ?_ ?_
    | with_reducible intro _ _
    | with_reducible refine (State.mSafe_only _ _ ?_).2 ?_
    | with_reducible refine (State.safetyFinding_only _ _ _ _ ?_).2 ?_
    | with_reducible refine (State.siEnter_only _ _ ?_).2 ?_

@[simp] theorem State.siCycle_only {l : List Part} {s : State} (t : State) (i : Fin 4) (a : Bool) (b : Bool)
    (h : Within [.frm, .loop, .drv, .fan, .prog, .safe, .log, .cnt] l) :
    Only l s (t.siCycle i a b) ↔ Only l s t := by
  refine Only.congr h ?_
  unfold State.siCycle
  repeat' first
    | with_reducible exact Only.rfl
    | exact Eq.refl true
    | with_reducible refine Only.ite ?_ ?_
    | with_reducible intro _ _
    | with_reducible refine (State.mSafe_only _ _ ?_).2 ?_
    | with_reducible refine (State.siEnter_only _ _ ?_).2 ?_

@[simp] theorem State.siPulse_only {l : List Part} {s : State} (t : State) (i : Fin 4) (k : Nat) (own : Bool) (other : Bool)
    (h : Within [.frm, .loop, .drv, .fan, .prog, .safe, .inj, .log, .cnt] l) :
    Only l s (t.siPulse i k own other) ↔ Only l s t := by
  refine Only.congr h ?_
  unfold State.siPulse
  repeat' first
    | with_reducible exact Only.rfl
    | exact Eq.refl true
    | with_reducible refine Only.ite ?_ ?_
    | with_reducible intro _ _
    | with_reducible refine (State.mSafe_only _ _ ?_).2 ?_
    | with_reducible refine (State.siDiagSet_only _ _ _ ?_).2 ?_

@[simp] theorem State.airCycle_only {l : List Part} {s : State} (t : State)  (h : Within [.safe] l) :
    Only l s (t.airCycle) ↔ Only l s t := by
  refine Only.congr h ?_
  unfold State.airCycle
  repeat' first
    | with_reducible exact Only.rfl
    | exact Eq.refl true
    | with_reducible refine Only.ite ?_ ?_
    | with_reducible intro _ _
    | with_reducible refine (State.mSafe_only _ _ ?_).2 ?_

@[simp] theorem State.grant_only {l : List Part} {s : State} (t : State)  (h : Within [.safe, .log] l) :
    Only l s (t.grant) ↔ Only l s t := by
  refine Only.congr h ?_
  unfold State.grant
  repeat' first
    | with_reducible exact Only.rfl
    | exact Eq.refl true
    | with_reducible intro _ _
    | with_reducible refine (State.logSm_only _ _ _ _ ?_).2 ?_
    | with_reducible refine (State.mSafe_only _ _ ?_).2 ?_

@[simp] theorem State.hpSample_only {l : List Part} {s : State} (t : State) (hpA : Nat) (hpB : Nat)
    (h : Within [.loop, .drv, .prog, .safe, .inj, .log, .cnt] l) :
    Only l s (t.hpSample hpA hpB) ↔ Only l s t := by
  refine Only.congr h ?_
  unfold State.hpSample
  repeat' first
    | with_reducible exact Only.rfl
    | exact Eq.refl true
    | with_reducible refine Only.ite ?_ ?_
    | with_reducible intro _ _
    | with_reducible refine (State.detected_only _ _ _ _ ?_).2 ?_
    | with_reducible refine (State.mSafe_only _ _ ?_).2 ?_
    | with_reducible refine (State.safetyFinding_only _ _ _ _ ?_).2 ?_

@[simp] theorem State.onCycle_only {l : List Part} {s : State} (t : State)  (h : Within [.loop, .drv, .prog, .safe, .log, .cnt] l) :
    Only l s (t.onCycle) ↔ Only l s t := by
  refine Only.congr h ?_
  unfold State.onCycle
  repeat' first
    | with_reducible exact Only.rfl
    | exact Eq.refl true
    | with_reducible refine Only.ite ?_ ?_
    | with_reducible intro _ _
    | with_reducible refine (State.mSafe_only _ _ ?_).2 ?_
    | with_reducible refine (State.removePermit_only _ _ _ _ ?_).2 ?_

@[simp] theorem State.heatMapInject_only {l : List Part} {s : State} (t : State)  (h : Within [.loop, .drv, .prog, .safe, .inj, .log, .cnt] l) :
    Only l s (t.heatMapInject) ↔ Only l s t := by
  refine Only.congr h ?_
  unfold State.heatMapInject
  repeat' first
    | with_reducible exact Only.rfl
    | exact Eq.refl true
    | with_reducible refine Only.ite ?_ ?_
    | with_reducible refine Only.each ?_ ?_
    | with_reducible intro _ _
    | with_reducible refine (State.safetyFinding_only _ _ _ _ ?_).2 ?_

@[simp] theorem State.relInject_only {l : List Part} {s : State} (t : State)  (h : Within [.safe, .inj, .log] l) :
    Only l s (t.relInject) ↔ Only l s t := by
  refine Only.congr h ?_
  unfold State.relInject
  repeat' first
    | with_reducible exact Only.rfl
    | exact Eq.refl true
    | with_reducible refine Only.ite ?_ ?_
    | with_reducible refine Only.each ?_ ?_
    | with_reducible intro _ _
    | with_reducible refine (State.detected_only _ _ _ _ ?_).2 ?_
    | with_reducible refine (State.setLatch_only _ _ _ _ ?_).2 ?_

@[simp] theorem State.smCycle_only {l : List Part} {s : State} (t : State) (levels : BitVec 8) (hpA : Nat) (hpB : Nat)
    (h : Within [.frm, .loop, .drv, .fan, .prog, .safe, .inj, .log, .cnt] l) :
    Only l s (t.smCycle levels hpA hpB) ↔ Only l s t := by
  refine Only.congr h ?_
  unfold State.smCycle
  repeat' first
    | with_reducible exact Only.rfl
    | exact Eq.refl true
    | with_reducible refine Only.ite ?_ ?_
    | with_reducible refine Only.each ?_ ?_
    | with_reducible intro _ _
    | with_reducible refine (State.airCycle_only _ ?_).2 ?_
    | with_reducible refine (State.estopFollow_only _ ?_).2 ?_
    | with_reducible refine (State.grant_only _ ?_).2 ?_
    | with_reducible refine (State.heatMapInject_only _ ?_).2 ?_
    | with_reducible refine (State.hpSample_only _ _ _ ?_).2 ?_
    | with_reducible refine (State.mSafe_only _ _ ?_).2 ?_
    | with_reducible refine (State.onCycle_only _ ?_).2 ?_
    | with_reducible refine (State.proofAbort_only _ ?_).2 ?_
    | with_reducible refine (State.relInject_only _ ?_).2 ?_
    | with_reducible refine (State.siCycle_only _ _ _ _ ?_).2 ?_

@[simp] theorem State.confirm_only {l : List Part} {s : State} (t : State) (c : SafeCfg) (h : Within [.drv, .fan, .safe, .log] l) :
    Only l s (t.confirm c) ↔ Only l s t := by
  refine Only.congr h ?_
  unfold State.confirm
  repeat' first
    | with_reducible exact Only.rfl
    | exact Eq.refl true
    | with_reducible refine Only.ite ?_ ?_
    | with_reducible intro _ _
    | with_reducible refine (State.estopFollow_only _ ?_).2 ?_
    | with_reducible refine (State.logSm_only _ _ _ _ ?_).2 ?_
    | with_reducible refine (State.mSafe_only _ _ ?_).2 ?_

@[simp] theorem State.siForget_only {l : List Part} {s : State} (t : State)  (h : Within [.safe] l) :
    Only l s (t.siForget) ↔ Only l s t := by
  refine Only.congr h ?_
  unfold State.siForget
  repeat' first
    | with_reducible exact Only.rfl
    | exact Eq.refl true
    | with_reducible intro _ _
    | with_reducible refine (State.mSafe_only _ _ ?_).2 ?_

@[simp] theorem State.smTrip_only {l : List Part} {s : State} (t : State) (id : Nat)
    (h : Within [.loop, .drv, .prog, .safe, .inj, .log, .cnt, .ho] l) :
    Only l s (t.smTrip id) ↔ Only l s t := by
  refine Only.congr h ?_
  unfold State.smTrip
  repeat' first
    | with_reducible exact Only.rfl
    | exact Eq.refl true
    | with_reducible refine Only.ite ?_ ?_
    | with_reducible intro _ _
    | with_reducible refine (State.detected_only _ _ _ _ ?_).2 ?_
    | with_reducible refine (State.mHo_only _ _ ?_).2 ?_
    | with_reducible refine (State.removePermit_only _ _ _ _ ?_).2 ?_

@[simp] theorem State.portStart_only {l : List Part} {s : State} (t : State) (n : Fin 8) (t' : Int) (h : Within [.die] l) :
    Only l s (t.portStart n t') ↔ Only l s t := by
  refine Only.congr h ?_
  unfold State.portStart
  repeat' first
    | with_reducible exact Only.rfl
    | exact Eq.refl true
    | with_reducible intro _ _
    | with_reducible refine (State.mDie_only _ _ ?_).2 ?_
    | with_reducible refine (State.mPort_only _ _ _ ?_).2 ?_

@[simp] theorem State.cycleStart_only {l : List Part} {s : State} (t : State) (t' : Nat) (h : Within [.die] l) :
    Only l s (t.cycleStart t') ↔ Only l s t := by
  refine Only.congr h ?_
  unfold State.cycleStart
  repeat' first
    | with_reducible exact Only.rfl
    | exact Eq.refl true
    | with_reducible refine Only.ite ?_ ?_
    | with_reducible intro _ _
    | with_reducible refine (State.portStart_only _ _ _ ?_).2 ?_
    | split

@[simp] theorem State.airEnd_only {l : List Part} {s : State} (t : State) (n : Fin 8) (r : ProbeRaw) (f : ProbeFaults) (h : Within [.frm, .die] l) :
    Only l s (t.airEnd n r f) ↔ Only l s t := by
  refine Only.congr h ?_
  unfold State.airEnd
  repeat' first
    | with_reducible exact Only.rfl
    | exact Eq.refl true
    | with_reducible refine Only.ite ?_ ?_
    | with_reducible intro _ _
    | with_reducible refine Res.bad_only ?_
    | with_reducible refine Res.ok_only ?_
    | with_reducible refine (State.finish_only _ _ _ _ ?_).2 ?_
    | with_reducible refine (State.mPort_only _ _ _ ?_).2 ?_
    | split
    | dsimp only

@[simp] theorem State.probeNote_only {l : List Part} {s : State} (t : State) (n : Fin 8) (f : ProbeFaults) (h : Within [.die, .inj, .log] l) :
    Only l s (t.probeNote n f) ↔ Only l s t := by
  refine Only.congr h ?_
  unfold State.probeNote
  repeat' first
    | with_reducible exact Only.rfl
    | exact Eq.refl true
    | with_reducible refine Only.ite ?_ ?_
    | with_reducible intro _ _
    | with_reducible refine (State.detected_only _ _ _ _ ?_).2 ?_
    | with_reducible refine (State.mPort_only _ _ _ ?_).2 ?_

@[simp] theorem State.portEnd_only {l : List Part} {s : State} (t : State) (n : Fin 8) (r0 : ProbeRaw) (start : Int)
    (h : Within [.frm, .die, .inj, .log, .free] l) :
    Only l s (t.portEnd n r0 start) ↔ Only l s t := by
  refine Only.congr h ?_
  unfold State.portEnd
  repeat' first
    | with_reducible exact Only.rfl
    | exact Eq.refl true
    | with_reducible refine Only.ite ?_ ?_
    | with_reducible intro _ _
    | with_reducible refine (State.airEnd_only _ _ _ _ ?_).2 ?_
    | with_reducible refine (State.drew_only _ ?_).2 ?_
    | with_reducible refine (State.mPort_only _ _ _ ?_).2 ?_
    | with_reducible refine (State.probeNote_only _ _ _ ?_).2 ?_
    | split
    | dsimp only

@[simp] theorem State.portNext_only {l : List Part} {s : State} (t : State) (after : Nat) (t' : Int) (h : Within [.die] l) :
    Only l s (t.portNext after t') ↔ Only l s t := by
  refine Only.congr h ?_
  unfold State.portNext
  repeat' first
    | with_reducible exact Only.rfl
    | exact Eq.refl true
    | with_reducible intro _ _
    | with_reducible refine (State.mDie_only _ _ ?_).2 ?_
    | with_reducible refine (State.portStart_only _ _ _ ?_).2 ?_
    | split

@[simp] theorem State.measureEnd_only {l : List Part} {s : State} (t : State) (r : ProbeRaw) (h : Within [.frm, .die, .inj, .log, .free] l) :
    Only l s (t.measureEnd r) ↔ Only l s t := by
  refine Only.congr h ?_
  unfold State.measureEnd
  repeat' first
    | with_reducible exact Only.rfl
    | exact Eq.refl true
    | with_reducible refine Only.ite ?_ ?_
    | with_reducible intro _ _
    | with_reducible refine (State.portEnd_only _ _ _ _ ?_).2 ?_
    | with_reducible refine (State.portNext_only _ _ _ ?_).2 ?_
    | split

@[simp] theorem State.setPort_only {l : List Part} {s : State} (t : State) (n : Fin 8) (en : Bool) (tch : Nat) (crop : Nat) (c0 : Nat)
    (h : Within [.frm, .die] l) :
    Only l s (t.setPort n en tch crop c0) ↔ Only l s t := by
  refine Only.congr h ?_
  unfold State.setPort
  repeat' first
    | with_reducible exact Only.rfl
    | exact Eq.refl true
    | with_reducible refine Only.ite ?_ ?_
    | with_reducible intro _ _
    | with_reducible refine Res.bad_only ?_
    | with_reducible refine Res.ok_only ?_
    | with_reducible refine (State.finish_only _ _ _ _ ?_).2 ?_
    | with_reducible refine (State.mPort_only _ _ _ ?_).2 ?_
    | split

@[simp] theorem State.loadProg_only {l : List Part} {s : State} (t : State) (kind : Nat) (set : List (Nat × Int)) (h : Within [.prog, .log] l) :
    Only l s (t.loadProg kind set) ↔ Only l s t := by
  refine Only.congr h ?_
  unfold State.loadProg
  repeat' first
    | with_reducible exact Only.rfl
    | exact Eq.refl true
    | with_reducible refine Only.ite ?_ ?_
    | with_reducible intro _ _
    | with_reducible refine (State.logE_only _ _ _ _ ?_).2 ?_
    | with_reducible refine (State.mProg_only _ _ ?_).2 ?_

@[simp] theorem State.addWater_only {l : List Part} {s : State} (t : State) (vol : Nat) (den : Nat) (mIn : Int) (mOut : Int)
    (h : Within [.prog, .energy, .free] l) :
    Only l s (t.addWater vol den mIn mOut) ↔ Only l s t := by
  refine Only.congr h ?_
  unfold State.addWater
  repeat' first
    | with_reducible exact Only.rfl
    | exact Eq.refl true
    | with_reducible refine Only.ite ?_ ?_
    | with_reducible intro _ _
    | with_reducible refine (State.drew_only _ ?_).2 ?_
    | with_reducible refine (State.mEnergy_only _ _ ?_).2 ?_
    | with_reducible refine (State.mProg_only _ _ ?_).2 ?_

@[simp] theorem State.batchWater_only {l : List Part} {s : State} (t : State) (next : PState) (t' : Nat) (h : Within [.prog, .energy, .free] l) :
    Only l s (t.batchWater next t') ↔ Only l s t := by
  refine Only.congr h ?_
  unfold State.batchWater
  repeat' first
    | with_reducible exact Only.rfl
    | exact Eq.refl true
    | with_reducible refine Only.ite ?_ ?_
    | with_reducible intro _ _
    | with_reducible refine (State.addWater_only _ _ _ _ _ ?_).2 ?_
    | with_reducible refine (State.mProg_only _ _ ?_).2 ?_
    | split
    | dsimp only

@[simp] theorem State.enterRun_only {l : List Part} {s : State} (t : State) (t' : Nat) (h : Within [.prog] l) :
    Only l s (t.enterRun t') ↔ Only l s t := by
  refine Only.congr h ?_
  unfold State.enterRun
  repeat' first
    | with_reducible exact Only.rfl
    | exact Eq.refl true
    | with_reducible refine Only.ite ?_ ?_
    | with_reducible intro _ _
    | with_reducible refine (State.mProg_only _ _ ?_).2 ?_

@[simp] theorem State.progEnter_only {l : List Part} {s : State} (t : State) (next : PState) (cause : Nat) (t' : Nat)
    (h : Within [.prog, .energy, .safe, .log, .free] l) :
    Only l s (t.progEnter next cause t') ↔ Only l s t := by
  refine Only.congr h ?_
  unfold State.progEnter
  repeat' first
    | with_reducible exact Only.rfl
    | exact Eq.refl true
    | with_reducible refine Only.ite ?_ ?_
    | with_reducible intro _ _
    | with_reducible refine (State.batchWater_only _ _ _ ?_).2 ?_
    | with_reducible refine (State.enterRun_only _ _ ?_).2 ?_
    | with_reducible refine (State.logAs_only _ _ _ _ _ _ ?_).2 ?_
    | with_reducible refine (State.mProg_only _ _ ?_).2 ?_
    | with_reducible refine (State.mSafe_only _ _ ?_).2 ?_

@[simp] theorem State.progReq_only {l : List Part} {s : State} (t : State) (t' : Nat) (r : ProgReq)
    (h : Within [.prog, .energy, .safe, .log, .free] l) :
    Only l s (t.progReq t' r) ↔ Only l s t := by
  refine Only.congr h ?_
  unfold State.progReq
  repeat' first
    | with_reducible exact Only.rfl
    | exact Eq.refl true
    | with_reducible refine Only.ite ?_ ?_
    | with_reducible intro _ _
    | with_reducible refine (State.progEnter_only _ _ _ _ ?_).2 ?_
    | split

@[simp] theorem State.progPermitLost_only {l : List Part} {s : State} (t : State) (t' : Nat) (h : Within [.prog, .energy, .safe, .log, .free] l) :
    Only l s (t.progPermitLost t') ↔ Only l s t := by
  refine Only.congr h ?_
  unfold State.progPermitLost
  repeat' first
    | with_reducible exact Only.rfl
    | exact Eq.refl true
    | with_reducible refine Only.ite ?_ ?_
    | with_reducible intro _ _
    | with_reducible refine (State.mProg_only _ _ ?_).2 ?_
    | with_reducible refine (State.progEnter_only _ _ _ _ ?_).2 ?_
    | split

@[simp] theorem State.progEvent_only {l : List Part} {s : State} (t : State) (t' : Nat) (h : Within [.prog, .energy, .safe, .log, .free] l) :
    Only l s (t.progEvent t') ↔ Only l s t := by
  refine Only.congr h ?_
  unfold State.progEvent
  repeat' first
    | with_reducible exact Only.rfl
    | exact Eq.refl true
    | with_reducible refine Only.ite ?_ ?_
    | with_reducible intro _ _
    | with_reducible refine (State.mProg_only _ _ ?_).2 ?_
    | with_reducible refine (State.progEnter_only _ _ _ _ ?_).2 ?_
    | split
    | dsimp only

@[simp] theorem State.ask_only {l : List Part} {s : State} (t : State) (r : ProgReq) (h : Within [.prog] l) :
    Only l s (t.ask r).s ↔ Only l s t := by
  refine Only.congr h ?_
  unfold State.ask
  repeat' first
    | with_reducible exact Only.rfl
    | exact Eq.refl true
    | with_reducible intro _ _
    | with_reducible refine Res.bad_only ?_
    | with_reducible refine Res.ok_only ?_
    | with_reducible refine (State.mProg_only _ _ ?_).2 ?_

@[simp] theorem State.plenumClose_only {l : List Part} {s : State} (t : State)  (h : Within [.loop, .drv] l) :
    Only l s (t.plenumClose) ↔ Only l s t := by
  refine Only.congr h ?_
  unfold State.plenumClose
  repeat' first
    | with_reducible exact Only.rfl
    | exact Eq.refl true
    | with_reducible refine Only.ite ?_ ?_
    | with_reducible intro _ _
    | with_reducible refine (State.loProcess_only _ _ _ ?_).2 ?_
    | with_reducible refine (State.release_only _ _ _ ?_).2 ?_
    | split

@[simp] theorem State.plenumDrive_only {l : List Part} {s : State} (t : State) (u : Nat) (h : Within [.loop, .drv] l) :
    Only l s (t.plenumDrive u) ↔ Only l s t := by
  refine Only.congr h ?_
  unfold State.plenumDrive
  repeat' first
    | with_reducible exact Only.rfl
    | exact Eq.refl true
    | with_reducible refine Only.ite ?_ ?_
    | with_reducible intro _ _
    | with_reducible refine (State.loProcess_only _ _ _ ?_).2 ?_
    | with_reducible refine (State.setI_only _ _ _ ?_).2 ?_
    | split

@[simp] theorem State.plenumLoop_only {l : List Part} {s : State} (t : State) (t' : Nat)
    (h : Within [.loop, .drv, .prog, .energy, .safe, .log, .free] l) :
    Only l s (t.plenumLoop t') ↔ Only l s t := by
  refine Only.congr h ?_
  unfold State.plenumLoop
  repeat' first
    | with_reducible exact Only.rfl
    | exact Eq.refl true
    | with_reducible intro _ _
    | with_reducible refine (State.mProg_only _ _ ?_).2 ?_
    | with_reducible refine (State.plenumClose_only _ ?_).2 ?_
    | with_reducible refine (State.plenumDrive_only _ _ ?_).2 ?_
    | with_reducible refine (State.progEnter_only _ _ _ _ ?_).2 ?_
    | split

@[simp] theorem State.addExposure_only {l : List Part} {s : State} (t : State) (t' : Nat) (h : Within [.prog] l) :
    Only l s (t.addExposure t') ↔ Only l s t := by
  refine Only.congr h ?_
  unfold State.addExposure
  repeat' first
    | with_reducible exact Only.rfl
    | exact Eq.refl true
    | with_reducible intro _ _
    | with_reducible refine (State.mProg_only _ _ ?_).2 ?_
    | split

@[simp] theorem State.parcelOut_only {l : List Part} {s : State} (t : State) (p : Parcel) (m : Int) (h : Within [.prog, .energy, .free] l) :
    Only l s (t.parcelOut p m) ↔ Only l s t := by
  refine Only.congr h ?_
  unfold State.parcelOut
  repeat' first
    | with_reducible exact Only.rfl
    | exact Eq.refl true
    | with_reducible refine Only.ite ?_ ?_
    | with_reducible intro _ _
    | with_reducible refine (State.addWater_only _ _ _ _ _ ?_).2 ?_
    | with_reducible refine (State.mProg_only _ _ ?_).2 ?_

@[simp] theorem State.storeParcels_only {l : List Part} {s : State} (t : State)  (h : Within [.prog] l) :
    Only l s (t.storeParcels) ↔ Only l s t := by
  refine Only.congr h ?_
  unfold State.storeParcels
  repeat' first
    | with_reducible exact Only.rfl
    | exact Eq.refl true
    | with_reducible intro _ _
    | with_reducible refine (State.mProg_only _ _ ?_).2 ?_

@[simp] theorem State.ioAsk_only {l : List Part} {s : State} (t : State) (h : Within [.pow] l) :
    Only l s (t.ioAsk) ↔ Only l s t := by
  refine Only.congr h ?_
  unfold State.ioAsk
  repeat' first
    | with_reducible exact Only.rfl
    | exact Eq.refl true
    | with_reducible refine Only.ite ?_ ?_
    | with_reducible intro _ _
    | with_reducible refine (State.mPow_only _ _ ?_).2 ?_

@[simp] theorem State.rebase_only {l : List Part} {s : State} (t : State) (d : Int) (h : Within [.fe, .die] l) :
    Only l s (t.rebase d) ↔ Only l s t := by
  refine Only.congr h ?_
  unfold State.rebase
  repeat' first
    | with_reducible exact Only.rfl
    | exact Eq.refl true
    | with_reducible intro _ _
    | with_reducible refine (State.mDie_only _ _ ?_).2 ?_
    | with_reducible refine (State.mFe_only _ _ ?_).2 ?_

@[simp] theorem State.trimBy_only {l : List Part} {s : State} (t : State) (new : MarkTaken) (h : Within [.sys] l) :
    Only l s (t.trimBy new) ↔ Only l s t := by
  refine Only.congr h ?_
  unfold State.trimBy
  repeat' first
    | with_reducible exact Only.rfl
    | exact Eq.refl true
    | with_reducible refine Only.ite ?_ ?_
    | with_reducible intro _ _
    | with_reducible refine (State.mSys_only _ _ ?_).2 ?_

@[simp] theorem State.compareMark_only {l : List Part} {s : State} (t : State) (srcB : Bool) (x : MarkHeard) (h : Within [.clk] l) :
    Only l s (t.compareMark srcB x) ↔ Only l s t := by
  refine Only.congr h ?_
  unfold State.compareMark
  repeat' first
    | with_reducible exact Only.rfl
    | exact Eq.refl true
    | with_reducible refine Only.ite ?_ ?_
    | with_reducible intro _ _
    | with_reducible refine (State.mClk_only _ _ ?_).2 ?_

@[simp] theorem State.reply_only {l : List Part} {s : State} (t : State) (who : Sender) (r : Reply) (h : Within [.frm] l) :
    Only l s (t.reply who r) ↔ Only l s t := by
  refine Only.congr h ?_
  unfold State.reply
  repeat' first
    | with_reducible exact Only.rfl
    | exact Eq.refl true
    | with_reducible refine Only.ite ?_ ?_
    | with_reducible intro _ _
    | with_reducible refine (State.countFull_only _ ?_).2 ?_
    | with_reducible refine (State.pushReply_only _ _ _ ?_).2 ?_

@[simp] theorem State.openReplied_only {l : List Part} {s : State} (t : State) (who : Sender) (r : Reply) (up : Nat) (h : Within [.auth] l) :
    Only l s (t.openReplied who r up) ↔ Only l s t := by
  refine Only.congr h ?_
  unfold State.openReplied
  repeat' first
    | with_reducible exact Only.rfl
    | exact Eq.refl true
    | with_reducible refine Only.ite ?_ ?_
    | with_reducible intro _ _
    | with_reducible refine (State.mAuth_only _ _ ?_).2 ?_

@[simp] theorem State.chanNoted_only {l : List Part} {s : State} (t : State) (v : Vector ChCfg 64) (h : Within [.fe] l) :
    Only l s (t.chanNoted v) ↔ Only l s t := by
  refine Only.congr h ?_
  unfold State.chanNoted
  repeat' first
    | with_reducible exact Only.rfl
    | exact Eq.refl true
    | with_reducible refine Only.ite ?_ ?_
    | with_reducible intro _ _
    | with_reducible refine (State.mFe_only _ _ ?_).2 ?_

@[simp] theorem State.loopsRamp_only {l : List Part} {s : State} (t : State) (h : Within [.loop] l) :
    Only l s (t.loopsRamp) ↔ Only l s t := by
  refine Only.congr h ?_
  unfold State.loopsRamp
  repeat' first
    | with_reducible exact Only.rfl
    | exact Eq.refl true
    | with_reducible refine Only.ite ?_ ?_
    | with_reducible refine Only.each ?_ ?_
    | with_reducible intro _ _
    | with_reducible refine (State.mLo_only _ _ _ ?_).2 ?_

@[simp] theorem State.hardMs_only {l : List Part} {s : State} (t : State) (t' : Nat) (held : Bool) (h : Within [.fe, .loop, .drv, .fan, .free] l) :
    Only l s (t.hardMs t' held) ↔ Only l s t := by
  refine Only.congr h ?_
  unfold State.hardMs
  repeat' first
    | with_reducible exact Only.rfl
    | exact Eq.refl true
    | with_reducible refine Only.ite ?_ ?_
    | with_reducible intro _ _
    | with_reducible refine (State.driversMs_only _ ?_).2 ?_
    | with_reducible refine (State.fanSpeeds_only _ ?_).2 ?_
    | with_reducible refine (State.loopsRamp_only _ ?_).2 ?_
    | with_reducible refine (State.scanSlips_only _ _ ?_).2 ?_

@[simp] theorem State.seenMs_only {l : List Part} {s : State} (t : State) (h : Within [.frm, .loop] l) :
    Only l s (t.seenMs) ↔ Only l s t := by
  refine Only.congr h ?_
  unfold State.seenMs
  repeat' first
    | with_reducible exact Only.rfl
    | exact Eq.refl true
    | with_reducible intro _ _
    | with_reducible refine (State.loopSpells_only _ ?_).2 ?_
    | with_reducible refine (State.mFrm_only _ _ ?_).2 ?_

@[simp] theorem State.endRise_only {l : List Part} {s : State} (t : State) (n : Fin 32) (peak : Bool) (points : Option (Nat × Nat × Nat × Nat))
      (vRes : Nat)
    (h : Within [.drv] l) :
    Only l s (t.endRise n peak points vRes) ↔ Only l s t := by
  refine Only.congr h ?_
  unfold State.endRise
  repeat' first
    | with_reducible exact Only.rfl
    | exact Eq.refl true
    | with_reducible refine Only.ite ?_ ?_
    | with_reducible intro _ _
    | with_reducible refine (State.chargeReview_only _ ?_).2 ?_
    | with_reducible refine (State.mDrvCh_only _ _ _ ?_).2 ?_
    | with_reducible refine (State.toPhase_only _ _ _ ?_).2 ?_

@[simp] theorem State.actDone_only {l : List Part} {s : State} (t : State) (n : Fin 32) (x : Released) (h : Within [.drv] l) :
    Only l s (t.actDone n x) ↔ Only l s t := by
  refine Only.congr h ?_
  unfold State.actDone
  repeat' first
    | with_reducible exact Only.rfl
    | exact Eq.refl true
    | with_reducible refine Only.ite ?_ ?_
    | with_reducible intro _ _
    | with_reducible refine (State.mDrvCh_only _ _ _ ?_).2 ?_

@[simp] theorem State.waitOver_only {l : List Part} {s : State} (t : State) (n : Fin 32) (h : Within [.drv] l) :
    Only l s (t.waitOver n) ↔ Only l s t := by
  refine Only.congr h ?_
  unfold State.waitOver
  repeat' first
    | with_reducible exact Only.rfl
    | exact Eq.refl true
    | with_reducible refine Only.ite ?_ ?_
    | with_reducible intro _ _
    | with_reducible refine (State.startRise_only _ _ ?_).2 ?_
    | with_reducible refine (State.toPhase_only _ _ _ ?_).2 ?_

@[simp] theorem State.ioFailed_only {l : List Part} {s : State} (t : State) (h : Within [.pow, .inj, .log] l) :
    Only l s (t.ioFailed) ↔ Only l s t := by
  refine Only.congr h ?_
  unfold State.ioFailed
  repeat' first
    | with_reducible exact Only.rfl
    | exact Eq.refl true
    | with_reducible intro _ _
    | with_reducible refine (State.mPow_only _ _ ?_).2 ?_
    | with_reducible refine (State.pdFaulted_only _ _ ?_).2 ?_

@[simp] theorem State.domReached_only {l : List Part} {s : State} (t : State) (d : Nat) (h : Within [.pow, .loop, .drv, .fan, .log] l) :
    Only l s (t.domReached d) ↔ Only l s t := by
  refine Only.congr h ?_
  unfold State.domReached
  repeat' first
    | with_reducible exact Only.rfl
    | exact Eq.refl true
    | with_reducible refine Only.ite ?_ ?_
    | with_reducible intro _ _
    | with_reducible refine (State.chargeReview_only _ ?_).2 ?_
    | with_reducible refine (State.domAgain_only _ _ ?_).2 ?_
    | with_reducible refine (State.mDrvCh_only _ _ _ ?_).2 ?_
    | with_reducible refine (State.mPow_only _ _ ?_).2 ?_
    | split

@[simp] theorem State.cjAsk_only {l : List Part} {s : State} (t : State) (h : Within [.fe] l) :
    Only l s (t.cjAsk) ↔ Only l s t := by
  refine Only.congr h ?_
  unfold State.cjAsk
  repeat' first
    | with_reducible exact Only.rfl
    | exact Eq.refl true
    | with_reducible refine Only.each ?_ ?_
    | with_reducible intro _ _
    | with_reducible refine (State.mGrp_only _ _ _ ?_).2 ?_

end Sys2Proof.Machine
end

