-- ==== Sys2Proof/Laws/TouchMore.lean ====
section
/-! SUPPORT. Which parts of the state each operation may change, continued. -/

namespace Sys2Proof.Machine

@[simp] theorem State.parcelExit_only {l : List Part} {s : State} (t : State) (t' : Nat) (h : Within [.prog, .energy, .free] l) :
    Only l s (t.parcelExit t') ↔ Only l s t := by
  refine Only.congr h ?_
  unfold State.parcelExit
  repeat' first
    | with_reducible exact Only.rfl
    | exact Eq.refl true
    | with_reducible refine Only.ite ?_ ?_
    | with_reducible intro _ _
    | with_reducible refine (State.drew_only _ ?_).2 ?_
    | with_reducible refine (State.mProg_only _ _ ?_).2 ?_
    | with_reducible refine (State.parcelOut_only _ _ _ ?_).2 ?_
    | with_reducible refine (State.storeParcels_only _ ?_).2 ?_
    | split

@[simp] theorem State.parcelExits_only {l : List Part} {s : State} (t : State) (t' : Nat) (h : Within [.prog, .energy, .free] l) :
    Only l s (t.parcelExits t') ↔ Only l s t := by
  refine Only.congr h ?_
  unfold State.parcelExits
  repeat' first
    | with_reducible exact Only.rfl
    | exact Eq.refl true
    | with_reducible refine Only.each ?_ ?_
    | with_reducible intro _ _
    | with_reducible refine (State.parcelExit_only _ _ ?_).2 ?_

@[simp] theorem State.progPublish_only {l : List Part} {s : State} (t : State) (b : Nat) (h : Within [.prog] l) :
    Only l s (t.progPublish b) ↔ Only l s t := by
  refine Only.congr h ?_
  unfold State.progPublish
  repeat' first
    | with_reducible exact Only.rfl
    | exact Eq.refl true
    | with_reducible refine Only.ite ?_ ?_
    | with_reducible refine Only.each ?_ ?_
    | with_reducible intro _ _
    | with_reducible refine (State.mProg_only _ _ ?_).2 ?_

@[simp] theorem State.setQ_only {l : List Part} {s : State} (t : State) (t' : Nat) (h : Within [.prog, .free] l) :
    Only l s (t.setQ t') ↔ Only l s t := by
  refine Only.congr h ?_
  unfold State.setQ
  repeat' first
    | with_reducible exact Only.rfl
    | exact Eq.refl true
    | with_reducible refine Only.ite ?_ ?_
    | with_reducible intro _ _
    | with_reducible refine (State.drew_only _ ?_).2 ?_
    | with_reducible refine (State.mProg_only _ _ ?_).2 ?_

@[simp] theorem State.pauseCheck_only {l : List Part} {s : State} (t : State)  (h : Within [.prog] l) :
    Only l s (t.pauseCheck) ↔ Only l s t := by
  refine Only.congr h ?_
  unfold State.pauseCheck
  repeat' first
    | with_reducible exact Only.rfl
    | exact Eq.refl true
    | with_reducible refine Only.ite ?_ ?_
    | with_reducible intro _ _
    | with_reducible refine (State.mProg_only _ _ ?_).2 ?_

@[simp] theorem State.dischargeLoop_only {l : List Part} {s : State} (t : State)  (h : Within [.loop] l) :
    Only l s (t.dischargeLoop) ↔ Only l s t := by
  refine Only.congr h ?_
  unfold State.dischargeLoop
  repeat' first
    | with_reducible exact Only.rfl
    | exact Eq.refl true
    | with_reducible refine Only.ite ?_ ?_
    | with_reducible intro _ _
    | with_reducible refine (State.loProcess_only _ _ _ ?_).2 ?_
    | split

@[simp] theorem State.column_only {l : List Part} {s : State} (t : State) (t' : Nat) (h : Within [.prog, .energy, .free] l) :
    Only l s (t.column t') ↔ Only l s t := by
  refine Only.congr h ?_
  unfold State.column
  repeat' first
    | with_reducible exact Only.rfl
    | exact Eq.refl true
    | with_reducible refine Only.ite ?_ ?_
    | with_reducible intro _ _
    | with_reducible refine (State.addExposure_only _ _ ?_).2 ?_
    | with_reducible refine (State.mProg_only _ _ ?_).2 ?_
    | with_reducible refine (State.parcelExits_only _ _ ?_).2 ?_
    | with_reducible refine (State.setQ_only _ _ ?_).2 ?_

@[simp] theorem State.discharge_only {l : List Part} {s : State} (t : State) (t' : Nat) (h : Within [.prog, .energy, .free] l) :
    Only l s (t.discharge t') ↔ Only l s t := by
  refine Only.congr h ?_
  unfold State.discharge
  repeat' first
    | with_reducible exact Only.rfl
    | exact Eq.refl true
    | with_reducible refine Only.ite ?_ ?_
    | with_reducible intro _ _
    | with_reducible refine (State.column_only _ _ ?_).2 ?_
    | with_reducible refine (State.mProg_only _ _ ?_).2 ?_
    | split

@[simp] theorem State.progFans_only {l : List Part} {s : State} (t : State)  (h : Within [.fan] l) :
    Only l s (t.progFans) ↔ Only l s t := by
  refine Only.congr h ?_
  unfold State.progFans
  repeat' first
    | with_reducible exact Only.rfl
    | exact Eq.refl true
    | with_reducible refine Only.ite ?_ ?_
    | with_reducible refine Only.each ?_ ?_
    | with_reducible intro _ _
    | with_reducible refine (State.mFanCh_only _ _ _ ?_).2 ?_

@[simp] theorem State.progOutputs_only {l : List Part} {s : State} (t : State) (changed : Bool) (h : Within [.loop, .drv, .fan] l) :
    Only l s (t.progOutputs changed) ↔ Only l s t := by
  refine Only.congr h ?_
  unfold State.progOutputs
  repeat' first
    | with_reducible exact Only.rfl
    | exact Eq.refl true
    | with_reducible refine Only.ite ?_ ?_
    | with_reducible intro _ _
    | with_reducible refine (State.dischargeLoop_only _ ?_).2 ?_
    | with_reducible refine (State.plenumClose_only _ ?_).2 ?_
    | with_reducible refine (State.progFans_only _ ?_).2 ?_

@[simp] theorem State.progTick_only {l : List Part} {s : State} (t : State) (t' : Nat)
    (h : Within [.loop, .drv, .fan, .prog, .energy, .safe, .log, .free] l) :
    Only l s (t.progTick t') ↔ Only l s t := by
  refine Only.congr h ?_
  unfold State.progTick
  repeat' first
    | with_reducible exact Only.rfl
    | exact Eq.refl true
    | with_reducible refine Only.ite ?_ ?_
    | with_reducible refine Only.each ?_ ?_
    | with_reducible intro _ _
    | with_reducible refine (State.discharge_only _ _ ?_).2 ?_
    | with_reducible refine (State.mEnergy_only _ _ ?_).2 ?_
    | with_reducible refine (State.mProg_only _ _ ?_).2 ?_
    | with_reducible refine (State.pauseCheck_only _ ?_).2 ?_
    | with_reducible refine (State.plenumLoop_only _ _ ?_).2 ?_
    | with_reducible refine (State.progEvent_only _ _ ?_).2 ?_
    | with_reducible refine (State.progOutputs_only _ _ ?_).2 ?_
    | with_reducible refine (State.progPermitLost_only _ _ ?_).2 ?_
    | with_reducible refine (State.progReq_only _ _ _ ?_).2 ?_

@[simp] theorem State.stroke_only {l : List Part} {s : State} (t : State)  (h : Within [.drv, .prog, .inj, .log] l) :
    Only l s (t.stroke) ↔ Only l s t := by
  refine Only.congr h ?_
  unfold State.stroke
  repeat' first
    | with_reducible exact Only.rfl
    | exact Eq.refl true
    | with_reducible refine Only.ite ?_ ?_
    | with_reducible refine Only.each ?_ ?_
    | with_reducible intro _ _
    | with_reducible refine (State.energise_only _ _ _ ?_).2 ?_
    | with_reducible refine (State.mProg_only _ _ ?_).2 ?_

@[simp] theorem State.aerDecide_only {l : List Part} {s : State} (t : State) (t' : Nat) (h : Within [.fan, .prog] l) :
    Only l s (t.aerDecide t') ↔ Only l s t := by
  refine Only.congr h ?_
  unfold State.aerDecide
  repeat' first
    | with_reducible exact Only.rfl
    | exact Eq.refl true
    | with_reducible refine Only.ite ?_ ?_
    | with_reducible intro _ _
    | with_reducible refine (State.mProg_only _ _ ?_).2 ?_
    | with_reducible refine (State.progFans_only _ ?_).2 ?_
    | split
    | dsimp only

@[simp] theorem State.mStage_only {l : List Part} {s : State} (t : State) (k : Fin 8) (f : ConvStage → ConvStage) (h : Within [.conv] l) :
    Only l s (t.mStage k f) ↔ Only l s t := by
  refine Only.congr h ?_
  unfold State.mStage
  repeat' first
    | with_reducible exact Only.rfl
    | exact Eq.refl true
    | with_reducible intro _ _
    | with_reducible refine (State.mConv_only _ _ ?_).2 ?_

@[simp] theorem State.startStage_only {l : List Part} {s : State} (t : State) (k : Fin 8) (h : Within [.drv, .conv, .inj, .log] l) :
    Only l s (t.startStage k) ↔ Only l s t := by
  refine Only.congr h ?_
  unfold State.startStage
  repeat' first
    | with_reducible exact Only.rfl
    | exact Eq.refl true
    | with_reducible refine Only.ite ?_ ?_
    | with_reducible intro _ _
    | with_reducible refine (State.energise_only _ _ _ ?_).2 ?_
    | with_reducible refine (State.mStage_only _ _ _ ?_).2 ?_
    | split
    | dsimp only

@[simp] theorem State.stopStage_only {l : List Part} {s : State} (t : State) (k : Fin 8) (h : Within [.drv, .conv] l) :
    Only l s (t.stopStage k) ↔ Only l s t := by
  refine Only.congr h ?_
  unfold State.stopStage
  repeat' first
    | with_reducible exact Only.rfl
    | exact Eq.refl true
    | with_reducible refine Only.ite ?_ ?_
    | with_reducible intro _ _
    | with_reducible refine (State.mStage_only _ _ _ ?_).2 ?_
    | with_reducible refine (State.release_only _ _ _ ?_).2 ?_
    | split
    | dsimp only

@[simp] theorem State.lineSettle_only {l : List Part} {s : State} (t : State)  (h : Within [.conv] l) :
    Only l s (t.lineSettle) ↔ Only l s t := by
  refine Only.congr h ?_
  unfold State.lineSettle
  repeat' first
    | with_reducible exact Only.rfl
    | exact Eq.refl true
    | with_reducible refine Only.ite ?_ ?_
    | with_reducible intro _ _
    | with_reducible refine (State.mConv_only _ _ ?_).2 ?_
    | split

@[simp] theorem State.lineStart_only {l : List Part} {s : State} (t : State) (k : Nat) (h : Within [.drv, .conv, .inj, .log] l) :
    Only l s (t.lineStart k) ↔ Only l s t := by
  refine Only.congr h ?_
  unfold State.lineStart
  repeat' first
    | with_reducible exact Only.rfl
    | exact Eq.refl true
    | with_reducible refine Only.ite ?_ ?_
    | with_reducible intro _ _
    | with_reducible refine (State.lineSettle_only _ ?_).2 ?_
    | with_reducible refine (State.mConv_only _ _ ?_).2 ?_
    | with_reducible refine (State.startStage_only _ _ ?_).2 ?_
    | split
    | dsimp only

@[simp] theorem State.lineStop_only {l : List Part} {s : State} (t : State)  (h : Within [.drv, .conv] l) :
    Only l s (t.lineStop) ↔ Only l s t := by
  refine Only.congr h ?_
  unfold State.lineStop
  repeat' first
    | with_reducible exact Only.rfl
    | exact Eq.refl true
    | with_reducible intro _ _
    | with_reducible refine (State.lineSettle_only _ ?_).2 ?_
    | with_reducible refine (State.mConv_only _ _ ?_).2 ?_
    | with_reducible refine (State.stopStage_only _ _ ?_).2 ?_
    | split

@[simp] theorem State.lineStopNow_only {l : List Part} {s : State} (t : State)  (h : Within [.drv, .conv] l) :
    Only l s (t.lineStopNow) ↔ Only l s t := by
  refine Only.congr h ?_
  unfold State.lineStopNow
  repeat' first
    | with_reducible exact Only.rfl
    | exact Eq.refl true
    | with_reducible refine Only.ite ?_ ?_
    | with_reducible refine Only.each ?_ ?_
    | with_reducible intro _ _
    | with_reducible refine (State.mConv_only _ _ ?_).2 ?_
    | with_reducible refine (State.stopStage_only _ _ ?_).2 ?_

@[simp] theorem State.stageFault_only {l : List Part} {s : State} (t : State) (k : Fin 8) (f : StageFault) (h : Within [.drv, .conv] l) :
    Only l s (t.stageFault k f) ↔ Only l s t := by
  refine Only.congr h ?_
  unfold State.stageFault
  repeat' first
    | with_reducible exact Only.rfl
    | exact Eq.refl true
    | with_reducible refine Only.ite ?_ ?_
    | with_reducible refine Only.each ?_ ?_
    | with_reducible intro _ _
    | with_reducible refine (State.mConv_only _ _ ?_).2 ?_
    | with_reducible refine (State.mStage_only _ _ _ ?_).2 ?_
    | with_reducible refine (State.stopStage_only _ _ ?_).2 ?_
    | split

@[simp] theorem State.stageTick_only {l : List Part} {s : State} (t : State) (k : Fin 8) (h : Within [.drv, .conv] l) :
    Only l s (t.stageTick k) ↔ Only l s t := by
  refine Only.congr h ?_
  unfold State.stageTick
  repeat' first
    | with_reducible exact Only.rfl
    | exact Eq.refl true
    | with_reducible refine Only.ite ?_ ?_
    | with_reducible intro _ _
    | with_reducible refine (State.mStage_only _ _ _ ?_).2 ?_
    | with_reducible refine (State.stageFault_only _ _ _ ?_).2 ?_

@[simp] theorem State.convTick_only {l : List Part} {s : State} (t : State)  (h : Within [.drv, .conv] l) :
    Only l s (t.convTick) ↔ Only l s t := by
  refine Only.congr h ?_
  unfold State.convTick
  repeat' first
    | with_reducible exact Only.rfl
    | exact Eq.refl true
    | with_reducible refine Only.ite ?_ ?_
    | with_reducible refine Only.each ?_ ?_
    | with_reducible intro _ _
    | with_reducible refine (State.lineSettle_only _ ?_).2 ?_
    | with_reducible refine (State.lineStop_only _ ?_).2 ?_
    | with_reducible refine (State.stageTick_only _ _ ?_).2 ?_

@[simp] theorem State.stitchDrv_only {l : List Part} {s : State} (t : State) (n : Fin 32) (code : Nat) (arg : Nat) (h : Within [.drv, .inj, .log] l) :
    Only l s (t.stitchDrv n code arg) ↔ Only l s t := by
  refine Only.congr h ?_
  unfold State.stitchDrv
  repeat' first
    | with_reducible exact Only.rfl
    | exact Eq.refl true
    | with_reducible refine Only.ite ?_ ?_
    | with_reducible intro _ _
    | with_reducible refine (State.energise_only _ _ _ ?_).2 ?_
    | with_reducible refine (State.release_only _ _ _ ?_).2 ?_
    | with_reducible refine (State.setI_only _ _ _ ?_).2 ?_
    | split

@[simp] theorem State.mEntry_only {l : List Part} {s : State} (t : State) (i : Fin 256) (f : Stitch → Stitch) (h : Within [.stitch] l) :
    Only l s (t.mEntry i f) ↔ Only l s t := by
  refine Only.congr h ?_
  unfold State.mEntry
  repeat' first
    | with_reducible exact Only.rfl
    | exact Eq.refl true
    | with_reducible intro _ _
    | with_reducible refine (State.mStitch_only _ _ ?_).2 ?_

theorem State.stitchAct_only {l : List Part} {s t u : State} {x : Stitch} (e : t.stitchAct x = some u)
    (h : Within [.loop, .drv, .fan, .prog, .stitch, .inj, .log] l)
    (c : Only l s t) : Only l s u := by
  unfold State.stitchAct at e
  split at e
  · split at e
    · split at e
      · cases e
      · cases e
        exact (State.stitchDrv_only _ _ _ _ (Within.trans (by rfl) h)).2 c
    · cases e
  · split at e
    · split at e
      · split at e
        · cases e
        · cases e
          exact (State.mFanCh_only _ _ _ (Within.trans (by rfl) h)).2 c
      · cases e
    · split at e
      · split at e
        · cases e
        · cases e
          exact (State.loAct_only _ _ _ _ (Within.trans (by rfl) h)).2 c
      · cases e

@[simp] theorem State.stitchRun_only {l : List Part} {s : State} (t : State) (i : Fin 256) (next : Nat)
    (h : Within [.loop, .drv, .fan, .prog, .stitch, .inj, .log] l) :
    Only l s (t.stitchRun i next) ↔ Only l s t := by
  refine Only.congr h ?_
  unfold State.stitchRun
  dsimp only
  split
  · rename_i e
    exact (State.mEntry_only _ _ _ (by rfl)).2 (State.stitchAct_only e (by rfl) Only.rfl)
  · exact (State.mStitch_only _ _ (by rfl)).2 ((State.mEntry_only _ _ _ (by rfl)).2 Only.rfl)

@[simp] theorem State.stitchLateOne_only {l : List Part} {s : State} (t : State) (i : Fin 256) (t' : Nat)
    (h : Within [.loop, .drv, .fan, .prog, .stitch, .inj, .log] l) :
    Only l s (t.stitchLateOne i t') ↔ Only l s t := by
  refine Only.congr h ?_
  unfold State.stitchLateOne
  repeat' first
    | with_reducible exact Only.rfl
    | exact Eq.refl true
    | with_reducible refine Only.ite ?_ ?_
    | with_reducible intro _ _
    | with_reducible refine (State.mEntry_only _ _ _ ?_).2 ?_
    | with_reducible refine (State.mStitch_only _ _ ?_).2 ?_
    | with_reducible refine (State.stitchRun_only _ _ _ ?_).2 ?_

@[simp] theorem State.stitchLate_only {l : List Part} {s : State} (t : State) (t' : Nat)
    (h : Within [.loop, .drv, .fan, .prog, .stitch, .inj, .log] l) :
    Only l s (t.stitchLate t') ↔ Only l s t := by
  refine Only.congr h ?_
  unfold State.stitchLate
  repeat' first
    | with_reducible exact Only.rfl
    | exact Eq.refl true
    | with_reducible refine Only.each ?_ ?_
    | with_reducible intro _ _
    | with_reducible refine (State.stitchLateOne_only _ _ _ ?_).2 ?_

@[simp] theorem State.publish_only {l : List Part} {s : State} (t : State) (b : Nat) (h : Within [.snap] l) :
    Only l s (t.publish b) ↔ Only l s t := by
  refine Only.congr h ?_
  unfold State.publish
  repeat' first
    | with_reducible exact Only.rfl
    | exact Eq.refl true
    | with_reducible intro _ _
    | with_reducible refine (State.mSnap_only _ _ ?_).2 ?_

@[simp] theorem State.snapClear_only {l : List Part} {s : State} (t : State)  (h : Within [.snap] l) :
    Only l s (t.snapClear) ↔ Only l s t := by
  refine Only.congr h ?_
  unfold State.snapClear
  repeat' first
    | with_reducible exact Only.rfl
    | exact Eq.refl true
    | with_reducible intro _ _
    | with_reducible refine (State.mSnap_only _ _ ?_).2 ?_

@[simp] theorem snapRes_only {l : List Part} {s : State} (t : State) (r : Status ⊕ Snap) (f : Snap → List Byte) (h : Within [] l) :
    Only l s (snapRes r t f).s ↔ Only l s t := by
  refine Only.congr h ?_
  unfold snapRes
  repeat' first
    | with_reducible exact Only.rfl
    | exact Eq.refl true
    | with_reducible intro _ _
    | with_reducible refine Res.bad_only ?_
    | with_reducible refine Res.ok_only ?_
    | split

@[simp] theorem State.fromSnap_only {l : List Part} {s : State} (t : State) (bidx : Nat) (newest : Bool) (f : Snap → List Byte) (h : Within [] l) :
    Only l s (t.fromSnap bidx newest f).s ↔ Only l s t := by
  refine Only.congr h ?_
  unfold State.fromSnap snapRes
  split <;> exact Only.rfl

@[simp] theorem State.mSlot_only {l : List Part} {s : State} (t : State) (i : Fin 8) (f : InjSlot → InjSlot) (h : Within [.inj] l) :
    Only l s (t.mSlot i f) ↔ Only l s t := by
  refine Only.congr h ?_
  unfold State.mSlot
  repeat' first
    | with_reducible exact Only.rfl
    | exact Eq.refl true
    | with_reducible intro _ _
    | with_reducible refine (State.mInj_only _ _ ?_).2 ?_

@[simp] theorem State.injEnd_only {l : List Part} {s : State} (t : State) (i : Fin 8) (h : Within [.inj, .log] l) :
    Only l s (t.injEnd i) ↔ Only l s t := by
  refine Only.congr h ?_
  unfold State.injEnd
  repeat' first
    | with_reducible exact Only.rfl
    | exact Eq.refl true
    | with_reducible refine Only.ite ?_ ?_
    | with_reducible intro _ _
    | with_reducible refine (State.logE_only _ _ _ _ ?_).2 ?_
    | with_reducible refine (State.mSlot_only _ _ _ ?_).2 ?_

@[simp] theorem State.sessionEnd_only {l : List Part} {s : State} (t : State) (c : EndCause) (h : Within [.inj, .log] l) :
    Only l s (t.sessionEnd c) ↔ Only l s t := by
  refine Only.congr h ?_
  unfold State.sessionEnd
  repeat' first
    | with_reducible exact Only.rfl
    | exact Eq.refl true
    | with_reducible refine Only.ite ?_ ?_
    | with_reducible refine Only.each ?_ ?_
    | with_reducible intro _ _
    | with_reducible refine (State.injEnd_only _ _ ?_).2 ?_
    | with_reducible refine (State.logE_only _ _ _ _ ?_).2 ?_
    | with_reducible refine (State.mInj_only _ _ ?_).2 ?_

@[simp] theorem State.touchTest_only {l : List Part} {s : State} (t : State) (q : Req) (h : Within [.inj] l) :
    Only l s (t.touchTest q) ↔ Only l s t := by
  refine Only.congr h ?_
  unfold State.touchTest
  repeat' first
    | with_reducible exact Only.rfl
    | exact Eq.refl true
    | with_reducible refine Only.ite ?_ ?_
    | with_reducible intro _ _
    | with_reducible refine (State.mInj_only _ _ ?_).2 ?_

@[simp] theorem State.lichenRemove_only {l : List Part} {s : State} (t : State)  (h : Within [.loop, .drv, .prog, .lich, .safe, .log, .cnt] l) :
    Only l s (t.lichenRemove) ↔ Only l s t := by
  refine Only.congr h ?_
  unfold State.lichenRemove
  repeat' first
    | with_reducible exact Only.rfl
    | exact Eq.refl true
    | with_reducible refine Only.ite ?_ ?_
    | with_reducible intro _ _
    | with_reducible refine (State.logAs_only _ _ _ _ _ _ ?_).2 ?_
    | with_reducible refine (State.mLich_only _ _ ?_).2 ?_
    | with_reducible refine (State.removePermit_only _ _ _ _ ?_).2 ?_

@[simp] theorem State.lichenSignal_only {l : List Part} {s : State} (t : State)  (h : Within [.loop, .drv, .prog, .lich, .safe, .log, .cnt] l) :
    Only l s (t.lichenSignal) ↔ Only l s t := by
  refine Only.congr h ?_
  unfold State.lichenSignal
  repeat' first
    | with_reducible exact Only.rfl
    | exact Eq.refl true
    | with_reducible refine Only.ite ?_ ?_
    | with_reducible intro _ _
    | with_reducible refine (State.lichenRemove_only _ ?_).2 ?_
    | with_reducible refine (State.mSafe_only _ _ ?_).2 ?_

@[simp] theorem State.lichenFansEnd_only {l : List Part} {s : State} (t : State)  (h : Within [.fan] l) :
    Only l s (t.lichenFansEnd) ↔ Only l s t := by
  refine Only.congr h ?_
  unfold State.lichenFansEnd
  repeat' first
    | with_reducible exact Only.rfl
    | exact Eq.refl true
    | with_reducible refine Only.ite ?_ ?_
    | with_reducible refine Only.each ?_ ?_
    | with_reducible intro _ _
    | with_reducible refine (State.mFanCh_only _ _ _ ?_).2 ?_

@[simp] theorem State.lichenExit_only {l : List Part} {s : State} (t : State) (h' : Holder) (h : Within [.fan, .lich, .log] l) :
    Only l s (t.lichenExit h') ↔ Only l s t := by
  refine Only.congr h ?_
  unfold State.lichenExit
  repeat' first
    | with_reducible exact Only.rfl
    | exact Eq.refl true
    | with_reducible intro _ _
    | with_reducible refine (State.lichenFansEnd_only _ ?_).2 ?_
    | with_reducible refine (State.logAs_only _ _ _ _ _ _ ?_).2 ?_
    | with_reducible refine (State.mLich_only _ _ ?_).2 ?_

@[simp] theorem State.needleLost_only {l : List Part} {s : State} (t : State) (old : Holder) (new : Holder) (h : Within [.frm, .log] l) :
    Only l s (t.needleLost old new) ↔ Only l s t := by
  refine Only.congr h ?_
  unfold State.needleLost
  repeat' first
    | with_reducible exact Only.rfl
    | exact Eq.refl true
    | with_reducible intro _ _
    | with_reducible refine (State.logE_only _ _ _ _ ?_).2 ?_
    | with_reducible refine (State.mFrm_only _ _ ?_).2 ?_

@[simp] theorem State.passNeedle_only {l : List Part} {s : State} (t : State) (h' : Holder) (auth : Bool) (up : Nat)
    (h : Within [.frm, .fan, .lich, .safe, .inj, .log] l) :
    Only l s (t.passNeedle h' auth up) ↔ Only l s t := by
  refine Only.congr h ?_
  unfold State.passNeedle
  repeat' first
    | with_reducible exact Only.rfl
    | exact Eq.refl true
    | with_reducible refine Only.ite ?_ ?_
    | with_reducible intro _ _
    | with_reducible refine (State.lichenExit_only _ _ ?_).2 ?_
    | with_reducible refine (State.mFrm_only _ _ ?_).2 ?_
    | with_reducible refine (State.proofAbort_only _ ?_).2 ?_
    | with_reducible refine (State.sessionEnd_only _ _ ?_).2 ?_

@[simp] theorem State.lichenEnter_only {l : List Part} {s : State} (t : State) (cause : Nat)
    (h : Within [.frm, .loop, .drv, .fan, .prog, .lich, .safe, .inj, .log, .cnt] l) :
    Only l s (t.lichenEnter cause) ↔ Only l s t := by
  refine Only.congr h ?_
  unfold State.lichenEnter
  repeat' first
    | with_reducible exact Only.rfl
    | exact Eq.refl true
    | with_reducible refine Only.ite ?_ ?_
    | with_reducible intro _ _
    | with_reducible refine (State.lichenSignal_only _ ?_).2 ?_
    | with_reducible refine (State.logAs_only _ _ _ _ _ _ ?_).2 ?_
    | with_reducible refine (State.mFrm_only _ _ ?_).2 ?_
    | with_reducible refine (State.mLich_only _ _ ?_).2 ?_
    | with_reducible refine (State.needleLost_only _ _ _ ?_).2 ?_
    | with_reducible refine (State.passNeedle_only _ _ _ _ ?_).2 ?_

@[simp] theorem State.lichenHeat_only {l : List Part} {s : State} (t : State)  (h : Within [.prog] l) :
    Only l s (t.lichenHeat) ↔ Only l s t := by
  refine Only.congr h ?_
  unfold State.lichenHeat
  repeat' first
    | with_reducible exact Only.rfl
    | exact Eq.refl true
    | with_reducible refine Only.ite ?_ ?_
    | with_reducible intro _ _
    | with_reducible refine (State.mProg_only _ _ ?_).2 ?_

@[simp] theorem State.lichenFan_only {l : List Part} {s : State} (t : State) (n : Fin 12) (h : Within [.fan] l) :
    Only l s (t.lichenFan n) ↔ Only l s t := by
  refine Only.congr h ?_
  unfold State.lichenFan
  repeat' first
    | with_reducible exact Only.rfl
    | exact Eq.refl true
    | with_reducible refine Only.ite ?_ ?_
    | with_reducible intro _ _
    | with_reducible refine (State.mFanCh_only _ _ _ ?_).2 ?_

@[simp] theorem State.lichenDrv_only {l : List Part} {s : State} (t : State) (n : Fin 32) (h : Within [.drv, .prog, .stitch, .inj, .log] l) :
    Only l s (t.lichenDrv n) ↔ Only l s t := by
  refine Only.congr h ?_
  unfold State.lichenDrv
  repeat' first
    | with_reducible exact Only.rfl
    | exact Eq.refl true
    | with_reducible refine Only.ite ?_ ?_
    | with_reducible intro _ _
    | with_reducible refine (State.drvAct_only _ _ _ _ ?_).2 ?_

@[simp] theorem State.lichenLoop_only {l : List Part} {s : State} (t : State) (n : Fin 8) (h : Within [.loop] l) :
    Only l s (t.lichenLoop n) ↔ Only l s t := by
  refine Only.congr h ?_
  unfold State.lichenLoop
  repeat' first
    | with_reducible exact Only.rfl
    | exact Eq.refl true
    | with_reducible refine Only.ite ?_ ?_
    | with_reducible intro _ _
    | with_reducible refine (State.loSettle_only _ _ ?_).2 ?_
    | with_reducible refine (State.mLo_only _ _ _ ?_).2 ?_

@[simp] theorem State.lichenStart_only {l : List Part} {s : State} (t : State)  (h : Within [.prog] l) :
    Only l s (t.lichenStart) ↔ Only l s t := by
  refine Only.congr h ?_
  unfold State.lichenStart
  repeat' first
    | with_reducible exact Only.rfl
    | exact Eq.refl true
    | with_reducible refine Only.ite ?_ ?_
    | with_reducible intro _ _
    | with_reducible refine (State.mProg_only _ _ ?_).2 ?_

@[simp] theorem State.lichenActs_only {l : List Part} {s : State} (t : State)  (h : Within [.loop, .drv, .fan, .prog, .conv, .stitch, .inj, .log] l) :
    Only l s (t.lichenActs) ↔ Only l s t := by
  refine Only.congr h ?_
  unfold State.lichenActs
  repeat' first
    | with_reducible exact Only.rfl
    | exact Eq.refl true
    | with_reducible refine Only.ite ?_ ?_
    | with_reducible refine Only.each ?_ ?_
    | with_reducible intro _ _
    | with_reducible refine (State.lichenDrv_only _ _ ?_).2 ?_
    | with_reducible refine (State.lichenFan_only _ _ ?_).2 ?_
    | with_reducible refine (State.lichenFansEnd_only _ ?_).2 ?_
    | with_reducible refine (State.lichenHeat_only _ ?_).2 ?_
    | with_reducible refine (State.lichenLoop_only _ _ ?_).2 ?_
    | with_reducible refine (State.lichenStart_only _ ?_).2 ?_
    | with_reducible refine (State.lineStop_only _ ?_).2 ?_

@[simp] theorem State.tagFailed_only {l : List Part} {s : State} (t : State) (who : Sender) (h : Within [.auth, .log] l) :
    Only l s (t.tagFailed who) ↔ Only l s t := by
  refine Only.congr h ?_
  unfold State.tagFailed
  repeat' first
    | with_reducible exact Only.rfl
    | exact Eq.refl true
    | with_reducible refine Only.ite ?_ ?_
    | with_reducible intro _ _
    | with_reducible refine (State.logE_only _ _ _ _ ?_).2 ?_
    | with_reducible refine (State.mAuth_only _ _ ?_).2 ?_

@[simp] theorem State.setKey_only {l : List Part} {s : State} (t : State) (k : Fin 3) (ver : Nat) (key : List Byte) (h : Within [.auth, .log] l) :
    Only l s (t.setKey k ver key) ↔ Only l s t := by
  refine Only.congr h ?_
  unfold State.setKey
  repeat' first
    | with_reducible exact Only.rfl
    | exact Eq.refl true
    | with_reducible intro _ _
    | with_reducible refine (State.logE_only _ _ _ _ ?_).2 ?_
    | with_reducible refine (State.mAuth_only _ _ ?_).2 ?_

@[simp] theorem State.mBank_only {l : List Part} {s : State} (t : State) (i : Fin 8) (f : Bank → Bank) (h : Within [.upd] l) :
    Only l s (t.mBank i f) ↔ Only l s t := by
  refine Only.congr h ?_
  unfold State.mBank
  repeat' first
    | with_reducible exact Only.rfl
    | exact Eq.refl true
    | with_reducible intro _ _
    | with_reducible refine (State.mUpd_only _ _ ?_).2 ?_

@[simp] theorem State.logUpd_only {l : List Part} {s : State} (t : State) (code : Nat) (data : List Byte) (h : Within [.log] l) :
    Only l s (t.logUpd code data) ↔ Only l s t := by
  refine Only.congr h ?_
  unfold State.logUpd
  repeat' first
    | with_reducible exact Only.rfl
    | exact Eq.refl true
    | with_reducible intro _ _
    | with_reducible refine (State.logE_only _ _ _ _ ?_).2 ?_

@[simp] theorem State.dropBank_only {l : List Part} {s : State} (t : State) (known : Bool) (h : Within [.upd] l) :
    Only l s (t.dropBank known) ↔ Only l s t := by
  refine Only.congr h ?_
  unfold State.dropBank
  exact (State.mBank_only (l := [.upd]) _ _ _ (Eq.refl true)).2 Only.rfl

@[simp] theorem State.updEnd_only {l : List Part} {s : State} (t : State) (reason : Nat) (h : Within [.log, .upd] l) :
    Only l s (t.updEnd reason) ↔ Only l s t := by
  refine Only.congr h ?_
  unfold State.updEnd
  repeat' first
    | with_reducible exact Only.rfl
    | exact Eq.refl true
    | with_reducible intro _ _
    | with_reducible refine (State.logUpd_only _ _ _ ?_).2 ?_
    | with_reducible refine (State.dropBank_only _ _ ?_).2 ?_
    | with_reducible refine (State.mUpd_only _ _ ?_).2 ?_

@[simp] theorem State.updTaint_only {l : List Part} {s : State} (t : State) (reason : Nat) (ofs : Nat) (h : Within [.log, .upd] l) :
    Only l s (t.updTaint reason ofs) ↔ Only l s t := by
  refine Only.congr h ?_
  unfold State.updTaint
  repeat' first
    | with_reducible exact Only.rfl
    | exact Eq.refl true
    | with_reducible intro _ _
    | with_reducible refine (State.logUpd_only _ _ _ ?_).2 ?_
    | with_reducible refine (State.dropBank_only _ _ ?_).2 ?_
    | with_reducible refine (State.mUpd_only _ _ ?_).2 ?_

@[simp] theorem State.updAborted_only {l : List Part} {s : State} (t : State)  (h : Within [.frm, .log, .upd] l) :
    Only l s (t.updAborted) ↔ Only l s t := by
  refine Only.congr h ?_
  unfold State.updAborted
  repeat' first
    | with_reducible exact Only.rfl
    | exact Eq.refl true
    | with_reducible intro _ _
    | with_reducible refine Res.bad_only ?_
    | with_reducible refine Res.ok_only ?_
    | with_reducible refine (State.finish_only _ _ _ _ ?_).2 ?_
    | with_reducible refine (State.updEnd_only _ _ ?_).2 ?_

@[simp] theorem State.verified_only {l : List Part} {s : State} (t : State)  (h : Within [.frm, .log, .upd] l) :
    Only l s (t.verified) ↔ Only l s t := by
  refine Only.congr h ?_
  unfold State.verified
  repeat' first
    | with_reducible exact Only.rfl
    | exact Eq.refl true
    | with_reducible refine Only.ite ?_ ?_
    | with_reducible intro _ _
    | with_reducible refine (State.finish_only _ _ _ _ ?_).2 ?_
    | with_reducible refine (State.logUpd_only _ _ _ ?_).2 ?_
    | with_reducible refine (State.mBank_only _ _ _ ?_).2 ?_
    | with_reducible refine (State.mUpd_only _ _ ?_).2 ?_
    | with_reducible refine (State.updAborted_only _ ?_).2 ?_
    | with_reducible refine (State.updTaint_only _ _ _ ?_).2 ?_

@[simp] theorem State.updChecked_only {l : List Part} {s : State} (t : State) (h : Within [.sys, .frm, .log, .upd, .mem] l) :
    Only l s (t.updChecked) ↔ Only l s t := by
  refine Only.congr h ?_
  unfold State.updChecked
  repeat' first
    | with_reducible exact Only.rfl
    | exact Eq.refl true
    | with_reducible refine Only.ite ?_ ?_
    | with_reducible intro _ _
    | with_reducible refine (State.finish_only _ _ _ _ ?_).2 ?_
    | with_reducible refine (State.logUpd_only _ _ _ ?_).2 ?_
    | with_reducible refine (State.mBank_only _ _ _ ?_).2 ?_
    | with_reducible refine (State.mMem_only _ _ ?_).2 ?_
    | with_reducible refine (State.mSys_only _ _ ?_).2 ?_
    | with_reducible refine (State.mUpd_only _ _ ?_).2 ?_
    | with_reducible refine (State.updAborted_only _ ?_).2 ?_
    | split

@[simp] theorem State.updErased_only {l : List Part} {s : State} (t : State) (blankOk : Bool) (h : Within [.frm, .log, .upd] l) :
    Only l s (t.updErased blankOk) ↔ Only l s t := by
  refine Only.congr h ?_
  unfold State.updErased
  repeat' first
    | with_reducible exact Only.rfl
    | exact Eq.refl true
    | with_reducible refine Only.ite ?_ ?_
    | with_reducible intro _ _
    | with_reducible refine (State.finish_only _ _ _ _ ?_).2 ?_
    | with_reducible refine (State.dropBank_only _ _ ?_).2 ?_
    | with_reducible refine (State.mUpd_only _ _ ?_).2 ?_
    | with_reducible refine (State.updAborted_only _ ?_).2 ?_

@[simp] theorem State.newBlock_only {l : List Part} {s : State} (t : State) (ofs : Nat) (data : List Byte) (reply : Nat → List Byte)
    (h : Within [.log, .se, .upd] l) :
    Only l s (t.newBlock ofs data reply).s ↔ Only l s t := by
  refine Only.congr h ?_
  unfold State.newBlock
  repeat' first
    | with_reducible exact Only.rfl
    | exact Eq.refl true
    | with_reducible refine Only.ite ?_ ?_
    | with_reducible intro _ _
    | with_reducible refine Res.bad_only ?_
    | with_reducible refine Res.ok_only ?_
    | with_reducible refine (State.mUpd_only _ _ ?_).2 ?_
    | with_reducible refine (State.scDone_only _ _ ?_).2 ?_
    | with_reducible refine (State.updTaint_only _ _ _ ?_).2 ?_
    | split
    | dsimp only

@[simp] theorem State.program_only {l : List Part} {s : State} (t : State) (words : Nat) (readOk : Bool) (h : Within [.frm, .log, .upd, .mem] l) :
    Only l s (t.program words readOk) ↔ Only l s t := by
  refine Only.congr h ?_
  unfold State.program
  repeat' first
    | with_reducible exact Only.rfl
    | exact Eq.refl true
    | with_reducible refine Only.ite ?_ ?_
    | with_reducible intro _ _
    | with_reducible refine (State.finish_only _ _ _ _ ?_).2 ?_
    | with_reducible refine (State.mMem_only _ _ ?_).2 ?_
    | with_reducible refine (State.mUpd_only _ _ ?_).2 ?_
    | with_reducible refine (State.updTaint_only _ _ _ ?_).2 ?_

@[simp] theorem State.smStart_only {l : List Part} {s : State} (t : State) (selfOk : Bool) (h : Within [.pow, .drv, .fan, .safe, .log] l) :
    Only l s (t.smStart selfOk) ↔ Only l s t := by
  refine Only.congr h ?_
  unfold State.smStart
  repeat' first
    | with_reducible exact Only.rfl
    | exact Eq.refl true
    | with_reducible refine Only.ite ?_ ?_
    | with_reducible intro _ _
    | with_reducible refine (State.estopFollow_only _ ?_).2 ?_
    | with_reducible refine (State.mPow_only _ _ ?_).2 ?_
    | with_reducible refine (State.mSafe_only _ _ ?_).2 ?_
    | with_reducible refine (State.setLatch_only _ _ _ _ ?_).2 ?_

@[simp] theorem State.takeBank_only {l : List Part} {s : State} (t : State) (b : Fin 8) (h : Within [.upd] l) :
    Only l s (t.takeBank b) ↔ Only l s t := by
  refine Only.congr h ?_
  unfold State.takeBank
  repeat' first
    | with_reducible exact Only.rfl
    | exact Eq.refl true
    | with_reducible refine Only.ite ?_ ?_
    | with_reducible intro _ _
    | with_reducible refine (State.mUpd_only _ _ ?_).2 ?_

@[simp] theorem State.failBank_only {l : List Part} {s : State} (t : State) (t' : Nat) (h : Within [.upd] l) :
    Only l s (t.failBank t') ↔ Only l s t := by
  refine Only.congr h ?_
  unfold State.failBank
  repeat' first
    | with_reducible exact Only.rfl
    | exact Eq.refl true
    | with_reducible refine Only.ite ?_ ?_
    | with_reducible intro _ _
    | with_reducible refine (State.mUpd_only _ _ ?_).2 ?_

@[simp] theorem State.calUse_only {l : List Part} {s : State} (t : State)  (h : Within [.fe] l) :
    Only l s (t.calUse) ↔ Only l s t := by
  refine Only.congr h ?_
  unfold State.calUse
  repeat' first
    | with_reducible exact Only.rfl
    | exact Eq.refl true
    | with_reducible intro _ _
    | with_reducible refine (State.mFe_only _ _ ?_).2 ?_

@[simp] theorem State.hoTo_only {l : List Part} {s : State} (t : State) (p : HoPhase) (h : Within [.ho] l) :
    Only l s (t.hoTo p) ↔ Only l s t := by
  refine Only.congr h ?_
  unfold State.hoTo
  repeat' first
    | with_reducible exact Only.rfl
    | exact Eq.refl true
    | with_reducible intro _ _
    | with_reducible refine (State.mHo_only _ _ ?_).2 ?_

@[simp] theorem State.hoEnd_only {l : List Part} {s : State} (t : State) (result : Nat) (fb : Nat) (st : Status) (h : Within [.frm, .ho] l) :
    Only l s (t.hoEnd result fb st) ↔ Only l s t := by
  refine Only.congr h ?_
  unfold State.hoEnd
  repeat' first
    | with_reducible exact Only.rfl
    | exact Eq.refl true
    | with_reducible intro _ _
    | with_reducible refine (State.finish_only _ _ _ _ ?_).2 ?_
    | with_reducible refine (State.hoTo_only _ _ ?_).2 ?_
    | with_reducible refine (State.mHo_only _ _ ?_).2 ?_

@[simp] theorem State.hoAbandon_only {l : List Part} {s : State} (t : State) (result : Nat) (st : Status)
    (h : Within [.sys, .frm, .log, .upd, .ho] l) :
    Only l s (t.hoAbandon result st) ↔ Only l s t := by
  refine Only.congr h ?_
  unfold State.hoAbandon
  repeat' first
    | with_reducible exact Only.rfl
    | exact Eq.refl true
    | with_reducible intro _ _
    | with_reducible refine (State.hoEnd_only _ _ _ _ ?_).2 ?_
    | with_reducible refine (State.logUpd_only _ _ _ ?_).2 ?_
    | with_reducible refine (State.mBank_only _ _ _ ?_).2 ?_
    | with_reducible refine (State.mHo_only _ _ ?_).2 ?_
    | with_reducible refine (State.mSys_only _ _ ?_).2 ?_
    | with_reducible refine (State.mUpd_only _ _ ?_).2 ?_

@[simp] theorem State.hoTrial_only {l : List Part} {s : State} (t : State)  (h : Within [.ho] l) :
    Only l s (t.hoTrial) ↔ Only l s t := by
  refine Only.congr h ?_
  unfold State.hoTrial
  repeat' first
    | with_reducible exact Only.rfl
    | exact Eq.refl true
    | with_reducible intro _ _
    | with_reducible refine (State.hoTo_only _ _ ?_).2 ?_
    | with_reducible refine (State.mHo_only _ _ ?_).2 ?_

@[simp] theorem State.hoFellBack_only {l : List Part} {s : State} (t : State) (fb : Nat) (h : Within [.frm, .log, .ho] l) :
    Only l s (t.hoFellBack fb) ↔ Only l s t := by
  refine Only.congr h ?_
  unfold State.hoFellBack
  repeat' first
    | with_reducible exact Only.rfl
    | exact Eq.refl true
    | with_reducible intro _ _
    | with_reducible refine Res.bad_only ?_
    | with_reducible refine Res.ok_only ?_
    | with_reducible refine (State.hoEnd_only _ _ _ _ ?_).2 ?_
    | with_reducible refine (State.logUpd_only _ _ _ ?_).2 ?_
    | with_reducible refine (State.mHo_only _ _ ?_).2 ?_

@[simp] theorem State.hoFail_only {l : List Part} {s : State} (t : State) (cause : Nat) (h : Within [.ho] l) :
    Only l s (t.hoFail cause) ↔ Only l s t := by
  refine Only.congr h ?_
  unfold State.hoFail
  repeat' first
    | with_reducible exact Only.rfl
    | exact Eq.refl true
    | with_reducible refine Only.ite ?_ ?_
    | with_reducible intro _ _
    | with_reducible refine (State.hoTo_only _ _ ?_).2 ?_
    | with_reducible refine (State.mHo_only _ _ ?_).2 ?_

@[simp] theorem State.smReset_only {l : List Part} {s : State} (t : State)  (h : Within [.pow, .ho] l) :
    Only l s (t.smReset) ↔ Only l s t := by
  refine Only.congr h ?_
  unfold State.smReset
  repeat' first
    | with_reducible exact Only.rfl
    | exact Eq.refl true
    | with_reducible intro _ _
    | with_reducible refine (State.mHo_only _ _ ?_).2 ?_
    | with_reducible refine (State.mPow_only _ _ ?_).2 ?_

@[simp] theorem State.linksDown_only {l : List Part} {s : State} (t : State)  (h : Within [.ring] l) :
    Only l s (t.linksDown) ↔ Only l s t := by
  refine Only.congr h ?_
  unfold State.linksDown
  repeat' first
    | with_reducible exact Only.rfl
    | exact Eq.refl true
    | with_reducible intro _ _
    | with_reducible refine (State.mRing_only _ _ ?_).2 ?_

@[simp] theorem State.mRp_only {l : List Part} {s : State} (t : State) (p : PortId) (f : Port → Port) (h : Within [.ring] l) :
    Only l s (t.mRp p f) ↔ Only l s t := by
  refine Only.congr h ?_
  unfold State.mRp
  repeat' first
    | with_reducible exact Only.rfl
    | exact Eq.refl true
    | with_reducible intro _ _
    | with_reducible refine (State.mRing_only _ _ ?_).2 ?_
    | split

@[simp] theorem State.turnKept_only {l : List Part} {s : State} (t : State) (p : PortId) (cause : Nat) (h : Within [.ring] l) :
    Only l s (t.turnKept p cause) ↔ Only l s t := by
  refine Only.congr h ?_
  unfold State.turnKept
  repeat' first
    | with_reducible exact Only.rfl
    | exact Eq.refl true
    | with_reducible intro _ _
    | with_reducible refine (State.mRp_only _ _ _ ?_).2 ?_

@[simp] theorem State.portsReload_only {l : List Part} {s : State} (t : State) (h : Within [.ring] l) :
    Only l s (t.portsReload) ↔ Only l s t := by
  refine Only.congr h ?_
  unfold State.portsReload
  repeat' first
    | with_reducible exact Only.rfl
    | exact Eq.refl true
    | with_reducible intro _ _
    | with_reducible refine (State.mRing_only _ _ ?_).2 ?_
    | with_reducible refine (State.turnKept_only _ _ _ ?_).2 ?_

@[simp] theorem State.activate_only {l : List Part} {s : State} (t : State) (t' : Nat) (h : Within [.pow, .ring, .inj, .log, .upd, .ho] l) :
    Only l s (t.activate t') ↔ Only l s t := by
  refine Only.congr h ?_
  unfold State.activate
  repeat' first
    | with_reducible exact Only.rfl
    | exact Eq.refl true
    | with_reducible refine Only.ite ?_ ?_
    | with_reducible intro _ _
    | with_reducible refine (State.linksDown_only _ ?_).2 ?_
    | with_reducible refine (State.logUpd_only _ _ _ ?_).2 ?_
    | with_reducible refine (State.mBank_only _ _ _ ?_).2 ?_
    | with_reducible refine (State.mHo_only _ _ ?_).2 ?_
    | with_reducible refine (State.mUpd_only _ _ ?_).2 ?_
    | with_reducible refine (State.sessionEnd_only _ _ ?_).2 ?_
    | with_reducible refine (State.smReset_only _ ?_).2 ?_
    | with_reducible refine (State.takeBank_only _ _ ?_).2 ?_
    | split

@[simp] theorem State.hoBooted_only {l : List Part} {s : State} (t : State) (accepted : Bool) (pages : Nat)
    (h : Within [.sys, .frm, .log, .upd, .ho] l) :
    Only l s (t.hoBooted accepted pages) ↔ Only l s t := by
  refine Only.congr h ?_
  unfold State.hoBooted
  repeat' first
    | with_reducible exact Only.rfl
    | exact Eq.refl true
    | with_reducible refine Only.ite ?_ ?_
    | with_reducible intro _ _
    | with_reducible refine (State.hoAbandon_only _ _ _ ?_).2 ?_
    | with_reducible refine (State.hoTo_only _ _ ?_).2 ?_
    | with_reducible refine (State.mHo_only _ _ ?_).2 ?_
    | with_reducible refine (State.mSys_only _ _ ?_).2 ?_

@[simp] theorem State.hoSwitch_only {l : List Part} {s : State} (t : State) (t' : Nat) (h : Within [.sys, .log, .cnt, .upd, .ho] l) :
    Only l s (t.hoSwitch t') ↔ Only l s t := by
  refine Only.congr h ?_
  unfold State.hoSwitch
  repeat' first
    | with_reducible exact Only.rfl
    | exact Eq.refl true
    | with_reducible intro _ _
    | with_reducible refine (State.hoTrial_only _ ?_).2 ?_
    | with_reducible refine (State.logUpd_only _ _ _ ?_).2 ?_
    | with_reducible refine (State.mCnt_only _ _ ?_).2 ?_
    | with_reducible refine (State.mHo_only _ _ ?_).2 ?_
    | with_reducible refine (State.mSys_only _ _ ?_).2 ?_
    | with_reducible refine (State.takeBank_only _ _ ?_).2 ?_

@[simp] theorem State.hoTick_only {l : List Part} {s : State} (t : State) (t' : Nat) (h : Within [.sys, .log, .cnt, .upd, .ho] l) :
    Only l s (t.hoTick t') ↔ Only l s t := by
  refine Only.congr h ?_
  unfold State.hoTick
  repeat' first
    | with_reducible exact Only.rfl
    | exact Eq.refl true
    | with_reducible refine Only.ite ?_ ?_
    | with_reducible intro _ _
    | with_reducible refine (State.hoSwitch_only _ _ ?_).2 ?_
    | with_reducible refine (State.hoTo_only _ _ ?_).2 ?_
    | with_reducible refine (State.mHo_only _ _ ?_).2 ?_
    | split

@[simp] theorem State.hoFallback_only {l : List Part} {s : State} (t : State)  (h : Within [.sys, .pow, .ring, .frm, .log, .upd, .ho] l) :
    Only l s (t.hoFallback) ↔ Only l s t := by
  refine Only.congr h ?_
  unfold State.hoFallback
  repeat' first
    | with_reducible exact Only.rfl
    | exact Eq.refl true
    | with_reducible intro _ _
    | with_reducible refine (State.failBank_only _ _ ?_).2 ?_
    | with_reducible refine (State.hoFellBack_only _ _ ?_).2 ?_
    | with_reducible refine (State.hoTo_only _ _ ?_).2 ?_
    | with_reducible refine (State.linksDown_only _ ?_).2 ?_
    | with_reducible refine (State.mHo_only _ _ ?_).2 ?_
    | with_reducible refine (State.mSys_only _ _ ?_).2 ?_
    | with_reducible refine (State.smReset_only _ ?_).2 ?_
    | split
    | dsimp only

@[simp] theorem State.hoWindowEnd_only {l : List Part} {s : State} (t : State)  (h : Within [.frm, .log, .upd, .ho] l) :
    Only l s (t.hoWindowEnd) ↔ Only l s t := by
  refine Only.congr h ?_
  unfold State.hoWindowEnd
  repeat' first
    | with_reducible exact Only.rfl
    | exact Eq.refl true
    | with_reducible refine Only.ite ?_ ?_
    | with_reducible intro _ _
    | with_reducible refine (State.hoEnd_only _ _ _ _ ?_).2 ?_
    | with_reducible refine (State.hoFail_only _ _ ?_).2 ?_
    | with_reducible refine (State.logUpd_only _ _ _ ?_).2 ?_
    | with_reducible refine (State.mBank_only _ _ _ ?_).2 ?_
    | with_reducible refine (State.mUpd_only _ _ ?_).2 ?_
    | split

@[simp] theorem State.calSwitch_only {l : List Part} {s : State} (t : State)  (h : Within [.frm, .fe, .log, .upd, .ho] l) :
    Only l s (t.calSwitch) ↔ Only l s t := by
  refine Only.congr h ?_
  unfold State.calSwitch
  repeat' first
    | with_reducible exact Only.rfl
    | exact Eq.refl true
    | with_reducible refine Only.ite ?_ ?_
    | with_reducible intro _ _
    | with_reducible refine (State.calUse_only _ ?_).2 ?_
    | with_reducible refine (State.hoFail_only _ _ ?_).2 ?_
    | with_reducible refine (State.hoFellBack_only _ _ ?_).2 ?_
    | with_reducible refine (State.hoTrial_only _ ?_).2 ?_
    | with_reducible refine (State.mHo_only _ _ ?_).2 ?_
    | with_reducible refine (State.takeBank_only _ _ ?_).2 ?_

@[simp] theorem State.smRestarted_only {l : List Part} {s : State} (t : State) (testOk : Bool)
    (h : Within [.pow, .frm, .drv, .fan, .safe, .log, .upd, .ho] l) :
    Only l s (t.smRestarted testOk) ↔ Only l s t := by
  refine Only.congr h ?_
  unfold State.smRestarted
  repeat' first
    | with_reducible exact Only.rfl
    | exact Eq.refl true
    | with_reducible refine Only.ite ?_ ?_
    | with_reducible intro _ _
    | with_reducible refine (State.estopFollow_only _ ?_).2 ?_
    | with_reducible refine (State.failBank_only _ _ ?_).2 ?_
    | with_reducible refine (State.hoFellBack_only _ _ ?_).2 ?_
    | with_reducible refine (State.hoTo_only _ _ ?_).2 ?_
    | with_reducible refine (State.hoTrial_only _ ?_).2 ?_
    | with_reducible refine (State.mHo_only _ _ ?_).2 ?_
    | with_reducible refine (State.setLatch_only _ _ _ _ ?_).2 ?_
    | with_reducible refine (State.smStart_only _ _ ?_).2 ?_
    | with_reducible refine (State.takeBank_only _ _ ?_).2 ?_

@[simp] theorem State.logFlush_only {l : List Part} {s : State} (t : State)  (h : Within [.log] l) :
    Only l s (t.logFlush) ↔ Only l s t := by
  refine Only.congr h ?_
  unfold State.logFlush
  repeat' first
    | with_reducible exact Only.rfl
    | exact Eq.refl true
    | with_reducible intro _ _
    | with_reducible refine (State.mLog_only _ _ ?_).2 ?_

@[simp] theorem State.countAwake_only {l : List Part} {s : State} (t : State)  (h : Within [.cnt] l) :
    Only l s (t.countAwake) ↔ Only l s t := by
  refine Only.congr h ?_
  unfold State.countAwake
  repeat' first
    | with_reducible exact Only.rfl
    | exact Eq.refl true
    | with_reducible refine Only.ite ?_ ?_
    | with_reducible intro _ _
    | with_reducible refine (State.mCnt_only _ _ ?_).2 ?_

@[simp] theorem State.startBanks_only {l : List Part} {s : State} (t : State) (cause : Nat) (h : Within [.log, .upd, .ho] l) :
    Only l s (t.startBanks cause) ↔ Only l s t := by
  refine Only.congr h ?_
  unfold State.startBanks
  repeat' first
    | with_reducible exact Only.rfl
    | exact Eq.refl true
    | with_reducible refine Only.ite ?_ ?_
    | with_reducible refine Only.each ?_ ?_
    | with_reducible intro _ _
    | with_reducible refine (State.failBank_only _ _ ?_).2 ?_
    | with_reducible refine (State.logUpd_only _ _ _ ?_).2 ?_
    | with_reducible refine (State.mHo_only _ _ ?_).2 ?_
    | with_reducible refine (State.mUpd_only _ _ ?_).2 ?_

@[simp] theorem State.startOn_only {l : List Part} {s : State} (t : State) (t' : Nat) (h : Within [.upd] l) :
    Only l s (t.startOn t') ↔ Only l s t := by
  refine Only.congr h ?_
  unfold State.startOn
  repeat' first
    | with_reducible exact Only.rfl
    | exact Eq.refl true
    | with_reducible refine Only.ite ?_ ?_
    | with_reducible intro _ _
    | with_reducible refine (State.mUpd_only _ _ ?_).2 ?_
    | split

@[simp] theorem State.fresh_only {l : List Part} {s : State} (t : State) (cause : Nat)
    (h : Within [.clk, .sys, .pow, .ring, .frm, .auth, .run, .cfgs, .fe, .tab, .snap, .loop, .die, .drv, .fan, .prog, .conv, .stitch, .energy,
      .lich, .therm, .safe, .inj, .se, .upd, .ho, .dio, .mem] l) :
    Only l s (t.fresh cause) ↔ Only l s t :=
  Only.congr h (by intro p hp; cases p <;> first | rfl | exact absurd (by simp) hp)

@[simp] theorem State.logStart_only {l : List Part} {s : State} (t : State) (cause : Nat) (h : Within [.log] l) :
    Only l s (t.logStart cause) ↔ Only l s t := by
  refine Only.congr h ?_
  unfold State.logStart
  repeat' first
    | with_reducible exact Only.rfl
    | exact Eq.refl true
    | with_reducible intro _ _
    | with_reducible refine (State.logE_only _ _ _ _ ?_).2 ?_
    | with_reducible refine (State.mLog_only _ _ ?_).2 ?_

@[simp] theorem State.startImages_only {l : List Part} {s : State} (t : State) (cause : Nat) (h : Within [.sys, .fe, .log, .upd, .ho] l) :
    Only l s (t.startImages cause) ↔ Only l s t := by
  refine Only.congr h ?_
  unfold State.startImages
  repeat' first
    | with_reducible exact Only.rfl
    | exact Eq.refl true
    | with_reducible refine Only.ite ?_ ?_
    | with_reducible intro _ _
    | with_reducible refine (State.mFe_only _ _ ?_).2 ?_
    | with_reducible refine (State.mSys_only _ _ ?_).2 ?_
    | with_reducible refine (State.startBanks_only _ _ ?_).2 ?_
    | with_reducible refine (State.startOn_only _ _ ?_).2 ?_

@[simp] theorem State.restart_only {l : List Part} {s : State} (t : State) (cause : Nat)
    (h : Within [.clk, .sys, .pow, .ring, .frm, .auth, .run, .cfgs, .fe, .tab, .snap, .loop, .die, .drv, .fan, .prog, .conv, .stitch, .energy,
      .lich, .therm, .safe, .inj, .log, .cnt, .se, .upd, .ho, .dio, .mem] l) :
    Only l s (t.restart cause) ↔ Only l s t := by
  refine Only.congr h ?_
  unfold State.restart
  repeat' first
    | with_reducible exact Only.rfl
    | exact Eq.refl true
    | with_reducible intro _ _
    | with_reducible refine (State.countAwake_only _ ?_).2 ?_
    | with_reducible refine (State.fresh_only _ _ ?_).2 ?_
    | with_reducible refine (State.logFlush_only _ ?_).2 ?_
    | with_reducible refine (State.logStart_only _ _ ?_).2 ?_
    | with_reducible refine (State.mCnt_only _ _ ?_).2 ?_
    | with_reducible refine (State.sessionEnd_only _ _ ?_).2 ?_
    | with_reducible refine (State.startImages_only _ _ ?_).2 ?_
    | with_reducible refine (State.toSpore_only _ _ ?_).2 ?_
    | split
    | dsimp only

@[simp] theorem State.smBoot_only {l : List Part} {s : State} (t : State) (selfOk : Bool) (h : Within [.pow, .drv, .fan, .safe, .log] l) :
    Only l s (t.smBoot selfOk) ↔ Only l s t := by
  refine Only.congr h ?_
  unfold State.smBoot
  repeat' first
    | with_reducible exact Only.rfl
    | exact Eq.refl true
    | with_reducible refine Only.ite ?_ ?_
    | with_reducible intro _ _
    | with_reducible refine (State.logSm_only _ _ _ _ ?_).2 ?_
    | with_reducible refine (State.mSafe_only _ _ ?_).2 ?_
    | with_reducible refine (State.setLatch_only _ _ _ _ ?_).2 ?_
    | with_reducible refine (State.smStart_only _ _ ?_).2 ?_
    | split
    | dsimp only

@[simp] theorem State.ringUp_only {l : List Part} {s : State} (t : State) (a : Bool) (b : Bool) (h : Within [.clk, .pow, .ring] l) :
    Only l s (t.ringUp a b) ↔ Only l s t := by
  refine Only.congr h ?_
  unfold State.ringUp
  repeat' first
    | with_reducible exact Only.rfl
    | exact Eq.refl true
    | with_reducible refine Only.ite ?_ ?_
    | with_reducible intro _ _
    | with_reducible refine (State.mClk_only _ _ ?_).2 ?_
    | with_reducible refine (State.mPow_only _ _ ?_).2 ?_
    | with_reducible refine (State.mRing_only _ _ ?_).2 ?_

@[simp] theorem State.loadRun_only {l : List Part} {s : State} (t : State) (r : RunCfg) (h : Within [.run, .fe, .loop, .drv, .fan, .therm, .log] l) :
    Only l s (t.loadRun r) ↔ Only l s t := by
  refine Only.congr h ?_
  unfold State.loadRun
  repeat' first
    | with_reducible exact Only.rfl
    | exact Eq.refl true
    | with_reducible refine Only.ite ?_ ?_
    | with_reducible refine Only.each ?_ ?_
    | with_reducible intro _ _
    | with_reducible refine (State.adoptGroup_only _ _ ?_).2 ?_
    | with_reducible refine (State.fanSettle_only _ _ ?_).2 ?_
    | with_reducible refine (State.fanTo_only _ _ _ ?_).2 ?_
    | with_reducible refine (State.loopsSettle_only _ ?_).2 ?_
    | with_reducible refine (State.mDiag_only _ _ _ ?_).2 ?_
    | with_reducible refine (State.mFanCh_only _ _ _ ?_).2 ?_
    | with_reducible refine (State.mRun_only _ _ ?_).2 ?_
    | with_reducible refine (State.mTherm_only _ _ ?_).2 ?_
    | with_reducible refine (State.rebudget_only _ ?_).2 ?_
    | with_reducible refine (State.retarget_only _ _ ?_).2 ?_

@[simp] theorem State.sporeTrial_only {l : List Part} {s : State} (t : State)  (h : Within [.ho] l) :
    Only l s (t.sporeTrial) ↔ Only l s t := by
  refine Only.congr h ?_
  unfold State.sporeTrial
  repeat' first
    | with_reducible exact Only.rfl
    | exact Eq.refl true
    | with_reducible intro _ _
    | with_reducible refine (State.hoTrial_only _ ?_).2 ?_
    | with_reducible refine (State.mHo_only _ _ ?_).2 ?_
    | split

@[simp] theorem State.ctrlUp_only {l : List Part} {s : State} (t : State)
    (h : Within [.sys, .pow, .frm, .run, .cfgs, .fe, .snap, .loop, .die, .drv, .fan, .prog, .energy, .therm, .log, .ho] l) :
    Only l s (t.ctrlUp) ↔ Only l s t := by
  refine Only.congr h ?_
  unfold State.ctrlUp
  repeat' first
    | with_reducible exact Only.rfl
    | exact Eq.refl true
    | with_reducible refine Only.ite ?_ ?_
    | with_reducible intro _ _
    | with_reducible refine (State.chargeReview_only _ ?_).2 ?_
    | with_reducible refine (State.ioAsk_only _ ?_).2 ?_
    | with_reducible refine (State.loadRun_only _ _ ?_).2 ?_
    | with_reducible refine (State.mCfgs_only _ _ ?_).2 ?_
    | with_reducible refine (State.mDie_only _ _ ?_).2 ?_
    | with_reducible refine (State.mEnergy_only _ _ ?_).2 ?_
    | with_reducible refine (State.mFrm_only _ _ ?_).2 ?_
    | with_reducible refine (State.mPow_only _ _ ?_).2 ?_
    | with_reducible refine (State.mProg_only _ _ ?_).2 ?_
    | with_reducible refine (State.mSnap_only _ _ ?_).2 ?_
    | with_reducible refine (State.mSys_only _ _ ?_).2 ?_
    | with_reducible refine (State.pdReview_only _ ?_).2 ?_
    | with_reducible refine (State.sporeTrial_only _ ?_).2 ?_
    | split

@[simp] theorem State.supplyGone_only {l : List Part} {s : State} (t : State)  (h : Within [.loop, .drv, .fan, .safe, .log, .cnt] l) :
    Only l s (t.supplyGone) ↔ Only l s t := by
  refine Only.congr h ?_
  unfold State.supplyGone
  refine (State.outputsGone_only _ (by decide)).2 ((State.releaseAll_only _ (by decide)).2 ((State.mSafe_only _ _ (by decide)).2 ?_))
  exact Only.ite ((State.mCnt_only _ _ (by decide)).2 Only.rfl) Only.rfl

@[simp] theorem State.powerDown_only {l : List Part} {s : State} (t : State)  (h : Within [.pow, .loop, .drv, .fan, .safe, .log, .cnt] l) :
    Only l s (t.powerDown) ↔ Only l s t := by
  refine Only.congr h ?_
  unfold State.powerDown
  repeat' first
    | with_reducible exact Only.rfl
    | exact Eq.refl true
    | with_reducible refine Only.ite ?_ ?_
    | with_reducible intro _ _
    | with_reducible refine (State.countAwake_only _ ?_).2 ?_
    | with_reducible refine (State.logE_only _ _ _ _ ?_).2 ?_
    | with_reducible refine (State.logFlush_only _ ?_).2 ?_
    | with_reducible refine (State.mPow_only _ _ ?_).2 ?_
    | with_reducible refine (State.mSafe_only _ _ ?_).2 ?_
    | with_reducible refine (State.supplyGone_only _ ?_).2 ?_
    | split

@[simp] theorem State.wakeUp_only {l : List Part} {s : State} (t : State) 
    (h : Within [.clk, .sys, .pow, .ring, .frm, .auth, .run, .cfgs, .fe, .tab, .snap, .loop, .die, .drv, .fan, .prog, .conv, .stitch, .energy,
      .lich, .therm, .safe, .inj, .log, .cnt, .se, .upd, .ho, .dio, .mem] l) :
    Only l s (t.wakeUp) ↔ Only l s t := by
  refine Only.congr h ?_
  unfold State.wakeUp
  repeat' first
    | with_reducible exact Only.rfl
    | exact Eq.refl true
    | with_reducible intro _ _
    | with_reducible refine (State.restart_only _ _ ?_).2 ?_

@[simp] theorem State.wakeEvent_only {l : List Part} {s : State} (t : State) (i : Fin 4) (enabled : Bool)
    (h : Within [.clk, .sys, .pow, .ring, .frm, .auth, .run, .cfgs, .fe, .tab, .snap, .loop, .die, .drv, .fan, .prog, .conv, .stitch, .energy,
      .lich, .therm, .safe, .inj, .log, .cnt, .se, .upd, .ho, .dio, .mem] l) :
    Only l s (t.wakeEvent i enabled) ↔ Only l s t := by
  refine Only.congr h ?_
  unfold State.wakeEvent
  repeat' first
    | with_reducible exact Only.rfl
    | exact Eq.refl true
    | with_reducible refine Only.ite ?_ ?_
    | with_reducible intro _ _
    | with_reducible refine (State.mPow_only _ _ ?_).2 ?_
    | with_reducible refine (State.wakeUp_only _ ?_).2 ?_

@[simp] theorem State.mossReached_only {l : List Part} {s : State} (t : State) 
    (h : Within [.clk, .sys, .pow, .ring, .frm, .auth, .run, .cfgs, .fe, .tab, .snap, .loop, .die, .drv, .fan, .prog, .conv, .stitch, .energy,
      .lich, .therm, .safe, .inj, .log, .cnt, .se, .upd, .ho, .dio, .mem] l) :
    Only l s (t.mossReached) ↔ Only l s t := by
  refine Only.congr h ?_
  unfold State.mossReached
  repeat' first
    | with_reducible exact Only.rfl
    | exact Eq.refl true
    | with_reducible refine Only.ite ?_ ?_
    | with_reducible intro _ _
    | with_reducible refine (State.countAwake_only _ ?_).2 ?_
    | with_reducible refine (State.logE_only _ _ _ _ ?_).2 ?_
    | with_reducible refine (State.logFlush_only _ ?_).2 ?_
    | with_reducible refine (State.mCnt_only _ _ ?_).2 ?_
    | with_reducible refine (State.mLog_only _ _ ?_).2 ?_
    | with_reducible refine (State.mPow_only _ _ ?_).2 ?_
    | with_reducible refine (State.sessionEnd_only _ _ ?_).2 ?_
    | with_reducible refine (State.supplyGone_only _ ?_).2 ?_
    | with_reducible refine (State.wakeUp_only _ ?_).2 ?_
    | split

@[simp] theorem State.toTurn_only {l : List Part} {s : State} (t : State) (p : PortId) (cause : Nat) (h : Within [.ring] l) :
    Only l s (t.toTurn p cause) ↔ Only l s t := by
  refine Only.congr h ?_
  unfold State.toTurn
  repeat' first
    | with_reducible exact Only.rfl
    | exact Eq.refl true
    | with_reducible intro _ _
    | with_reducible refine (State.mRp_only _ _ _ ?_).2 ?_
    | with_reducible refine (State.turnKept_only _ _ _ ?_).2 ?_

@[simp] theorem State.loseLock_only {l : List Part} {s : State} (t : State) (p : PortId) (c : LossCause) (h : Within [.ring, .inj, .log] l) :
    Only l s (t.loseLock p c) ↔ Only l s t := by
  refine Only.congr h ?_
  unfold State.loseLock
  repeat' first
    | with_reducible exact Only.rfl
    | exact Eq.refl true
    | with_reducible refine Only.ite ?_ ?_
    | with_reducible intro _ _
    | with_reducible refine (State.detected_only _ _ _ _ ?_).2 ?_
    | with_reducible refine (State.logHw_only _ _ _ _ _ _ ?_).2 ?_
    | with_reducible refine (State.mRp_only _ _ _ ?_).2 ?_
    | with_reducible refine (State.toTurn_only _ _ _ ?_).2 ?_

@[simp] theorem State.setRate_only {l : List Part} {s : State} (t : State) (p : PortId) (r : Nat) (h : Within [.ring, .log] l) :
    Only l s (t.setRate p r) ↔ Only l s t := by
  refine Only.congr h ?_
  unfold State.setRate
  repeat' first
    | with_reducible exact Only.rfl
    | exact Eq.refl true
    | with_reducible refine Only.ite ?_ ?_
    | with_reducible intro _ _
    | with_reducible refine (State.logE_only _ _ _ _ ?_).2 ?_
    | with_reducible refine (State.mRing_only _ _ ?_).2 ?_

@[simp] theorem State.relock_only {l : List Part} {s : State} (t : State) (p : PortId) (h : Within [.ring, .log] l) :
    Only l s (t.relock p) ↔ Only l s t := by
  refine Only.congr h ?_
  unfold State.relock
  repeat' first
    | with_reducible exact Only.rfl
    | exact Eq.refl true
    | with_reducible refine Only.ite ?_ ?_
    | with_reducible intro _ _
    | with_reducible refine (State.mRp_only _ _ _ ?_).2 ?_
    | with_reducible refine (State.setRate_only _ _ _ ?_).2 ?_

@[simp] theorem State.leaveTurn_only {l : List Part} {s : State} (t : State) (p : PortId) (h : Within [.ring] l) :
    Only l s (t.leaveTurn p) ↔ Only l s t := by
  refine Only.congr h ?_
  unfold State.leaveTurn
  repeat' first
    | with_reducible exact Only.rfl
    | exact Eq.refl true
    | with_reducible refine Only.ite ?_ ?_
    | with_reducible intro _ _
    | with_reducible refine (State.mRp_only _ _ _ ?_).2 ?_

@[simp] theorem State.switchRate_only {l : List Part} {s : State} (t : State) (r : Nat) (h : Within [.ring, .log] l) :
    Only l s (t.switchRate r) ↔ Only l s t := by
  refine Only.congr h ?_
  unfold State.switchRate
  repeat' first
    | with_reducible exact Only.rfl
    | exact Eq.refl true
    | with_reducible refine Only.ite ?_ ?_
    | with_reducible intro _ _
    | with_reducible refine (State.mRing_only _ _ ?_).2 ?_
    | with_reducible refine (State.mRp_only _ _ _ ?_).2 ?_
    | with_reducible refine (State.setRate_only _ _ _ ?_).2 ?_
    | with_reducible refine (State.toTurn_only _ _ _ ?_).2 ?_

@[simp] theorem State.latchHi_only {l : List Part} {s : State} (t : State)  (h : Within [.clk] l) :
    Only l s (t.latchHi) ↔ Only l s t := by
  refine Only.congr h ?_
  unfold State.latchHi
  repeat' first
    | with_reducible exact Only.rfl
    | exact Eq.refl true
    | with_reducible intro _ _
    | with_reducible refine (State.mClk_only _ _ ?_).2 ?_

@[simp] theorem State.setAddr_only {l : List Part} {s : State} (t : State) (a : Nat) (h : Within [.ring] l) :
    Only l s (t.setAddr a) ↔ Only l s t := by
  refine Only.congr h ?_
  unfold State.setAddr
  repeat' first
    | with_reducible exact Only.rfl
    | exact Eq.refl true
    | with_reducible intro _ _
    | with_reducible refine (State.mRing_only _ _ ?_).2 ?_

@[simp] theorem State.setPin_only {l : List Part} {s : State} (t : State) (a : Option Nat) (h : Within [.ring] l) :
    Only l s (t.setPin a) ↔ Only l s t := by
  refine Only.congr h ?_
  unfold State.setPin
  repeat' first
    | with_reducible exact Only.rfl
    | exact Eq.refl true
    | with_reducible intro _ _
    | with_reducible refine (State.mRing_only _ _ ?_).2 ?_

@[simp] theorem State.timersJump_only {l : List Part} {s : State} (t : State) (us : Nat) (h : Within [.se] l) :
    Only l s (t.timersJump us) ↔ Only l s t := by
  refine Only.congr h ?_
  unfold State.timersJump
  repeat' first
    | with_reducible exact Only.rfl
    | exact Eq.refl true
    | with_reducible intro _ _
    | with_reducible refine (State.mSe_only _ _ ?_).2 ?_

@[simp] theorem State.jumpTo_only {l : List Part} {s : State} (t : State) (ns : Nat)
    (h : Within [.clk, .fe, .tab, .snap, .loop, .die, .drv, .fan, .prog, .stitch, .inj, .log, .se] l) :
    Only l s (t.jumpTo ns) ↔ Only l s t := by
  refine Only.congr h ?_
  unfold State.jumpTo
  repeat' first
    | with_reducible exact Only.rfl
    | exact Eq.refl true
    | with_reducible intro _ _
    | with_reducible refine (State.mClk_only _ _ ?_).2 ?_
    | with_reducible refine (State.mSnap_only _ _ ?_).2 ?_
    | with_reducible refine (State.mTab_only _ _ ?_).2 ?_
    | with_reducible refine (State.rebase_only _ _ ?_).2 ?_
    | with_reducible refine (State.stitchLate_only _ _ ?_).2 ?_
    | with_reducible refine (State.timersJump_only _ _ ?_).2 ?_

@[simp] theorem State.takeMark_only {l : List Part} {s : State} (t : State) (time : Nat) (srcB : Bool) (x : MarkSeen)
    (h : Within [.clk, .sys, .fe, .tab, .snap, .loop, .die, .drv, .fan, .prog, .stitch, .inj, .log, .se] l) :
    Only l s (t.takeMark time srcB x) ↔ Only l s t := by
  refine Only.congr h ?_
  unfold State.takeMark
  repeat' first
    | with_reducible exact Only.rfl
    | exact Eq.refl true
    | with_reducible refine Only.ite ?_ ?_
    | with_reducible intro _ _
    | with_reducible refine (State.jumpTo_only _ _ ?_).2 ?_
    | with_reducible refine (State.logAs_only _ _ _ _ _ _ ?_).2 ?_
    | with_reducible refine (State.mClk_only _ _ ?_).2 ?_
    | with_reducible refine (State.snapClear_only _ ?_).2 ?_
    | with_reducible refine (State.trimBy_only _ _ ?_).2 ?_

@[simp] theorem State.judgeMark_only {l : List Part} {s : State} (t : State) (m : Mark) (x : MarkSeen)
    (h : Within [.clk, .sys, .fe, .tab, .snap, .loop, .die, .drv, .fan, .prog, .stitch, .inj, .log, .se] l) :
    Only l s (t.judgeMark m x) ↔ Only l s t := by
  refine Only.congr h ?_
  unfold State.judgeMark
  repeat' first
    | with_reducible exact Only.rfl
    | exact Eq.refl true
    | with_reducible refine Only.ite ?_ ?_
    | with_reducible intro _ _
    | with_reducible refine (State.compareMark_only _ _ _ ?_).2 ?_
    | with_reducible refine (State.mClk_only _ _ ?_).2 ?_
    | with_reducible refine (State.takeMark_only _ _ _ _ ?_).2 ?_

@[simp] theorem State.markIn_only {l : List Part} {s : State} (t : State) (p : PortId) (bytes : List Byte) (cyc : Nat)
    (h : Within [.clk, .sys, .ring, .fe, .tab, .snap, .loop, .die, .drv, .fan, .prog, .stitch, .inj, .log, .se] l) :
    Only l s (t.markIn p bytes cyc) ↔ Only l s t := by
  refine Only.congr h ?_
  unfold State.markIn
  repeat' first
    | with_reducible exact Only.rfl
    | exact Eq.refl true
    | with_reducible refine Only.ite ?_ ?_
    | with_reducible intro _ _
    | with_reducible refine (State.judgeMark_only _ _ _ ?_).2 ?_
    | with_reducible refine (State.mClk_only _ _ ?_).2 ?_
    | with_reducible refine (State.mRp_only _ _ _ ?_).2 ?_
    | with_reducible refine (State.mSys_only _ _ ?_).2 ?_

@[simp] theorem State.markWait_only {l : List Part} {s : State} (t : State)
    (h : Within [.clk, .sys, .fe, .tab, .snap, .loop, .die, .drv, .fan, .prog, .stitch, .inj, .log, .se] l) :
    Only l s (t.markWait) ↔ Only l s t := by
  refine Only.congr h ?_
  unfold State.markWait
  repeat' first
    | with_reducible exact Only.rfl
    | exact Eq.refl true
    | with_reducible refine Only.ite ?_ ?_
    | with_reducible intro _ _
    | with_reducible refine (State.takeMark_only _ _ _ _ ?_).2 ?_
    | split

@[simp] theorem State.setFill_only {l : List Part} {s : State} (t : State) (b : Fin 4) (f : Nat) (h : Within [.se] l) :
    Only l s (t.setFill b f) ↔ Only l s t := by
  refine Only.congr h ?_
  unfold State.setFill
  repeat' first
    | with_reducible exact Only.rfl
    | exact Eq.refl true
    | with_reducible refine Only.ite ?_ ?_
    | with_reducible intro _ _
    | with_reducible refine (State.mRb_only _ _ _ ?_).2 ?_
    | with_reducible refine (State.scTrigger_only _ _ ?_).2 ?_

@[simp] theorem State.ringCommit_only {l : List Part} {s : State} (t : State) (b : Fin 4) (w : Nat) (r : Nat) (h : Within [.se, .free] l) :
    Only l s (t.ringCommit b w r) ↔ Only l s t := by
  refine Only.congr h ?_
  unfold State.ringCommit
  repeat' first
    | with_reducible exact Only.rfl
    | exact Eq.refl true
    | with_reducible refine Only.ite ?_ ?_
    | with_reducible intro _ _
    | with_reducible refine (State.drew_only _ ?_).2 ?_
    | with_reducible refine (State.mRb_only _ _ _ ?_).2 ?_
    | with_reducible refine (State.setFill_only _ _ _ ?_).2 ?_

@[simp] theorem State.scFinish_only {l : List Part} {s : State} (t : State) (n : Fin 8) (h : Within [.se, .free] l) :
    Only l s (t.scFinish n) ↔ Only l s t := by
  refine Only.congr h ?_
  unfold State.scFinish
  repeat' first
    | with_reducible exact Only.rfl
    | exact Eq.refl true
    | with_reducible refine Only.each ?_ ?_
    | with_reducible intro _ _
    | with_reducible refine (State.mSc_only _ _ _ ?_).2 ?_
    | with_reducible refine (State.ringCommit_only _ _ _ _ ?_).2 ?_
    | with_reducible refine (State.scRest_only _ _ ?_).2 ?_
    | with_reducible refine (State.scTrigger_only _ _ ?_).2 ?_

@[simp] theorem State.timerFire_only {l : List Part} {s : State} (t : State) (t' : Fin 4) (h : Within [.se] l) :
    Only l s (t.timerFire t') ↔ Only l s t := by
  refine Only.congr h ?_
  unfold State.timerFire
  repeat' first
    | with_reducible exact Only.rfl
    | exact Eq.refl true
    | with_reducible refine Only.ite ?_ ?_
    | with_reducible intro _ _
    | with_reducible refine (State.mSe_only _ _ ?_).2 ?_
    | with_reducible refine (State.scTrigger_only _ _ ?_).2 ?_
    | split

@[simp] theorem scDescriptor_only {l : List Part} {s : State} (t : State) (b : List Byte) (h : Within [.run] l) :
    Only l s (scDescriptor b t).s ↔ Only l s t := by
  refine Only.congr h ?_
  unfold scDescriptor
  repeat' first
    | with_reducible exact Only.rfl
    | exact Eq.refl true
    | with_reducible refine Only.ite ?_ ?_
    | with_reducible intro _ _
    | with_reducible refine Res.bad_only ?_
    | with_reducible refine Res.ok_only ?_
    | with_reducible refine (State.mRun_only _ _ ?_).2 ?_
    | split
    | dsimp only

@[simp] theorem scTimer_only {l : List Part} {s : State} (t : State) (b : List Byte) (h : Within [.run, .se] l) :
    Only l s (scTimer b t).s ↔ Only l s t := by
  refine Only.congr h ?_
  unfold scTimer
  repeat' first
    | with_reducible exact Only.rfl
    | exact Eq.refl true
    | with_reducible refine Only.ite ?_ ?_
    | with_reducible intro _ _
    | with_reducible refine Res.bad_only ?_
    | with_reducible refine Res.ok_only ?_
    | with_reducible refine (State.mRun_only _ _ ?_).2 ?_
    | with_reducible refine (State.mSe_only _ _ ?_).2 ?_
    | split
    | dsimp only

@[simp] theorem State.ringMoved_only {l : List Part} {s : State} (t : State) (b : Fin 4) (old : RbCfg) (size : Nat) (h : Within [.se, .free] l) :
    Only l s (t.ringMoved b old size) ↔ Only l s t := by
  refine Only.congr h ?_
  unfold State.ringMoved
  repeat' first
    | with_reducible exact Only.rfl
    | exact Eq.refl true
    | with_reducible refine Only.ite ?_ ?_
    | with_reducible intro _ _
    | with_reducible refine (State.drew_only _ ?_).2 ?_
    | with_reducible refine (State.mRb_only _ _ _ ?_).2 ?_

@[simp] theorem scRing_only {l : List Part} {s : State} (t : State) (b : List Byte) (h : Within [.run, .se, .free] l) :
    Only l s (scRing b t).s ↔ Only l s t := by
  refine Only.congr h ?_
  unfold scRing
  repeat' first
    | with_reducible exact Only.rfl
    | exact Eq.refl true
    | with_reducible refine Only.ite ?_ ?_
    | with_reducible intro _ _
    | with_reducible refine Res.bad_only ?_
    | with_reducible refine Res.ok_only ?_
    | with_reducible refine (State.mRun_only _ _ ?_).2 ?_
    | with_reducible refine (State.ringMoved_only _ _ _ _ ?_).2 ?_
    | split
    | dsimp only

@[simp] theorem scChannel_only {l : List Part} {s : State} (t : State) (b : List Byte) (h : Within [.run] l) :
    Only l s (scChannel b t).s ↔ Only l s t := by
  refine Only.congr h ?_
  unfold scChannel
  repeat' first
    | with_reducible exact Only.rfl
    | exact Eq.refl true
    | with_reducible refine Only.ite ?_ ?_
    | with_reducible intro _ _
    | with_reducible refine Res.bad_only ?_
    | with_reducible refine Res.ok_only ?_
    | with_reducible refine (State.mRun_only _ _ ?_).2 ?_
    | split
    | dsimp only

@[simp] theorem State.scResume_only {l : List Part} {s : State} (t : State) (n : Fin 8) (h : Within [.se] l) :
    Only l s (t.scResume n) ↔ Only l s t := by
  refine Only.congr h ?_
  unfold State.scResume
  repeat' first
    | with_reducible exact Only.rfl
    | exact Eq.refl true
    | with_reducible refine Only.ite ?_ ?_
    | with_reducible intro _ _
    | with_reducible refine (State.mSc_only _ _ _ ?_).2 ?_
    | with_reducible refine (State.scEnter_only _ _ _ ?_).2 ?_
    | with_reducible refine (State.scHalt_only _ _ _ ?_).2 ?_

@[simp] theorem State.freeRead_snd {l : List Part} {s : State} (t : State)  (h : Within [.free] l) :
    Only l s (t.freeRead).2 ↔ Only l s t := by
  refine Only.congr h ?_
  unfold State.freeRead
  repeat' first
    | with_reducible exact Only.rfl
    | exact Eq.refl true
    | with_reducible intro _ _
    | with_reducible refine (State.drew_only _ ?_).2 ?_

@[simp] theorem State.slotByte_snd {l : List Part} {s : State} (t : State) (o : Nat) (h : Within [.free] l) :
    Only l s (t.slotByte o).2 ↔ Only l s t := by
  refine Only.congr h ?_
  unfold State.slotByte
  repeat' first
    | with_reducible exact Only.rfl
    | exact Eq.refl true
    | with_reducible refine Only.ite ?_ ?_
    | with_reducible intro _ _
    | with_reducible refine (State.freeRead_snd _ ?_).2 ?_
    | split

@[simp] theorem State.sramByte_snd {l : List Part} {s : State} (t : State) (a : Nat) (h : Within [.free] l) :
    Only l s (t.sramByte a).2 ↔ Only l s t := by
  refine Only.congr h ?_
  unfold State.sramByte
  repeat' first
    | with_reducible exact Only.rfl
    | exact Eq.refl true
    | with_reducible refine Only.ite ?_ ?_
    | with_reducible intro _ _
    | with_reducible refine (State.freeRead_snd _ ?_).2 ?_
    | with_reducible refine (State.slotByte_snd _ _ ?_).2 ?_
    | split

theorem State.storeByte_cases {t : State} {a : Nat} {x : Byte × State} (e : t.storeByte a = x) : x.2 = t ∨ x.2 = t.drew := by
  unfold State.storeByte at e
  dsimp only at e
  split_ifs at e <;> subst e <;> first | exact .inl rfl | exact .inr rfl

@[simp] theorem State.storeByte_snd {l : List Part} {s : State} (t : State) (a : Nat) (h : Within [.free] l) :
    Only l s (t.storeByte a).2 ↔ Only l s t := by
  obtain e | e := State.storeByte_cases (t := t) (a := a) rfl
  · rw [e]
  · rw [e]; exact State.drew_only t h

@[simp] theorem State.flashByte_snd {l : List Part} {s : State} (t : State) (a : Nat) (h : Within [.free] l) :
    Only l s (t.flashByte a).2 ↔ Only l s t := by
  refine Only.congr h ?_
  unfold State.flashByte
  repeat' first
    | with_reducible exact Only.rfl
    | exact Eq.refl true
    | with_reducible intro _ _
    | with_reducible refine (State.freeRead_snd _ ?_).2 ?_
    | split

@[simp] theorem State.readWord_snd {l : List Part} {s : State} (t : State) (a : Nat) (h : Within [.clk, .free] l) :
    Only l s (t.readWord a).2 ↔ Only l s t := by
  refine Only.congr h ?_
  unfold State.readWord
  repeat' first
    | with_reducible exact Only.rfl
    | exact Eq.refl true
    | with_reducible refine Only.ite ?_ ?_
    | with_reducible intro _ _
    | with_reducible refine (State.drew_only _ ?_).2 ?_
    | with_reducible refine (State.latchHi_only _ ?_).2 ?_
    | split

@[simp] theorem State.readByte_snd {l : List Part} {s : State} (t : State) (a : Nat) (h : Within [.free] l) :
    Only l s (t.readByte a).2 ↔ Only l s t := by
  refine Only.congr h ?_
  unfold State.readByte
  repeat' first
    | with_reducible exact Only.rfl
    | exact Eq.refl true
    | with_reducible refine Only.ite ?_ ?_
    | with_reducible intro _ _
    | with_reducible refine (State.flashByte_snd _ _ ?_).2 ?_
    | with_reducible refine (State.sramByte_snd _ _ ?_).2 ?_
    | with_reducible refine (State.storeByte_snd _ _ ?_).2 ?_
    | split

@[simp] theorem State.readBytes_snd {l : List Part} {s : State} (t : State) (a n : Nat) (h : Within [.free] l) :
    Only l s (t.readBytes a n).2 ↔ Only l s t := by
  induction n generalizing t a with
  | zero => exact Iff.rfl
  | succ n ih => exact (ih _ _).trans (State.readByte_snd t a h)

@[simp] theorem State.readWords_snd {l : List Part} {s : State} (t : State) (a n : Nat) (h : Within [.clk, .free] l) :
    Only l s (t.readWords a n).2 ↔ Only l s t := by
  induction n generalizing t a with
  | zero => exact Iff.rfl
  | succ n ih => exact (ih _ _).trans (State.readWord_snd t a h)

@[simp] theorem State.readSpan_snd {l : List Part} {s : State} (t : State) (a : Nat) (n : Nat) (h : Within [.clk, .free] l) :
    Only l s (t.readSpan a n).2 ↔ Only l s t := by
  refine Only.congr h ?_
  unfold State.readSpan
  repeat' first
    | with_reducible exact Only.rfl
    | exact Eq.refl true
    | with_reducible refine Only.ite ?_ ?_
    | with_reducible intro _ _
    | with_reducible refine (State.readBytes_snd _ _ _ ?_).2 ?_
    | with_reducible refine (State.readWords_snd _ _ _ ?_).2 ?_
    | split

@[simp] theorem State.w1cSys_only {l : List Part} {s : State} (t : State) (o : Nat) (m : Nat)
    (h : Within [.sys, .pow, .frm, .auth, .prog, .conv, .stitch, .lich, .log, .upd, .ho] l) :
    Only l s (t.w1cSys o m) ↔ Only l s t := by
  refine Only.congr h ?_
  unfold State.w1cSys
  repeat' first
    | with_reducible exact Only.rfl
    | exact Eq.refl true
    | with_reducible refine Only.ite ?_ ?_
    | with_reducible intro _ _
    | with_reducible refine (State.mAuth_only _ _ ?_).2 ?_
    | with_reducible refine (State.mConv_only _ _ ?_).2 ?_
    | with_reducible refine (State.mFrm_only _ _ ?_).2 ?_
    | with_reducible refine (State.mHo_only _ _ ?_).2 ?_
    | with_reducible refine (State.mLich_only _ _ ?_).2 ?_
    | with_reducible refine (State.mLog_only _ _ ?_).2 ?_
    | with_reducible refine (State.mPow_only _ _ ?_).2 ?_
    | with_reducible refine (State.mProg_only _ _ ?_).2 ?_
    | with_reducible refine (State.mStitch_only _ _ ?_).2 ?_
    | with_reducible refine (State.mSys_only _ _ ?_).2 ?_
    | with_reducible refine (State.mUpd_only _ _ ?_).2 ?_
    | split

@[simp] theorem State.w1cRing_only {l : List Part} {s : State} (t : State) (o : Nat) (m : Nat) (h : Within [.clk, .ring] l) :
    Only l s (t.w1cRing o m) ↔ Only l s t := by
  refine Only.congr h ?_
  unfold State.w1cRing
  repeat' first
    | with_reducible exact Only.rfl
    | exact Eq.refl true
    | with_reducible refine Only.ite ?_ ?_
    | with_reducible intro _ _
    | with_reducible refine (State.mClk_only _ _ ?_).2 ?_
    | with_reducible refine (State.mRing_only _ _ ?_).2 ?_
    | split

@[simp] theorem State.w1cFe_only {l : List Part} {s : State} (t : State) (o : Nat) (m : Nat) (h : Within [.fe] l) :
    Only l s (t.w1cFe o m) ↔ Only l s t := by
  refine Only.congr h ?_
  unfold State.w1cFe
  repeat' first
    | with_reducible exact Only.rfl
    | exact Eq.refl true
    | with_reducible refine Only.ite ?_ ?_
    | with_reducible intro _ _
    | with_reducible refine (State.mCh_only _ _ _ ?_).2 ?_
    | with_reducible refine (State.mFe_only _ _ ?_).2 ?_
    | with_reducible refine (State.mGrp_only _ _ _ ?_).2 ?_

@[simp] theorem State.w1cDrv_only {l : List Part} {s : State} (t : State) (o : Nat) (m : Nat) (h : Within [.drv] l) :
    Only l s (t.w1cDrv o m) ↔ Only l s t := by
  refine Only.congr h ?_
  unfold State.w1cDrv
  repeat' first
    | with_reducible exact Only.rfl
    | exact Eq.refl true
    | with_reducible refine Only.ite ?_ ?_
    | with_reducible intro _ _
    | with_reducible refine (State.mDrv_only _ _ ?_).2 ?_
    | with_reducible refine (State.mDrvCh_only _ _ _ ?_).2 ?_

@[simp] theorem State.w1cFan_only {l : List Part} {s : State} (t : State) (o : Nat) (m : Nat) (h : Within [.fan] l) :
    Only l s (t.w1cFan o m) ↔ Only l s t := by
  refine Only.congr h ?_
  unfold State.w1cFan
  repeat' first
    | with_reducible exact Only.rfl
    | exact Eq.refl true
    | with_reducible refine Only.ite ?_ ?_
    | with_reducible intro _ _
    | with_reducible refine (State.mFanCh_only _ _ _ ?_).2 ?_
    | with_reducible refine (State.mFanGrp_only _ _ _ ?_).2 ?_
    | split

@[simp] theorem State.w1cSe_only {l : List Part} {s : State} (t : State) (o : Nat) (m : Nat) (h : Within [.se] l) :
    Only l s (t.w1cSe o m) ↔ Only l s t := by
  refine Only.congr h ?_
  unfold State.w1cSe
  repeat' first
    | with_reducible exact Only.rfl
    | exact Eq.refl true
    | with_reducible refine Only.ite ?_ ?_
    | with_reducible intro _ _
    | with_reducible refine (State.mRb_only _ _ _ ?_).2 ?_
    | with_reducible refine (State.mSc_only _ _ _ ?_).2 ?_

@[simp] theorem State.clearFlags_only {l : List Part} {s : State} (t : State) (a : Nat) (m : Nat)
    (h : Within [.clk, .sys, .pow, .ring, .frm, .auth, .fe, .loop, .die, .drv, .fan, .prog, .conv, .stitch, .lich, .therm, .inj, .log, .se, .upd,
      .ho] l) :
    Only l s (t.clearFlags a m) ↔ Only l s t := by
  refine Only.congr h ?_
  unfold State.clearFlags
  repeat' first
    | with_reducible exact Only.rfl
    | exact Eq.refl true
    | with_reducible refine Only.ite ?_ ?_
    | with_reducible intro _ _
    | with_reducible refine (State.mInj_only _ _ ?_).2 ?_
    | with_reducible refine (State.mLo_only _ _ _ ?_).2 ?_
    | with_reducible refine (State.mPort_only _ _ _ ?_).2 ?_
    | with_reducible refine (State.mTherm_only _ _ ?_).2 ?_
    | with_reducible refine (State.w1cDrv_only _ _ _ ?_).2 ?_
    | with_reducible refine (State.w1cFan_only _ _ _ ?_).2 ?_
    | with_reducible refine (State.w1cFe_only _ _ _ ?_).2 ?_
    | with_reducible refine (State.w1cRing_only _ _ _ ?_).2 ?_
    | with_reducible refine (State.w1cSe_only _ _ _ ?_).2 ?_
    | with_reducible refine (State.w1cSys_only _ _ _ ?_).2 ?_

@[simp] theorem State.rdWrite_only {l : List Part} {s : State} (t : State) (b : Fin 4) (v : Nat) (h : Within [.se] l) :
    Only l s (t.rdWrite b v) ↔ Only l s t := by
  refine Only.congr h ?_
  unfold State.rdWrite
  repeat' first
    | with_reducible exact Only.rfl
    | exact Eq.refl true
    | with_reducible intro _ _
    | with_reducible refine (State.mRb_only _ _ _ ?_).2 ?_
    | with_reducible refine (State.setFill_only _ _ _ ?_).2 ?_

@[simp] theorem State.regWrite_only {l : List Part} {s : State} (t : State) (a : Nat) (v : Nat)
    (h : Within [.clk, .sys, .pow, .ring, .frm, .auth, .fe, .loop, .die, .drv, .fan, .prog, .conv, .stitch, .lich, .therm, .inj, .log, .se, .upd,
      .ho] l) :
    Only l s (t.regWrite a v) ↔ Only l s t := by
  refine Only.congr h ?_
  unfold State.regWrite
  repeat' first
    | with_reducible exact Only.rfl
    | exact Eq.refl true
    | with_reducible refine Only.ite ?_ ?_
    | with_reducible intro _ _
    | with_reducible refine (State.clearFlags_only _ _ _ ?_).2 ?_
    | with_reducible refine (State.mClk_only _ _ ?_).2 ?_
    | with_reducible refine (State.mPow_only _ _ ?_).2 ?_
    | with_reducible refine (State.rdWrite_only _ _ _ ?_).2 ?_
    | split

@[simp] theorem State.windowView_only {l : List Part} {s : State} (t : State) (a : Nat) (h : Within [.snap] l) :
    Only l s (t.windowView a) ↔ Only l s t := by
  refine Only.congr h ?_
  unfold State.windowView
  repeat' first
    | with_reducible exact Only.rfl
    | exact Eq.refl true
    | with_reducible refine Only.ite ?_ ?_
    | with_reducible intro _ _
    | with_reducible refine (State.publish_only _ _ ?_).2 ?_
    | split

@[simp] theorem State.commitTick_only {l : List Part} {s : State} (t : State)  (h : Within [.sys] l) :
    Only l s (t.commitTick) ↔ Only l s t := by
  refine Only.congr h ?_
  unfold State.commitTick
  repeat' first
    | with_reducible exact Only.rfl
    | exact Eq.refl true
    | with_reducible refine Only.ite ?_ ?_
    | with_reducible intro _ _
    | with_reducible refine (State.mSys_only _ _ ?_).2 ?_

@[simp] theorem State.busWrite_only {l : List Part} {s : State} (t : State) (a : Nat) (v : Nat) (m : Nat)
    (h : Within [.clk, .sys, .pow, .ring, .frm, .auth, .fe, .loop, .die, .drv, .fan, .prog, .conv, .stitch, .lich, .therm, .inj, .log, .se, .upd,
      .ho] l) :
    Only l s (t.busWrite a v m) ↔ Only l s t := by
  refine Only.congr h ?_
  unfold State.busWrite
  repeat' first
    | with_reducible exact Only.rfl
    | exact Eq.refl true
    | with_reducible refine Only.ite ?_ ?_
    | with_reducible intro _ _
    | with_reducible refine (State.clearFlags_only _ _ _ ?_).2 ?_
    | with_reducible refine (State.commitTick_only _ ?_).2 ?_
    | with_reducible refine (State.domAskAll_only _ _ ?_).2 ?_
    | with_reducible refine (State.mClk_only _ _ ?_).2 ?_
    | with_reducible refine (State.mPow_only _ _ ?_).2 ?_
    | with_reducible refine (State.rdWrite_only _ _ _ ?_).2 ?_
    | split

@[simp] theorem State.readAt_snd {l : List Part} {s : State} (t : State) (as : List Nat) (h : Within [.free] l) :
    Only l s (t.readAt as).2 ↔ Only l s t := by
  induction as generalizing t with
  | nil => exact Iff.rfl
  | cons a as ih => exact (ih _).trans (State.readByte_snd t a h)

@[simp] theorem State.readFixed_snd {l : List Part} {s : State} (t : State) (a n : Nat) (h : Within [.clk, .free] l) :
    Only l s (t.readFixed a n).2 ↔ Only l s t := by
  induction n generalizing t a with
  | zero => exact Iff.rfl
  | succ n ih => exact (ih _ _).trans (State.readWord_snd t a h)

@[simp] theorem State.freeBytes_snd {l : List Part} {s : State} (t : State) (n : Nat) (h : Within [.free] l) :
    Only l s (t.freeBytes n).2 ↔ Only l s t := by
  induction n generalizing t with
  | zero => exact Iff.rfl
  | succ n ih => exact (ih _).trans (State.freeRead_snd t h)

@[simp] theorem State.source_snd {l : List Part} {s : State} (t : State) (n : Fin 8) (d : List Byte) (o : Nat) (m : Nat)
    (h : Within [.clk, .free] l) :
    Only l s (t.source n d o m).2 ↔ Only l s t := by
  refine Only.congr h ?_
  unfold State.source
  repeat' first
    | with_reducible exact Only.rfl
    | exact Eq.refl true
    | with_reducible refine Only.ite ?_ ?_
    | with_reducible intro _ _
    | with_reducible refine (State.freeBytes_snd _ _ ?_).2 ?_
    | with_reducible refine (State.readAt_snd _ _ ?_).2 ?_
    | with_reducible refine (State.readFixed_snd _ _ _ ?_).2 ?_
    | with_reducible refine (State.readSpan_snd _ _ _ ?_).2 ?_
    | split
    | dsimp only

@[simp] theorem State.putAt_only {l : List Part} {s : State} (t : State) (as : List Nat) (p : List Byte) (h : Within [.mem] l) :
    Only l s (t.putAt as p) ↔ Only l s t := by
  refine Only.congr h ?_
  unfold State.putAt
  repeat' first
    | with_reducible exact Only.rfl
    | exact Eq.refl true
    | with_reducible intro _ _
    | with_reducible refine (State.mMem_only _ _ ?_).2 ?_

@[simp] theorem State.scMove_only {l : List Part} {s : State} (t : State) (n : Fin 8) (e : Nat) (h : Within [.clk, .se, .mem, .free] l) :
    Only l s (t.scMove n e) ↔ Only l s t := by
  refine Only.congr h ?_
  unfold State.scMove
  repeat' first
    | with_reducible exact Only.rfl
    | exact Eq.refl true
    | with_reducible refine Only.ite ?_ ?_
    | with_reducible intro _ _
    | with_reducible refine (State.mSc_only _ _ _ ?_).2 ?_
    | with_reducible refine (State.putAt_only _ _ _ ?_).2 ?_
    | with_reducible refine (State.source_snd _ _ _ _ _ ?_).2 ?_

@[simp] theorem State.scramble_only {l : List Part} {s : State} (t : State) (n : Fin 8) (h : Within [.mem, .free] l) :
    Only l s (t.scramble n) ↔ Only l s t := by
  refine Only.congr h ?_
  unfold State.scramble
  repeat' first
    | with_reducible exact Only.rfl
    | exact Eq.refl true
    | with_reducible intro _ _
    | with_reducible refine (State.freeBytes_snd _ _ ?_).2 ?_
    | with_reducible refine (State.putAt_only _ _ _ ?_).2 ?_

@[simp] theorem State.scPart_only {l : List Part} {s : State} (t : State) (n : Fin 8) (h : Within [.clk, .se, .mem, .free] l) :
    Only l s (t.scPart n) ↔ Only l s t := by
  refine Only.congr h ?_
  unfold State.scPart
  repeat' first
    | with_reducible exact Only.rfl
    | exact Eq.refl true
    | with_reducible refine Only.ite ?_ ?_
    | with_reducible intro _ _
    | with_reducible refine (State.drew_only _ ?_).2 ?_
    | with_reducible refine (State.scMove_only _ _ _ ?_).2 ?_

@[simp] theorem State.descDone_only {l : List Part} {s : State} (t : State) (n : Fin 8) (h : Within [.clk, .se, .mem, .free] l) :
    Only l s (t.descDone n) ↔ Only l s t := by
  refine Only.congr h ?_
  unfold State.descDone
  repeat' first
    | with_reducible exact Only.rfl
    | exact Eq.refl true
    | with_reducible refine Only.ite ?_ ?_
    | with_reducible intro _ _
    | with_reducible refine (State.scEnter_only _ _ _ ?_).2 ?_
    | with_reducible refine (State.scFinish_only _ _ ?_).2 ?_
    | with_reducible refine (State.scHalt_only _ _ _ ?_).2 ?_
    | with_reducible refine (State.scMove_only _ _ _ ?_).2 ?_

@[simp] theorem State.burstFails_only {l : List Part} {s : State} (t : State) (n : Fin 8) (o : Nat) (a : Nat)
    (h : Within [.clk, .se, .mem, .free] l) :
    Only l s (t.burstFails n o a) ↔ Only l s t := by
  refine Only.congr h ?_
  unfold State.burstFails
  repeat' first
    | with_reducible exact Only.rfl
    | exact Eq.refl true
    | with_reducible refine Only.ite ?_ ?_
    | with_reducible intro _ _
    | with_reducible refine (State.mSc_only _ _ _ ?_).2 ?_
    | with_reducible refine (State.scHalt_only _ _ _ ?_).2 ?_
    | with_reducible refine (State.scMove_only _ _ _ ?_).2 ?_
    | with_reducible refine (State.scramble_only _ _ ?_).2 ?_

@[simp] theorem State.burstAgain_only {l : List Part} {s : State} (t : State) (n : Fin 8) (h : Within [.se] l) :
    Only l s (t.burstAgain n) ↔ Only l s t := by
  refine Only.congr h ?_
  unfold State.burstAgain
  repeat' first
    | with_reducible exact Only.rfl
    | exact Eq.refl true
    | with_reducible refine Only.ite ?_ ?_
    | with_reducible intro _ _
    | with_reducible refine (State.mSc_only _ _ _ ?_).2 ?_
    | with_reducible refine (State.scHalt_only _ _ _ ?_).2 ?_

@[simp] theorem State.snapEnd_only {l : List Part} {s : State} (t : State) (n : Fin 8) (h : Within [.clk, .se, .mem, .free] l) :
    Only l s (t.snapEnd n) ↔ Only l s t := by
  refine Only.congr h ?_
  unfold State.snapEnd
  repeat' first
    | with_reducible exact Only.rfl
    | exact Eq.refl true
    | with_reducible refine Only.ite ?_ ?_
    | with_reducible intro _ _
    | with_reducible refine (State.scHalt_only _ _ _ ?_).2 ?_
    | with_reducible refine (State.scPart_only _ _ ?_).2 ?_

@[simp] theorem State.snapEnds_only {l : List Part} {s : State} (t : State)  (h : Within [.clk, .se, .mem, .free] l) :
    Only l s (t.snapEnds) ↔ Only l s t := by
  refine Only.congr h ?_
  unfold State.snapEnds
  repeat' first
    | with_reducible exact Only.rfl
    | exact Eq.refl true
    | with_reducible refine Only.each ?_ ?_
    | with_reducible intro _ _
    | with_reducible refine (State.snapEnd_only _ _ ?_).2 ?_

@[simp] theorem State.scStopChain_only {l : List Part} {s : State} (t : State) (n : Fin 8) (h : Within [.se] l) :
    Only l s (t.scStopChain n) ↔ Only l s t := by
  refine Only.congr h ?_
  unfold State.scStopChain
  repeat' first
    | with_reducible exact Only.rfl
    | exact Eq.refl true
    | with_reducible intro _ _
    | with_reducible refine (State.mSc_only _ _ _ ?_).2 ?_

@[simp] theorem State.scStopBurst_only {l : List Part} {s : State} (t : State) (n : Fin 8) (h : Within [.clk, .se, .mem, .free] l) :
    Only l s (t.scStopBurst n) ↔ Only l s t := by
  refine Only.congr h ?_
  unfold State.scStopBurst
  repeat' first
    | with_reducible exact Only.rfl
    | exact Eq.refl true
    | with_reducible refine Only.ite ?_ ?_
    | with_reducible intro _ _
    | with_reducible refine (State.mSc_only _ _ _ ?_).2 ?_
    | with_reducible refine (State.scPart_only _ _ ?_).2 ?_

theorem State.onHost_only {l : List Part} {s t : State} {ch : Fin 16} {f : State → Fin 8 → State} (_h : Within [] l)
    (hf : ∀ u n, Only l u (f u n)) (c : Only l s t) : Only l s (t.onHost ch f) := by
  unfold State.onHost
  split
  · exact c.trans (hf _ _)
  · exact c

@[simp] theorem State.cfgCapture_only {l : List Part} {s : State} (t : State)  (h : Within [.cfgs] l) :
    Only l s (t.cfgCapture) ↔ Only l s t := by
  refine Only.congr h ?_
  unfold State.cfgCapture
  repeat' first
    | with_reducible exact Only.rfl
    | exact Eq.refl true
    | with_reducible intro _ _
    | with_reducible refine (State.mCfgs_only _ _ ?_).2 ?_
    | split

@[simp] theorem State.cfgSaved_only {l : List Part} {s : State} (t : State) (readOk : Bool) (h : Within [.frm, .cfgs, .free] l) :
    Only l s (t.cfgSaved readOk) ↔ Only l s t := by
  refine Only.congr h ?_
  unfold State.cfgSaved
  repeat' first
    | with_reducible exact Only.rfl
    | exact Eq.refl true
    | with_reducible refine Only.ite ?_ ?_
    | with_reducible intro _ _
    | with_reducible refine (State.drew_only _ ?_).2 ?_
    | with_reducible refine (State.finish_only _ _ _ _ ?_).2 ?_
    | with_reducible refine (State.mCfgs_only _ _ ?_).2 ?_
    | split

@[simp] theorem State.under_only {l : List Part} {s : State} (t : State) (o : Order) (applyUs : Option Nat) (h : Within [.frm] l) :
    Only l s (t.under o applyUs) ↔ Only l s t := by
  refine Only.congr h ?_
  unfold State.under
  repeat' first
    | with_reducible exact Only.rfl
    | exact Eq.refl true
    | with_reducible intro _ _
    | with_reducible refine (State.mFrm_only _ _ ?_).2 ?_

@[simp] theorem State.settled_only {l : List Part} {s : State} (t : State)  (h : Within [.frm] l) :
    Only l s (t.settled) ↔ Only l s t := by
  refine Only.congr h ?_
  unfold State.settled
  repeat' first
    | with_reducible exact Only.rfl
    | exact Eq.refl true
    | with_reducible intro _ _
    | with_reducible refine (State.mFrm_only _ _ ?_).2 ?_

@[simp] theorem State.winForget_only {l : List Part} {s : State} (t : State) (who : Sender) (seq : Nat) (h : Within [.frm] l) :
    Only l s (t.winForget who seq) ↔ Only l s t := by
  refine Only.congr h ?_
  unfold State.winForget
  repeat' first
    | with_reducible exact Only.rfl
    | exact Eq.refl true
    | with_reducible intro _ _
    | with_reducible refine (State.mFrm_only _ _ ?_).2 ?_

@[simp] theorem State.winEnter_only {l : List Part} {s : State} (t : State) (who : Sender) (seq : Nat) (crc : Nat) (sess : Option Nat) (mctr : Nat)
    (h : Within [.frm, .auth] l) :
    Only l s (t.winEnter who seq crc sess mctr) ↔ Only l s t := by
  refine Only.congr h ?_
  unfold State.winEnter
  repeat' first
    | with_reducible exact Only.rfl
    | exact Eq.refl true
    | with_reducible intro _ _
    | with_reducible refine (State.mAuth_only _ _ ?_).2 ?_
    | with_reducible refine (State.mFrm_only _ _ ?_).2 ?_
    | split

@[simp] theorem State.winAdmit_only {l : List Part} {s : State} (t : State) (o : Order) (h : Within [.frm, .auth] l) :
    Only l s (t.winAdmit o) ↔ Only l s t := by
  refine Only.congr h ?_
  unfold State.winAdmit
  repeat' first
    | with_reducible exact Only.rfl
    | exact Eq.refl true
    | with_reducible refine Only.ite ?_ ?_
    | with_reducible intro _ _
    | with_reducible refine (State.winEnter_only _ _ _ _ _ _ ?_).2 ?_

@[simp] theorem State.answer_only {l : List Part} {s : State} (t : State) (o : Order) (st : Status) (data : List Byte) (unsync : Bool)
    (h : Within [.frm, .auth] l) :
    Only l s (t.answer o st data unsync) ↔ Only l s t := by
  refine Only.congr h ?_
  unfold State.answer
  repeat' first
    | with_reducible exact Only.rfl
    | exact Eq.refl true
    | with_reducible refine Only.ite ?_ ?_
    | with_reducible intro _ _
    | with_reducible refine (State.countReply_only _ _ ?_).2 ?_
    | with_reducible refine (State.pushReply_only _ _ _ ?_).2 ?_
    | with_reducible refine (State.winAdmit_only _ _ ?_).2 ?_
    | with_reducible refine (State.winForget_only _ _ _ ?_).2 ?_

@[simp] theorem State.actsLive_only {l : List Part} {s : State} (t : State) 
    (h : Within [.loop, .drv, .fan, .prog, .conv, .stitch, .lich, .inj, .log] l) :
    Only l s (t.actsLive) ↔ Only l s t := by
  refine Only.congr h ?_
  unfold State.actsLive
  repeat' first
    | with_reducible exact Only.rfl
    | exact Eq.refl true
    | with_reducible refine Only.ite ?_ ?_
    | with_reducible intro _ _
    | with_reducible refine (State.lichenActs_only _ ?_).2 ?_
    | with_reducible refine (State.mLich_only _ _ ?_).2 ?_

@[simp] theorem State.remerge_only {l : List Part} {s : State} (t : State)  (h : Within [.frm] l) :
    Only l s (t.remerge) ↔ Only l s t := by
  refine Only.congr h ?_
  unfold State.remerge
  repeat' first
    | with_reducible exact Only.rfl
    | exact Eq.refl true
    | with_reducible refine Only.each ?_ ?_
    | with_reducible intro _ _
    | with_reducible refine (State.mFrm_only _ _ ?_).2 ?_

@[simp] theorem State.latchMeas_only {l : List Part} {s : State} (t : State) (m : Meas)
    (h : Within [.sys, .pow, .loop, .drv, .fan, .energy, .safe, .ho] l) :
    Only l s (t.latchMeas m) ↔ Only l s t := by
  refine Only.congr h ?_
  unfold State.latchMeas
  repeat' first
    | with_reducible exact Only.rfl
    | exact Eq.refl true
    | with_reducible intro _ _
    | with_reducible refine (State.mDiag_only _ _ _ ?_).2 ?_
    | with_reducible refine (State.mDrv_only _ _ ?_).2 ?_
    | with_reducible refine (State.mDrvCh_only _ _ _ ?_).2 ?_
    | with_reducible refine (State.mEnergy_only _ _ ?_).2 ?_
    | with_reducible refine (State.mFanCh_only _ _ _ ?_).2 ?_
    | with_reducible refine (State.mHo_only _ _ ?_).2 ?_
    | with_reducible refine (State.mLo_only _ _ _ ?_).2 ?_
    | with_reducible refine (State.mPow_only _ _ ?_).2 ?_
    | with_reducible refine (State.mSafe_only _ _ ?_).2 ?_
    | with_reducible refine (State.mSys_only _ _ ?_).2 ?_
    | split

@[simp] theorem State.missed_only {l : List Part} {s : State} (t : State)  (h : Within [.sys, .ho] l) :
    Only l s (t.missed) ↔ Only l s t := by
  refine Only.congr h ?_
  unfold State.missed
  repeat' first
    | with_reducible exact Only.rfl
    | exact Eq.refl true
    | with_reducible refine Only.ite ?_ ?_
    | with_reducible intro _ _
    | with_reducible refine (State.hoFail_only _ _ ?_).2 ?_
    | with_reducible refine (State.mHo_only _ _ ?_).2 ?_
    | with_reducible refine (State.mSys_only _ _ ?_).2 ?_

@[simp] theorem State.fallbackTick_only {l : List Part} {s : State} (t : State)  (h : Within [.sys, .pow, .ring, .frm, .log, .upd, .ho] l) :
    Only l s (t.fallbackTick) ↔ Only l s t := by
  refine Only.congr h ?_
  unfold State.fallbackTick
  repeat' first
    | with_reducible exact Only.rfl
    | exact Eq.refl true
    | with_reducible refine Only.ite ?_ ?_
    | with_reducible intro _ _
    | with_reducible refine (State.hoFallback_only _ ?_).2 ?_
    | with_reducible refine (State.remerge_only _ ?_).2 ?_

@[simp] theorem State.publishAt_only {l : List Part} {s : State} (t : State) (t' : Nat)
    (h : Within [.clk, .frm, .fe, .tab, .snap, .prog, .log, .se, .upd, .ho, .mem, .free] l) :
    Only l s (t.publishAt t') ↔ Only l s t := by
  refine Only.congr h ?_
  unfold State.publishAt
  repeat' first
    | with_reducible exact Only.rfl
    | exact Eq.refl true
    | with_reducible refine Only.each ?_ ?_
    | with_reducible intro _ _
    | with_reducible refine (State.calSwitch_only _ ?_).2 ?_
    | with_reducible refine (State.mTab_only _ _ ?_).2 ?_
    | with_reducible refine (State.progPublish_only _ _ ?_).2 ?_
    | with_reducible refine (State.publish_only _ _ ?_).2 ?_
    | with_reducible refine (State.scDone_only _ _ ?_).2 ?_
    | with_reducible refine (State.snapEnds_only _ ?_).2 ?_

@[simp] theorem State.refuse_only {l : List Part} {s : State} (t : State) (f : Frame) (who : Sender) (sess : Option Nat) (zero : Bool) (st : Status)
    (h : Within [.frm] l) :
    Only l s (t.refuse f who sess zero st) ↔ Only l s t := by
  refine Only.congr h ?_
  unfold State.refuse
  repeat' first
    | with_reducible exact Only.rfl
    | exact Eq.refl true
    | with_reducible intro _ _
    | with_reducible refine (State.countReply_only _ _ ?_).2 ?_
    | with_reducible refine (State.reply_only _ _ _ ?_).2 ?_

@[simp] theorem State.repeated_only {l : List Part} {s : State} (t : State) (f : Frame) (who : Sender) (sess : Option Nat) (e : WinEntry)
    (h : Within [.frm] l) :
    Only l s (t.repeated f who sess e) ↔ Only l s t := by
  refine Only.congr h ?_
  unfold State.repeated
  repeat' first
    | with_reducible exact Only.rfl
    | exact Eq.refl true
    | with_reducible refine Only.ite ?_ ?_
    | with_reducible intro _ _
    | with_reducible refine (State.countFull_only _ ?_).2 ?_
    | with_reducible refine (State.mFrm_only _ _ ?_).2 ?_
    | with_reducible refine (State.pushReply_only _ _ _ ?_).2 ?_
    | with_reducible refine (State.refuse_only _ _ _ _ _ _ ?_).2 ?_

@[simp] theorem State.rateCount_only {l : List Part} {s : State} (t : State) (who : Sender) (h : Within [.auth] l) :
    Only l s (t.rateCount who) ↔ Only l s t := by
  refine Only.congr h ?_
  unfold State.rateCount
  repeat' first
    | with_reducible exact Only.rfl
    | exact Eq.refl true
    | with_reducible refine Only.ite ?_ ?_
    | with_reducible intro _ _
    | with_reducible refine (State.mAuth_only _ _ ?_).2 ?_

@[simp] theorem State.served_only {l : List Part} {s : State} (t : State) (f : Frame) (who : Sender) (x : Option Session) (op : Op) (r : Res)
    (h : Within [.frm, .auth] l) :
    Only l s (t.served f who x op r) ↔ Only l s t := by
  refine Only.congr h ?_
  unfold State.served
  repeat' first
    | with_reducible exact Only.rfl
    | exact Eq.refl true
    | with_reducible refine Only.ite ?_ ?_
    | with_reducible intro _ _
    | with_reducible refine (State.countReply_only _ _ ?_).2 ?_
    | with_reducible refine (State.pushReply_only _ _ _ ?_).2 ?_
    | with_reducible refine (State.winEnter_only _ _ _ _ _ _ ?_).2 ?_

@[simp] theorem State.forward_only {l : List Part} {s : State} (t : State) (p : PortId) (f : TxFrame) (h : Within [.ring] l) :
    Only l s (t.forward p f) ↔ Only l s t := by
  refine Only.congr h ?_
  unfold State.forward
  repeat' first
    | with_reducible exact Only.rfl
    | exact Eq.refl true
    | with_reducible refine Only.ite ?_ ?_
    | with_reducible intro _ _
    | with_reducible refine (State.mRp_only _ _ _ ?_).2 ?_

@[simp] theorem State.turnBack_only {l : List Part} {s : State} (t : State) (p : PortId) (body : List Byte) (kind : Nat) (reason : Nat)
    (h : Within [.ring] l) :
    Only l s (t.turnBack p body kind reason) ↔ Only l s t := by
  refine Only.congr h ?_
  unfold State.turnBack
  repeat' first
    | with_reducible exact Only.rfl
    | exact Eq.refl true
    | with_reducible intro _ _
    | with_reducible refine (State.mRp_only _ _ _ ?_).2 ?_

@[simp] theorem State.onward_only {l : List Part} {s : State} (t : State) (p : PortId) (body : List Byte) (h : Within [.ring] l) :
    Only l s (t.onward p body) ↔ Only l s t := by
  refine Only.congr h ?_
  unfold State.onward
  repeat' first
    | with_reducible exact Only.rfl
    | exact Eq.refl true
    | with_reducible refine Only.ite ?_ ?_
    | with_reducible intro _ _
    | with_reducible refine (State.forward_only _ _ _ ?_).2 ?_
    | with_reducible refine (State.mRp_only _ _ _ ?_).2 ?_
    | with_reducible refine (State.turnBack_only _ _ _ _ _ ?_).2 ?_

@[simp] theorem State.turnedOn_only {l : List Part} {s : State} (t : State) (p : PortId) (body : List Byte) (turn : List Byte)
    (h : Within [.ring] l) :
    Only l s (t.turnedOn p body turn) ↔ Only l s t := by
  refine Only.congr h ?_
  unfold State.turnedOn
  repeat' first
    | with_reducible exact Only.rfl
    | exact Eq.refl true
    | with_reducible refine Only.ite ?_ ?_
    | with_reducible intro _ _
    | with_reducible refine (State.forward_only _ _ _ ?_).2 ?_
    | with_reducible refine (State.mRp_only _ _ _ ?_).2 ?_
    | with_reducible refine (State.turnBack_only _ _ _ _ _ ?_).2 ?_

@[simp] theorem State.abortOn_only {l : List Part} {s : State} (t : State) (p : PortId) (f : TxFrame) (h : Within [.ring] l) :
    Only l s (t.abortOn p f) ↔ Only l s t := by
  refine Only.congr h ?_
  unfold State.abortOn
  repeat' first
    | with_reducible exact Only.rfl
    | exact Eq.refl true
    | with_reducible refine Only.ite ?_ ?_
    | with_reducible intro _ _
    | with_reducible refine (State.forward_only _ _ _ ?_).2 ?_

@[simp] theorem State.crcFails_only {l : List Part} {s : State} (t : State) (p : PortId) (f : TxFrame) (h : Within [.ring] l) :
    Only l s (t.crcFails p f) ↔ Only l s t := by
  refine Only.congr h ?_
  unfold State.crcFails
  repeat' first
    | with_reducible exact Only.rfl
    | exact Eq.refl true
    | with_reducible intro _ _
    | with_reducible refine (State.abortOn_only _ _ _ ?_).2 ?_
    | with_reducible refine (State.mRp_only _ _ _ ?_).2 ?_

@[simp] theorem State.replyBody_snd {l : List Part} {s : State} (t : State) (who : Sender) (r : Reply) (h : Within [.auth] l) :
    Only l s (t.replyBody who r).2 ↔ Only l s t := by
  refine Only.congr h ?_
  unfold State.replyBody
  repeat' first
    | with_reducible exact Only.rfl
    | exact Eq.refl true
    | with_reducible refine Only.ite ?_ ?_
    | with_reducible intro _ _
    | with_reducible refine (State.mAuth_only _ _ ?_).2 ?_
    | split

@[simp] theorem State.winStore_only {l : List Part} {s : State} (t : State) (who : Sender) (r : Reply) (h : Within [.frm] l) :
    Only l s (t.winStore who r) ↔ Only l s t := by
  refine Only.congr h ?_
  unfold State.winStore
  repeat' first
    | with_reducible exact Only.rfl
    | exact Eq.refl true
    | with_reducible refine Only.ite ?_ ?_
    | with_reducible intro _ _
    | with_reducible refine (State.mFrm_only _ _ ?_).2 ?_

@[simp] theorem State.afterReply_only {l : List Part} {s : State} (t : State) (who : Sender) (r : Reply) (ns : Nat) (sym : Nat)
    (h : Within [.sys, .pow, .frm, .auth] l) :
    Only l s (t.afterReply who r ns sym) ↔ Only l s t := by
  refine Only.congr h ?_
  unfold State.afterReply
  repeat' first
    | with_reducible exact Only.rfl
    | exact Eq.refl true
    | with_reducible refine Only.ite ?_ ?_
    | with_reducible intro _ _
    | with_reducible refine (State.mAuth_only _ _ ?_).2 ?_
    | with_reducible refine (State.mPow_only _ _ ?_).2 ?_
    | with_reducible refine (State.mSys_only _ _ ?_).2 ?_
    | with_reducible refine (State.openReplied_only _ _ _ _ ?_).2 ?_
    | with_reducible refine (State.winStore_only _ _ _ ?_).2 ?_
    | split

@[simp] theorem State.popReply_only {l : List Part} {s : State} (t : State) (who : Sender) (h : Within [.frm] l) :
    Only l s (t.popReply who) ↔ Only l s t := by
  refine Only.congr h ?_
  unfold State.popReply
  repeat' first
    | with_reducible exact Only.rfl
    | exact Eq.refl true
    | with_reducible intro _ _
    | with_reducible refine (State.mFrm_only _ _ ?_).2 ?_

@[simp] theorem State.sendOwn_only {l : List Part} {s : State} (t : State) (p : PortId) (f : TxFrame) (h : Within [.ring] l) :
    Only l s (t.sendOwn p f) ↔ Only l s t := by
  refine Only.congr h ?_
  unfold State.sendOwn
  repeat' first
    | with_reducible exact Only.rfl
    | exact Eq.refl true
    | with_reducible intro _ _
    | with_reducible refine (State.mRp_only _ _ _ ?_).2 ?_

@[simp] theorem State.sendRing_only {l : List Part} {s : State} (t : State) (p : PortId) (h : Within [.sys, .pow, .ring, .frm, .auth] l) :
    Only l s (t.sendRing p) ↔ Only l s t := by
  refine Only.congr h ?_
  unfold State.sendRing
  repeat' first
    | with_reducible exact Only.rfl
    | exact Eq.refl true
    | with_reducible refine Only.ite ?_ ?_
    | with_reducible intro _ _
    | with_reducible refine (State.afterReply_only _ _ _ _ _ ?_).2 ?_
    | with_reducible refine (State.mRp_only _ _ _ ?_).2 ?_
    | with_reducible refine (State.popReply_only _ _ ?_).2 ?_
    | with_reducible refine (State.replyBody_snd _ _ _ ?_).2 ?_
    | with_reducible refine (State.sendOwn_only _ _ _ ?_).2 ?_
    | split
    | dsimp only

@[simp] theorem State.sendSvc_only {l : List Part} {s : State} (t : State)  (h : Within [.sys, .pow, .frm, .auth] l) :
    Only l s (t.sendSvc) ↔ Only l s t := by
  refine Only.congr h ?_
  unfold State.sendSvc
  repeat' first
    | with_reducible exact Only.rfl
    | exact Eq.refl true
    | with_reducible intro _ _
    | with_reducible refine (State.afterReply_only _ _ _ _ _ ?_).2 ?_
    | with_reducible refine (State.mFrm_only _ _ ?_).2 ?_
    | with_reducible refine (State.popReply_only _ _ ?_).2 ?_
    | with_reducible refine (State.replyBody_snd _ _ _ ?_).2 ?_
    | split

@[simp] theorem State.blockRun_only {l : List Part} {s : State} (t : State) (ofs : Nat) (data : List Byte) (reply : Nat → List Byte)
    (h : Within [.log, .se, .upd] l) :
    Only l s (t.blockRun ofs data reply).s ↔ Only l s t := by
  refine Only.congr h ?_
  unfold State.blockRun
  repeat' first
    | with_reducible exact Only.rfl
    | exact Eq.refl true
    | with_reducible refine Only.ite ?_ ?_
    | with_reducible refine Res.bad_only ?_
    | with_reducible refine Res.ok_only ?_
    | with_reducible refine (State.mUpd_only _ _ ?_).2 ?_
    | with_reducible refine (State.updTaint_only _ _ _ ?_).2 ?_
    | with_reducible refine (State.newBlock_only _ _ _ _ ?_).2 ?_
    | split
    | dsimp only

@[simp] theorem State.cutCopy_only {l : List Part} {s : State} (t : State) (p : PortId) (sent : List Byte) (n : Nat) (h : Within [.ring] l) :
    Only l s (t.cutCopy p sent n) ↔ Only l s t := by
  refine Only.congr h ?_
  unfold State.cutCopy
  repeat' first
    | with_reducible exact Only.rfl
    | exact Eq.refl true
    | with_reducible refine Only.ite ?_ ?_
    | with_reducible intro _ _
    | with_reducible refine (State.mRp_only _ _ _ ?_).2 ?_

end Sys2Proof.Machine
end

