-- ==== Sys2Proof/Laws/TouchOrders.lean ====
section
/-! SUPPORT. Which parts of the state each order of a host may change when it is run. -/

namespace Sys2Proof.Machine

theorem tableRead_run {l : List Part} {s : State} (t0 : Nat) (q : Req) (k : Target → Bool) (t : State) (h : Within [] l) :
    Only l s ((tableRead t0).run q k t).s ↔ Only l s t := by
  refine Only.congr h ?_
  dsimp only [tableRead, Op.read, Op.readTagged, Op.order, Op.orderLen, Op.orderMem, Op.readMem, Op.sized, Op.least, Op.noKind, probeCal]
  repeat' first
    | with_reducible exact Only.rfl
    | exact Eq.refl true
    | with_reducible refine Only.ite ?_ ?_
    | with_reducible intro _ _
    | with_reducible refine Res.bad_only ?_
    | with_reducible refine Res.ok_only ?_
    | split

theorem tableWrite_run {l : List Part} {s : State} (t0 : Nat) (img : List Byte) (q : Req) (k : Target → Bool) (t : State) (h : Within [.tab] l) :
    Only l s ((tableWrite t0 img).run q k t).s ↔ Only l s t := by
  refine Only.congr h ?_
  dsimp only [tableWrite, Op.read, Op.readTagged, Op.order, Op.orderLen, Op.orderMem, Op.readMem, Op.sized, Op.least, Op.noKind, probeCal]
  repeat' first
    | with_reducible exact Only.rfl
    | exact Eq.refl true
    | with_reducible refine Only.ite ?_ ?_
    | with_reducible intro _ _
    | with_reducible refine Res.bad_only ?_
    | with_reducible refine Res.ok_only ?_
    | with_reducible refine (State.storeTable_only _ _ _ ?_).2 ?_
    | split

theorem tableErase_run {l : List Part} {s : State} (t0 : Nat) (q : Req) (k : Target → Bool) (t : State) (h : Within [.tab] l) :
    Only l s ((tableErase t0).run q k t).s ↔ Only l s t := by
  refine Only.congr h ?_
  dsimp only [tableErase, Op.read, Op.readTagged, Op.order, Op.orderLen, Op.orderMem, Op.readMem, Op.sized, Op.least, Op.noKind, probeCal]
  repeat' first
    | with_reducible exact Only.rfl
    | exact Eq.refl true
    | with_reducible refine Only.ite ?_ ?_
    | with_reducible intro _ _
    | with_reducible refine Res.bad_only ?_
    | with_reducible refine Res.ok_only ?_
    | with_reducible refine (State.storeTable_only _ _ _ ?_).2 ?_
    | split

theorem loopConfig_run {l : List Part} {s : State} (img : List Byte) (q : Req) (k : Target → Bool) (t : State) (h : Within [.run, .loop] l) :
    Only l s ((loopConfig img).run q k t).s ↔ Only l s t := by
  refine Only.congr h ?_
  dsimp only [loopConfig, Op.read, Op.readTagged, Op.order, Op.orderLen, Op.orderMem, Op.readMem, Op.sized, Op.least, Op.noKind, probeCal]
  repeat' first
    | with_reducible exact Only.rfl
    | exact Eq.refl true
    | with_reducible refine Only.ite ?_ ?_
    | with_reducible intro _ _
    | with_reducible refine Res.bad_only ?_
    | with_reducible refine Res.ok_only ?_
    | with_reducible refine (State.setLoop_only _ _ _ ?_).2 ?_
    | split

theorem loopSet_run {l : List Part} {s : State} (lo : Nat) (action : Nat) (ua : Nat) (q : Req) (k : Target → Bool) (t : State)
    (h : Within [.loop, .prog, .stitch] l) :
    Only l s ((loopSet lo action ua).run q k t).s ↔ Only l s t := by
  refine Only.congr h ?_
  dsimp only [loopSet, Op.read, Op.readTagged, Op.order, Op.orderLen, Op.orderMem, Op.readMem, Op.sized, Op.least, Op.noKind, probeCal]
  repeat' first
    | with_reducible exact Only.rfl
    | exact Eq.refl true
    | with_reducible refine Only.ite ?_ ?_
    | with_reducible intro _ _
    | with_reducible refine Res.bad_only ?_
    | with_reducible refine Res.ok_only ?_
    | with_reducible refine (State.loAct_only _ _ _ _ ?_).2 ?_
    | split

theorem loopStatus_run {l : List Part} {s : State} (lo : Nat) (count : Nat) (q : Req) (k : Target → Bool) (t : State) (h : Within [] l) :
    Only l s ((loopStatus lo count).run q k t).s ↔ Only l s t := by
  refine Only.congr h ?_
  dsimp only [loopStatus, Op.read, Op.readTagged, Op.order, Op.orderLen, Op.orderMem, Op.readMem, Op.sized, Op.least, Op.noKind, probeCal]
  repeat' first
    | with_reducible exact Only.rfl
    | exact Eq.refl true
    | with_reducible refine Only.ite ?_ ?_
    | with_reducible intro _ _
    | with_reducible refine Res.bad_only ?_
    | with_reducible refine Res.ok_only ?_
    | split

theorem drvCmd_run {l : List Part} {s : State} (ch : Nat) (code : Nat) (arg : Nat) (mask : Nat) (q : Req) (k : Target → Bool) (t : State)
    (h : Within [.drv, .prog, .stitch, .inj, .log] l) :
    Only l s ((drvCmd ch code arg mask).run q k t).s ↔ Only l s t := by
  refine Only.congr h ?_
  dsimp only [drvCmd, Op.read, Op.readTagged, Op.order, Op.orderLen, Op.orderMem, Op.readMem, Op.sized, Op.least, Op.noKind, probeCal]
  repeat' first
    | with_reducible exact Only.rfl
    | exact Eq.refl true
    | with_reducible refine Only.ite ?_ ?_
    | with_reducible refine Only.each ?_ ?_
    | with_reducible intro _ _
    | with_reducible refine Res.bad_only ?_
    | with_reducible refine Res.ok_only ?_
    | with_reducible refine (State.drvAct_only _ _ _ _ ?_).2 ?_
    | split

theorem drvProfile_run {l : List Part} {s : State} (img : List Byte) (q : Req) (k : Target → Bool) (t : State) (h : Within [.run, .drv] l) :
    Only l s ((drvProfile img).run q k t).s ↔ Only l s t := by
  refine Only.congr h ?_
  dsimp only [drvProfile, Op.read, Op.readTagged, Op.order, Op.orderLen, Op.orderMem, Op.readMem, Op.sized, Op.least, Op.noKind, probeCal]
  repeat' first
    | with_reducible exact Only.rfl
    | exact Eq.refl true
    | with_reducible refine Only.ite ?_ ?_
    | with_reducible intro _ _
    | with_reducible refine Res.bad_only ?_
    | with_reducible refine Res.ok_only ?_
    | with_reducible refine (State.setProfile_only _ _ _ ?_).2 ?_
    | split

theorem drvPair_run {l : List Part} {s : State} (ch : Nat) (on : Bool) (q : Req) (k : Target → Bool) (t : State) (h : Within [.run, .drv] l) :
    Only l s ((drvPair ch on).run q k t).s ↔ Only l s t := by
  refine Only.congr h ?_
  dsimp only [drvPair, Op.read, Op.readTagged, Op.order, Op.orderLen, Op.orderMem, Op.readMem, Op.sized, Op.least, Op.noKind, probeCal]
  repeat' first
    | with_reducible exact Only.rfl
    | exact Eq.refl true
    | with_reducible refine Only.ite ?_ ?_
    | with_reducible intro _ _
    | with_reducible refine Res.bad_only ?_
    | with_reducible refine Res.ok_only ?_
    | with_reducible refine (State.chargeReview_only _ ?_).2 ?_
    | with_reducible refine (State.mDrvCh_only _ _ _ ?_).2 ?_
    | with_reducible refine (State.mRun_only _ _ ?_).2 ?_
    | with_reducible refine (State.retarget_only _ _ ?_).2 ?_
    | split

theorem drvBudget_run {l : List Part} {s : State} (b : Nat) (q : Req) (k : Target → Bool) (t : State) (h : Within [.run, .drv] l) :
    Only l s ((drvBudget b).run q k t).s ↔ Only l s t := by
  refine Only.congr h ?_
  dsimp only [drvBudget, Op.read, Op.readTagged, Op.order, Op.orderLen, Op.orderMem, Op.readMem, Op.sized, Op.least, Op.noKind, probeCal]
  repeat' first
    | with_reducible exact Only.rfl
    | exact Eq.refl true
    | with_reducible refine Only.ite ?_ ?_
    | with_reducible intro _ _
    | with_reducible refine Res.bad_only ?_
    | with_reducible refine Res.ok_only ?_
    | with_reducible refine (State.mRun_only _ _ ?_).2 ?_
    | with_reducible refine (State.rebudget_only _ ?_).2 ?_
    | split

theorem drvStatus_run {l : List Part} {s : State} (ch : Nat) (count : Nat) (q : Req) (k : Target → Bool) (t : State) (h : Within [] l) :
    Only l s ((drvStatus ch count).run q k t).s ↔ Only l s t := by
  refine Only.congr h ?_
  dsimp only [drvStatus, Op.read, Op.readTagged, Op.order, Op.orderLen, Op.orderMem, Op.readMem, Op.sized, Op.least, Op.noKind, probeCal]
  repeat' first
    | with_reducible exact Only.rfl
    | exact Eq.refl true
    | with_reducible refine Only.ite ?_ ?_
    | with_reducible intro _ _
    | with_reducible refine Res.bad_only ?_
    | with_reducible refine Res.ok_only ?_
    | split

theorem drvEnergy_run {l : List Part} {s : State} (ch : Nat) (count : Nat) (q : Req) (k : Target → Bool) (t : State) (h : Within [] l) :
    Only l s ((drvEnergy ch count).run q k t).s ↔ Only l s t := by
  refine Only.congr h ?_
  dsimp only [drvEnergy, Op.read, Op.readTagged, Op.order, Op.orderLen, Op.orderMem, Op.readMem, Op.sized, Op.least, Op.noKind, probeCal]
  repeat' first
    | with_reducible exact Only.rfl
    | exact Eq.refl true
    | with_reducible refine Only.ite ?_ ?_
    | with_reducible intro _ _
    | with_reducible refine Res.bad_only ?_
    | with_reducible refine Res.ok_only ?_
    | split

theorem drvDiagConfig_run {l : List Part} {s : State} (ch : Nat) (offEn : Nat) (mode : Nat) (maxN : Nat) (t0 : Nat) (pf : Nat) (q : Req) (k :
      Target → Bool) (t : State)
    (h : Within [.run, .drv] l) :
    Only l s ((drvDiagConfig ch offEn mode maxN t0 pf).run q k t).s ↔ Only l s t := by
  refine Only.congr h ?_
  dsimp only [drvDiagConfig, Op.read, Op.readTagged, Op.order, Op.orderLen, Op.orderMem, Op.readMem, Op.sized, Op.least, Op.noKind, probeCal]
  repeat' first
    | with_reducible exact Only.rfl
    | exact Eq.refl true
    | with_reducible refine Only.ite ?_ ?_
    | with_reducible intro _ _
    | with_reducible refine Res.bad_only ?_
    | with_reducible refine Res.ok_only ?_
    | with_reducible refine (State.mDiag_only _ _ _ ?_).2 ?_
    | with_reducible refine (State.mRun_only _ _ ?_).2 ?_
    | split

theorem drvDiagDirect_run {l : List Part} {s : State} (ch : Nat) (sw : Nat) (dur : Nat) (q : Req) (k : Target → Bool) (t : State)
    (h : Within [.drv, .free] l) :
    Only l s ((drvDiagDirect ch sw dur).run q k t).s ↔ Only l s t := by
  refine Only.congr h ?_
  dsimp only [drvDiagDirect, Op.read, Op.readTagged, Op.order, Op.orderLen, Op.orderMem, Op.readMem, Op.sized, Op.least, Op.noKind, probeCal]
  repeat' first
    | with_reducible exact Only.rfl
    | exact Eq.refl true
    | with_reducible refine Only.ite ?_ ?_
    | with_reducible intro _ _
    | with_reducible refine Res.bad_only ?_
    | with_reducible refine Res.ok_only ?_
    | with_reducible refine (State.chargeReview_only _ ?_).2 ?_
    | with_reducible refine (State.drew_only _ ?_).2 ?_
    | with_reducible refine (State.mDiag_only _ _ _ ?_).2 ?_
    | split

theorem drvFaultClear_run {l : List Part} {s : State} (mask : Nat) (flags : Nat) (q : Req) (k : Target → Bool) (t : State) (h : Within [.drv] l) :
    Only l s ((drvFaultClear mask flags).run q k t).s ↔ Only l s t := by
  refine Only.congr h ?_
  dsimp only [drvFaultClear, Op.read, Op.readTagged, Op.order, Op.orderLen, Op.orderMem, Op.readMem, Op.sized, Op.least, Op.noKind, probeCal]
  repeat' first
    | with_reducible exact Only.rfl
    | exact Eq.refl true
    | with_reducible refine Only.ite ?_ ?_
    | with_reducible refine Only.each ?_ ?_
    | with_reducible intro _ _
    | with_reducible refine Res.bad_only ?_
    | with_reducible refine Res.ok_only ?_
    | with_reducible refine (State.leaveFault_only _ _ ?_).2 ?_
    | with_reducible refine (State.mDiag_only _ _ _ ?_).2 ?_
    | split

theorem fanCmd_run {l : List Part} {s : State} (ch : Nat) (action : Nat) (arg : Nat) (mask : Nat) (q : Req) (k : Target → Bool) (t : State)
    (h : Within [.fan] l) :
    Only l s ((fanCmd ch action arg mask).run q k t).s ↔ Only l s t := by
  refine Only.congr h ?_
  dsimp only [fanCmd, Op.read, Op.readTagged, Op.order, Op.orderLen, Op.orderMem, Op.readMem, Op.sized, Op.least, Op.noKind, probeCal]
  repeat' first
    | with_reducible exact Only.rfl
    | exact Eq.refl true
    | with_reducible refine Only.ite ?_ ?_
    | with_reducible refine Only.each ?_ ?_
    | with_reducible intro _ _
    | with_reducible refine Res.bad_only ?_
    | with_reducible refine Res.ok_only ?_
    | with_reducible refine (State.mFanCh_only _ _ _ ?_).2 ?_
    | split

theorem fanConfig_run {l : List Part} {s : State} (img : List Byte) (q : Req) (k : Target → Bool) (t : State) (h : Within [.run, .fan, .log] l) :
    Only l s ((fanConfig img).run q k t).s ↔ Only l s t := by
  refine Only.congr h ?_
  dsimp only [fanConfig, Op.read, Op.readTagged, Op.order, Op.orderLen, Op.orderMem, Op.readMem, Op.sized, Op.least, Op.noKind, probeCal]
  repeat' first
    | with_reducible exact Only.rfl
    | exact Eq.refl true
    | with_reducible refine Only.ite ?_ ?_
    | with_reducible intro _ _
    | with_reducible refine Res.bad_only ?_
    | with_reducible refine Res.ok_only ?_
    | with_reducible refine (State.setFan_only _ _ _ ?_).2 ?_
    | split

theorem fanTable_run {l : List Part} {s : State} (t0 : Nat) (img : List Byte) (q : Req) (k : Target → Bool) (t : State) (h : Within [.fan] l) :
    Only l s ((fanTable t0 img).run q k t).s ↔ Only l s t := by
  refine Only.congr h ?_
  dsimp only [fanTable, Op.read, Op.readTagged, Op.order, Op.orderLen, Op.orderMem, Op.readMem, Op.sized, Op.least, Op.noKind, probeCal]
  repeat' first
    | with_reducible exact Only.rfl
    | exact Eq.refl true
    | with_reducible refine Only.ite ?_ ?_
    | with_reducible intro _ _
    | with_reducible refine Res.bad_only ?_
    | with_reducible refine Res.ok_only ?_
    | with_reducible refine (State.mFan_only _ _ ?_).2 ?_
    | split

theorem fanGroup_run {l : List Part} {s : State} (g : Nat) (members : Nat) (nAir : Nat) (foDuty : Nat) (foHold : Nat) (pad : Nat) (q : Req) (k : Target → Bool) (t : State)
    (h : Within [.run, .fan] l) :
    Only l s ((fanGroup g members nAir foDuty foHold pad).run q k t).s ↔ Only l s t := by
  refine Only.congr h ?_
  dsimp only [fanGroup, Op.read, Op.readTagged, Op.order, Op.orderLen, Op.orderMem, Op.readMem, Op.sized, Op.least, Op.noKind, probeCal]
  repeat' first
    | with_reducible exact Only.rfl
    | exact Eq.refl true
    | with_reducible refine Only.ite ?_ ?_
    | with_reducible intro _ _
    | with_reducible refine Res.bad_only ?_
    | with_reducible refine Res.ok_only ?_
    | with_reducible refine (State.mFanGrp_only _ _ _ ?_).2 ?_
    | with_reducible refine (State.mRun_only _ _ ?_).2 ?_
    | split

theorem fanStatus_run {l : List Part} {s : State} (ch : Nat) (count : Nat) (q : Req) (k : Target → Bool) (t : State) (h : Within [] l) :
    Only l s ((fanStatus ch count).run q k t).s ↔ Only l s t := by
  refine Only.congr h ?_
  dsimp only [fanStatus, Op.read, Op.readTagged, Op.order, Op.orderLen, Op.orderMem, Op.readMem, Op.sized, Op.least, Op.noKind, probeCal]
  repeat' first
    | with_reducible exact Only.rfl
    | exact Eq.refl true
    | with_reducible refine Only.ite ?_ ?_
    | with_reducible intro _ _
    | with_reducible refine Res.bad_only ?_
    | with_reducible refine Res.ok_only ?_
    | split

theorem fanRetry_run {l : List Part} {s : State} (mask : Nat) (flags : Nat) (q : Req) (k : Target → Bool) (t : State) (h : Within [.fan] l) :
    Only l s ((fanRetry mask flags).run q k t).s ↔ Only l s t := by
  refine Only.congr h ?_
  dsimp only [fanRetry, Op.read, Op.readTagged, Op.order, Op.orderLen, Op.orderMem, Op.readMem, Op.sized, Op.least, Op.noKind, probeCal]
  repeat' first
    | with_reducible exact Only.rfl
    | exact Eq.refl true
    | with_reducible refine Only.ite ?_ ?_
    | with_reducible refine Only.each ?_ ?_
    | with_reducible intro _ _
    | with_reducible refine Res.bad_only ?_
    | with_reducible refine Res.ok_only ?_
    | with_reducible refine (State.fanTo_only _ _ _ ?_).2 ?_
    | with_reducible refine (State.mFanCh_only _ _ _ ?_).2 ?_
    | split

theorem thermRead_run {l : List Part} {s : State} (flags : Nat) (q : Req) (k : Target → Bool) (t : State) (h : Within [.therm] l) :
    Only l s ((thermRead flags).run q k t).s ↔ Only l s t := by
  refine Only.congr h ?_
  dsimp only [thermRead, Op.read, Op.readTagged, Op.order, Op.orderLen, Op.orderMem, Op.readMem, Op.sized, Op.least, Op.noKind, probeCal]
  repeat' first
    | with_reducible exact Only.rfl
    | exact Eq.refl true
    | with_reducible refine Only.ite ?_ ?_
    | with_reducible intro _ _
    | with_reducible refine Res.bad_only ?_
    | with_reducible refine Res.ok_only ?_
    | with_reducible refine (State.ts7Begin_only _ ?_).2 ?_
    | split

theorem thermConfig_run {l : List Part} {s : State} (tStart : Nat) (period : Nat) (pad : Nat) (q : Req) (k : Target → Bool) (t : State)
    (h : Within [.run, .therm] l) :
    Only l s ((thermConfig tStart period pad).run q k t).s ↔ Only l s t := by
  refine Only.congr h ?_
  dsimp only [thermConfig, Op.read, Op.readTagged, Op.order, Op.orderLen, Op.orderMem, Op.readMem, Op.sized, Op.least, Op.noKind, probeCal]
  repeat' first
    | with_reducible exact Only.rfl
    | exact Eq.refl true
    | with_reducible refine Only.ite ?_ ?_
    | with_reducible intro _ _
    | with_reducible refine Res.bad_only ?_
    | with_reducible refine Res.ok_only ?_
    | with_reducible refine (State.mRun_only _ _ ?_).2 ?_
    | with_reducible refine (State.mTherm_only _ _ ?_).2 ?_
    | split

theorem chConfig_run {l : List Part} {s : State} (img : List Byte) (q : Req) (k : Target → Bool) (t : State) (h : Within [.run, .fe] l) :
    Only l s ((chConfig img).run q k t).s ↔ Only l s t := by
  refine Only.congr h ?_
  dsimp only [chConfig, Op.read, Op.readTagged, Op.order, Op.orderLen, Op.orderMem, Op.readMem, Op.sized, Op.least, Op.noKind, probeCal]
  repeat' first
    | with_reducible exact Only.rfl
    | exact Eq.refl true
    | with_reducible refine Only.ite ?_ ?_
    | with_reducible intro _ _
    | with_reducible refine Res.bad_only ?_
    | with_reducible refine Res.ok_only ?_
    | with_reducible refine (State.chanNoted_only _ _ ?_).2 ?_
    | with_reducible refine (State.endScan_only _ _ ?_).2 ?_
    | with_reducible refine (State.mRun_only _ _ ?_).2 ?_
    | split

theorem scanConfig_run {l : List Part} {s : State} (g : Nat) (mode : Nat) (period : Nat) (q : Req) (k : Target → Bool) (t : State)
    (h : Within [.run] l) :
    Only l s ((scanConfig g mode period).run q k t).s ↔ Only l s t := by
  refine Only.congr h ?_
  dsimp only [scanConfig, Op.read, Op.readTagged, Op.order, Op.orderLen, Op.orderMem, Op.readMem, Op.sized, Op.least, Op.noKind, probeCal]
  repeat' first
    | with_reducible exact Only.rfl
    | exact Eq.refl true
    | with_reducible refine Only.ite ?_ ?_
    | with_reducible intro _ _
    | with_reducible refine Res.bad_only ?_
    | with_reducible refine Res.ok_only ?_
    | with_reducible refine (State.mRun_only _ _ ?_).2 ?_
    | split

theorem chStatus_run {l : List Part} {s : State} (ch : Nat) (count : Nat) (q : Req) (k : Target → Bool) (t : State) (h : Within [] l) :
    Only l s ((chStatus ch count).run q k t).s ↔ Only l s t := by
  refine Only.congr h ?_
  dsimp only [chStatus, Op.read, Op.readTagged, Op.order, Op.orderLen, Op.orderMem, Op.readMem, Op.sized, Op.least, Op.noKind, probeCal]
  repeat' first
    | with_reducible exact Only.rfl
    | exact Eq.refl true
    | with_reducible refine Only.ite ?_ ?_
    | with_reducible intro _ _
    | with_reducible refine Res.bad_only ?_
    | with_reducible refine Res.ok_only ?_
    | split

theorem safeStatus_run {l : List Part} {s : State}  (q : Req) (k : Target → Bool) (t : State) (h : Within [] l) :
    Only l s ((safeStatus).run q k t).s ↔ Only l s t := by
  refine Only.congr h ?_
  dsimp only [safeStatus, Op.read, Op.readTagged, Op.order, Op.orderLen, Op.orderMem, Op.readMem, Op.sized, Op.least, Op.noKind, probeCal]
  repeat' first
    | with_reducible exact Only.rfl
    | exact Eq.refl true
    | with_reducible intro _ _
    | with_reducible refine Res.bad_only ?_
    | with_reducible refine Res.ok_only ?_

theorem permitRequest_run {l : List Part} {s : State}  (q : Req) (k : Target → Bool) (t : State) (h : Within [.safe] l) :
    Only l s ((permitRequest).run q k t).s ↔ Only l s t := by
  refine Only.congr h ?_
  dsimp only [permitRequest, Op.read, Op.readTagged, Op.order, Op.orderLen, Op.orderMem, Op.readMem, Op.sized, Op.least, Op.noKind, probeCal]
  repeat' first
    | with_reducible exact Only.rfl
    | exact Eq.refl true
    | with_reducible refine Only.ite ?_ ?_
    | with_reducible intro _ _
    | with_reducible refine Res.bad_only ?_
    | with_reducible refine Res.ok_only ?_
    | with_reducible refine (State.mSafe_only _ _ ?_).2 ?_
    | split

theorem permitDrop_run {l : List Part} {s : State}  (q : Req) (k : Target → Bool) (t : State)
    (h : Within [.loop, .drv, .prog, .stitch, .safe, .log, .cnt] l) :
    Only l s ((permitDrop).run q k t).s ↔ Only l s t := by
  refine Only.congr h ?_
  dsimp only [permitDrop, Op.read, Op.readTagged, Op.order, Op.orderLen, Op.orderMem, Op.readMem, Op.sized, Op.least, Op.noKind, probeCal]
  repeat' first
    | with_reducible exact Only.rfl
    | exact Eq.refl true
    | with_reducible intro _ _
    | with_reducible refine Res.bad_only ?_
    | with_reducible refine Res.ok_only ?_
    | with_reducible refine (State.removePermit_only _ _ _ _ ?_).2 ?_
    | with_reducible refine (State.stitchCancel_only _ _ ?_).2 ?_

theorem safeConfigWrite_run {l : List Part} {s : State} (img : List Byte) (q : Req) (k : Target → Bool) (t : State) (h : Within [.safe] l) :
    Only l s ((safeConfigWrite img).run q k t).s ↔ Only l s t := by
  refine Only.congr h ?_
  dsimp only [safeConfigWrite, Op.read, Op.readTagged, Op.order, Op.orderLen, Op.orderMem, Op.readMem, Op.sized, Op.least, Op.noKind, probeCal]
  repeat' first
    | with_reducible exact Only.rfl
    | exact Eq.refl true
    | with_reducible refine Only.ite ?_ ?_
    | with_reducible intro _ _
    | with_reducible refine Res.bad_only ?_
    | with_reducible refine Res.ok_only ?_
    | with_reducible refine (State.mSafe_only _ _ ?_).2 ?_
    | split

theorem safeConfigConfirm_run {l : List Part} {s : State} (scrc : Nat) (q : Req) (k : Target → Bool) (t : State)
    (h : Within [.drv, .fan, .safe, .log] l) :
    Only l s ((safeConfigConfirm scrc).run q k t).s ↔ Only l s t := by
  refine Only.congr h ?_
  dsimp only [safeConfigConfirm, Op.read, Op.readTagged, Op.order, Op.orderLen, Op.orderMem, Op.readMem, Op.sized, Op.least, Op.noKind, probeCal]
  repeat' first
    | with_reducible exact Only.rfl
    | exact Eq.refl true
    | with_reducible refine Only.ite ?_ ?_
    | with_reducible intro _ _
    | with_reducible refine Res.bad_only ?_
    | with_reducible refine Res.ok_only ?_
    | with_reducible refine (State.confirm_only _ _ ?_).2 ?_
    | split

theorem safeConfigRead_run {l : List Part} {s : State} (which : Nat) (q : Req) (k : Target → Bool) (t : State) (h : Within [] l) :
    Only l s ((safeConfigRead which).run q k t).s ↔ Only l s t := by
  refine Only.congr h ?_
  dsimp only [safeConfigRead, Op.read, Op.readTagged, Op.order, Op.orderLen, Op.orderMem, Op.readMem, Op.sized, Op.least, Op.noKind, probeCal]
  repeat' first
    | with_reducible exact Only.rfl
    | exact Eq.refl true
    | with_reducible intro _ _
    | with_reducible refine Res.bad_only ?_
    | with_reducible refine Res.ok_only ?_
    | split

theorem proofTest_run {l : List Part} {s : State} (kind : Nat) (q : Req) (k : Target → Bool) (t : State) (h : Within [.frm, .safe] l) :
    Only l s ((proofTest kind).run q k t).s ↔ Only l s t := by
  refine Only.congr h ?_
  dsimp only [proofTest, Op.read, Op.readTagged, Op.order, Op.orderLen, Op.orderMem, Op.readMem, Op.sized, Op.least, Op.noKind, probeCal]
  repeat' first
    | with_reducible exact Only.rfl
    | exact Eq.refl true
    | with_reducible refine Only.ite ?_ ?_
    | with_reducible intro _ _
    | with_reducible refine Res.bad_only ?_
    | with_reducible refine Res.ok_only ?_
    | with_reducible refine State.withTicket_only ?_ ?_ ?_
    | with_reducible refine (State.mSafe_only _ _ ?_).2 ?_
    | split

theorem safeReset_run {l : List Part} {s : State} (mask : Nat) (q : Req) (k : Target → Bool) (t : State) (h : Within [.drv, .fan, .safe, .log] l) :
    Only l s ((safeReset mask).run q k t).s ↔ Only l s t := by
  refine Only.congr h ?_
  dsimp only [safeReset, Op.read, Op.readTagged, Op.order, Op.orderLen, Op.orderMem, Op.readMem, Op.sized, Op.least, Op.noKind, probeCal]
  repeat' first
    | with_reducible exact Only.rfl
    | exact Eq.refl true
    | with_reducible refine Only.ite ?_ ?_
    | with_reducible intro _ _
    | with_reducible refine Res.bad_only ?_
    | with_reducible refine Res.ok_only ?_
    | with_reducible refine (State.estopFollow_only _ ?_).2 ?_
    | with_reducible refine (State.logSm_only _ _ _ _ ?_).2 ?_
    | with_reducible refine (State.mSafe_only _ _ ?_).2 ?_
    | with_reducible refine (State.siForget_only _ ?_).2 ?_
    | split

theorem probeReadConfig_run {l : List Part} {s : State} (port : Nat) (count : Nat) (q : Req) (k : Target → Bool) (t : State) (h : Within [] l) :
    Only l s ((probeReadConfig port count).run q k t).s ↔ Only l s t := by
  refine Only.congr h ?_
  dsimp only [probeReadConfig, Op.read, Op.readTagged, Op.order, Op.orderLen, Op.orderMem, Op.readMem, Op.sized, Op.least, Op.noKind, probeCal]
  repeat' first
    | with_reducible exact Only.rfl
    | exact Eq.refl true
    | with_reducible refine Only.ite ?_ ?_
    | with_reducible intro _ _
    | with_reducible refine Res.bad_only ?_
    | with_reducible refine Res.ok_only ?_
    | split

theorem probeReadCrop_run {l : List Part} {s : State} (n : Nat) (q : Req) (k : Target → Bool) (t : State) (h : Within [] l) :
    Only l s ((probeReadCrop n).run q k t).s ↔ Only l s t := by
  refine Only.congr h ?_
  dsimp only [probeReadCrop, Op.read, Op.readTagged, Op.order, Op.orderLen, Op.orderMem, Op.readMem, Op.sized, Op.least, Op.noKind, probeCal]
  repeat' first
    | with_reducible exact Only.rfl
    | exact Eq.refl true
    | with_reducible refine Only.ite ?_ ?_
    | with_reducible intro _ _
    | with_reducible refine Res.bad_only ?_
    | with_reducible refine Res.ok_only ?_
    | split

theorem probeConfigPort_run {l : List Part} {s : State} (port : Nat) (en : Nat) (tch : Nat) (crop : Nat) (c0 : Nat) (q : Req) (k : Target → Bool) (t : State)
    (h : Within [.frm, .die] l) :
    Only l s ((probeConfigPort port en tch crop c0).run q k t).s ↔ Only l s t := by
  refine Only.congr h ?_
  dsimp only [probeConfigPort, Op.read, Op.readTagged, Op.order, Op.orderLen, Op.orderMem, Op.readMem, Op.sized, Op.least, Op.noKind, probeCal]
  repeat' first
    | with_reducible exact Only.rfl
    | exact Eq.refl true
    | with_reducible refine Only.ite ?_ ?_
    | with_reducible intro _ _
    | with_reducible refine Res.bad_only ?_
    | with_reducible refine Res.ok_only ?_
    | with_reducible refine (State.setPort_only _ _ _ _ _ _ ?_).2 ?_
    | split

theorem probeConfigCrop_run {l : List Part} {s : State} (n : Nat) (img : List Byte) (q : Req) (k : Target → Bool) (t : State) (h : Within [.die] l) :
    Only l s ((probeConfigCrop n img).run q k t).s ↔ Only l s t := by
  refine Only.congr h ?_
  dsimp only [probeConfigCrop, Op.read, Op.readTagged, Op.order, Op.orderLen, Op.orderMem, Op.readMem, Op.sized, Op.least, Op.noKind, probeCal]
  repeat' first
    | with_reducible exact Only.rfl
    | exact Eq.refl true
    | with_reducible refine Only.ite ?_ ?_
    | with_reducible intro _ _
    | with_reducible refine Res.bad_only ?_
    | with_reducible refine Res.ok_only ?_
    | with_reducible refine (State.mDie_only _ _ ?_).2 ?_
    | split

theorem probeConfigErase_run {l : List Part} {s : State} (n : Nat) (q : Req) (k : Target → Bool) (t : State) (h : Within [.die] l) :
    Only l s ((probeConfigErase n).run q k t).s ↔ Only l s t := by
  refine Only.congr h ?_
  dsimp only [probeConfigErase, Op.read, Op.readTagged, Op.order, Op.orderLen, Op.orderMem, Op.readMem, Op.sized, Op.least, Op.noKind, probeCal]
  repeat' first
    | with_reducible exact Only.rfl
    | exact Eq.refl true
    | with_reducible refine Only.ite ?_ ?_
    | with_reducible intro _ _
    | with_reducible refine Res.bad_only ?_
    | with_reducible refine Res.ok_only ?_
    | with_reducible refine (State.mDie_only _ _ ?_).2 ?_
    | split

theorem probeConfigCycle_run {l : List Part} {s : State} (period : Nat) (ofs : Nat) (q : Req) (k : Target → Bool) (t : State) (h : Within [.die] l) :
    Only l s ((probeConfigCycle period ofs).run q k t).s ↔ Only l s t := by
  refine Only.congr h ?_
  dsimp only [probeConfigCycle, Op.read, Op.readTagged, Op.order, Op.orderLen, Op.orderMem, Op.readMem, Op.sized, Op.least, Op.noKind, probeCal]
  repeat' first
    | with_reducible exact Only.rfl
    | exact Eq.refl true
    | with_reducible refine Only.ite ?_ ?_
    | with_reducible intro _ _
    | with_reducible refine Res.bad_only ?_
    | with_reducible refine Res.ok_only ?_
    | with_reducible refine (State.mDie_only _ _ ?_).2 ?_
    | split

theorem probeCalAir_run {l : List Part} {s : State} (port : Nat) (q : Req) (k : Target → Bool) (t : State) (h : Within [.frm, .die] l) :
    Only l s ((probeCalAir port).run q k t).s ↔ Only l s t := by
  refine Only.congr h ?_
  dsimp only [probeCalAir, Op.read, Op.readTagged, Op.order, Op.orderLen, Op.orderMem, Op.readMem, Op.sized, Op.least, Op.noKind, probeCal]
  repeat' first
    | with_reducible exact Only.rfl
    | exact Eq.refl true
    | with_reducible refine Only.ite ?_ ?_
    | with_reducible intro _ _
    | with_reducible refine Res.bad_only ?_
    | with_reducible refine Res.ok_only ?_
    | with_reducible refine State.withTicket_only ?_ ?_ ?_
    | with_reducible refine (State.mPort_only _ _ _ ?_).2 ?_
    | split

theorem probeCalSample_run {l : List Part} {s : State} (port : Nat) (oven : Nat) (rcd : Nat) (calgen : Nat) (q : Req) (k : Target → Bool) (t : State)
    (h : Within [.die] l) :
    Only l s ((probeCalSample port oven rcd calgen).run q k t).s ↔ Only l s t := by
  refine Only.congr h ?_
  dsimp only [probeCalSample, Op.read, Op.readTagged, Op.order, Op.orderLen, Op.orderMem, Op.readMem, Op.sized, Op.least, Op.noKind, probeCal]
  repeat' first
    | with_reducible exact Only.rfl
    | exact Eq.refl true
    | with_reducible refine Only.ite ?_ ?_
    | with_reducible intro _ _
    | with_reducible refine Res.bad_only ?_
    | with_reducible refine Res.ok_only ?_
    | with_reducible refine (State.mPort_only _ _ _ ?_).2 ?_
    | split

theorem probeCalApply_run {l : List Part} {s : State} (port : Nat) (q : Req) (k : Target → Bool) (t : State) (h : Within [.die] l) :
    Only l s ((probeCalApply port).run q k t).s ↔ Only l s t := by
  refine Only.congr h ?_
  dsimp only [probeCalApply, Op.read, Op.readTagged, Op.order, Op.orderLen, Op.orderMem, Op.readMem, Op.sized, Op.least, Op.noKind, probeCal]
  repeat' first
    | with_reducible exact Only.rfl
    | exact Eq.refl true
    | with_reducible refine Only.ite ?_ ?_
    | with_reducible intro _ _
    | with_reducible refine Res.bad_only ?_
    | with_reducible refine Res.ok_only ?_
    | with_reducible refine (State.mPort_only _ _ _ ?_).2 ?_
    | split

theorem probeCalReset_run {l : List Part} {s : State} (port : Nat) (q : Req) (k : Target → Bool) (t : State) (h : Within [.die] l) :
    Only l s ((probeCalReset port).run q k t).s ↔ Only l s t := by
  refine Only.congr h ?_
  dsimp only [probeCalReset, Op.read, Op.readTagged, Op.order, Op.orderLen, Op.orderMem, Op.readMem, Op.sized, Op.least, Op.noKind, probeCal]
  repeat' first
    | with_reducible exact Only.rfl
    | exact Eq.refl true
    | with_reducible intro _ _
    | with_reducible refine Res.bad_only ?_
    | with_reducible refine Res.ok_only ?_
    | with_reducible refine (State.mPort_only _ _ _ ?_).2 ?_
    | split

theorem probeCalDiscard_run {l : List Part} {s : State} (port : Nat) (q : Req) (k : Target → Bool) (t : State) (h : Within [.die] l) :
    Only l s ((probeCalDiscard port).run q k t).s ↔ Only l s t := by
  refine Only.congr h ?_
  dsimp only [probeCalDiscard, Op.read, Op.readTagged, Op.order, Op.orderLen, Op.orderMem, Op.readMem, Op.sized, Op.least, Op.noKind, probeCal]
  repeat' first
    | with_reducible exact Only.rfl
    | exact Eq.refl true
    | with_reducible intro _ _
    | with_reducible refine Res.bad_only ?_
    | with_reducible refine Res.ok_only ?_
    | with_reducible refine (State.mPort_only _ _ _ ?_).2 ?_
    | split

theorem progLoad_run {l : List Part} {s : State} (kind : Nat) (count : Nat) (items : List Byte) (q : Req) (k : Target → Bool) (t : State)
    (h : Within [.prog, .log] l) :
    Only l s ((progLoad kind count items).run q k t).s ↔ Only l s t := by
  refine Only.congr h ?_
  dsimp only [progLoad, Op.read, Op.readTagged, Op.order, Op.orderLen, Op.orderMem, Op.readMem, Op.sized, Op.least, Op.noKind, probeCal]
  repeat' first
    | with_reducible exact Only.rfl
    | exact Eq.refl true
    | with_reducible refine Only.ite ?_ ?_
    | with_reducible intro _ _
    | with_reducible refine Res.bad_only ?_
    | with_reducible refine Res.ok_only ?_
    | with_reducible refine (State.loadProg_only _ _ _ ?_).2 ?_
    | split

theorem progSet_run {l : List Part} {s : State} (count : Nat) (items : List Byte) (q : Req) (k : Target → Bool) (t : State) (h : Within [.prog] l) :
    Only l s ((progSet count items).run q k t).s ↔ Only l s t := by
  refine Only.congr h ?_
  dsimp only [progSet, Op.read, Op.readTagged, Op.order, Op.orderLen, Op.orderMem, Op.readMem, Op.sized, Op.least, Op.noKind, probeCal]
  repeat' first
    | with_reducible exact Only.rfl
    | exact Eq.refl true
    | with_reducible refine Only.ite ?_ ?_
    | with_reducible intro _ _
    | with_reducible refine Res.bad_only ?_
    | with_reducible refine Res.ok_only ?_
    | with_reducible refine (State.mProg_only _ _ ?_).2 ?_
    | split

theorem progStart_run {l : List Part} {s : State} (mode : Nat) (q : Req) (k : Target → Bool) (t : State) (h : Within [.prog] l) :
    Only l s ((progStart mode).run q k t).s ↔ Only l s t := by
  refine Only.congr h ?_
  dsimp only [progStart, Op.read, Op.readTagged, Op.order, Op.orderLen, Op.orderMem, Op.readMem, Op.sized, Op.least, Op.noKind, probeCal]
  repeat' first
    | with_reducible exact Only.rfl
    | exact Eq.refl true
    | with_reducible refine Only.ite ?_ ?_
    | with_reducible intro _ _
    | with_reducible refine Res.bad_only ?_
    | with_reducible refine Res.ok_only ?_
    | with_reducible refine (State.ask_only _ _ ?_).2 ?_
    | split

theorem progStop_run {l : List Part} {s : State} (mode : Nat) (q : Req) (k : Target → Bool) (t : State) (h : Within [.prog] l) :
    Only l s ((progStop mode).run q k t).s ↔ Only l s t := by
  refine Only.congr h ?_
  dsimp only [progStop, Op.read, Op.readTagged, Op.order, Op.orderLen, Op.orderMem, Op.readMem, Op.sized, Op.least, Op.noKind, probeCal]
  repeat' first
    | with_reducible exact Only.rfl
    | exact Eq.refl true
    | with_reducible refine Only.ite ?_ ?_
    | with_reducible intro _ _
    | with_reducible refine Res.bad_only ?_
    | with_reducible refine Res.ok_only ?_
    | with_reducible refine (State.ask_only _ _ ?_).2 ?_
    | split

theorem progStatusSummary_run {l : List Part} {s : State}  (q : Req) (k : Target → Bool) (t : State) (h : Within [] l) :
    Only l s ((progStatusSummary).run q k t).s ↔ Only l s t := by
  refine Only.congr h ?_
  dsimp only [progStatusSummary, Op.read, Op.readTagged, Op.order, Op.orderLen, Op.orderMem, Op.readMem, Op.sized, Op.least, Op.noKind, probeCal]
  repeat' first
    | with_reducible exact Only.rfl
    | exact Eq.refl true
    | with_reducible intro _ _
    | with_reducible refine Res.bad_only ?_
    | with_reducible refine Res.ok_only ?_

theorem progStatusParcels_run {l : List Part} {s : State} (first : Nat) (count : Nat) (q : Req) (k : Target → Bool) (t : State) (h : Within [] l) :
    Only l s ((progStatusParcels first count).run q k t).s ↔ Only l s t := by
  refine Only.congr h ?_
  dsimp only [progStatusParcels, Op.read, Op.readTagged, Op.order, Op.orderLen, Op.orderMem, Op.readMem, Op.sized, Op.least, Op.noKind, probeCal]
  repeat' first
    | with_reducible exact Only.rfl
    | exact Eq.refl true
    | with_reducible refine Only.ite ?_ ?_
    | with_reducible intro _ _
    | with_reducible refine Res.bad_only ?_
    | with_reducible refine Res.ok_only ?_
    | split

theorem convCmd_run {l : List Part} {s : State} (action : Nat) (arg : Nat) (q : Req) (k : Target → Bool) (t : State)
    (h : Within [.drv, .conv, .inj, .log] l) :
    Only l s ((convCmd action arg).run q k t).s ↔ Only l s t := by
  refine Only.congr h ?_
  dsimp only [convCmd, Op.read, Op.readTagged, Op.order, Op.orderLen, Op.orderMem, Op.readMem, Op.sized, Op.least, Op.noKind, probeCal]
  repeat' first
    | with_reducible exact Only.rfl
    | exact Eq.refl true
    | with_reducible refine Only.ite ?_ ?_
    | with_reducible intro _ _
    | with_reducible refine Res.bad_only ?_
    | with_reducible refine Res.ok_only ?_
    | with_reducible refine (State.lineStart_only _ _ ?_).2 ?_
    | with_reducible refine (State.lineStop_only _ ?_).2 ?_
    | with_reducible refine (State.lineStopNow_only _ ?_).2 ?_
    | with_reducible refine (State.mConv_only _ _ ?_).2 ?_
    | split

theorem convConfig_run {l : List Part} {s : State} (b : List Byte) (q : Req) (k : Target → Bool) (t : State) (h : Within [.run, .conv] l) :
    Only l s ((convConfig b).run q k t).s ↔ Only l s t := by
  refine Only.congr h ?_
  dsimp only [convConfig, Op.read, Op.readTagged, Op.order, Op.orderLen, Op.orderMem, Op.readMem, Op.sized, Op.least, Op.noKind, probeCal]
  repeat' first
    | with_reducible exact Only.rfl
    | exact Eq.refl true
    | with_reducible refine Only.ite ?_ ?_
    | with_reducible intro _ _
    | with_reducible refine Res.bad_only ?_
    | with_reducible refine Res.ok_only ?_
    | with_reducible refine (State.mRun_only _ _ ?_).2 ?_
    | with_reducible refine (State.mStage_only _ _ _ ?_).2 ?_
    | split

theorem stitchWrite_run {l : List Part} {s : State} (first : Nat) (count : Nat) (b : List Byte) (q : Req) (k : Target → Bool) (t : State)
    (h : Within [.stitch] l) :
    Only l s ((stitchWrite first count b).run q k t).s ↔ Only l s t := by
  refine Only.congr h ?_
  dsimp only [stitchWrite, Op.read, Op.readTagged, Op.order, Op.orderLen, Op.orderMem, Op.readMem, Op.sized, Op.least, Op.noKind, probeCal]
  repeat' first
    | with_reducible exact Only.rfl
    | exact Eq.refl true
    | with_reducible refine Only.ite ?_ ?_
    | with_reducible refine Only.each ?_ ?_
    | with_reducible intro _ _
    | with_reducible refine Res.bad_only ?_
    | with_reducible refine Res.ok_only ?_
    | with_reducible refine (State.mEntry_only _ _ _ ?_).2 ?_
    | split

theorem stitchClear_run {l : List Part} {s : State} (first : Nat) (count : Nat) (q : Req) (k : Target → Bool) (t : State) (h : Within [.stitch] l) :
    Only l s ((stitchClear first count).run q k t).s ↔ Only l s t := by
  refine Only.congr h ?_
  dsimp only [stitchClear, Op.read, Op.readTagged, Op.order, Op.orderLen, Op.orderMem, Op.readMem, Op.sized, Op.least, Op.noKind, probeCal]
  repeat' first
    | with_reducible exact Only.rfl
    | exact Eq.refl true
    | with_reducible refine Only.ite ?_ ?_
    | with_reducible refine Only.each ?_ ?_
    | with_reducible intro _ _
    | with_reducible refine Res.bad_only ?_
    | with_reducible refine Res.ok_only ?_
    | with_reducible refine (State.mEntry_only _ _ _ ?_).2 ?_
    | split

theorem stitchStatus_run {l : List Part} {s : State} (first : Nat) (count : Nat) (q : Req) (k : Target → Bool) (t : State) (h : Within [] l) :
    Only l s ((stitchStatus first count).run q k t).s ↔ Only l s t := by
  refine Only.congr h ?_
  dsimp only [stitchStatus, Op.read, Op.readTagged, Op.order, Op.orderLen, Op.orderMem, Op.readMem, Op.sized, Op.least, Op.noKind, probeCal]
  repeat' first
    | with_reducible exact Only.rfl
    | exact Eq.refl true
    | with_reducible refine Only.ite ?_ ?_
    | with_reducible intro _ _
    | with_reducible refine Res.bad_only ?_
    | with_reducible refine Res.ok_only ?_
    | split

theorem energyRead_run {l : List Part} {s : State} (mode : Nat) (q : Req) (k : Target → Bool) (t : State) (h : Within [.energy, .free] l) :
    Only l s ((energyRead mode).run q k t).s ↔ Only l s t := by
  refine Only.congr h ?_
  dsimp only [energyRead, Op.read, Op.readTagged, Op.order, Op.orderLen, Op.orderMem, Op.readMem, Op.sized, Op.least, Op.noKind, probeCal]
  repeat' first
    | with_reducible exact Only.rfl
    | exact Eq.refl true
    | with_reducible refine Only.ite ?_ ?_
    | with_reducible intro _ _
    | with_reducible refine Res.bad_only ?_
    | with_reducible refine Res.ok_only ?_
    | with_reducible refine (State.drew_only _ ?_).2 ?_
    | with_reducible refine (State.mEnergy_only _ _ ?_).2 ?_
    | split

theorem statusRead_run {l : List Part} {s : State}  (q : Req) (k : Target → Bool) (t : State) (h : Within [] l) :
    Only l s ((statusRead).run q k t).s ↔ Only l s t := by
  refine Only.congr h ?_
  dsimp only [statusRead, Op.read, Op.readTagged, Op.order, Op.orderLen, Op.orderMem, Op.readMem, Op.sized, Op.least, Op.noKind, probeCal]
  repeat' first
    | with_reducible exact Only.rfl
    | exact Eq.refl true
    | with_reducible refine Only.ite ?_ ?_
    | with_reducible intro _ _
    | with_reducible refine Res.bad_only ?_
    | with_reducible refine Res.ok_only ?_

theorem sweep_run {l : List Part} {s : State} (bidx : Nat) (q : Req) (k : Target → Bool) (t : State) (h : Within [] l) :
    Only l s ((sweep bidx).run q k t).s ↔ Only l s t := by
  refine Only.congr h ?_
  dsimp only [sweep, Op.read, Op.readTagged, Op.order, Op.orderLen, Op.orderMem, Op.readMem, Op.sized, Op.least, Op.noKind, probeCal]
  repeat' first
    | with_reducible exact Only.rfl
    | exact Eq.refl true
    | with_reducible refine Only.ite ?_ ?_
    | with_reducible intro _ _
    | with_reducible refine Res.bad_only ?_
    | with_reducible refine Res.ok_only ?_
    | with_reducible refine (State.fromSnap_only _ _ _ _ ?_).2 ?_
    | split

theorem sweepResume_run {l : List Part} {s : State} (bidx : Nat) (q : Req) (k : Target → Bool) (t : State) (h : Within [] l) :
    Only l s ((sweepResume bidx).run q k t).s ↔ Only l s t := by
  refine Only.congr h ?_
  dsimp only [sweepResume, Op.read, Op.readTagged, Op.order, Op.orderLen, Op.orderMem, Op.readMem, Op.sized, Op.least, Op.noKind, probeCal]
  repeat' first
    | with_reducible exact Only.rfl
    | exact Eq.refl true
    | with_reducible intro _ _
    | with_reducible refine Res.bad_only ?_
    | with_reducible refine Res.ok_only ?_
    | with_reducible refine (State.fromSnap_only _ _ _ _ ?_).2 ?_

theorem readResults_run {l : List Part} {s : State} (bidx : Nat) (ch : Nat) (count : Nat) (q : Req) (k : Target → Bool) (t : State)
    (h : Within [] l) :
    Only l s ((readResults bidx ch count).run q k t).s ↔ Only l s t := by
  refine Only.congr h ?_
  dsimp only [readResults, Op.read, Op.readTagged, Op.order, Op.orderLen, Op.orderMem, Op.readMem, Op.sized, Op.least, Op.noKind, probeCal]
  repeat' first
    | with_reducible exact Only.rfl
    | exact Eq.refl true
    | with_reducible refine Only.ite ?_ ?_
    | with_reducible intro _ _
    | with_reducible refine Res.bad_only ?_
    | with_reducible refine Res.ok_only ?_
    | with_reducible refine (State.fromSnap_only _ _ _ _ ?_).2 ?_
    | split

theorem readResultsFull_run {l : List Part} {s : State} (bidx : Nat) (ch : Nat) (count : Nat) (q : Req) (k : Target → Bool) (t : State)
    (h : Within [] l) :
    Only l s ((readResultsFull bidx ch count).run q k t).s ↔ Only l s t := by
  refine Only.congr h ?_
  dsimp only [readResultsFull, Op.read, Op.readTagged, Op.order, Op.orderLen, Op.orderMem, Op.readMem, Op.sized, Op.least, Op.noKind, probeCal]
  repeat' first
    | with_reducible exact Only.rfl
    | exact Eq.refl true
    | with_reducible refine Only.ite ?_ ?_
    | with_reducible intro _ _
    | with_reducible refine Res.bad_only ?_
    | with_reducible refine Res.ok_only ?_
    | with_reducible refine (State.fromSnap_only _ _ _ _ ?_).2 ?_
    | split

theorem probeReadSnapshot_run {l : List Part} {s : State} (bidx : Nat) (port : Nat) (count : Nat) (q : Req) (k : Target → Bool) (t : State)
    (h : Within [] l) :
    Only l s ((probeReadSnapshot bidx port count).run q k t).s ↔ Only l s t := by
  refine Only.congr h ?_
  dsimp only [probeReadSnapshot, Op.read, Op.readTagged, Op.order, Op.orderLen, Op.orderMem, Op.readMem, Op.sized, Op.least, Op.noKind, probeCal]
  repeat' first
    | with_reducible exact Only.rfl
    | exact Eq.refl true
    | with_reducible refine Only.ite ?_ ?_
    | with_reducible intro _ _
    | with_reducible refine Res.bad_only ?_
    | with_reducible refine Res.ok_only ?_
    | with_reducible refine (State.fromSnap_only _ _ _ _ ?_).2 ?_
    | split

theorem testOpen_run {l : List Part} {s : State} (flags : Nat) (timeout : Nat) (q : Req) (k : Target → Bool) (t : State) (h : Within [.inj, .log] l) :
    Only l s ((testOpen flags timeout).run q k t).s ↔ Only l s t := by
  refine Only.congr h ?_
  dsimp only [testOpen, Op.read, Op.readTagged, Op.order, Op.orderLen, Op.orderMem, Op.readMem, Op.sized, Op.least, Op.noKind, probeCal]
  repeat' first
    | with_reducible exact Only.rfl
    | exact Eq.refl true
    | with_reducible refine Only.ite ?_ ?_
    | with_reducible intro _ _
    | with_reducible refine Res.bad_only ?_
    | with_reducible refine Res.ok_only ?_
    | with_reducible refine (State.logE_only _ _ _ _ ?_).2 ?_
    | with_reducible refine (State.mInj_only _ _ ?_).2 ?_
    | with_reducible refine (State.touchTest_only _ _ ?_).2 ?_
    | split

theorem inject_run {l : List Part} {s : State} (id : Nat) (tgt : Nat) (arg : Nat) (dur : Nat) (q : Req) (k : Target → Bool) (t : State)
    (h : Within [.inj, .log] l) :
    Only l s ((inject id tgt arg dur).run q k t).s ↔ Only l s t := by
  refine Only.congr h ?_
  dsimp only [inject, Op.read, Op.readTagged, Op.order, Op.orderLen, Op.orderMem, Op.readMem, Op.sized, Op.least, Op.noKind, probeCal]
  repeat' first
    | with_reducible exact Only.rfl
    | exact Eq.refl true
    | with_reducible refine Only.ite ?_ ?_
    | with_reducible intro _ _
    | with_reducible refine Res.bad_only ?_
    | with_reducible refine Res.ok_only ?_
    | with_reducible refine (State.logE_only _ _ _ _ ?_).2 ?_
    | with_reducible refine (State.mSlot_only _ _ _ ?_).2 ?_
    | with_reducible refine (State.touchTest_only _ _ ?_).2 ?_
    | split

theorem injectClear_run {l : List Part} {s : State} (slot : Nat) (q : Req) (k : Target → Bool) (t : State) (h : Within [.inj, .log] l) :
    Only l s ((injectClear slot).run q k t).s ↔ Only l s t := by
  refine Only.congr h ?_
  dsimp only [injectClear, Op.read, Op.readTagged, Op.order, Op.orderLen, Op.orderMem, Op.readMem, Op.sized, Op.least, Op.noKind, probeCal]
  repeat' first
    | with_reducible exact Only.rfl
    | exact Eq.refl true
    | with_reducible refine Only.ite ?_ ?_
    | with_reducible refine Only.each ?_ ?_
    | with_reducible intro _ _
    | with_reducible refine Res.bad_only ?_
    | with_reducible refine Res.ok_only ?_
    | with_reducible refine (State.injEnd_only _ _ ?_).2 ?_
    | with_reducible refine (State.touchTest_only _ _ ?_).2 ?_
    | split

theorem testClose_run {l : List Part} {s : State}  (q : Req) (k : Target → Bool) (t : State) (h : Within [.inj, .log] l) :
    Only l s ((testClose).run q k t).s ↔ Only l s t := by
  refine Only.congr h ?_
  dsimp only [testClose, Op.read, Op.readTagged, Op.order, Op.orderLen, Op.orderMem, Op.readMem, Op.sized, Op.least, Op.noKind, probeCal]
  repeat' first
    | with_reducible exact Only.rfl
    | exact Eq.refl true
    | with_reducible refine Only.ite ?_ ?_
    | with_reducible intro _ _
    | with_reducible refine Res.bad_only ?_
    | with_reducible refine Res.ok_only ?_
    | with_reducible refine (State.sessionEnd_only _ _ ?_).2 ?_
    | split

theorem logRead_run {l : List Part} {s : State} (from_ : Nat) (count : Nat) (q : Req) (k : Target → Bool) (t : State) (h : Within [.log] l) :
    Only l s ((logRead from_ count).run q k t).s ↔ Only l s t := by
  refine Only.congr h ?_
  dsimp only [logRead, Op.read, Op.readTagged, Op.order, Op.orderLen, Op.orderMem, Op.readMem, Op.sized, Op.least, Op.noKind, probeCal]
  repeat' first
    | with_reducible exact Only.rfl
    | exact Eq.refl true
    | with_reducible refine Only.ite ?_ ?_
    | with_reducible intro _ _
    | with_reducible refine Res.bad_only ?_
    | with_reducible refine Res.ok_only ?_
    | with_reducible refine (State.mLog_only _ _ ?_).2 ?_
    | split

theorem logInfo_run {l : List Part} {s : State}  (q : Req) (k : Target → Bool) (t : State) (h : Within [] l) :
    Only l s ((logInfo).run q k t).s ↔ Only l s t := by
  refine Only.congr h ?_
  dsimp only [logInfo, Op.read, Op.readTagged, Op.order, Op.orderLen, Op.orderMem, Op.readMem, Op.sized, Op.least, Op.noKind, probeCal]
  repeat' first
    | with_reducible exact Only.rfl
    | exact Eq.refl true
    | with_reducible intro _ _
    | with_reducible refine Res.bad_only ?_
    | with_reducible refine Res.ok_only ?_

theorem countersRead_run {l : List Part} {s : State}  (q : Req) (k : Target → Bool) (t : State) (h : Within [] l) :
    Only l s ((countersRead).run q k t).s ↔ Only l s t := by
  refine Only.congr h ?_
  dsimp only [countersRead, Op.read, Op.readTagged, Op.order, Op.orderLen, Op.orderMem, Op.readMem, Op.sized, Op.least, Op.noKind, probeCal]
  repeat' first
    | with_reducible exact Only.rfl
    | exact Eq.refl true
    | with_reducible intro _ _
    | with_reducible refine Res.bad_only ?_
    | with_reducible refine Res.ok_only ?_

theorem lichenConfig_run {l : List Part} {s : State} (b : List Byte) (q : Req) (k : Target → Bool) (t : State) (h : Within [.lich] l) :
    Only l s ((lichenConfig b).run q k t).s ↔ Only l s t := by
  refine Only.congr h ?_
  dsimp only [lichenConfig, Op.read, Op.readTagged, Op.order, Op.orderLen, Op.orderMem, Op.readMem, Op.sized, Op.least, Op.noKind, probeCal]
  repeat' first
    | with_reducible exact Only.rfl
    | exact Eq.refl true
    | with_reducible refine Only.ite ?_ ?_
    | with_reducible intro _ _
    | with_reducible refine Res.bad_only ?_
    | with_reducible refine Res.ok_only ?_
    | with_reducible refine (State.mLich_only _ _ ?_).2 ?_
    | split

theorem needleTake_run {l : List Part} {s : State} (flags : Nat) (timeout : Nat) (q : Req) (k : Target → Bool) (t : State)
    (h : Within [.frm, .fan, .lich, .safe, .inj, .log] l) :
    Only l s ((needleTake flags timeout).run q k t).s ↔ Only l s t := by
  refine Only.congr h ?_
  dsimp only [needleTake, Op.read, Op.readTagged, Op.order, Op.orderLen, Op.orderMem, Op.readMem, Op.sized, Op.least, Op.noKind, probeCal]
  repeat' first
    | with_reducible exact Only.rfl
    | exact Eq.refl true
    | with_reducible refine Only.ite ?_ ?_
    | with_reducible intro _ _
    | with_reducible refine Res.bad_only ?_
    | with_reducible refine Res.ok_only ?_
    | with_reducible refine (State.mFrm_only _ _ ?_).2 ?_
    | with_reducible refine (State.needleLost_only _ _ _ ?_).2 ?_
    | with_reducible refine (State.passNeedle_only _ _ _ _ ?_).2 ?_
    | split

theorem needleGive_run {l : List Part} {s : State} (mode : Nat) (q : Req) (k : Target → Bool) (t : State)
    (h : Within [.frm, .loop, .drv, .fan, .prog, .lich, .safe, .inj, .log, .cnt] l) :
    Only l s ((needleGive mode).run q k t).s ↔ Only l s t := by
  refine Only.congr h ?_
  dsimp only [needleGive, Op.read, Op.readTagged, Op.order, Op.orderLen, Op.orderMem, Op.readMem, Op.sized, Op.least, Op.noKind, probeCal]
  repeat' first
    | with_reducible exact Only.rfl
    | exact Eq.refl true
    | with_reducible refine Only.ite ?_ ?_
    | with_reducible intro _ _
    | with_reducible refine Res.bad_only ?_
    | with_reducible refine Res.ok_only ?_
    | with_reducible refine (State.lichenEnter_only _ _ ?_).2 ?_
    | with_reducible refine (State.passNeedle_only _ _ _ _ ?_).2 ?_
    | split

theorem sessionOpen_run {l : List Part} {s : State} (slot : Nat) (nh : List Byte) (q : Req) (k : Target → Bool) (t : State)
    (h : Within [.auth, .free] l) :
    Only l s ((sessionOpen slot nh).run q k t).s ↔ Only l s t := by
  refine Only.congr h ?_
  dsimp only [sessionOpen, Op.read, Op.readTagged, Op.order, Op.orderLen, Op.orderMem, Op.readMem, Op.sized, Op.least, Op.noKind, probeCal]
  repeat' first
    | with_reducible exact Only.rfl
    | exact Eq.refl true
    | with_reducible refine Only.ite ?_ ?_
    | with_reducible intro _ _
    | with_reducible refine Res.bad_only ?_
    | with_reducible refine Res.ok_only ?_
    | with_reducible refine (State.drew_only _ ?_).2 ?_
    | with_reducible refine (State.mAuth_only _ _ ?_).2 ?_
    | split

theorem sessionClose_run {l : List Part} {s : State}  (q : Req) (k : Target → Bool) (t : State) (h : Within [] l) :
    Only l s ((sessionClose).run q k t).s ↔ Only l s t := by
  refine Only.congr h ?_
  dsimp only [sessionClose, Op.read, Op.readTagged, Op.order, Op.orderLen, Op.orderMem, Op.readMem, Op.sized, Op.least, Op.noKind, probeCal]
  repeat' first
    | with_reducible exact Only.rfl
    | exact Eq.refl true
    | with_reducible refine Only.ite ?_ ?_
    | with_reducible intro _ _
    | with_reducible refine Res.bad_only ?_
    | with_reducible refine Res.ok_only ?_
    | split

theorem keyLoad_run {l : List Part} {s : State} (slot : Nat) (form : Nat) (ver : Nat) (b : List Byte) (q : Req) (k : Target → Bool) (t : State)
    (h : Within [.auth, .log] l) :
    Only l s ((keyLoad slot form ver b).run q k t).s ↔ Only l s t := by
  refine Only.congr h ?_
  dsimp only [keyLoad, Op.read, Op.readTagged, Op.order, Op.orderLen, Op.orderMem, Op.readMem, Op.sized, Op.least, Op.noKind, probeCal]
  repeat' first
    | with_reducible exact Only.rfl
    | exact Eq.refl true
    | with_reducible refine Only.ite ?_ ?_
    | with_reducible intro _ _
    | with_reducible refine Res.bad_only ?_
    | with_reducible refine Res.ok_only ?_
    | with_reducible refine (State.setKey_only _ _ _ _ ?_).2 ?_
    | split

theorem sessionStatus_run {l : List Part} {s : State}  (q : Req) (k : Target → Bool) (t : State) (h : Within [] l) :
    Only l s ((sessionStatus).run q k t).s ↔ Only l s t := by
  refine Only.congr h ?_
  dsimp only [sessionStatus, Op.read, Op.readTagged, Op.order, Op.orderLen, Op.orderMem, Op.readMem, Op.sized, Op.least, Op.noKind, probeCal]
  repeat' first
    | with_reducible exact Only.rfl
    | exact Eq.refl true
    | with_reducible intro _ _
    | with_reducible refine Res.bad_only ?_
    | with_reducible refine Res.ok_only ?_

theorem pollResult_run {l : List Part} {s : State} (t0 : Nat) (q : Req) (k : Target → Bool) (t : State) (h : Within [.auth] l) :
    Only l s ((pollResult t0).run q k t).s ↔ Only l s t := by
  refine Only.congr h ?_
  dsimp only [pollResult, Op.read, Op.readTagged, Op.order, Op.orderLen, Op.orderMem, Op.readMem, Op.sized, Op.least, Op.noKind, probeCal]
  repeat' first
    | with_reducible exact Only.rfl
    | exact Eq.refl true
    | with_reducible refine Only.ite ?_ ?_
    | with_reducible intro _ _
    | with_reducible refine Res.bad_only ?_
    | with_reducible refine (State.mAuth_only _ _ ?_).2 ?_
    | split

theorem identify_run {l : List Part} {s : State}  (q : Req) (k : Target → Bool) (t : State) (h : Within [] l) :
    Only l s ((identify).run q k t).s ↔ Only l s t := by
  refine Only.congr h ?_
  dsimp only [identify, Op.read, Op.readTagged, Op.order, Op.orderLen, Op.orderMem, Op.readMem, Op.sized, Op.least, Op.noKind, probeCal]
  repeat' first
    | with_reducible exact Only.rfl
    | exact Eq.refl true
    | with_reducible intro _ _
    | with_reducible refine Res.bad_only ?_
    | with_reducible refine Res.ok_only ?_

theorem resetOp_run {l : List Part} {s : State} (kind : Nat) (q : Req) (k : Target → Bool) (t : State) (h : Within [] l) :
    Only l s ((resetOp kind).run q k t).s ↔ Only l s t := by
  refine Only.congr h ?_
  dsimp only [resetOp, Op.read, Op.readTagged, Op.order, Op.orderLen, Op.orderMem, Op.readMem, Op.sized, Op.least, Op.noKind, probeCal]
  repeat' first
    | with_reducible exact Only.rfl
    | exact Eq.refl true
    | with_reducible refine Only.ite ?_ ?_
    | with_reducible intro _ _
    | with_reducible refine Res.bad_only ?_
    | with_reducible refine Res.ok_only ?_
    | split

theorem updateBegin_run {l : List Part} {s : State} (p : List Byte) (q : Req) (k : Target → Bool) (t : State) (h : Within [.frm, .log, .upd] l) :
    Only l s ((updateBegin p).run q k t).s ↔ Only l s t := by
  refine Only.congr h ?_
  dsimp only [updateBegin, Op.read, Op.readTagged, Op.order, Op.orderLen, Op.orderMem, Op.readMem, Op.sized, Op.least, Op.noKind, probeCal]
  repeat' first
    | with_reducible exact Only.rfl
    | exact Eq.refl true
    | with_reducible refine Only.ite ?_ ?_
    | with_reducible intro _ _
    | with_reducible refine Res.bad_only ?_
    | with_reducible refine (State.mUpd_only _ _ ?_).2 ?_
    | with_reducible refine (State.updEnd_only _ _ ?_).2 ?_
    | with_reducible refine State.withTicket_only ?_ ?_ ?_
    | split

theorem updateBlock_run {l : List Part} {s : State} (p : List Byte) (q : Req) (k : Target → Bool) (t : State) (h : Within [.log, .se, .upd] l) :
    Only l s ((updateBlock p).run q k t).s ↔ Only l s t := by
  refine Only.congr h ?_
  dsimp only [updateBlock]
  split
  · exact Only.rfl
  · refine Only.answers Only.rfl fun r x => ?_
    split
    · exact (State.blockRun_only r.s _ _ _ (by rfl)).2 Only.rfl
    · exact Only.rfl

theorem updateVerify_run {l : List Part} {s : State} (tid : Nat) (q : Req) (k : Target → Bool) (t : State) (h : Within [.frm, .upd] l) :
    Only l s ((updateVerify tid).run q k t).s ↔ Only l s t := by
  refine Only.congr h ?_
  dsimp only [updateVerify, Op.read, Op.readTagged, Op.order, Op.orderLen, Op.orderMem, Op.readMem, Op.sized, Op.least, Op.noKind, probeCal]
  repeat' first
    | with_reducible exact Only.rfl
    | exact Eq.refl true
    | with_reducible refine Only.ite ?_ ?_
    | with_reducible intro _ _
    | with_reducible refine Res.bad_only ?_
    | with_reducible refine Res.ok_only ?_
    | with_reducible refine State.withTicket_only ?_ ?_ ?_
    | with_reducible refine (State.mUpd_only _ _ ?_).2 ?_
    | split

theorem updateAbort_run {l : List Part} {s : State} (tid : Nat) (q : Req) (k : Target → Bool) (t : State) (h : Within [.log, .upd] l) :
    Only l s ((updateAbort tid).run q k t).s ↔ Only l s t := by
  refine Only.congr h ?_
  dsimp only [updateAbort, Op.read, Op.readTagged, Op.order, Op.orderLen, Op.orderMem, Op.readMem, Op.sized, Op.least, Op.noKind, probeCal]
  repeat' first
    | with_reducible exact Only.rfl
    | exact Eq.refl true
    | with_reducible refine Only.ite ?_ ?_
    | with_reducible intro _ _
    | with_reducible refine Res.bad_only ?_
    | with_reducible refine Res.ok_only ?_
    | with_reducible refine (State.mUpd_only _ _ ?_).2 ?_
    | with_reducible refine (State.updEnd_only _ _ ?_).2 ?_
    | split

theorem updateStatus_run {l : List Part} {s : State}  (q : Req) (k : Target → Bool) (t : State) (h : Within [] l) :
    Only l s ((updateStatus).run q k t).s ↔ Only l s t := by
  refine Only.congr h ?_
  dsimp only [updateStatus, Op.read, Op.readTagged, Op.order, Op.orderLen, Op.orderMem, Op.readMem, Op.sized, Op.least, Op.noKind, probeCal]
  repeat' first
    | with_reducible exact Only.rfl
    | exact Eq.refl true
    | with_reducible refine Only.ite ?_ ?_
    | with_reducible intro _ _
    | with_reducible refine Res.bad_only ?_
    | with_reducible refine Res.ok_only ?_

theorem updateCommit_run {l : List Part} {s : State} (tid : Nat) (q : Req) (k : Target → Bool) (t : State)
    (h : Within [.pow, .ring, .frm, .inj, .log, .upd, .ho] l) :
    Only l s ((updateCommit tid).run q k t).s ↔ Only l s t := by
  refine Only.congr h ?_
  dsimp only [updateCommit, Op.read, Op.readTagged, Op.order, Op.orderLen, Op.orderMem, Op.readMem, Op.sized, Op.least, Op.noKind, probeCal]
  repeat' first
    | with_reducible exact Only.rfl
    | exact Eq.refl true
    | with_reducible refine Only.ite ?_ ?_
    | with_reducible intro _ _
    | with_reducible refine Res.bad_only ?_
    | with_reducible refine (State.activate_only _ _ ?_).2 ?_
    | with_reducible refine State.withTicket_only ?_ ?_ ?_
    | split

theorem imageInfo_run {l : List Part} {s : State}  (q : Req) (k : Target → Bool) (t : State) (h : Within [] l) :
    Only l s ((imageInfo).run q k t).s ↔ Only l s t := by
  refine Only.congr h ?_
  dsimp only [imageInfo, Op.read, Op.readTagged, Op.order, Op.orderLen, Op.orderMem, Op.readMem, Op.sized, Op.least, Op.noKind, probeCal]
  repeat' first
    | with_reducible exact Only.rfl
    | exact Eq.refl true
    | with_reducible intro _ _
    | with_reducible refine Res.bad_only ?_
    | with_reducible refine Res.ok_only ?_

theorem handoverStatus_run {l : List Part} {s : State}  (q : Req) (k : Target → Bool) (t : State) (h : Within [] l) :
    Only l s ((handoverStatus).run q k t).s ↔ Only l s t := by
  refine Only.congr h ?_
  dsimp only [handoverStatus, Op.read, Op.readTagged, Op.order, Op.orderLen, Op.orderMem, Op.readMem, Op.sized, Op.least, Op.noKind, probeCal]
  repeat' first
    | with_reducible exact Only.rfl
    | exact Eq.refl true
    | with_reducible intro _ _
    | with_reducible refine Res.bad_only ?_
    | with_reducible refine Res.ok_only ?_

theorem sporeEnter_run {l : List Part} {s : State} (key : Nat) (q : Req) (k : Target → Bool) (t : State) (h : Within [] l) :
    Only l s ((sporeEnter key).run q k t).s ↔ Only l s t := by
  refine Only.congr h ?_
  dsimp only [sporeEnter, Op.read, Op.readTagged, Op.order, Op.orderLen, Op.orderMem, Op.readMem, Op.sized, Op.least, Op.noKind, probeCal]
  repeat' first
    | with_reducible exact Only.rfl
    | exact Eq.refl true
    | with_reducible refine Only.ite ?_ ?_
    | with_reducible intro _ _
    | with_reducible refine Res.bad_only ?_
    | with_reducible refine Res.ok_only ?_
    | split

theorem mossEnter_run {l : List Part} {s : State}  (q : Req) (k : Target → Bool) (t : State) (h : Within [] l) :
    Only l s ((mossEnter).run q k t).s ↔ Only l s t := by
  refine Only.congr h ?_
  dsimp only [mossEnter, Op.read, Op.readTagged, Op.order, Op.orderLen, Op.orderMem, Op.readMem, Op.sized, Op.least, Op.noKind, probeCal]
  repeat' first
    | with_reducible exact Only.rfl
    | exact Eq.refl true
    | with_reducible refine Only.ite ?_ ?_
    | with_reducible intro _ _
    | with_reducible refine Res.bad_only ?_
    | with_reducible refine Res.ok_only ?_
    | split

theorem ringStatus_run {l : List Part} {s : State}  (q : Req) (k : Target → Bool) (t : State) (h : Within [.clk] l) :
    Only l s ((ringStatus).run q k t).s ↔ Only l s t := by
  refine Only.congr h ?_
  dsimp only [ringStatus, Op.read, Op.readTagged, Op.order, Op.orderLen, Op.orderMem, Op.readMem, Op.sized, Op.least, Op.noKind, probeCal]
  repeat' first
    | with_reducible exact Only.rfl
    | exact Eq.refl true
    | with_reducible intro _ _
    | with_reducible refine Res.bad_only ?_
    | with_reducible refine Res.ok_only ?_
    | with_reducible refine (State.latchHi_only _ ?_).2 ?_

theorem castOn_run {l : List Part} {s : State} (base : Nat) (mode : Nat) (q : Req) (k : Target → Bool) (t : State) (h : Within [.clk, .ring] l) :
    Only l s ((castOn base mode).run q k t).s ↔ Only l s t := by
  refine Only.congr h ?_
  dsimp only [castOn, Op.read, Op.readTagged, Op.order, Op.orderLen, Op.orderMem, Op.readMem, Op.sized, Op.least, Op.noKind, probeCal]
  repeat' first
    | with_reducible exact Only.rfl
    | exact Eq.refl true
    | with_reducible refine Only.ite ?_ ?_
    | with_reducible intro _ _
    | with_reducible refine Res.bad_only ?_
    | with_reducible refine Res.ok_only ?_
    | with_reducible refine (State.mClk_only _ _ ?_).2 ?_
    | with_reducible refine (State.mRing_only _ _ ?_).2 ?_
    | with_reducible refine (State.setAddr_only _ _ ?_).2 ?_
    | split

theorem addrAssign_run {l : List Part} {s : State} (serial : Nat) (addr : Nat) (pin : Nat) (q : Req) (k : Target → Bool) (t : State)
    (h : Within [.ring] l) :
    Only l s ((addrAssign serial addr pin).run q k t).s ↔ Only l s t := by
  refine Only.congr h ?_
  dsimp only [addrAssign, Op.read, Op.readTagged, Op.order, Op.orderLen, Op.orderMem, Op.readMem, Op.sized, Op.least, Op.noKind, probeCal]
  repeat' first
    | with_reducible exact Only.rfl
    | exact Eq.refl true
    | with_reducible refine Only.ite ?_ ?_
    | with_reducible intro _ _
    | with_reducible refine Res.bad_only ?_
    | with_reducible refine Res.ok_only ?_
    | with_reducible refine (State.setAddr_only _ _ ?_).2 ?_
    | with_reducible refine (State.setPin_only _ _ ?_).2 ?_
    | split

theorem addrPin_run {l : List Part} {s : State} (pin : Nat) (q : Req) (k : Target → Bool) (t : State) (h : Within [.ring] l) :
    Only l s ((addrPin pin).run q k t).s ↔ Only l s t := by
  refine Only.congr h ?_
  dsimp only [addrPin, Op.read, Op.readTagged, Op.order, Op.orderLen, Op.orderMem, Op.readMem, Op.sized, Op.least, Op.noKind, probeCal]
  repeat' first
    | with_reducible exact Only.rfl
    | exact Eq.refl true
    | with_reducible refine Only.ite ?_ ?_
    | with_reducible intro _ _
    | with_reducible refine Res.bad_only ?_
    | with_reducible refine Res.ok_only ?_
    | with_reducible refine (State.setPin_only _ _ ?_).2 ?_
    | split

theorem bindOff_run {l : List Part} {s : State} (flags : Nat) (q : Req) (k : Target → Bool) (t : State) (h : Within [.pow, .ring] l) :
    Only l s ((bindOff flags).run q k t).s ↔ Only l s t := by
  refine Only.congr h ?_
  dsimp only [bindOff, Op.read, Op.readTagged, Op.order, Op.orderLen, Op.orderMem, Op.readMem, Op.sized, Op.least, Op.noKind, probeCal]
  repeat' first
    | with_reducible exact Only.rfl
    | exact Eq.refl true
    | with_reducible refine Only.ite ?_ ?_
    | with_reducible intro _ _
    | with_reducible refine Res.bad_only ?_
    | with_reducible refine Res.ok_only ?_
    | with_reducible refine (State.mPow_only _ _ ?_).2 ?_
    | with_reducible refine (State.setPin_only _ _ ?_).2 ?_
    | split

theorem ringRate_run {l : List Part} {s : State} (rate : Nat) (bidx : Nat) (q : Req) (k : Target → Bool) (t : State) (h : Within [.ring] l) :
    Only l s ((ringRate rate bidx).run q k t).s ↔ Only l s t := by
  refine Only.congr h ?_
  dsimp only [ringRate, Op.read, Op.readTagged, Op.order, Op.orderLen, Op.orderMem, Op.readMem, Op.sized, Op.least, Op.noKind, probeCal]
  repeat' first
    | with_reducible exact Only.rfl
    | exact Eq.refl true
    | with_reducible refine Only.ite ?_ ?_
    | with_reducible intro _ _
    | with_reducible refine Res.bad_only ?_
    | with_reducible refine Res.ok_only ?_
    | with_reducible refine (State.mRing_only _ _ ?_).2 ?_
    | split

theorem wakeSend_run {l : List Part} {s : State} (port : Nat) (q : Req) (k : Target → Bool) (t : State) (h : Within [.ring] l) :
    Only l s ((wakeSend port).run q k t).s ↔ Only l s t := by
  refine Only.congr h ?_
  dsimp only [wakeSend, Op.read, Op.readTagged, Op.order, Op.orderLen, Op.orderMem, Op.readMem, Op.sized, Op.least, Op.noKind, probeCal]
  repeat' first
    | with_reducible exact Only.rfl
    | exact Eq.refl true
    | with_reducible refine Only.ite ?_ ?_
    | with_reducible intro _ _
    | with_reducible refine Res.bad_only ?_
    | with_reducible refine Res.ok_only ?_
    | with_reducible refine (State.mRp_only _ _ _ ?_).2 ?_
    | split

theorem scConfig_run {l : List Part} {s : State} (b : List Byte) (q : Req) (k : Target → Bool) (t : State) (h : Within [.run, .se, .free] l) :
    Only l s ((scConfig b).run q k t).s ↔ Only l s t := by
  refine Only.congr h ?_
  dsimp only [scConfig, Op.read, Op.readTagged, Op.order, Op.orderLen, Op.orderMem, Op.readMem, Op.sized, Op.least, Op.noKind, probeCal]
  repeat' first
    | with_reducible exact Only.rfl
    | exact Eq.refl true
    | with_reducible intro _ _
    | with_reducible refine Res.bad_only ?_
    | with_reducible refine Res.ok_only ?_
    | with_reducible refine (scChannel_only _ _ ?_).2 ?_
    | with_reducible refine (scDescriptor_only _ _ ?_).2 ?_
    | with_reducible refine (scRing_only _ _ ?_).2 ?_
    | with_reducible refine (scTimer_only _ _ ?_).2 ?_
    | split

theorem scStart_run {l : List Part} {s : State} (ch : Nat) (mode : Nat) (q : Req) (k : Target → Bool) (t : State) (h : Within [.se] l) :
    Only l s ((scStart ch mode).run q k t).s ↔ Only l s t := by
  refine Only.congr h ?_
  dsimp only [scStart, Op.read, Op.readTagged, Op.order, Op.orderLen, Op.orderMem, Op.readMem, Op.sized, Op.least, Op.noKind, probeCal]
  repeat' first
    | with_reducible exact Only.rfl
    | exact Eq.refl true
    | with_reducible refine Only.ite ?_ ?_
    | with_reducible intro _ _
    | with_reducible refine Res.bad_only ?_
    | with_reducible refine Res.ok_only ?_
    | with_reducible refine (State.mSc_only _ _ _ ?_).2 ?_
    | with_reducible refine (State.scBegin_only _ _ ?_).2 ?_
    | with_reducible refine (State.scResume_only _ _ ?_).2 ?_
    | split

theorem scStatus_run {l : List Part} {s : State} (ch : Nat) (count : Nat) (q : Req) (k : Target → Bool) (t : State) (h : Within [] l) :
    Only l s ((scStatus ch count).run q k t).s ↔ Only l s t := by
  refine Only.congr h ?_
  dsimp only [scStatus, Op.read, Op.readTagged, Op.order, Op.orderLen, Op.orderMem, Op.readMem, Op.sized, Op.least, Op.noKind, probeCal]
  repeat' first
    | with_reducible exact Only.rfl
    | exact Eq.refl true
    | with_reducible refine Only.ite ?_ ?_
    | with_reducible intro _ _
    | with_reducible refine Res.bad_only ?_
    | with_reducible refine Res.ok_only ?_
    | split

theorem memRead_run {l : List Part} {s : State} (a : Nat) (n : Nat) (q : Req) (k : Target → Bool) (t : State) (h : Within [.clk, .snap, .free] l) :
    Only l s ((memRead a n).run q k t).s ↔ Only l s t := by
  refine Only.congr h ?_
  dsimp only [memRead, Op.read, Op.readTagged, Op.order, Op.orderLen, Op.orderMem, Op.readMem, Op.sized, Op.least, Op.noKind, probeCal]
  repeat' first
    | with_reducible exact Only.rfl
    | exact Eq.refl true
    | with_reducible refine Only.ite ?_ ?_
    | with_reducible intro _ _
    | with_reducible refine Res.bad_only ?_
    | with_reducible refine Res.ok_only ?_
    | with_reducible refine (State.readBytes_snd _ _ _ ?_).2 ?_
    | with_reducible refine (State.readSpan_snd _ _ _ ?_).2 ?_
    | with_reducible refine (State.windowView_only _ _ ?_).2 ?_
    | split

theorem memWrite_run {l : List Part} {s : State} (b : List Byte) (q : Req) (k : Target → Bool) (t : State)
    (h : Within [.clk, .sys, .pow, .ring, .frm, .auth, .fe, .loop, .die, .drv, .fan, .prog, .conv, .stitch, .lich, .therm, .inj, .log, .se, .upd,
      .ho, .mem] l) :
    Only l s ((memWrite b).run q k t).s ↔ Only l s t := by
  refine Only.congr h ?_
  dsimp only [memWrite, Op.read, Op.readTagged, Op.order, Op.orderLen, Op.orderMem, Op.readMem, Op.sized, Op.least, Op.noKind, probeCal]
  repeat' first
    | with_reducible exact Only.rfl
    | exact Eq.refl true
    | with_reducible refine Only.ite ?_ ?_
    | with_reducible refine Only.each ?_ ?_
    | with_reducible intro _ _
    | with_reducible refine Res.bad_only ?_
    | with_reducible refine Res.ok_only ?_
    | with_reducible refine (State.mMem_only _ _ ?_).2 ?_
    | with_reducible refine (State.regWrite_only _ _ _ ?_).2 ?_
    | split

theorem flagClear_run {l : List Part} {s : State} (a : Nat) (m : Nat) (q : Req) (k : Target → Bool) (t : State)
    (h : Within [.clk, .sys, .pow, .ring, .frm, .auth, .fe, .loop, .die, .drv, .fan, .prog, .conv, .stitch, .lich, .therm, .inj, .log, .se, .upd,
      .ho] l) :
    Only l s ((flagClear a m).run q k t).s ↔ Only l s t := by
  refine Only.congr h ?_
  dsimp only [flagClear, Op.read, Op.readTagged, Op.order, Op.orderLen, Op.orderMem, Op.readMem, Op.sized, Op.least, Op.noKind, probeCal]
  repeat' first
    | with_reducible exact Only.rfl
    | exact Eq.refl true
    | with_reducible refine Only.ite ?_ ?_
    | with_reducible intro _ _
    | with_reducible refine Res.bad_only ?_
    | with_reducible refine Res.ok_only ?_
    | with_reducible refine (State.clearFlags_only _ _ _ ?_).2 ?_
    | split

theorem scStop_run {l : List Part} {s : State} (ch : Nat) (mode : Nat) (q : Req) (k : Target → Bool) (t : State)
    (h : Within [.clk, .se, .mem, .free] l) :
    Only l s ((scStop ch mode).run q k t).s ↔ Only l s t := by
  refine Only.congr h ?_
  dsimp only [scStop, Op.read, Op.readTagged, Op.order, Op.orderLen, Op.orderMem, Op.readMem, Op.sized, Op.least, Op.noKind, probeCal]
  repeat' first
    | with_reducible exact Only.rfl
    | exact Eq.refl true
    | with_reducible refine Only.ite ?_ ?_
    | with_reducible intro _ _
    | with_reducible refine Res.bad_only ?_
    | with_reducible refine Res.ok_only ?_
    | with_reducible refine (State.scStopBurst_only _ _ ?_).2 ?_
    | with_reducible refine (State.scStopChain_only _ _ ?_).2 ?_
    | split

theorem keyLoadOf_run {l : List Part} {s : State} (p : List Byte) (q : Req) (k : Target → Bool) (t : State) (h : Within [.auth, .log] l) :
    Only l s ((keyLoadOf p).run q k t).s ↔ Only l s t := by
  refine Only.congr h ?_
  dsimp only [keyLoadOf, Op.read, Op.readTagged, Op.order, Op.orderLen, Op.orderMem, Op.readMem, Op.sized, Op.least, Op.noKind, probeCal]
  repeat' first
    | with_reducible exact Only.rfl
    | exact Eq.refl true
    | with_reducible intro _ _
    | with_reducible refine Res.bad_only ?_
    | with_reducible refine Res.ok_only ?_
    | with_reducible refine (keyLoad_run _ _ _ _ _ _ _ ?_).2 ?_

theorem probeReadOf_run {l : List Part} {s : State} (p : List Byte) (q : Req) (k : Target → Bool) (t : State) (h : Within [] l) :
    Only l s ((probeReadOf p).run q k t).s ↔ Only l s t := by
  refine Only.congr h ?_
  dsimp only [probeReadOf, Op.read, Op.readTagged, Op.order, Op.orderLen, Op.orderMem, Op.readMem, Op.sized, Op.least, Op.noKind, probeCal]
  repeat' first
    | with_reducible exact Only.rfl
    | exact Eq.refl true
    | with_reducible intro _ _
    | with_reducible refine Res.bad_only ?_
    | with_reducible refine Res.ok_only ?_
    | with_reducible refine (probeReadConfig_run _ _ _ _ _ ?_).2 ?_
    | with_reducible refine (probeReadCrop_run _ _ _ _ ?_).2 ?_
    | with_reducible refine (probeReadSnapshot_run _ _ _ _ _ _ ?_).2 ?_
    | split

theorem probeConfigOf_run {l : List Part} {s : State} (p : List Byte) (q : Req) (k : Target → Bool) (t : State) (h : Within [.frm, .die] l) :
    Only l s ((probeConfigOf p).run q k t).s ↔ Only l s t := by
  refine Only.congr h ?_
  dsimp only [probeConfigOf, Op.read, Op.readTagged, Op.order, Op.orderLen, Op.orderMem, Op.readMem, Op.sized, Op.least, Op.noKind, probeCal]
  repeat' first
    | with_reducible exact Only.rfl
    | exact Eq.refl true
    | with_reducible intro _ _
    | with_reducible refine Res.bad_only ?_
    | with_reducible refine Res.ok_only ?_
    | with_reducible refine (probeConfigCrop_run _ _ _ _ _ ?_).2 ?_
    | with_reducible refine (probeConfigCycle_run _ _ _ _ _ ?_).2 ?_
    | with_reducible refine (probeConfigErase_run _ _ _ _ ?_).2 ?_
    | with_reducible refine (probeConfigPort_run _ _ _ _ _ _ _ _ ?_).2 ?_
    | split

theorem probeCalOf_run {l : List Part} {s : State} (p : List Byte) (q : Req) (k : Target → Bool) (t : State) (h : Within [.frm, .die] l) :
    Only l s ((probeCalOf p).run q k t).s ↔ Only l s t := by
  refine Only.congr h ?_
  dsimp only [probeCalOf, Op.read, Op.readTagged, Op.order, Op.orderLen, Op.orderMem, Op.readMem, Op.sized, Op.least, Op.noKind, probeCal]
  repeat' first
    | with_reducible exact Only.rfl
    | exact Eq.refl true
    | with_reducible intro _ _
    | with_reducible refine Res.bad_only ?_
    | with_reducible refine Res.ok_only ?_
    | with_reducible refine (probeCalAir_run _ _ _ _ ?_).2 ?_
    | with_reducible refine (probeCalApply_run _ _ _ _ ?_).2 ?_
    | with_reducible refine (probeCalDiscard_run _ _ _ _ ?_).2 ?_
    | with_reducible refine (probeCalReset_run _ _ _ _ ?_).2 ?_
    | with_reducible refine (probeCalSample_run _ _ _ _ _ _ _ ?_).2 ?_
    | split

theorem drvPairOf_run {l : List Part} {s : State} (p : List Byte) (q : Req) (k : Target → Bool) (t : State) (h : Within [.run, .drv] l) :
    Only l s ((drvPairOf p).run q k t).s ↔ Only l s t := by
  refine Only.congr h ?_
  dsimp only [drvPairOf, Op.read, Op.readTagged, Op.order, Op.orderLen, Op.orderMem, Op.readMem, Op.sized, Op.least, Op.noKind, probeCal]
  repeat' first
    | with_reducible exact Only.rfl
    | exact Eq.refl true
    | with_reducible intro _ _
    | with_reducible refine Res.bad_only ?_
    | with_reducible refine Res.ok_only ?_
    | with_reducible refine (drvPair_run _ _ _ _ _ ?_).2 ?_
    | split

theorem drvDiagOf_run {l : List Part} {s : State} (p : List Byte) (q : Req) (k : Target → Bool) (t : State) (h : Within [.run, .drv, .free] l) :
    Only l s ((drvDiagOf p).run q k t).s ↔ Only l s t := by
  refine Only.congr h ?_
  dsimp only [drvDiagOf, Op.read, Op.readTagged, Op.order, Op.orderLen, Op.orderMem, Op.readMem, Op.sized, Op.least, Op.noKind, probeCal]
  repeat' first
    | with_reducible exact Only.rfl
    | exact Eq.refl true
    | with_reducible intro _ _
    | with_reducible refine Res.bad_only ?_
    | with_reducible refine Res.ok_only ?_
    | with_reducible refine (drvDiagConfig_run _ _ _ _ _ _ _ _ _ ?_).2 ?_
    | with_reducible refine (drvDiagDirect_run _ _ _ _ _ _ ?_).2 ?_
    | split

theorem progStatusOf_run {l : List Part} {s : State} (p : List Byte) (q : Req) (k : Target → Bool) (t : State) (h : Within [] l) :
    Only l s ((progStatusOf p).run q k t).s ↔ Only l s t := by
  refine Only.congr h ?_
  dsimp only [progStatusOf, Op.read, Op.readTagged, Op.order, Op.orderLen, Op.orderMem, Op.readMem, Op.sized, Op.least, Op.noKind, probeCal]
  repeat' first
    | with_reducible exact Only.rfl
    | exact Eq.refl true
    | with_reducible intro _ _
    | with_reducible refine Res.bad_only ?_
    | with_reducible refine Res.ok_only ?_
    | with_reducible refine (progStatusParcels_run _ _ _ _ _ ?_).2 ?_
    | with_reducible refine (progStatusSummary_run _ _ _ ?_).2 ?_
    | split

theorem safeConfigOf_run {l : List Part} {s : State} (p : List Byte) (q : Req) (k : Target → Bool) (t : State)
    (h : Within [.drv, .fan, .safe, .log] l) :
    Only l s ((safeConfigOf p).run q k t).s ↔ Only l s t := by
  refine Only.congr h ?_
  dsimp only [safeConfigOf, Op.read, Op.readTagged, Op.order, Op.orderLen, Op.orderMem, Op.readMem, Op.sized, Op.least, Op.noKind, probeCal]
  repeat' first
    | with_reducible exact Only.rfl
    | exact Eq.refl true
    | with_reducible intro _ _
    | with_reducible refine Res.bad_only ?_
    | with_reducible refine Res.ok_only ?_
    | with_reducible refine (safeConfigConfirm_run _ _ _ _ ?_).2 ?_
    | with_reducible refine (safeConfigWrite_run _ _ _ _ ?_).2 ?_
    | split

theorem ctrlOp0_run {l : List Part} {s : State} {opc : Nat} {p : List Byte} {o : Op} (e : ctrlOp0 opc p = some o) (q : Req) (k : Target → Bool) (t : State)
    (h : Within [.clk, .pow, .ring, .frm, .auth, .loop, .drv, .fan, .prog, .lich, .safe, .inj, .log, .cnt, .free] l) :
    Only l s (o.run q k t).s ↔ Only l s t := by
  refine Only.congr h ?_
  unfold ctrlOp0 at e
  split at e <;> cases e
  all_goals repeat' first
    | with_reducible exact Only.rfl
    | exact Eq.refl true
    | with_reducible refine (addrAssign_run _ _ _ _ _ _ ?_).2 ?_
    | with_reducible refine (addrPin_run _ _ _ _ ?_).2 ?_
    | with_reducible refine (bindOff_run _ _ _ _ ?_).2 ?_
    | with_reducible refine (castOn_run _ _ _ _ _ ?_).2 ?_
    | with_reducible refine (keyLoadOf_run _ _ _ _ ?_).2 ?_
    | with_reducible refine (mossEnter_run _ _ _ ?_).2 ?_
    | with_reducible refine (needleGive_run _ _ _ _ ?_).2 ?_
    | with_reducible refine (needleTake_run _ _ _ _ _ ?_).2 ?_
    | with_reducible refine (pollResult_run _ _ _ _ ?_).2 ?_
    | with_reducible refine (ringRate_run _ _ _ _ _ ?_).2 ?_
    | with_reducible refine (ringStatus_run _ _ _ ?_).2 ?_
    | with_reducible refine (sessionClose_run _ _ _ ?_).2 ?_
    | with_reducible refine (sessionOpen_run _ _ _ _ _ ?_).2 ?_
    | with_reducible refine (sweep_run _ _ _ _ ?_).2 ?_
    | with_reducible refine (sweepResume_run _ _ _ _ ?_).2 ?_
    | with_reducible refine (wakeSend_run _ _ _ _ ?_).2 ?_
    | dsimp only [Op.sized, Op.least, Op.noKind]

theorem ctrlOp1_run {l : List Part} {s : State} {opc : Nat} {p : List Byte} {o : Op} (e : ctrlOp1 opc p = some o) (q : Req) (k : Target → Bool) (t : State)
    (h : Within [.run, .tab, .lich, .therm] l) :
    Only l s (o.run q k t).s ↔ Only l s t := by
  refine Only.congr h ?_
  unfold ctrlOp1 at e
  split at e <;> cases e
  all_goals repeat' first
    | with_reducible exact Only.rfl
    | exact Eq.refl true
    | with_reducible refine (identify_run _ _ _ ?_).2 ?_
    | with_reducible refine (lichenConfig_run _ _ _ _ ?_).2 ?_
    | with_reducible refine (resetOp_run _ _ _ _ ?_).2 ?_
    | with_reducible refine (sessionStatus_run _ _ _ ?_).2 ?_
    | with_reducible refine (statusRead_run _ _ _ ?_).2 ?_
    | with_reducible refine (tableErase_run _ _ _ _ ?_).2 ?_
    | with_reducible refine (tableRead_run _ _ _ _ ?_).2 ?_
    | with_reducible refine (tableWrite_run _ _ _ _ _ ?_).2 ?_
    | with_reducible refine (thermConfig_run _ _ _ _ _ _ ?_).2 ?_
    | with_reducible refine (thermRead_run _ _ _ _ ?_).2 ?_
    | dsimp only [Op.sized, Op.least, Op.noKind]

theorem ctrlOp2_run {l : List Part} {s : State} {opc : Nat} {p : List Byte} {o : Op} (e : ctrlOp2 opc p = some o) (q : Req) (k : Target → Bool) (t : State)
    (h : Within [.frm, .run, .fe, .die, .drv, .prog, .stitch, .inj, .log, .free] l) :
    Only l s (o.run q k t).s ↔ Only l s t := by
  refine Only.congr h ?_
  unfold ctrlOp2 at e
  split at e <;> cases e
  all_goals repeat' first
    | with_reducible exact Only.rfl
    | exact Eq.refl true
    | with_reducible refine (chConfig_run _ _ _ _ ?_).2 ?_
    | with_reducible refine (chStatus_run _ _ _ _ _ ?_).2 ?_
    | with_reducible refine (drvBudget_run _ _ _ _ ?_).2 ?_
    | with_reducible refine (drvCmd_run _ _ _ _ _ _ _ ?_).2 ?_
    | with_reducible refine (drvDiagOf_run _ _ _ _ ?_).2 ?_
    | with_reducible refine (drvEnergy_run _ _ _ _ _ ?_).2 ?_
    | with_reducible refine (drvFaultClear_run _ _ _ _ _ ?_).2 ?_
    | with_reducible refine (drvPairOf_run _ _ _ _ ?_).2 ?_
    | with_reducible refine (drvProfile_run _ _ _ _ ?_).2 ?_
    | with_reducible refine (drvStatus_run _ _ _ _ _ ?_).2 ?_
    | with_reducible refine (probeCalOf_run _ _ _ _ ?_).2 ?_
    | with_reducible refine (probeConfigOf_run _ _ _ _ ?_).2 ?_
    | with_reducible refine (probeReadOf_run _ _ _ _ ?_).2 ?_
    | with_reducible refine (readResults_run _ _ _ _ _ _ ?_).2 ?_
    | with_reducible refine (readResultsFull_run _ _ _ _ _ _ ?_).2 ?_
    | with_reducible refine (scanConfig_run _ _ _ _ _ _ ?_).2 ?_
    | dsimp only [Op.sized, Op.least, Op.noKind]

theorem ctrlOp3_run {l : List Part} {s : State} {opc : Nat} {p : List Byte} {o : Op} (e : ctrlOp3 opc p = some o) (q : Req) (k : Target → Bool) (t : State)
    (h : Within [.run, .loop, .drv, .fan, .prog, .conv, .stitch, .energy, .inj, .log, .free] l) :
    Only l s (o.run q k t).s ↔ Only l s t := by
  refine Only.congr h ?_
  unfold ctrlOp3 at e
  split at e <;> cases e
  all_goals repeat' first
    | with_reducible exact Only.rfl
    | exact Eq.refl true
    | with_reducible refine (convCmd_run _ _ _ _ _ ?_).2 ?_
    | with_reducible refine (convConfig_run _ _ _ _ ?_).2 ?_
    | with_reducible refine (energyRead_run _ _ _ _ ?_).2 ?_
    | with_reducible refine (fanCmd_run _ _ _ _ _ _ _ ?_).2 ?_
    | with_reducible refine (fanConfig_run _ _ _ _ ?_).2 ?_
    | with_reducible refine (fanGroup_run _ _ _ _ _ _ _ _ _ ?_).2 ?_
    | with_reducible refine (fanRetry_run _ _ _ _ _ ?_).2 ?_
    | with_reducible refine (fanStatus_run _ _ _ _ _ ?_).2 ?_
    | with_reducible refine (fanTable_run _ _ _ _ _ ?_).2 ?_
    | with_reducible refine (loopConfig_run _ _ _ _ ?_).2 ?_
    | with_reducible refine (loopSet_run _ _ _ _ _ _ ?_).2 ?_
    | with_reducible refine (loopStatus_run _ _ _ _ _ ?_).2 ?_
    | with_reducible refine (progLoad_run _ _ _ _ _ _ ?_).2 ?_
    | with_reducible refine (progSet_run _ _ _ _ _ ?_).2 ?_
    | with_reducible refine (progStart_run _ _ _ _ ?_).2 ?_
    | with_reducible refine (progStatusOf_run _ _ _ _ ?_).2 ?_
    | with_reducible refine (progStop_run _ _ _ _ ?_).2 ?_
    | with_reducible refine (stitchClear_run _ _ _ _ _ ?_).2 ?_
    | with_reducible refine (stitchStatus_run _ _ _ _ _ ?_).2 ?_
    | with_reducible refine (stitchWrite_run _ _ _ _ _ _ ?_).2 ?_
    | dsimp only [Op.sized, Op.least, Op.noKind]

theorem ctrlOp4_run {l : List Part} {s : State} {opc : Nat} {p : List Byte} {o : Op} (e : ctrlOp4 opc p = some o) (q : Req) (k : Target → Bool) (t : State)
    (h : Within [.frm, .loop, .drv, .fan, .prog, .stitch, .safe, .log, .cnt] l) :
    Only l s (o.run q k t).s ↔ Only l s t := by
  refine Only.congr h ?_
  unfold ctrlOp4 at e
  split at e <;> cases e
  all_goals repeat' first
    | with_reducible exact Only.rfl
    | exact Eq.refl true
    | with_reducible refine (permitDrop_run _ _ _ ?_).2 ?_
    | with_reducible refine (permitRequest_run _ _ _ ?_).2 ?_
    | with_reducible refine (proofTest_run _ _ _ _ ?_).2 ?_
    | with_reducible refine (safeConfigOf_run _ _ _ _ ?_).2 ?_
    | with_reducible refine (safeConfigRead_run _ _ _ _ ?_).2 ?_
    | with_reducible refine (safeReset_run _ _ _ _ ?_).2 ?_
    | with_reducible refine (safeStatus_run _ _ _ ?_).2 ?_
    | dsimp only [Op.sized, Op.least, Op.noKind]

theorem memOp0_run {l : List Part} {s : State} {opc : Nat} {p : List Byte} {o : Op} (e : memOp0 opc p = some o) (q : Req) (k : Target → Bool) (t : State)
    (h : Within [.clk, .sys, .pow, .ring, .frm, .auth, .run, .fe, .snap, .loop, .die, .drv, .fan, .prog, .conv, .stitch, .lich, .therm, .inj, .log,
      .se, .upd, .ho, .mem, .free] l) :
    Only l s (o.run q k t).s ↔ Only l s t := by
  refine Only.congr h ?_
  unfold memOp0 at e
  split at e <;> cases e
  all_goals repeat' first
    | with_reducible exact Only.rfl
    | exact Eq.refl true
    | with_reducible refine (handoverStatus_run _ _ _ ?_).2 ?_
    | with_reducible refine (imageInfo_run _ _ _ ?_).2 ?_
    | with_reducible refine (memRead_run _ _ _ _ _ ?_).2 ?_
    | with_reducible refine (memWrite_run _ _ _ _ ?_).2 ?_
    | with_reducible refine (scConfig_run _ _ _ _ ?_).2 ?_
    | with_reducible refine (scStart_run _ _ _ _ _ ?_).2 ?_
    | with_reducible refine (scStatus_run _ _ _ _ _ ?_).2 ?_
    | with_reducible refine (scStop_run _ _ _ _ _ ?_).2 ?_
    | with_reducible refine (sporeEnter_run _ _ _ _ ?_).2 ?_
    | with_reducible refine (updateAbort_run _ _ _ _ ?_).2 ?_
    | with_reducible refine (updateBegin_run _ _ _ _ ?_).2 ?_
    | with_reducible refine (updateBlock_run _ _ _ _ ?_).2 ?_
    | with_reducible refine (updateCommit_run _ _ _ _ ?_).2 ?_
    | with_reducible refine (updateStatus_run _ _ _ ?_).2 ?_
    | with_reducible refine (updateVerify_run _ _ _ _ ?_).2 ?_
    | dsimp only [Op.sized, Op.least, Op.noKind]

theorem memOp1_run {l : List Part} {s : State} {opc : Nat} {p : List Byte} {o : Op} (e : memOp1 opc p = some o) (q : Req) (k : Target → Bool) (t : State)
    (h : Within [.clk, .sys, .pow, .ring, .frm, .auth, .fe, .loop, .die, .drv, .fan, .prog, .conv, .stitch, .lich, .therm, .inj, .log, .se, .upd,
      .ho] l) :
    Only l s (o.run q k t).s ↔ Only l s t := by
  refine Only.congr h ?_
  unfold memOp1 at e
  split at e <;> cases e
  all_goals repeat' first
    | with_reducible exact Only.rfl
    | exact Eq.refl true
    | with_reducible refine (countersRead_run _ _ _ ?_).2 ?_
    | with_reducible refine (flagClear_run _ _ _ _ _ ?_).2 ?_
    | with_reducible refine (inject_run _ _ _ _ _ _ _ ?_).2 ?_
    | with_reducible refine (injectClear_run _ _ _ _ ?_).2 ?_
    | with_reducible refine (logInfo_run _ _ _ ?_).2 ?_
    | with_reducible refine (logRead_run _ _ _ _ _ ?_).2 ?_
    | with_reducible refine (testClose_run _ _ _ ?_).2 ?_
    | with_reducible refine (testOpen_run _ _ _ _ _ ?_).2 ?_
    | dsimp only [Op.sized, Op.least, Op.noKind]

theorem baseOp_run {l : List Part} {s : State} {mem : Bool} {opc : Nat} {p : List Byte} {o : Op} (e : baseOp mem opc p = some o) (q : Req)
    (k : Target → Bool) (t : State) (h : Within [.clk, .sys, .pow, .ring, .frm, .auth, .run, .fe, .tab, .snap, .loop, .die, .drv, .fan, .prog,
      .conv, .stitch, .energy, .lich, .therm, .safe, .inj, .log, .cnt, .se, .upd, .ho, .mem, .free] l) : Only l s (o.run q k t).s ↔ Only l s t := by
  unfold baseOp at e
  split at e
  · split at e
    · exact memOp0_run e q k t (Within.trans (by rfl) h)
    · exact memOp1_run e q k t (Within.trans (by rfl) h)
  · split at e
    · exact ctrlOp0_run e q k t (Within.trans (by rfl) h)
    · exact ctrlOp1_run e q k t (Within.trans (by rfl) h)
    · exact ctrlOp1_run e q k t (Within.trans (by rfl) h)
    · exact ctrlOp2_run e q k t (Within.trans (by rfl) h)
    · exact ctrlOp2_run e q k t (Within.trans (by rfl) h)
    · exact ctrlOp3_run e q k t (Within.trans (by rfl) h)
    · exact ctrlOp3_run e q k t (Within.trans (by rfl) h)
    · exact ctrlOp4_run e q k t (Within.trans (by rfl) h)

theorem cfgRead_run {l : List Part} {s : State} (source : Nat) (cls : Nat) (ix : Nat) (q : Req) (k : Target → Bool) (t : State) (h : Within [] l) :
    Only l s ((cfgRead source cls ix).run q k t).s ↔ Only l s t := by
  refine Only.congr h ?_
  dsimp only [cfgRead, Op.read, Op.readTagged, Op.order, Op.orderLen, Op.orderMem, Op.readMem, Op.sized, Op.least, Op.noKind, probeCal]
  repeat' first
    | with_reducible exact Only.rfl
    | exact Eq.refl true
    | with_reducible refine Only.ite ?_ ?_
    | with_reducible intro _ _
    | with_reducible refine Res.bad_only ?_
    | with_reducible refine Res.ok_only ?_
    | split

theorem itemOp_run {l : List Part} {s : State} {c : Nat} {i : ItemClass} {p : List Byte} {o : Op} (ec : itemClass c = some i)
    (e : baseOp i.mem i.opc p = some o) (q : Req) (k : Target → Bool) (t : State) (h : Within [.frm, .run, .fe, .loop, .die, .drv, .fan, .prog,
      .conv, .lich, .therm, .log, .se, .free] l) :
    Only l s (o.run q k t).s ↔ Only l s t := by
  refine Only.congr h ?_
  unfold itemClass at ec
  split at ec <;> cases ec
  all_goals
    cases e
    repeat' first
    | with_reducible exact Only.rfl
    | exact Eq.refl true
    | with_reducible refine (drvProfile_run _ _ _ _ ?_).2 ?_
    | with_reducible refine (drvPairOf_run _ _ _ _ ?_).2 ?_
    | with_reducible refine (drvBudget_run _ _ _ _ ?_).2 ?_
    | with_reducible refine (drvDiagOf_run _ _ _ _ ?_).2 ?_
    | with_reducible refine (loopConfig_run _ _ _ _ ?_).2 ?_
    | with_reducible refine (fanConfig_run _ _ _ _ ?_).2 ?_
    | with_reducible refine (fanGroup_run _ _ _ _ _ _ _ _ _ ?_).2 ?_
    | with_reducible refine (convConfig_run _ _ _ _ ?_).2 ?_
    | with_reducible refine (thermConfig_run _ _ _ _ _ _ ?_).2 ?_
    | with_reducible refine (lichenConfig_run _ _ _ _ ?_).2 ?_
    | with_reducible refine (progSet_run _ _ _ _ _ ?_).2 ?_
    | with_reducible refine (scConfig_run _ _ _ _ ?_).2 ?_
    | with_reducible refine (chConfig_run _ _ _ _ ?_).2 ?_
    | with_reducible refine (scanConfig_run _ _ _ _ _ _ ?_).2 ?_
    | with_reducible refine (probeConfigOf_run _ _ _ _ ?_).2 ?_
    | dsimp only [Op.sized, Op.least, Op.noKind]

theorem cfgWrite_run {l : List Part} {s : State} (p : List Byte) (q : Req) (k : Target → Bool) (t : State)
    (h : Within [.frm, .run, .fe, .loop, .die, .drv, .fan, .prog, .conv, .lich, .therm, .log, .se, .free] l) :
    Only l s ((cfgWrite p).run q k t).s ↔ Only l s t := by
  refine Only.congr h ?_
  unfold cfgWrite
  dsimp only
  split
  · exact Only.rfl
  · rename_i ec
    split
    · exact Only.rfl
    · rename_i e
      dsimp only
      split
      · exact Only.rfl
      · split
        · exact Only.rfl
        · exact (itemOp_run ec e q k t (by rfl)).2 Only.rfl

theorem cfgSave_run {l : List Part} {s : State} (mode : Nat) (q : Req) (k : Target → Bool) (t : State) (h : Within [.frm, .cfgs] l) :
    Only l s ((cfgSave mode).run q k t).s ↔ Only l s t := by
  refine Only.congr h ?_
  dsimp only [cfgSave, Op.read, Op.readTagged, Op.order, Op.orderLen, Op.orderMem, Op.readMem, Op.sized, Op.least, Op.noKind, probeCal]
  repeat' first
    | with_reducible exact Only.rfl
    | exact Eq.refl true
    | with_reducible refine Only.ite ?_ ?_
    | with_reducible intro _ _
    | with_reducible refine Res.bad_only ?_
    | with_reducible refine Res.ok_only ?_
    | with_reducible refine State.withTicket_only ?_ ?_ ?_
    | with_reducible refine (State.mCfgs_only _ _ ?_).2 ?_
    | split

theorem opOf_run {l : List Part} {s : State} {mem : Bool} {opc : Nat} {p : List Byte} {o : Op} (e : opOf mem opc p = some o) (q : Req)
    (k : Target → Bool) (t : State) (h : Within [.clk, .sys, .pow, .ring, .frm, .auth, .run, .cfgs, .fe, .tab, .snap, .loop, .die, .drv, .fan,
      .prog, .conv, .stitch, .energy, .lich, .therm, .safe, .inj, .log, .cnt, .se, .upd, .ho, .mem, .free] l) : Only l s (o.run q k t).s ↔ Only l s
      t := by
  unfold opOf at e
  split at e
  · exact baseOp_run e q k t (Within.trans (by rfl) h)
  · split at e
    · cases e; exact cfgRead_run _ _ _ q k t (Within.trans (by rfl) h)
    · cases e; exact cfgWrite_run _ q k t (Within.trans (by rfl) h)
    · cases e; exact cfgSave_run _ q k t (Within.trans (by rfl) h)
    · exact baseOp_run e q k t (Within.trans (by rfl) h)

end Sys2Proof.Machine
end

