-- ==== Sys2Proof/Laws/TouchFrames.lean ====
section
/-! SUPPORT. Which parts of the state the merge, the ticks and the frames may change; an order served alone. -/

namespace Sys2Proof.Machine

theorem Op.serve_only {l : List Part} {s t : State} {o : Op} {q : Req} (h : Within [.frm, .auth] l) (hr : ∀ r k u, Only l u (o.run r k u).s)
    (c : Only l s t) : Only l s (o.serve q t) := by
  have ha : Within [.auth] l := Within.trans (by rfl) h
  have hj : ∀ u, Only l s u → Only l s (o.judge q (fun _ => true) u).s := by
    intro u d
    unfold Op.judge
    split
    · exact Op.screen_only ha d ‹_›
    · split
      · exact d.trans (hr _ _ _)
      · exact d
  have hn : Only l s (t.noteValid q.sender) := (State.noteValid_only _ _ (Within.trans (by rfl) h)).2 c
  unfold Op.serve
  refine Only.ite c (Only.ite ((State.countFull_only _ (Within.trans (by rfl) h)).2 ?_) (Only.ite (hj _ hn) ?_))
  · cases b : o.barred q (t.noteValid q.sender) with
    | none => exact hn
    | some r => exact Op.barred_only ha hn b
  · exact (State.pushReply_only _ _ _ (Within.trans (by rfl) h)).2 ((State.countReply_only _ _ (Within.trans (by rfl) h)).2 (hj _ hn))

@[simp] theorem State.fanTableEval_only {l : List Part} {s : State} (t : State) (n : Fin 12) (now : Nat) (h : Within [.fan] l) :
    Only l s (t.fanTableEval n now) ↔ Only l s t := by
  refine Only.congr h ?_
  unfold State.fanTableEval
  repeat' first
    | with_reducible exact Only.rfl
    | exact Eq.refl true
    | with_reducible intro _ _ _
    | with_reducible refine Only.ite ?_ ?_
    | with_reducible intro _ _
    | with_reducible refine Op.serve_only ?_ ?_ ?_
    | with_reducible refine (State.mFanCh_only _ _ _ ?_).2 ?_
    | split
    | dsimp only

@[simp] theorem State.fanTables_only {l : List Part} {s : State} (t : State) (now : Nat) (h : Within [.fan] l) :
    Only l s (t.fanTables now) ↔ Only l s t := by
  refine Only.congr h ?_
  unfold State.fanTables
  repeat' first
    | with_reducible exact Only.rfl
    | exact Eq.refl true
    | with_reducible refine Only.each ?_ ?_
    | with_reducible intro _ _
    | with_reducible refine (State.fanTableEval_only _ _ _ ?_).2 ?_

@[simp] theorem State.processTick_only {l : List Part} {s : State} (t : State) (t' : Nat)
    (h : Within [.clk, .loop, .drv, .fan, .prog, .energy, .safe, .log, .free] l) :
    Only l s (t.processTick t') ↔ Only l s t := by
  refine Only.congr h ?_
  unfold State.processTick
  repeat' first
    | with_reducible exact Only.rfl
    | exact Eq.refl true
    | with_reducible intro _ _
    | with_reducible refine (State.fanTables_only _ _ ?_).2 ?_
    | with_reducible refine (State.mClk_only _ _ ?_).2 ?_
    | with_reducible refine (State.progTick_only _ _ ?_).2 ?_

theorem Order.run_only {l : List Part} {s t : State} {o : Order} {keep : Target → Bool} {us : Option Nat}
    (h : Within [.clk, .sys, .pow, .ring, .frm, .auth, .run, .cfgs, .fe, .tab, .snap, .loop, .die, .drv, .fan, .prog, .conv, .stitch, .energy,
      .lich, .therm, .safe, .inj, .log, .cnt, .se, .upd, .ho, .mem, .free] l)
    (c : Only l s t) : Only l s (o.run keep us t).s := by
  have hf : ∀ (u : State) (f : Frames → Frames), Only l s u → Only l s (u.mFrm f) := fun u f d =>
    (State.mFrm_only u f (Within.trans (by rfl) h)).2 d
  unfold Order.run Order.op
  dsimp only
  unfold State.settled
  refine hf _ _ ?_
  cases e : opOf o.mem o.opc o.payload with
  | none => exact hf _ _ c
  | some op => exact (opOf_run e o.q keep _ (Within.trans (by rfl) h)).2 (hf _ _ c)

theorem Only.free {l : List Part} {s t : State} (n : Nat) (h : Within [.free] l) (c : Only l s t) : Only l s { t with free := n } :=
  (Only.congr (k := [.free]) h (by intro p hp; cases p <;> first | rfl | exact absurd (by simp) hp)).2 c

@[simp] theorem State.applyOne_only {l : List Part} {s : State} (t : State) (t' : Nat) (x : Staged)
    (h : Within [.clk, .sys, .pow, .ring, .frm, .auth, .run, .cfgs, .fe, .tab, .snap, .loop, .die, .drv, .fan, .prog, .conv, .stitch, .energy,
      .lich, .therm, .safe, .inj, .log, .cnt, .se, .upd, .ho, .mem, .free] l) :
    Only l s (t.applyOne t' x) ↔ Only l s t := by
  refine Only.congr h ?_
  have hf : ∀ (u v : State) (f : Frames → Frames), Only [.clk, .sys, .pow, .ring, .frm, .auth, .run, .cfgs, .fe, .tab, .snap, .loop, .die, .drv,
    .fan, .prog, .conv, .stitch, .energy, .lich, .therm, .safe, .inj, .log, .cnt, .se, .upd, .ho, .mem, .free] v u → Only [.clk, .sys, .pow, .ring,
    .frm, .auth, .run, .cfgs, .fe, .tab, .snap, .loop, .die, .drv, .fan, .prog, .conv, .stitch, .energy, .lich, .therm, .safe, .inj, .log, .cnt,
    .se, .upd, .ho, .mem, .free] v (u.mFrm f) := fun u v f d => (State.mFrm_only u f (by rfl)).2 d
  unfold State.applyOne
  dsimp only
  refine Only.ite Only.rfl (Only.ite ?_ ?_)
  · exact Only.free _ (by rfl) (hf _ _ _ (Order.run_only (by rfl) (Only.free _ (by rfl) (hf _ _ _ (hf _ _ _ Only.rfl)))))
  · refine Only.free _ (by rfl) (hf _ _ _ ?_)
    exact (State.finish_only _ _ _ _ (by rfl)).2 (hf _ _ _ (Order.run_only (by rfl) (Only.free _ (by rfl) (hf _ _ _ (hf _ _ _ Only.rfl)))))

@[simp] theorem State.applyAll_only {l : List Part} {s : State} (t : State) (t' : Nat) (l' : List Staged)
    (h : Within [.clk, .sys, .pow, .ring, .frm, .auth, .run, .cfgs, .fe, .tab, .snap, .loop, .die, .drv, .fan, .prog, .conv, .stitch, .energy,
      .lich, .therm, .safe, .inj, .log, .cnt, .se, .upd, .ho, .mem, .free] l) :
    Only l s (t.applyAll t' l') ↔ Only l s t := by
  refine Only.congr h ?_
  unfold State.applyAll
  repeat' first
    | with_reducible exact Only.rfl
    | exact Eq.refl true
    | with_reducible refine Only.each ?_ ?_
    | with_reducible intro _ _
    | with_reducible refine (State.actsLive_only _ ?_).2 ?_
    | with_reducible refine (State.applyOne_only _ _ _ ?_).2 ?_
    | with_reducible refine (State.cfgCapture_only _ ?_).2 ?_

@[simp] theorem State.golive_only {l : List Part} {s : State} (t : State) (t' : Nat)
    (h : Within [.clk, .sys, .pow, .ring, .frm, .auth, .run, .cfgs, .fe, .tab, .snap, .loop, .die, .drv, .fan, .prog, .conv, .stitch, .energy,
      .lich, .therm, .safe, .inj, .log, .cnt, .se, .upd, .ho, .mem, .free] l) :
    Only l s (t.golive t') ↔ Only l s t := by
  refine Only.congr h ?_
  unfold State.golive
  repeat' first
    | with_reducible exact Only.rfl
    | exact Eq.refl true
    | with_reducible intro _ _
    | with_reducible refine (State.applyAll_only _ _ _ ?_).2 ?_
    | with_reducible refine (State.mFrm_only _ _ ?_).2 ?_

theorem Only.foldl {α β : Type} {l : List Part} {s : State} {f : β → α → β} {g : β → State} (k : List α) (c : ∀ a x,
      Only l s (g a) → Only l s (g (f a x)))
    (a : β) (h : Only l s (g a)) : Only l s (g (k.foldl f a)) := by
  induction k generalizing a with
  | nil => exact h
  | cons x k ih => exact ih _ (c _ _ h)

theorem State.place_only {l : List Part} {s : State} (t : State) (k : List Order)
    (h : Within [.clk, .sys, .pow, .ring, .frm, .auth, .run, .cfgs, .fe, .tab, .snap, .loop, .die, .drv, .fan, .prog, .conv, .stitch, .energy,
      .lich, .therm, .safe, .inj, .log, .cnt, .se, .upd, .ho, .mem, .free] l) (c : Only l s t) :
    Only l s (t.place k).1 := by
  unfold State.place
  refine Only.foldl (g := fun a : State × List Placed => a.1) k ?_ _ c
  intro a o d
  dsimp only
  split
  · exact Order.run_only (Within.trans (by rfl) h) d
  · split <;> exact d

theorem mergeOne_only {l : List Part} {s : State} (t' : Nat) (k : List Placed) (a : State × State) (x : Placed × Nat)
    (h : Within [.clk, .sys, .pow, .ring, .frm, .auth, .run, .cfgs, .fe, .tab, .snap, .loop, .die, .drv, .fan, .prog, .conv, .stitch, .energy,
      .lich, .therm, .safe, .inj, .log, .cnt, .se, .upd, .ho, .mem, .free] l)
    (c : Only l s a.1) : Only l s (mergeOne t' k a x).1 := by
  have ha : ∀ (u : State) (o : Order) (st : Status) (d : List Byte) (b : Bool), Only l s u → Only l s (u.answer o st d b) := fun u o st d b e =>
    (State.answer_only u o st d b (Within.trans (by rfl) h)).2 e
  unfold mergeOne
  dsimp only
  split
  · exact ha _ _ _ _ _ c
  · split
    · exact ha _ _ _ _ _ c
    · split
      · exact (State.winAdmit_only _ _ (Within.trans (by rfl) h)).2
          (Only.free _ (Within.trans (by rfl) h) ((State.mFrm_only _ _ (Within.trans (by rfl) h)).2 c))
      · split
        · exact ha _ _ _ _ _ (Only.free _ (Within.trans (by rfl) h) ((State.mFrm_only _ _ (Within.trans (by rfl) h)).2 c))
        · exact ha _ _ _ _ _ (Only.free _ (Within.trans (by rfl) h) ((State.mFrm_only _ _ (Within.trans (by rfl) h)).2 c))

@[simp] theorem State.merge_only {l : List Part} {s : State} (t : State) (t' : Nat)
    (h : Within [.clk, .sys, .pow, .ring, .frm, .auth, .run, .cfgs, .fe, .tab, .snap, .loop, .die, .drv, .fan, .prog, .conv, .stitch, .energy,
      .lich, .therm, .safe, .inj, .log, .cnt, .se, .upd, .ho, .mem, .free] l) :
    Only l s (t.merge t') ↔ Only l s t := by
  refine Only.congr h ?_
  unfold State.merge
  dsimp only
  refine Only.foldl (g := fun a : State × State => a.1) _ (fun a x d => mergeOne_only _ _ a x (by rfl) d) _ ?_
  exact State.place_only _ _ (by rfl) ((State.mLich_only _ _ (by rfl)).2 ((State.mFrm_only _ _ (by rfl)).2 Only.rfl))

@[simp] theorem State.outputLatch_only {l : List Part} {s : State} (t : State) (t' : Nat)
    (h : Within [.clk, .sys, .pow, .ring, .frm, .auth, .run, .cfgs, .fe, .tab, .snap, .loop, .die, .drv, .fan, .prog, .conv, .stitch, .energy,
      .lich, .therm, .safe, .inj, .log, .cnt, .se, .upd, .ho, .mem, .free] l) :
    Only l s (t.outputLatch t') ↔ Only l s t := by
  refine Only.congr h ?_
  unfold State.outputLatch
  repeat' first
    | with_reducible exact Only.rfl
    | exact Eq.refl true
    | with_reducible refine Only.ite ?_ ?_
    | with_reducible intro _ _
    | with_reducible refine (State.golive_only _ _ ?_).2 ?_
    | with_reducible refine (State.mHo_only _ _ ?_).2 ?_
    | with_reducible refine (State.mSys_only _ _ ?_).2 ?_
    | with_reducible refine (State.missed_only _ ?_).2 ?_

@[simp] theorem State.processHeld_only {l : List Part} {s : State} (t : State) (t' : Nat)
    (h : Within [.clk, .sys, .loop, .drv, .fan, .prog, .energy, .safe, .log, .free] l) :
    Only l s (t.processHeld t') ↔ Only l s t := by
  refine Only.congr h ?_
  unfold State.processHeld
  repeat' first
    | with_reducible exact Only.rfl
    | exact Eq.refl true
    | with_reducible refine Only.ite ?_ ?_
    | with_reducible intro _ _
    | with_reducible refine (State.mSys_only _ _ ?_).2 ?_
    | with_reducible refine (State.processTick_only _ _ ?_).2 ?_

@[simp] theorem State.coreMs_only {l : List Part} {s : State} (t : State) (t' : Nat)
    (h : Within [.clk, .sys, .pow, .fe, .loop, .drv, .fan, .prog, .conv, .energy, .safe, .log, .free] l) :
    Only l s (t.coreMs t') ↔ Only l s t := by
  refine Only.congr h ?_
  unfold State.coreMs
  repeat' first
    | with_reducible exact Only.rfl
    | exact Eq.refl true
    | with_reducible intro _ _
    | with_reducible refine (State.convTick_only _ ?_).2 ?_
    | with_reducible refine (State.loopsTick_only _ _ ?_).2 ?_
    | with_reducible refine (State.pdReview_only _ ?_).2 ?_
    | with_reducible refine (State.processHeld_only _ _ ?_).2 ?_

@[simp] theorem State.tickWork_only {l : List Part} {s : State} (t : State) (t' : Nat)
    (h : Within [.clk, .sys, .pow, .ring, .frm, .auth, .run, .cfgs, .fe, .tab, .snap, .loop, .die, .drv, .fan, .prog, .conv, .stitch, .energy,
      .lich, .therm, .safe, .inj, .log, .cnt, .se, .upd, .ho, .mem, .free] l) :
    Only l s (t.tickWork t') ↔ Only l s t := by
  refine Only.congr h ?_
  unfold State.tickWork
  repeat' first
    | with_reducible exact Only.rfl
    | exact Eq.refl true
    | with_reducible refine Only.ite ?_ ?_
    | with_reducible intro _ _
    | with_reducible refine (State.coreMs_only _ _ ?_).2 ?_
    | with_reducible refine (State.fallbackTick_only _ ?_).2 ?_
    | with_reducible refine (State.hardMs_only _ _ _ ?_).2 ?_
    | with_reducible refine (State.hoTick_only _ _ ?_).2 ?_
    | with_reducible refine (State.mSys_only _ _ ?_).2 ?_
    | with_reducible refine (State.mTab_only _ _ ?_).2 ?_
    | with_reducible refine (State.merge_only _ _ ?_).2 ?_
    | with_reducible refine (State.outputLatch_only _ _ ?_).2 ?_
    | with_reducible refine (State.seenMs_only _ ?_).2 ?_

@[simp] theorem State.controlTick_only {l : List Part} {s : State} (t : State) (l' : List Meas)
    (h : Within [.clk, .sys, .pow, .ring, .frm, .auth, .run, .cfgs, .fe, .tab, .snap, .loop, .die, .drv, .fan, .prog, .conv, .stitch, .energy,
      .lich, .therm, .safe, .inj, .log, .cnt, .se, .upd, .ho, .mem, .free] l) :
    Only l s (t.controlTick l') ↔ Only l s t := by
  refine Only.congr h ?_
  unfold State.controlTick
  repeat' first
    | with_reducible exact Only.rfl
    | exact Eq.refl true
    | with_reducible refine Only.ite ?_ ?_
    | with_reducible refine Only.each ?_ ?_
    | with_reducible intro _ _
    | with_reducible refine (State.latchMeas_only _ _ ?_).2 ?_
    | with_reducible refine (State.mClk_only _ _ ?_).2 ?_
    | with_reducible refine (State.mLog_only _ _ ?_).2 ?_
    | with_reducible refine (State.tickWork_only _ _ ?_).2 ?_

@[simp] theorem State.dispatch_only {l : List Part} {s : State} (t : State) (f : Frame) (who : Sender) (x : Option Session)
    (h : Within [.clk, .sys, .pow, .ring, .frm, .auth, .run, .cfgs, .fe, .tab, .snap, .loop, .die, .drv, .fan, .prog, .conv, .stitch, .energy,
      .lich, .therm, .safe, .inj, .log, .cnt, .se, .upd, .ho, .mem, .free] l) :
    Only l s (t.dispatch f who x) ↔ Only l s t := by
  refine Only.congr h ?_
  unfold State.dispatch
  dsimp only
  split
  · refine Only.ite ((State.countFull_only _ (by rfl)).2 Only.rfl) ((State.served_only _ _ _ _ _ _ (by rfl)).2 Only.rfl)
  · split
    · refine (State.countFull_only _ (by rfl)).2 ?_
      cases b : Op.barred _ (f.req who) t with
      | none => exact Only.rfl
      | some r => exact Op.barred_only (by rfl) Only.rfl b
    · split
      · refine (State.served_only _ _ _ _ _ _ (by rfl)).2 ((State.mFrm_only _ _ (by rfl)).2 ?_)
        exact Op.screen_only (by rfl) ((State.mFrm_only _ _ (by rfl)).2 Only.rfl) ‹_›
      · refine Only.ite ((State.mFrm_only _ _ (by rfl)).2 Only.rfl) ?_
        exact (State.served_only _ _ _ _ _ _ (by rfl)).2 (Order.run_only (by rfl) Only.rfl)

theorem State.counterBad_only {l : List Part} {s t u : State} {f : Frame} {x : Option Session} {st : Status}
    (e : (x.bind fun y => t.counterBad f y) = some (st, u)) (h : Within [.auth] l) (c : Only l s t) : Only l s u := by
  cases x with
  | none => cases e
  | some y =>
    simp only [Option.bind_some, State.counterBad] at e
    split_ifs at e <;> cases e <;> exact (State.mAuth_only _ _ h).2 c

@[simp] theorem State.request_only {l : List Part} {s : State} (t : State) (l' : Lane) (b : List Byte)
    (h : Within [.clk, .sys, .pow, .ring, .frm, .auth, .run, .cfgs, .fe, .tab, .snap, .loop, .die, .drv, .fan, .prog, .conv, .stitch, .energy,
      .lich, .therm, .safe, .inj, .log, .cnt, .se, .upd, .ho, .mem, .free] l) :
    Only l s (t.request l' b) ↔ Only l s t := by
  refine Only.congr h ?_
  unfold State.request
  repeat' first
    | with_reducible exact Only.rfl
    | exact Eq.refl true
    | with_reducible refine Only.ite ?_ ?_
    | with_reducible intro _ _
    | with_reducible refine (State.dispatch_only _ _ _ _ ?_).2 ?_
    | with_reducible refine (State.mAuth_only _ _ ?_).2 ?_
    | with_reducible refine (State.mFrm_only _ _ ?_).2 ?_
    | with_reducible refine (State.noteValid_only _ _ ?_).2 ?_
    | with_reducible refine (State.reply_only _ _ _ ?_).2 ?_
    | with_reducible refine (State.rateCount_only _ _ ?_).2 ?_
    | with_reducible refine (State.refuse_only _ _ _ _ _ _ ?_).2 ?_
    | with_reducible refine (State.repeated_only _ _ _ _ _ ?_).2 ?_
    | with_reducible refine (State.tagFailed_only _ _ ?_).2 ?_
    | with_reducible refine (State.winEnter_only _ _ _ _ _ _ ?_).2 ?_
    | split
    | dsimp only
  refine State.counterBad_only ‹_› (by rfl) ?_
  exact Only.ite ((State.rateCount_only _ _ (by rfl)).2 ((State.noteValid_only _ _ (by rfl)).2 Only.rfl)) ((State.noteValid_only _ _ (by rfl)).2
    Only.rfl)

@[simp] theorem State.deliver_only {l : List Part} {s : State} (t : State) (p : PortId) (b : List Byte)
    (h : Within [.clk, .sys, .pow, .ring, .frm, .auth, .run, .cfgs, .fe, .tab, .snap, .loop, .die, .drv, .fan, .prog, .conv, .stitch, .energy,
      .lich, .therm, .safe, .inj, .log, .cnt, .se, .upd, .ho, .mem, .free] l) :
    Only l s (t.deliver p b) ↔ Only l s t := by
  refine Only.congr h ?_
  unfold State.deliver
  repeat' first
    | with_reducible exact Only.rfl
    | exact Eq.refl true
    | with_reducible refine Only.ite ?_ ?_
    | with_reducible intro _ _
    | with_reducible refine (State.request_only _ _ _ ?_).2 ?_
    | with_reducible refine (State.scDone_only _ _ ?_).2 ?_

@[simp] theorem State.ringFrame_only {l : List Part} {s : State} (t : State) (p : PortId) (b : List Byte) (ending : Ending)
    (h : Within [.clk, .sys, .pow, .ring, .frm, .auth, .run, .cfgs, .fe, .tab, .snap, .loop, .die, .drv, .fan, .prog, .conv, .stitch, .energy,
      .lich, .therm, .safe, .inj, .log, .cnt, .se, .upd, .ho, .mem, .free] l) :
    Only l s (t.ringFrame p b ending) ↔ Only l s t := by
  refine Only.congr h ?_
  unfold State.ringFrame
  repeat' first
    | with_reducible exact Only.rfl
    | exact Eq.refl true
    | with_reducible refine Only.ite ?_ ?_
    | with_reducible intro _ _
    | with_reducible refine (State.abortOn_only _ _ _ ?_).2 ?_
    | with_reducible refine (State.crcFails_only _ _ _ ?_).2 ?_
    | with_reducible refine (State.cutCopy_only _ _ _ _ ?_).2 ?_
    | with_reducible refine (State.deliver_only _ _ _ ?_).2 ?_
    | with_reducible refine (State.detected_only _ _ _ _ ?_).2 ?_
    | with_reducible refine (State.mFrm_only _ _ ?_).2 ?_
    | with_reducible refine (State.mInj_only _ _ ?_).2 ?_
    | with_reducible refine (State.onward_only _ _ _ ?_).2 ?_
    | with_reducible refine (State.turnedOn_only _ _ _ _ ?_).2 ?_
    | split

@[simp] theorem State.svcFrame_only {l : List Part} {s : State} (t : State) (b : List Byte) (ending : Ending)
    (h : Within [.clk, .sys, .pow, .ring, .frm, .auth, .run, .cfgs, .fe, .tab, .snap, .loop, .die, .drv, .fan, .prog, .conv, .stitch, .energy,
      .lich, .therm, .safe, .inj, .log, .cnt, .se, .upd, .ho, .mem, .free] l) :
    Only l s (t.svcFrame b ending) ↔ Only l s t := by
  refine Only.congr h ?_
  unfold State.svcFrame
  repeat' first
    | with_reducible exact Only.rfl
    | exact Eq.refl true
    | with_reducible refine Only.ite ?_ ?_
    | with_reducible intro _ _
    | with_reducible refine (State.mFrm_only _ _ ?_).2 ?_
    | with_reducible refine (State.request_only _ _ _ ?_).2 ?_
    | with_reducible refine (State.scDone_only _ _ ?_).2 ?_

end Sys2Proof.Machine
end

