-- ==== Sys2Proof/Laws/TouchCommands.lean ====
section
/-! SUPPORT. Every command answers a next state and changes only these parts of the state. -/

namespace Sys2Proof.Machine

theorem execTableRead_only (q : Req) (table : Byte) (s : State) : ∃ u, execTableRead q table s = .next u ∧ Only [.frm, .auth] s u := by
  refine ⟨_, rfl, ?_⟩
  repeat' first
    | with_reducible exact Only.rfl
    | exact Eq.refl true
    | with_reducible intro _ _ _
    | with_reducible intro _ _
    | with_reducible refine Op.serve_only ?_ ?_ ?_
    | with_reducible refine (tableRead_run _ _ _ _ ?_).2 ?_

theorem execTableWrite_only (q : Req) (table : Byte) (image : List Byte) (s : State) :
    ∃ u, execTableWrite q table image s = .next u ∧ Only [.frm, .auth, .tab] s u := by
  refine ⟨_, rfl, ?_⟩
  repeat' first
    | with_reducible exact Only.rfl
    | exact Eq.refl true
    | with_reducible intro _ _ _
    | with_reducible intro _ _
    | with_reducible refine Op.serve_only ?_ ?_ ?_
    | with_reducible refine (tableWrite_run _ _ _ _ _ ?_).2 ?_

theorem execTableErase_only (q : Req) (table : Byte) (s : State) : ∃ u, execTableErase q table s = .next u ∧ Only [.frm, .auth, .tab] s u := by
  refine ⟨_, rfl, ?_⟩
  repeat' first
    | with_reducible exact Only.rfl
    | exact Eq.refl true
    | with_reducible intro _ _ _
    | with_reducible intro _ _
    | with_reducible refine Op.serve_only ?_ ?_ ?_
    | with_reducible refine (tableErase_run _ _ _ _ ?_).2 ?_

theorem execLoopConfig_only (q : Req) (item : List Byte) (s : State) :
    ∃ u, execLoopConfig q item s = .next u ∧ Only [.frm, .auth, .run, .loop] s u := by
  refine ⟨_, rfl, ?_⟩
  repeat' first
    | with_reducible exact Only.rfl
    | exact Eq.refl true
    | with_reducible intro _ _ _
    | with_reducible intro _ _
    | with_reducible refine Op.serve_only ?_ ?_ ?_
    | with_reducible refine (loopConfig_run _ _ _ _ ?_).2 ?_

theorem execLoopSetSet_only (q : Req) (lo : Byte) (current : Half) (s : State) :
    ∃ u, execLoopSetSet q lo current s = .next u ∧ Only [.frm, .auth, .loop, .prog, .stitch] s u := by
  refine ⟨_, rfl, ?_⟩
  repeat' first
    | with_reducible exact Only.rfl
    | exact Eq.refl true
    | with_reducible intro _ _ _
    | with_reducible intro _ _
    | with_reducible refine Op.serve_only ?_ ?_ ?_
    | with_reducible refine (loopSet_run _ _ _ _ _ _ ?_).2 ?_

theorem execLoopSetClose_only (q : Req) (lo : Byte) (current : Half) (s : State) :
    ∃ u, execLoopSetClose q lo current s = .next u ∧ Only [.frm, .auth, .loop, .prog, .stitch] s u := by
  refine ⟨_, rfl, ?_⟩
  repeat' first
    | with_reducible exact Only.rfl
    | exact Eq.refl true
    | with_reducible intro _ _ _
    | with_reducible intro _ _
    | with_reducible refine Op.serve_only ?_ ?_ ?_
    | with_reducible refine (loopSet_run _ _ _ _ _ _ ?_).2 ?_

theorem execLoopSetResume_only (q : Req) (lo : Byte) (current : Half) (s : State) :
    ∃ u, execLoopSetResume q lo current s = .next u ∧ Only [.frm, .auth, .loop, .prog, .stitch] s u := by
  refine ⟨_, rfl, ?_⟩
  repeat' first
    | with_reducible exact Only.rfl
    | exact Eq.refl true
    | with_reducible intro _ _ _
    | with_reducible intro _ _
    | with_reducible refine Op.serve_only ?_ ?_ ?_
    | with_reducible refine (loopSet_run _ _ _ _ _ _ ?_).2 ?_

theorem execLoopStatus_only (q : Req) (lo : Byte) (count : Byte) (s : State) :
    ∃ u, execLoopStatus q lo count s = .next u ∧ Only [.frm, .auth] s u := by
  refine ⟨_, rfl, ?_⟩
  repeat' first
    | with_reducible exact Only.rfl
    | exact Eq.refl true
    | with_reducible intro _ _ _
    | with_reducible intro _ _
    | with_reducible refine Op.serve_only ?_ ?_ ?_
    | with_reducible refine (loopStatus_run _ _ _ _ _ ?_).2 ?_

theorem execLoopOpenDetect_only (dt : Nat) (lo : Fin 8) (s : State) :
    ∃ u, execLoopOpenDetect dt lo s = .next u ∧ Only [.clk, .loop, .inj, .log] s u := by
  refine ⟨_, rfl, ?_⟩
  repeat' first
    | with_reducible exact Only.rfl
    | exact Eq.refl true
    | with_reducible refine Only.ite ?_ ?_
    | with_reducible intro _ _
    | with_reducible refine (State.advance_only _ _ ?_).2 ?_
    | with_reducible refine (State.detected_only _ _ _ _ ?_).2 ?_
    | with_reducible refine (State.loopSpells_only _ ?_).2 ?_
    | with_reducible refine (State.mLo_only _ _ _ ?_).2 ?_

theorem execLoopShortDetect_only (dt : Nat) (lo : Fin 8) (s : State) :
    ∃ u, execLoopShortDetect dt lo s = .next u ∧ Only [.clk, .loop, .inj, .log] s u := by
  refine ⟨_, rfl, ?_⟩
  repeat' first
    | with_reducible exact Only.rfl
    | exact Eq.refl true
    | with_reducible refine Only.ite ?_ ?_
    | with_reducible intro _ _
    | with_reducible refine (State.advance_only _ _ ?_).2 ?_
    | with_reducible refine (State.detected_only _ _ _ _ ?_).2 ?_
    | with_reducible refine (State.loopSpells_only _ ?_).2 ?_
    | with_reducible refine (State.mLo_only _ _ _ ?_).2 ?_

theorem execLoopDevDetect_only (dt : Nat) (lo : Fin 8) (s : State) :
    ∃ u, execLoopDevDetect dt lo s = .next u ∧ Only [.clk, .loop, .inj, .log] s u := by
  refine ⟨_, rfl, ?_⟩
  repeat' first
    | with_reducible exact Only.rfl
    | exact Eq.refl true
    | with_reducible refine Only.ite ?_ ?_
    | with_reducible intro _ _
    | with_reducible refine (State.advance_only _ _ ?_).2 ?_
    | with_reducible refine (State.detected_only _ _ _ _ ?_).2 ?_
    | with_reducible refine (State.loopSpells_only _ ?_).2 ?_
    | with_reducible refine (State.mLo_only _ _ _ ?_).2 ?_

theorem execDrvCmdOn_only (q : Req) (ch : Byte) (arg : Half) (mask : Word) (s : State) :
    ∃ u, execDrvCmdOn q ch arg mask s = .next u ∧ Only [.frm, .auth, .drv, .prog, .stitch, .inj, .log] s u := by
  refine ⟨_, rfl, ?_⟩
  repeat' first
    | with_reducible exact Only.rfl
    | exact Eq.refl true
    | with_reducible intro _ _ _
    | with_reducible intro _ _
    | with_reducible refine Op.serve_only ?_ ?_ ?_
    | with_reducible refine (drvCmd_run _ _ _ _ _ _ _ ?_).2 ?_

theorem execDrvCmdPulse_only (q : Req) (ch : Byte) (arg : Half) (mask : Word) (s : State) :
    ∃ u, execDrvCmdPulse q ch arg mask s = .next u ∧ Only [.frm, .auth, .drv, .prog, .stitch, .inj, .log] s u := by
  refine ⟨_, rfl, ?_⟩
  repeat' first
    | with_reducible exact Only.rfl
    | exact Eq.refl true
    | with_reducible intro _ _ _
    | with_reducible intro _ _
    | with_reducible refine Op.serve_only ?_ ?_ ?_
    | with_reducible refine (drvCmd_run _ _ _ _ _ _ _ ?_).2 ?_

theorem execDrvCmdRelease_only (q : Req) (ch : Byte) (arg : Half) (mask : Word) (s : State) :
    ∃ u, execDrvCmdRelease q ch arg mask s = .next u ∧ Only [.frm, .auth, .drv, .prog, .stitch, .inj, .log] s u := by
  refine ⟨_, rfl, ?_⟩
  repeat' first
    | with_reducible exact Only.rfl
    | exact Eq.refl true
    | with_reducible intro _ _ _
    | with_reducible intro _ _
    | with_reducible refine Op.serve_only ?_ ?_ ?_
    | with_reducible refine (drvCmd_run _ _ _ _ _ _ _ ?_).2 ?_

theorem execDrvCmdSetI_only (q : Req) (ch : Byte) (arg : Half) (mask : Word) (s : State) :
    ∃ u, execDrvCmdSetI q ch arg mask s = .next u ∧ Only [.frm, .auth, .drv, .prog, .stitch, .inj, .log] s u := by
  refine ⟨_, rfl, ?_⟩
  repeat' first
    | with_reducible exact Only.rfl
    | exact Eq.refl true
    | with_reducible intro _ _ _
    | with_reducible intro _ _
    | with_reducible refine Op.serve_only ?_ ?_ ?_
    | with_reducible refine (drvCmd_run _ _ _ _ _ _ _ ?_).2 ?_

theorem execDrvCmdLatchA_only (q : Req) (ch : Byte) (arg : Half) (mask : Word) (s : State) :
    ∃ u, execDrvCmdLatchA q ch arg mask s = .next u ∧ Only [.frm, .auth, .drv, .prog, .stitch, .inj, .log] s u := by
  refine ⟨_, rfl, ?_⟩
  repeat' first
    | with_reducible exact Only.rfl
    | exact Eq.refl true
    | with_reducible intro _ _ _
    | with_reducible intro _ _
    | with_reducible refine Op.serve_only ?_ ?_ ?_
    | with_reducible refine (drvCmd_run _ _ _ _ _ _ _ ?_).2 ?_

theorem execDrvCmdLatchB_only (q : Req) (ch : Byte) (arg : Half) (mask : Word) (s : State) :
    ∃ u, execDrvCmdLatchB q ch arg mask s = .next u ∧ Only [.frm, .auth, .drv, .prog, .stitch, .inj, .log] s u := by
  refine ⟨_, rfl, ?_⟩
  repeat' first
    | with_reducible exact Only.rfl
    | exact Eq.refl true
    | with_reducible intro _ _ _
    | with_reducible intro _ _
    | with_reducible refine Op.serve_only ?_ ?_ ?_
    | with_reducible refine (drvCmd_run _ _ _ _ _ _ _ ?_).2 ?_

theorem execDrvCmdReleaseMask_only (q : Req) (ch : Byte) (arg : Half) (mask : Word) (s : State) :
    ∃ u, execDrvCmdReleaseMask q ch arg mask s = .next u ∧ Only [.frm, .auth, .drv, .prog, .stitch, .inj, .log] s u := by
  refine ⟨_, rfl, ?_⟩
  repeat' first
    | with_reducible exact Only.rfl
    | exact Eq.refl true
    | with_reducible intro _ _ _
    | with_reducible intro _ _
    | with_reducible refine Op.serve_only ?_ ?_ ?_
    | with_reducible refine (drvCmd_run _ _ _ _ _ _ _ ?_).2 ?_

theorem execDrvProfile_only (q : Req) (item : List Byte) (s : State) :
    ∃ u, execDrvProfile q item s = .next u ∧ Only [.frm, .auth, .run, .drv] s u := by
  refine ⟨_, rfl, ?_⟩
  repeat' first
    | with_reducible exact Only.rfl
    | exact Eq.refl true
    | with_reducible intro _ _ _
    | with_reducible intro _ _
    | with_reducible refine Op.serve_only ?_ ?_ ?_
    | with_reducible refine (drvProfile_run _ _ _ _ ?_).2 ?_

theorem execDrvStatus_only (q : Req) (ch : Byte) (count : Byte) (s : State) : ∃ u, execDrvStatus q ch count s = .next u ∧ Only [.frm, .auth] s u := by
  refine ⟨_, rfl, ?_⟩
  repeat' first
    | with_reducible exact Only.rfl
    | exact Eq.refl true
    | with_reducible intro _ _ _
    | with_reducible intro _ _
    | with_reducible refine Op.serve_only ?_ ?_ ?_
    | with_reducible refine (drvStatus_run _ _ _ _ _ ?_).2 ?_

theorem execDrvEnergy_only (q : Req) (ch : Byte) (count : Byte) (s : State) : ∃ u, execDrvEnergy q ch count s = .next u ∧ Only [.frm, .auth] s u := by
  refine ⟨_, rfl, ?_⟩
  repeat' first
    | with_reducible exact Only.rfl
    | exact Eq.refl true
    | with_reducible intro _ _ _
    | with_reducible intro _ _
    | with_reducible refine Op.serve_only ?_ ?_ ?_
    | with_reducible refine (drvEnergy_run _ _ _ _ _ ?_).2 ?_

theorem execDrvPair_only (q : Req) (ch : Byte) (s : State) : ∃ u, execDrvPair q ch s = .next u ∧ Only [.frm, .auth, .run, .drv] s u := by
  refine ⟨_, rfl, ?_⟩
  repeat' first
    | with_reducible exact Only.rfl
    | exact Eq.refl true
    | with_reducible intro _ _ _
    | with_reducible intro _ _
    | with_reducible refine Op.serve_only ?_ ?_ ?_
    | with_reducible refine (drvPair_run _ _ _ _ _ ?_).2 ?_

theorem execDrvUnpair_only (q : Req) (ch : Byte) (s : State) : ∃ u, execDrvUnpair q ch s = .next u ∧ Only [.frm, .auth, .run, .drv] s u := by
  refine ⟨_, rfl, ?_⟩
  repeat' first
    | with_reducible exact Only.rfl
    | exact Eq.refl true
    | with_reducible intro _ _ _
    | with_reducible intro _ _
    | with_reducible refine Op.serve_only ?_ ?_ ?_
    | with_reducible refine (drvPair_run _ _ _ _ _ ?_).2 ?_

theorem execDrvBudget_only (q : Req) (budget : Half) (s : State) : ∃ u, execDrvBudget q budget s = .next u ∧ Only [.frm, .auth, .run, .drv] s u := by
  refine ⟨_, rfl, ?_⟩
  repeat' first
    | with_reducible exact Only.rfl
    | exact Eq.refl true
    | with_reducible intro _ _ _
    | with_reducible intro _ _
    | with_reducible refine Op.serve_only ?_ ?_ ?_
    | with_reducible refine (drvBudget_run _ _ _ _ ?_).2 ?_

theorem execRisePeakReached_only (dt : Nat) (n : Fin 32) (points : Option (Nat × Nat × Nat × Nat)) (vRes : Nat) (s : State) :
    ∃ u, execRisePeakReached dt n points vRes s = .next u ∧ Only [.clk, .drv, .inj, .log] s u := by
  refine ⟨_, rfl, ?_⟩
  repeat' first
    | with_reducible exact Only.rfl
    | exact Eq.refl true
    | with_reducible refine Only.ite ?_ ?_
    | with_reducible intro _ _
    | with_reducible refine (State.advance_only _ _ ?_).2 ?_
    | with_reducible refine (State.endRise_only _ _ _ _ _ ?_).2 ?_
    | with_reducible refine (State.findShort_only _ _ _ _ _ ?_).2 ?_

theorem execTBoostMaxExpire_only (dt : Nat) (n : Fin 32) (iHs : Nat) (iLs : Nat) (points : Option (Nat × Nat × Nat × Nat)) (vRes : Nat) (s : State) :
    ∃ u, execTBoostMaxExpire dt n iHs iLs points vRes s = .next u ∧ Only [.clk, .drv] s u := by
  refine ⟨_, rfl, ?_⟩
  repeat' first
    | with_reducible exact Only.rfl
    | exact Eq.refl true
    | with_reducible refine Only.ite ?_ ?_
    | with_reducible intro _ _
    | with_reducible refine (State.advance_only _ _ ?_).2 ?_
    | with_reducible refine (State.endRise_only _ _ _ _ _ ?_).2 ?_
    | with_reducible refine (State.mDiag_only _ _ _ ?_).2 ?_
    | with_reducible refine (State.mDrvCh_only _ _ _ ?_).2 ?_
    | with_reducible refine (State.release_only _ _ _ ?_).2 ?_

theorem execDwellEnd_only (dt : Nat) (n : Fin 32) (held : Bool) (energy : Nat) (s : State) :
    ∃ u, execDwellEnd dt n held energy s = .next u ∧ Only [.clk, .drv, .inj, .log] s u := by
  refine ⟨_, rfl, ?_⟩
  repeat' first
    | with_reducible exact Only.rfl
    | exact Eq.refl true
    | with_reducible refine Only.ite ?_ ?_
    | with_reducible intro _ _
    | with_reducible refine (State.advance_only _ _ ?_).2 ?_
    | with_reducible refine (State.detected_only _ _ _ _ ?_).2 ?_
    | with_reducible refine (State.mDiag_only _ _ _ ?_).2 ?_
    | with_reducible refine (State.mDrvCh_only _ _ _ ?_).2 ?_
    | with_reducible refine (State.toPhase_only _ _ _ ?_).2 ?_

theorem execDecayEnd_only (dt : Nat) (n : Fin 32) (s : State) : ∃ u, execDecayEnd dt n s = .next u ∧ Only [.clk, .drv] s u := by
  refine ⟨_, rfl, ?_⟩
  repeat' first
    | with_reducible exact Only.rfl
    | exact Eq.refl true
    | with_reducible refine Only.ite ?_ ?_
    | with_reducible intro _ _
    | with_reducible refine (State.advance_only _ _ ?_).2 ?_
    | with_reducible refine (State.release_only _ _ _ ?_).2 ?_
    | with_reducible refine (State.toPhase_only _ _ _ ?_).2 ?_

theorem execPulseEnd_only (dt : Nat) (n : Fin 32) (s : State) : ∃ u, execPulseEnd dt n s = .next u ∧ Only [.clk, .drv] s u := by
  refine ⟨_, rfl, ?_⟩
  repeat' first
    | with_reducible exact Only.rfl
    | exact Eq.refl true
    | with_reducible refine Only.ite ?_ ?_
    | with_reducible intro _ _
    | with_reducible refine (State.advance_only _ _ ?_).2 ?_
    | with_reducible refine (State.mDrvCh_only _ _ _ ?_).2 ?_
    | with_reducible refine (State.release_only _ _ _ ?_).2 ?_
    | split

theorem execTHoldMaxExpire_only (dt : Nat) (n : Fin 32) (s : State) : ∃ u, execTHoldMaxExpire dt n s = .next u ∧ Only [.clk, .drv] s u := by
  refine ⟨_, rfl, ?_⟩
  repeat' first
    | with_reducible exact Only.rfl
    | exact Eq.refl true
    | with_reducible refine Only.ite ?_ ?_
    | with_reducible intro _ _
    | with_reducible refine (State.advance_only _ _ ?_).2 ?_
    | with_reducible refine (State.mDrvCh_only _ _ _ ?_).2 ?_
    | with_reducible refine (State.release_only _ _ _ ?_).2 ?_

theorem execReleaseEnd_only (dt : Nat) (n : Fin 32) (x : Released) (s : State) :
    ∃ u, execReleaseEnd dt n x s = .next u ∧ Only [.clk, .drv, .energy, .inj, .log] s u := by
  refine ⟨_, rfl, ?_⟩
  repeat' first
    | with_reducible exact Only.rfl
    | exact Eq.refl true
    | with_reducible refine Only.ite ?_ ?_
    | with_reducible intro _ _
    | with_reducible refine (State.actDone_only _ _ _ ?_).2 ?_
    | with_reducible refine (State.advance_only _ _ ?_).2 ?_
    | with_reducible refine (State.chargeReview_only _ ?_).2 ?_
    | with_reducible refine (State.meterRelease_only _ _ ?_).2 ?_
    | with_reducible refine (State.refit_only _ _ _ _ _ ?_).2 ?_
    | with_reducible refine (State.toFault_only _ _ _ ?_).2 ?_
    | with_reducible refine (State.toPhase_only _ _ _ ?_).2 ?_

theorem execPairReverseRise_only (dt : Nat) (n : Fin 32) (s : State) : ∃ u, execPairReverseRise dt n s = .next u ∧ Only [.clk, .drv] s u := by
  refine ⟨_, rfl, ?_⟩
  repeat' first
    | with_reducible exact Only.rfl
    | exact Eq.refl true
    | with_reducible refine Only.ite ?_ ?_
    | with_reducible intro _ _
    | with_reducible refine (State.advance_only _ _ ?_).2 ?_
    | with_reducible refine (State.mDrvCh_only _ _ _ ?_).2 ?_
    | with_reducible refine (State.startRise_only _ _ ?_).2 ?_

theorem execReservoirCharged_only (dt : Nat) (n : Fin 32) (vRes : Nat) (s : State) :
    ∃ u, execReservoirCharged dt n vRes s = .next u ∧ Only [.clk, .drv] s u := by
  refine ⟨_, rfl, ?_⟩
  repeat' first
    | with_reducible exact Only.rfl
    | exact Eq.refl true
    | with_reducible refine Only.ite ?_ ?_
    | with_reducible intro _ _
    | with_reducible refine (State.advance_only _ _ ?_).2 ?_
    | with_reducible refine (State.chargeReview_only _ ?_).2 ?_
    | with_reducible refine (State.mDrvCh_only _ _ _ ?_).2 ?_

theorem execBoostOrderReview_only (dt : Nat) (s : State) : ∃ u, execBoostOrderReview dt s = .next u ∧ Only [.clk, .drv] s u := by
  refine ⟨_, rfl, ?_⟩
  repeat' first
    | with_reducible exact Only.rfl
    | exact Eq.refl true
    | with_reducible intro _ _
    | with_reducible refine (State.advance_only _ _ ?_).2 ?_
    | with_reducible refine (State.chargeReview_only _ ?_).2 ?_

theorem execOffStateSample_only (dt : Nat) (ch : Fin 32) (vDh : Nat) (vDl : Nat) (s : State) :
    ∃ u, execOffStateSample dt ch vDh vDl s = .next u ∧ Only [.clk, .loop, .drv, .prog, .safe, .inj, .log, .cnt] s u := by
  refine ⟨_, rfl, ?_⟩
  repeat' first
    | with_reducible exact Only.rfl
    | exact Eq.refl true
    | with_reducible intro _ _
    | with_reducible refine (State.advance_only _ _ ?_).2 ?_
    | with_reducible refine (State.offSample_only _ _ _ _ ?_).2 ?_

theorem execDrvShortSupDetect_only (dt : Nat) (ch : Fin 32) (x : Sense) (s : State) :
    ∃ u, execDrvShortSupDetect dt ch x s = .next u ∧ Only [.clk, .loop, .drv, .prog, .safe, .inj, .log, .cnt] s u := by
  refine ⟨_, rfl, ?_⟩
  repeat' first
    | with_reducible exact Only.rfl
    | exact Eq.refl true
    | with_reducible intro _ _
    | with_reducible refine (State.advance_only _ _ ?_).2 ?_
    | with_reducible refine (State.onShort_only _ _ _ _ ?_).2 ?_

theorem execDrvShortLoadDetect_only (dt : Nat) (ch : Fin 32) (x : Sense) (s : State) :
    ∃ u, execDrvShortLoadDetect dt ch x s = .next u ∧ Only [.clk, .loop, .drv, .prog, .safe, .inj, .log, .cnt] s u := by
  refine ⟨_, rfl, ?_⟩
  repeat' first
    | with_reducible exact Only.rfl
    | exact Eq.refl true
    | with_reducible intro _ _
    | with_reducible refine (State.advance_only _ _ ?_).2 ?_
    | with_reducible refine (State.onShort_only _ _ _ _ ?_).2 ?_

theorem execDrvShortGndDetect_only (dt : Nat) (ch : Fin 32) (x : Sense) (s : State) :
    ∃ u, execDrvShortGndDetect dt ch x s = .next u ∧ Only [.clk, .loop, .drv, .prog, .safe, .inj, .log, .cnt] s u := by
  refine ⟨_, rfl, ?_⟩
  repeat' first
    | with_reducible exact Only.rfl
    | exact Eq.refl true
    | with_reducible intro _ _
    | with_reducible refine (State.advance_only _ _ ?_).2 ?_
    | with_reducible refine (State.onShort_only _ _ _ _ ?_).2 ?_

theorem execDrvOpenDetect_only (dt : Nat) (ch : Fin 32) (ma : Nat) (ns : Nat) (full : Bool) (s : State) :
    ∃ u, execDrvOpenDetect dt ch ma ns full s = .next u ∧ Only [.clk, .drv] s u := by
  refine ⟨_, rfl, ?_⟩
  repeat' first
    | with_reducible exact Only.rfl
    | exact Eq.refl true
    | with_reducible intro _ _
    | with_reducible refine (State.advance_only _ _ ?_).2 ?_
    | with_reducible refine (State.onOpen_only _ _ _ _ _ ?_).2 ?_

theorem execBoostWaitReady_only (dt : Nat) (ch : Fin 32) (vRes : Nat) (s : State) :
    ∃ u, execBoostWaitReady dt ch vRes s = .next u ∧ Only [.clk, .drv] s u := by
  refine ⟨_, rfl, ?_⟩
  repeat' first
    | with_reducible exact Only.rfl
    | exact Eq.refl true
    | with_reducible refine Only.ite ?_ ?_
    | with_reducible intro _ _
    | with_reducible refine (State.advance_only _ _ ?_).2 ?_
    | with_reducible refine (State.mDrvCh_only _ _ _ ?_).2 ?_
    | with_reducible refine (State.waitOver_only _ _ ?_).2 ?_

theorem execTBoostWaitExpire_only (dt : Nat) (ch : Fin 32) (s : State) : ∃ u, execTBoostWaitExpire dt ch s = .next u ∧ Only [.clk, .drv] s u := by
  refine ⟨_, rfl, ?_⟩
  repeat' first
    | with_reducible exact Only.rfl
    | exact Eq.refl true
    | with_reducible refine Only.ite ?_ ?_
    | with_reducible intro _ _
    | with_reducible refine (State.advance_only _ _ ?_).2 ?_
    | with_reducible refine (State.waitOver_only _ _ ?_).2 ?_

theorem execDrvOvertemp_only (dt : Nat) (ch : Fin 32) (tj : Int) (s : State) :
    ∃ u, execDrvOvertemp dt ch tj s = .next u ∧ Only [.clk, .drv, .inj, .log] s u := by
  refine ⟨_, rfl, ?_⟩
  repeat' first
    | with_reducible exact Only.rfl
    | exact Eq.refl true
    | with_reducible refine Only.ite ?_ ?_
    | with_reducible intro _ _
    | with_reducible refine (State.advance_only _ _ ?_).2 ?_
    | with_reducible refine (State.mDiag_only _ _ _ ?_).2 ?_
    | with_reducible refine (State.overtemp_only _ _ ?_).2 ?_

theorem execDrvOvertempRecover_only (dt : Nat) (ch : Fin 32) (tj : Int) (s : State) :
    ∃ u, execDrvOvertempRecover dt ch tj s = .next u ∧ Only [.clk, .drv] s u := by
  refine ⟨_, rfl, ?_⟩
  repeat' first
    | with_reducible exact Only.rfl
    | exact Eq.refl true
    | with_reducible refine Only.ite ?_ ?_
    | with_reducible intro _ _
    | with_reducible refine (State.advance_only _ _ ?_).2 ?_
    | with_reducible refine (State.leaveFault_only _ _ ?_).2 ?_
    | with_reducible refine (State.mDiag_only _ _ _ ?_).2 ?_

theorem execLegConflictDetect_only (dt : Nat) (ch : Fin 32) (s : State) :
    ∃ u, execLegConflictDetect dt ch s = .next u ∧ Only [.clk, .drv, .inj, .log] s u := by
  refine ⟨_, rfl, ?_⟩
  repeat' first
    | with_reducible exact Only.rfl
    | exact Eq.refl true
    | with_reducible refine Only.ite ?_ ?_
    | with_reducible intro _ _
    | with_reducible refine (State.advance_only _ _ ?_).2 ?_
    | with_reducible refine (State.legConflict_only _ _ ?_).2 ?_

theorem execDrvRetryTimer_only (dt : Nat) (ch : Fin 32) (s : State) : ∃ u, execDrvRetryTimer dt ch s = .next u ∧ Only [.clk, .drv, .log] s u := by
  refine ⟨_, rfl, ?_⟩
  repeat' first
    | with_reducible exact Only.rfl
    | exact Eq.refl true
    | with_reducible refine Only.ite ?_ ?_
    | with_reducible intro _ _
    | with_reducible refine (State.advance_only _ _ ?_).2 ?_
    | with_reducible refine (State.retry_only _ _ ?_).2 ?_
    | split

theorem execDrvRetryRestore_only (dt : Nat) (ch : Fin 32) (s : State) : ∃ u, execDrvRetryRestore dt ch s = .next u ∧ Only [.clk, .drv] s u := by
  refine ⟨_, rfl, ?_⟩
  repeat' first
    | with_reducible exact Only.rfl
    | exact Eq.refl true
    | with_reducible refine Only.ite ?_ ?_
    | with_reducible intro _ _
    | with_reducible refine (State.advance_only _ _ ?_).2 ?_
    | with_reducible refine (State.mDiag_only _ _ _ ?_).2 ?_

theorem execDrvDiagConfig_only (q : Req) (ch : Byte) (offEn : Byte) (retryMode : Byte) (retryMax : Byte) (retryT : Byte) (pfLimit : Byte) (s : State) :
    ∃ u, execDrvDiagConfig q ch offEn retryMode retryMax retryT pfLimit s = .next u ∧ Only [.frm, .auth, .run, .drv] s u := by
  refine ⟨_, rfl, ?_⟩
  repeat' first
    | with_reducible exact Only.rfl
    | exact Eq.refl true
    | with_reducible intro _ _ _
    | with_reducible intro _ _
    | with_reducible refine Op.serve_only ?_ ?_ ?_
    | with_reducible refine (drvDiagConfig_run _ _ _ _ _ _ _ _ _ ?_).2 ?_

theorem execDrvDiagDirect_only (q : Req) (ch : Byte) (sw : Byte) (dur : Byte) (s : State) :
    ∃ u, execDrvDiagDirect q ch sw dur s = .next u ∧ Only [.frm, .auth, .drv, .free] s u := by
  refine ⟨_, rfl, ?_⟩
  repeat' first
    | with_reducible exact Only.rfl
    | exact Eq.refl true
    | with_reducible intro _ _ _
    | with_reducible intro _ _
    | with_reducible refine Op.serve_only ?_ ?_ ?_
    | with_reducible refine (drvDiagDirect_run _ _ _ _ _ _ ?_).2 ?_

theorem execDirectDriveEnd_only (dt : Nat) (ch : Fin 32) (peak : Nat) (s : State) :
    ∃ u, execDirectDriveEnd dt ch peak s = .next u ∧ Only [.clk, .drv] s u := by
  refine ⟨_, rfl, ?_⟩
  repeat' first
    | with_reducible exact Only.rfl
    | exact Eq.refl true
    | with_reducible refine Only.ite ?_ ?_
    | with_reducible intro _ _
    | with_reducible refine (State.advance_only _ _ ?_).2 ?_
    | with_reducible refine (State.chargeReview_only _ ?_).2 ?_
    | with_reducible refine (State.mDiag_only _ _ _ ?_).2 ?_
    | with_reducible refine (State.toPhase_only _ _ _ ?_).2 ?_
    | split

theorem execDrvFaultClear_only (q : Req) (mask : Word) (flags : Byte) (s : State) :
    ∃ u, execDrvFaultClear q mask flags s = .next u ∧ Only [.frm, .auth, .drv] s u := by
  refine ⟨_, rfl, ?_⟩
  repeat' first
    | with_reducible exact Only.rfl
    | exact Eq.refl true
    | with_reducible intro _ _ _
    | with_reducible intro _ _
    | with_reducible refine Op.serve_only ?_ ?_ ?_
    | with_reducible refine (drvFaultClear_run _ _ _ _ _ ?_).2 ?_

theorem execFanTargetForm_only (dt : Nat) (s : State) : ∃ u, execFanTargetForm dt s = .next u ∧ Only [.clk, .fan, .log] s u := by
  refine ⟨_, rfl, ?_⟩
  repeat' first
    | with_reducible exact Only.rfl
    | exact Eq.refl true
    | with_reducible refine Only.ite ?_ ?_
    | with_reducible refine Only.each ?_ ?_
    | with_reducible intro _ _
    | with_reducible refine (State.advance_only _ _ ?_).2 ?_
    | with_reducible refine (State.fanMs_only _ _ ?_).2 ?_
    | with_reducible refine (State.mFan_only _ _ ?_).2 ?_

theorem execFanSpinUpEnd_only (dt : Nat) (ch : Fin 12) (s : State) : ∃ u, execFanSpinUpEnd dt ch s = .next u ∧ Only [.clk, .fan, .inj, .log] s u := by
  refine ⟨_, rfl, ?_⟩
  repeat' first
    | with_reducible exact Only.rfl
    | exact Eq.refl true
    | with_reducible refine Only.ite ?_ ?_
    | with_reducible intro _ _
    | with_reducible refine (State.advance_only _ _ ?_).2 ?_
    | with_reducible refine (State.fanEval_only _ _ ?_).2 ?_
    | with_reducible refine (State.fanStall_only _ _ ?_).2 ?_
    | with_reducible refine (State.fanTo_only _ _ _ ?_).2 ?_

theorem execFanStallDetect_only (dt : Nat) (ch : Fin 12) (s : State) :
    ∃ u, execFanStallDetect dt ch s = .next u ∧ Only [.clk, .fan, .inj, .log] s u := by
  refine ⟨_, rfl, ?_⟩
  repeat' first
    | with_reducible exact Only.rfl
    | exact Eq.refl true
    | with_reducible refine Only.ite ?_ ?_
    | with_reducible intro _ _
    | with_reducible refine (State.advance_only _ _ ?_).2 ?_
    | with_reducible refine (State.fanEval_only _ _ ?_).2 ?_
    | with_reducible refine (State.fanStall_only _ _ ?_).2 ?_

theorem execFanRetryTimer_only (dt : Nat) (ch : Fin 12) (s : State) : ∃ u, execFanRetryTimer dt ch s = .next u ∧ Only [.clk, .fan, .log] s u := by
  refine ⟨_, rfl, ?_⟩
  repeat' first
    | with_reducible exact Only.rfl
    | exact Eq.refl true
    | with_reducible refine Only.ite ?_ ?_
    | with_reducible intro _ _
    | with_reducible refine (State.advance_only _ _ ?_).2 ?_
    | with_reducible refine (State.fanRetryNow_only _ _ ?_).2 ?_

theorem execFanRetryRestore_only (dt : Nat) (ch : Fin 12) (s : State) : ∃ u, execFanRetryRestore dt ch s = .next u ∧ Only [.clk, .fan] s u := by
  refine ⟨_, rfl, ?_⟩
  repeat' first
    | with_reducible exact Only.rfl
    | exact Eq.refl true
    | with_reducible refine Only.ite ?_ ?_
    | with_reducible intro _ _
    | with_reducible refine (State.advance_only _ _ ?_).2 ?_
    | with_reducible refine (State.mFanCh_only _ _ _ ?_).2 ?_

theorem execFanElectricalFault_only (dt : Nat) (ch : Fin 12) (what : FanElec) (s : State) :
    ∃ u, execFanElectricalFault dt ch what s = .next u ∧ Only [.clk, .fan, .inj, .log] s u := by
  refine ⟨_, rfl, ?_⟩
  repeat' first
    | with_reducible exact Only.rfl
    | exact Eq.refl true
    | with_reducible refine Only.ite ?_ ?_
    | with_reducible intro _ _
    | with_reducible refine (State.advance_only _ _ ?_).2 ?_
    | with_reducible refine (State.detected_only _ _ _ _ ?_).2 ?_
    | with_reducible refine (State.fanFault_only _ _ _ ?_).2 ?_
    | with_reducible refine (State.mFanCh_only _ _ _ ?_).2 ?_
    | split

theorem execFanOvertempRecover_only (dt : Nat) (ch : Fin 12) (tj : Int) (s : State) :
    ∃ u, execFanOvertempRecover dt ch tj s = .next u ∧ Only [.clk, .fan] s u := by
  refine ⟨_, rfl, ?_⟩
  repeat' first
    | with_reducible exact Only.rfl
    | exact Eq.refl true
    | with_reducible refine Only.ite ?_ ?_
    | with_reducible intro _ _
    | with_reducible refine (State.advance_only _ _ ?_).2 ?_
    | with_reducible refine (State.fanTo_only _ _ _ ?_).2 ?_
    | with_reducible refine (State.mFanCh_only _ _ _ ?_).2 ?_

theorem execFanFailoverExit_only (dt : Nat) (group : Fin 4) (s : State) : ∃ u, execFanFailoverExit dt group s = .next u ∧ Only [.clk, .fan] s u := by
  refine ⟨_, rfl, ?_⟩
  repeat' first
    | with_reducible exact Only.rfl
    | exact Eq.refl true
    | with_reducible refine Only.ite ?_ ?_
    | with_reducible intro _ _
    | with_reducible refine (State.advance_only _ _ ?_).2 ?_
    | with_reducible refine (State.mFanGrp_only _ _ _ ?_).2 ?_

theorem execAirOkUpdate_only (dt : Nat) (s : State) : ∃ u, execAirOkUpdate dt s = .next u ∧ Only [.clk, .fan] s u := by
  refine ⟨_, rfl, ?_⟩
  repeat' first
    | with_reducible exact Only.rfl
    | exact Eq.refl true
    | with_reducible refine Only.each ?_ ?_
    | with_reducible intro _ _
    | with_reducible refine (State.advance_only _ _ ?_).2 ?_
    | with_reducible refine (State.airUpdate_only _ ?_).2 ?_
    | with_reducible refine (State.fanEval_only _ _ ?_).2 ?_

theorem execShootBlockDetect_only (dt : Nat) (ch : Fin 12) (s : State) :
    ∃ u, execShootBlockDetect dt ch s = .next u ∧ Only [.clk, .fan, .inj, .log] s u := by
  refine ⟨_, rfl, ?_⟩
  repeat' first
    | with_reducible exact Only.rfl
    | exact Eq.refl true
    | with_reducible refine Only.ite ?_ ?_
    | with_reducible intro _ _
    | with_reducible refine (State.advance_only _ _ ?_).2 ?_
    | with_reducible refine (State.detected_only _ _ _ _ ?_).2 ?_
    | with_reducible refine (State.fanFault_only _ _ _ ?_).2 ?_
    | with_reducible refine (State.mFanCh_only _ _ _ ?_).2 ?_

theorem execTachEdge_only (dt : Nat) (ch : Fin 12) (s : State) : ∃ u, execTachEdge dt ch s = .next u ∧ Only [.clk, .fan] s u := by
  refine ⟨_, rfl, ?_⟩
  repeat' first
    | with_reducible exact Only.rfl
    | exact Eq.refl true
    | with_reducible refine Only.ite ?_ ?_
    | with_reducible intro _ _
    | with_reducible refine (State.advance_only _ _ ?_).2 ?_
    | with_reducible refine (State.mFanCh_only _ _ _ ?_).2 ?_

theorem execFanCmdSet_only (q : Req) (ch : Byte) (arg : Half) (mask : Half) (s : State) :
    ∃ u, execFanCmdSet q ch arg mask s = .next u ∧ Only [.frm, .auth, .fan] s u := by
  refine ⟨_, rfl, ?_⟩
  repeat' first
    | with_reducible exact Only.rfl
    | exact Eq.refl true
    | with_reducible intro _ _ _
    | with_reducible intro _ _
    | with_reducible refine Op.serve_only ?_ ?_ ?_
    | with_reducible refine (fanCmd_run _ _ _ _ _ _ _ ?_).2 ?_

theorem execFanCmdFailover_only (q : Req) (ch : Byte) (arg : Half) (mask : Half) (s : State) :
    ∃ u, execFanCmdFailover q ch arg mask s = .next u ∧ Only [.frm, .auth, .fan] s u := by
  refine ⟨_, rfl, ?_⟩
  repeat' first
    | with_reducible exact Only.rfl
    | exact Eq.refl true
    | with_reducible intro _ _ _
    | with_reducible intro _ _
    | with_reducible refine Op.serve_only ?_ ?_ ?_
    | with_reducible refine (fanCmd_run _ _ _ _ _ _ _ ?_).2 ?_

theorem execFanCmdResume_only (q : Req) (ch : Byte) (arg : Half) (mask : Half) (s : State) :
    ∃ u, execFanCmdResume q ch arg mask s = .next u ∧ Only [.frm, .auth, .fan] s u := by
  refine ⟨_, rfl, ?_⟩
  repeat' first
    | with_reducible exact Only.rfl
    | exact Eq.refl true
    | with_reducible intro _ _ _
    | with_reducible intro _ _
    | with_reducible refine Op.serve_only ?_ ?_ ?_
    | with_reducible refine (fanCmd_run _ _ _ _ _ _ _ ?_).2 ?_

theorem execFanConfig_only (q : Req) (item : List Byte) (s : State) :
    ∃ u, execFanConfig q item s = .next u ∧ Only [.frm, .auth, .run, .fan, .log] s u := by
  refine ⟨_, rfl, ?_⟩
  repeat' first
    | with_reducible exact Only.rfl
    | exact Eq.refl true
    | with_reducible intro _ _ _
    | with_reducible intro _ _
    | with_reducible refine Op.serve_only ?_ ?_ ?_
    | with_reducible refine (fanConfig_run _ _ _ _ ?_).2 ?_

theorem execFanTable_only (q : Req) (tnum : Byte) (image : List Byte) (s : State) :
    ∃ u, execFanTable q tnum image s = .next u ∧ Only [.frm, .auth, .fan] s u := by
  refine ⟨_, rfl, ?_⟩
  repeat' first
    | with_reducible exact Only.rfl
    | exact Eq.refl true
    | with_reducible intro _ _ _
    | with_reducible intro _ _
    | with_reducible refine Op.serve_only ?_ ?_ ?_
    | with_reducible refine (fanTable_run _ _ _ _ _ ?_).2 ?_

theorem execFanGroup_only (q : Req) (group : Byte) (members : Half) (nAir : Byte) (foDuty : Half) (foHold : Byte) (pad : Byte) (s : State) :
    ∃ u, execFanGroup q group members nAir foDuty foHold pad s = .next u ∧ Only [.frm, .auth, .run, .fan] s u := by
  refine ⟨_, rfl, ?_⟩
  repeat' first
    | with_reducible exact Only.rfl
    | exact Eq.refl true
    | with_reducible intro _ _ _
    | with_reducible intro _ _
    | with_reducible refine Op.serve_only ?_ ?_ ?_
    | with_reducible refine (fanGroup_run _ _ _ _ _ _ _ _ _ ?_).2 ?_

theorem execFanStatus_only (q : Req) (ch : Byte) (count : Byte) (s : State) : ∃ u, execFanStatus q ch count s = .next u ∧ Only [.frm, .auth] s u := by
  refine ⟨_, rfl, ?_⟩
  repeat' first
    | with_reducible exact Only.rfl
    | exact Eq.refl true
    | with_reducible intro _ _ _
    | with_reducible intro _ _
    | with_reducible refine Op.serve_only ?_ ?_ ?_
    | with_reducible refine (fanStatus_run _ _ _ _ _ ?_).2 ?_

theorem execFanRetry_only (q : Req) (mask : Half) (flags : Byte) (s : State) :
    ∃ u, execFanRetry q mask flags s = .next u ∧ Only [.frm, .auth, .fan] s u := by
  refine ⟨_, rfl, ?_⟩
  repeat' first
    | with_reducible exact Only.rfl
    | exact Eq.refl true
    | with_reducible intro _ _ _
    | with_reducible intro _ _
    | with_reducible refine Op.serve_only ?_ ?_ ?_
    | with_reducible refine (fanRetry_run _ _ _ _ _ ?_).2 ?_

theorem execThermSample_only (dt : Nat) (t : Vector Int 7) (s : State) :
    ∃ u, execThermSample dt t s = .next u ∧ Only [.clk, .loop, .drv, .fan, .prog, .therm, .safe, .inj, .log, .cnt] s u := by
  refine ⟨_, rfl, ?_⟩
  repeat' first
    | with_reducible exact Only.rfl
    | exact Eq.refl true
    | with_reducible refine Only.ite ?_ ?_
    | with_reducible intro _ _
    | with_reducible refine (State.advance_only _ _ ?_).2 ?_
    | with_reducible refine (State.thermSample_only _ _ ?_).2 ?_

theorem execTs7PeriodTimer_only (dt : Nat) (s : State) : ∃ u, execTs7PeriodTimer dt s = .next u ∧ Only [.clk, .therm] s u := by
  refine ⟨_, rfl, ?_⟩
  repeat' first
    | with_reducible exact Only.rfl
    | exact Eq.refl true
    | with_reducible refine Only.ite ?_ ?_
    | with_reducible intro _ _
    | with_reducible refine (State.advance_only _ _ ?_).2 ?_
    | with_reducible refine (State.mTherm_only _ _ ?_).2 ?_
    | with_reducible refine (State.ts7Begin_only _ ?_).2 ?_

theorem execTs7SampleEnd_only (dt : Nat) (t : Int) (s : State) : ∃ u, execTs7SampleEnd dt t s = .next u ∧ Only [.clk, .therm, .inj, .log] s u := by
  refine ⟨_, rfl, ?_⟩
  repeat' first
    | with_reducible exact Only.rfl
    | exact Eq.refl true
    | with_reducible refine Only.ite ?_ ?_
    | with_reducible intro _ _
    | with_reducible refine (State.advance_only _ _ ?_).2 ?_
    | with_reducible refine (State.detected_only _ _ _ _ ?_).2 ?_
    | with_reducible refine (State.logHw_only _ _ _ _ _ _ ?_).2 ?_
    | with_reducible refine (State.thermMax_only _ ?_).2 ?_
    | with_reducible refine (State.mTherm_only _ _ ?_).2 ?_

theorem execTs7Stale_only (dt : Nat) (s : State) : ∃ u, execTs7Stale dt s = .next u ∧ Only [.clk, .therm] s u := by
  refine ⟨_, rfl, ?_⟩
  repeat' first
    | with_reducible exact Only.rfl
    | exact Eq.refl true
    | with_reducible refine Only.ite ?_ ?_
    | with_reducible intro _ _
    | with_reducible refine (State.advance_only _ _ ?_).2 ?_
    | with_reducible refine (State.mTherm_only _ _ ?_).2 ?_
    | with_reducible refine (State.thermMax_only _ ?_).2 ?_

theorem execThermalShutdown_only (dt : Nat) (s : State) :
    ∃ u, execThermalShutdown dt s = .next u ∧ Only [.clk, .loop, .drv, .fan, .prog, .therm, .safe, .inj, .log, .cnt] s u := by
  refine ⟨_, rfl, ?_⟩
  repeat' first
    | with_reducible exact Only.rfl
    | exact Eq.refl true
    | with_reducible refine Only.ite ?_ ?_
    | with_reducible intro _ _
    | with_reducible refine (State.advance_only _ _ ?_).2 ?_
    | with_reducible refine (State.enterShutdown_only _ ?_).2 ?_

theorem execShutdownExit_only (dt : Nat) (s : State) : ∃ u, execShutdownExit dt s = .next u ∧ Only [.clk, .loop, .drv, .fan, .therm, .log] s u := by
  refine ⟨_, rfl, ?_⟩
  repeat' first
    | with_reducible exact Only.rfl
    | exact Eq.refl true
    | with_reducible refine Only.ite ?_ ?_
    | with_reducible intro _ _
    | with_reducible refine (State.advance_only _ _ ?_).2 ?_
    | with_reducible refine (State.chargeReview_only _ ?_).2 ?_
    | with_reducible refine (State.fansSettle_only _ ?_).2 ?_
    | with_reducible refine (State.logHw_only _ _ _ _ _ _ ?_).2 ?_
    | with_reducible refine (State.loopsSettle_only _ ?_).2 ?_
    | with_reducible refine (State.mDrv_only _ _ ?_).2 ?_
    | with_reducible refine (State.mTherm_only _ _ ?_).2 ?_

theorem execThermRead_only (q : Req) (flags : Byte) (s : State) : ∃ u, execThermRead q flags s = .next u ∧ Only [.frm, .auth, .therm] s u := by
  refine ⟨_, rfl, ?_⟩
  repeat' first
    | with_reducible exact Only.rfl
    | exact Eq.refl true
    | with_reducible intro _ _ _
    | with_reducible intro _ _
    | with_reducible refine Op.serve_only ?_ ?_ ?_
    | with_reducible refine (thermRead_run _ _ _ _ ?_).2 ?_

theorem execThermReadSample_only (q : Req) (flags : Byte) (s : State) :
    ∃ u, execThermReadSample q flags s = .next u ∧ Only [.frm, .auth, .therm] s u := by
  refine ⟨_, rfl, ?_⟩
  repeat' first
    | with_reducible exact Only.rfl
    | exact Eq.refl true
    | with_reducible intro _ _ _
    | with_reducible intro _ _
    | with_reducible refine Op.serve_only ?_ ?_ ?_
    | with_reducible refine (thermRead_run _ _ _ _ ?_).2 ?_

theorem execThermConfig_only (q : Req) (tStart : Byte) (ts7Period : Half) (pad : Byte) (s : State) :
    ∃ u, execThermConfig q tStart ts7Period pad s = .next u ∧ Only [.frm, .auth, .run, .therm] s u := by
  refine ⟨_, rfl, ?_⟩
  repeat' first
    | with_reducible exact Only.rfl
    | exact Eq.refl true
    | with_reducible intro _ _ _
    | with_reducible intro _ _
    | with_reducible refine Op.serve_only ?_ ?_ ?_
    | with_reducible refine (thermConfig_run _ _ _ _ _ _ ?_).2 ?_

theorem execVsPowerUndervoltage_only (dt : Nat) (s : State) :
    ∃ u, execVsPowerUndervoltage dt s = .next u ∧ Only [.clk, .pow, .loop, .drv, .fan, .prog, .safe, .inj, .log, .cnt] s u := by
  refine ⟨_, rfl, ?_⟩
  repeat' first
    | with_reducible exact Only.rfl
    | exact Eq.refl true
    | with_reducible intro _ _
    | with_reducible refine (State.advance_only _ _ ?_).2 ?_
    | with_reducible refine (State.vpLost_only _ _ ?_).2 ?_

theorem execVsPowerOvervoltage_only (dt : Nat) (s : State) :
    ∃ u, execVsPowerOvervoltage dt s = .next u ∧ Only [.clk, .pow, .loop, .drv, .fan, .prog, .safe, .inj, .log, .cnt] s u := by
  refine ⟨_, rfl, ?_⟩
  repeat' first
    | with_reducible exact Only.rfl
    | exact Eq.refl true
    | with_reducible intro _ _
    | with_reducible refine (State.advance_only _ _ ?_).2 ?_
    | with_reducible refine (State.vpLost_only _ _ ?_).2 ?_

theorem execVsPowerRestored_only (dt : Nat) (s : State) :
    ∃ u, execVsPowerRestored dt s = .next u ∧ Only [.clk, .pow, .loop, .drv, .fan, .log] s u := by
  refine ⟨_, rfl, ?_⟩
  repeat' first
    | with_reducible exact Only.rfl
    | exact Eq.refl true
    | with_reducible intro _ _
    | with_reducible refine (State.advance_only _ _ ?_).2 ?_
    | with_reducible refine (State.vpBack_only _ ?_).2 ?_

theorem execPdOnTimeout_only (dt : Nat) (pd : Nat) (s : State) :
    ∃ u, execPdOnTimeout dt pd s = .next u ∧ Only [.clk, .pow, .loop, .drv, .fan, .inj, .log, .ho] s u := by
  refine ⟨_, rfl, ?_⟩
  repeat' first
    | with_reducible exact Only.rfl
    | exact Eq.refl true
    | with_reducible refine Only.ite ?_ ?_
    | with_reducible intro _ _
    | with_reducible refine (State.advance_only _ _ ?_).2 ?_
    | with_reducible refine (State.domFailed_only _ _ ?_).2 ?_
    | with_reducible refine (State.ioFailed_only _ ?_).2 ?_

theorem execDomainOnReached_only (dt : Nat) (pd : Nat) (s : State) :
    ∃ u, execDomainOnReached dt pd s = .next u ∧ Only [.clk, .pow, .loop, .drv, .fan, .log] s u := by
  refine ⟨_, rfl, ?_⟩
  repeat' first
    | with_reducible exact Only.rfl
    | exact Eq.refl true
    | with_reducible refine Only.ite ?_ ?_
    | with_reducible intro _ _
    | with_reducible refine (State.advance_only _ _ ?_).2 ?_
    | with_reducible refine (State.domReached_only _ _ ?_).2 ?_
    | with_reducible refine (State.mPow_only _ _ ?_).2 ?_

theorem execDomainOffAfterRelease_only (dt : Nat) (pd : Nat) (s : State) :
    ∃ u, execDomainOffAfterRelease dt pd s = .next u ∧ Only [.clk, .pow, .fe, .drv] s u := by
  refine ⟨_, rfl, ?_⟩
  repeat' first
    | with_reducible exact Only.rfl
    | exact Eq.refl true
    | with_reducible refine Only.ite ?_ ?_
    | with_reducible intro _ _
    | with_reducible refine (State.advance_only _ _ ?_).2 ?_
    | with_reducible refine (State.chargeReview_only _ ?_).2 ?_
    | with_reducible refine (State.domGone_only _ _ ?_).2 ?_

theorem execClkFault_only (dt : Nat) (s : State) : ∃ u, execClkFault dt s = .next u ∧ Only [.clk, .sys, .drv, .safe, .log, .cnt] s u := by
  refine ⟨_, rfl, ?_⟩
  repeat' first
    | with_reducible exact Only.rfl
    | exact Eq.refl true
    | with_reducible intro _ _
    | with_reducible refine (State.advance_only _ _ ?_).2 ?_
    | with_reducible refine (State.clockTrip_only _ ?_).2 ?_

theorem execAvsAdjust_only (dt : Nat) (up : Bool) (s : State) : ∃ u, execAvsAdjust dt up s = .next u ∧ Only [.clk, .sys, .inj, .log] s u := by
  refine ⟨_, rfl, ?_⟩
  repeat' first
    | with_reducible exact Only.rfl
    | exact Eq.refl true
    | with_reducible intro _ _
    | with_reducible refine (State.advance_only _ _ ?_).2 ?_
    | with_reducible refine (State.avsStep_only _ _ ?_).2 ?_

theorem execScanStart_only (dt : Nat) (group : Fin 4) (s : State) : ∃ u, execScanStart dt group s = .next u ∧ Only [.clk, .fe] s u := by
  refine ⟨_, rfl, ?_⟩
  repeat' first
    | with_reducible exact Only.rfl
    | exact Eq.refl true
    | with_reducible refine Only.ite ?_ ?_
    | with_reducible intro _ _
    | with_reducible refine (State.advance_only _ _ ?_).2 ?_
    | with_reducible refine (State.scanBegin_only _ _ ?_).2 ?_

theorem execCheckSlotEnd_only (dt : Nat) (group : Fin 4) (zero : Int) (ref : Int) (s : State) :
    ∃ u, execCheckSlotEnd dt group zero ref s = .next u ∧ Only [.clk, .fe, .loop, .drv, .prog, .safe, .inj, .log, .cnt] s u := by
  refine ⟨_, rfl, ?_⟩
  repeat' first
    | with_reducible exact Only.rfl
    | exact Eq.refl true
    | with_reducible refine Only.ite ?_ ?_
    | with_reducible intro _ _
    | with_reducible refine (State.advance_only _ _ ?_).2 ?_
    | with_reducible refine (State.checkSlot_only _ _ _ _ ?_).2 ?_

theorem execConversionEnd_only (dt : Nat) (ch : Fin 64) (raw : Int) (clamp : Option Bool) (s : State) :
    ∃ u, execConversionEnd dt ch raw clamp s = .next u ∧ Only [.clk, .fe, .loop, .drv, .prog, .energy, .safe, .inj, .log, .cnt, .se] s u := by
  refine ⟨_, rfl, ?_⟩
  repeat' first
    | with_reducible exact Only.rfl
    | exact Eq.refl true
    | with_reducible refine Only.ite ?_ ?_
    | with_reducible intro _ _
    | with_reducible refine (State.advance_only _ _ ?_).2 ?_
    | with_reducible refine (State.convert_only _ _ _ _ ?_).2 ?_
    | with_reducible refine (State.scDone_only _ _ ?_).2 ?_

theorem execCjSampleEnd_only (dt : Nat) (pairN : Fin 4) (a : Int) (b : Int) (s : State) :
    ∃ u, execCjSampleEnd dt pairN a b s = .next u ∧ Only [.clk, .fe, .inj, .log] s u := by
  refine ⟨_, rfl, ?_⟩
  repeat' first
    | with_reducible exact Only.rfl
    | exact Eq.refl true
    | with_reducible refine Only.ite ?_ ?_
    | with_reducible intro _ _
    | with_reducible refine (State.advance_only _ _ ?_).2 ?_
    | with_reducible refine (State.cjSample_only _ _ _ ?_).2 ?_
    | with_reducible refine (State.mGrp_only _ _ _ ?_).2 ?_

theorem execOvdTrip_only (dt : Nat) (ch : Fin 64) (_positive : Bool) (s : State) :
    ∃ u, execOvdTrip dt ch _positive s = .next u ∧ Only [.clk, .fe] s u := by
  refine ⟨_, rfl, ?_⟩
  repeat' first
    | with_reducible exact Only.rfl
    | exact Eq.refl true
    | with_reducible refine Only.ite ?_ ?_
    | with_reducible intro _ _
    | with_reducible refine (State.advance_only _ _ ?_).2 ?_
    | with_reducible refine (State.mCh_only _ _ _ ?_).2 ?_

theorem execOvdClear_only (dt : Nat) (ch : Fin 64) (s : State) : ∃ u, execOvdClear dt ch s = .next u ∧ Only [.clk, .fe] s u := by
  refine ⟨_, rfl, ?_⟩
  repeat' first
    | with_reducible exact Only.rfl
    | exact Eq.refl true
    | with_reducible refine Only.ite ?_ ?_
    | with_reducible intro _ _
    | with_reducible refine (State.advance_only _ _ ?_).2 ?_
    | with_reducible refine (State.mCh_only _ _ _ ?_).2 ?_

theorem execChConfig_only (q : Req) (item : List Byte) (s : State) : ∃ u, execChConfig q item s = .next u ∧ Only [.frm, .auth, .run, .fe] s u := by
  refine ⟨_, rfl, ?_⟩
  repeat' first
    | with_reducible exact Only.rfl
    | exact Eq.refl true
    | with_reducible intro _ _ _
    | with_reducible intro _ _
    | with_reducible refine Op.serve_only ?_ ?_ ?_
    | with_reducible refine (chConfig_run _ _ _ _ ?_).2 ?_

theorem execChStatus_only (q : Req) (chN : Byte) (count : Byte) (s : State) : ∃ u, execChStatus q chN count s = .next u ∧ Only [.frm, .auth] s u := by
  refine ⟨_, rfl, ?_⟩
  repeat' first
    | with_reducible exact Only.rfl
    | exact Eq.refl true
    | with_reducible intro _ _ _
    | with_reducible intro _ _
    | with_reducible refine Op.serve_only ?_ ?_ ?_
    | with_reducible refine (chStatus_run _ _ _ _ _ ?_).2 ?_

theorem execScanConfig_only (q : Req) (group : Byte) (mode : Byte) (period : Byte) (s : State) :
    ∃ u, execScanConfig q group mode period s = .next u ∧ Only [.frm, .auth, .run] s u := by
  refine ⟨_, rfl, ?_⟩
  repeat' first
    | with_reducible exact Only.rfl
    | exact Eq.refl true
    | with_reducible intro _ _ _
    | with_reducible intro _ _
    | with_reducible refine Op.serve_only ?_ ?_ ?_
    | with_reducible refine (scanConfig_run _ _ _ _ _ _ ?_).2 ?_

theorem execSmCycle_only (dt : Nat) (levels : BitVec 8) (hpA : Nat) (hpB : Nat) (s : State) :
    ∃ u, execSmCycle dt levels hpA hpB s = .next u ∧ Only [.clk, .frm, .loop, .drv, .fan, .prog, .safe, .inj, .log, .cnt] s u := by
  refine ⟨_, rfl, ?_⟩
  repeat' first
    | with_reducible exact Only.rfl
    | exact Eq.refl true
    | with_reducible refine Only.ite ?_ ?_
    | with_reducible intro _ _
    | with_reducible refine (State.advance_only _ _ ?_).2 ?_
    | with_reducible refine (State.smCycle_only _ _ _ _ ?_).2 ?_

theorem execTestOutputPulse_only (dt : Nat) (ofB : Bool) (own : BitVec 4) (other : BitVec 4) (s : State) :
    ∃ u, execTestOutputPulse dt ofB own other s = .next u ∧ Only [.clk, .frm, .loop, .drv, .fan, .prog, .safe, .inj, .log, .cnt] s u := by
  refine ⟨_, rfl, ?_⟩
  repeat' first
    | with_reducible exact Only.rfl
    | exact Eq.refl true
    | with_reducible refine Only.ite ?_ ?_
    | with_reducible refine Only.each ?_ ?_
    | with_reducible intro _ _
    | with_reducible refine (State.advance_only _ _ ?_).2 ?_
    | with_reducible refine (State.siPulse_only _ _ _ _ _ ?_).2 ?_

theorem execSiDiscrepancy_only (dt : Nat) (input : Fin 4) (s : State) :
    ∃ u, execSiDiscrepancy dt input s = .next u ∧ Only [.clk, .frm, .loop, .drv, .fan, .prog, .safe, .inj, .log, .cnt] s u := by
  refine ⟨_, rfl, ?_⟩
  repeat' first
    | with_reducible exact Only.rfl
    | exact Eq.refl true
    | with_reducible refine Only.ite ?_ ?_
    | with_reducible intro _ _
    | with_reducible refine (State.advance_only _ _ ?_).2 ?_
    | with_reducible refine (State.siDiagSet_only _ _ _ ?_).2 ?_

theorem execHpTestPulse_only (dt : Nat) (ofB : Bool) (v : Nat) (s : State) :
    ∃ u, execHpTestPulse dt ofB v s = .next u ∧ Only [.clk, .loop, .drv, .prog, .safe, .inj, .log, .cnt] s u := by
  refine ⟨_, rfl, ?_⟩
  repeat' first
    | with_reducible exact Only.rfl
    | exact Eq.refl true
    | with_reducible refine Only.ite ?_ ?_
    | with_reducible intro _ _
    | with_reducible refine (State.advance_only _ _ ?_).2 ?_
    | with_reducible refine (State.safetyFinding_only _ _ _ _ ?_).2 ?_

theorem execHpOpenDetect_only (dt : Nat) (_ofB : Bool) (ua : Nat) (ns : Nat) (s : State) :
    ∃ u, execHpOpenDetect dt _ofB ua ns s = .next u ∧ Only [.clk, .safe] s u := by
  refine ⟨_, rfl, ?_⟩
  repeat' first
    | with_reducible exact Only.rfl
    | exact Eq.refl true
    | with_reducible refine Only.ite ?_ ?_
    | with_reducible intro _ _
    | with_reducible refine (State.advance_only _ _ ?_).2 ?_
    | with_reducible refine (State.mSafe_only _ _ ?_).2 ?_

theorem execAirflowLoss_only (dt : Nat) (s : State) :
    ∃ u, execAirflowLoss dt s = .next u ∧ Only [.clk, .loop, .drv, .prog, .safe, .log, .cnt] s u := by
  refine ⟨_, rfl, ?_⟩
  repeat' first
    | with_reducible exact Only.rfl
    | exact Eq.refl true
    | with_reducible refine Only.ite ?_ ?_
    | with_reducible intro _ _
    | with_reducible refine (State.advance_only _ _ ?_).2 ?_
    | with_reducible refine (State.removePermit_only _ _ _ _ ?_).2 ?_
    | split

theorem execAirOkDisagree_only (dt : Nat) (group : Fin 4) (s : State) :
    ∃ u, execAirOkDisagree dt group s = .next u ∧ Only [.clk, .loop, .drv, .prog, .safe, .inj, .log, .cnt] s u := by
  refine ⟨_, rfl, ?_⟩
  repeat' first
    | with_reducible exact Only.rfl
    | exact Eq.refl true
    | with_reducible refine Only.ite ?_ ?_
    | with_reducible intro _ _
    | with_reducible refine (State.advance_only _ _ ?_).2 ?_
    | with_reducible refine (State.safetyFinding_only _ _ _ _ ?_).2 ?_

theorem execFlameOffTimeout_only (dt : Nat) (s : State) : ∃ u, execFlameOffTimeout dt s = .next u ∧ Only [.clk, .safe, .log] s u := by
  refine ⟨_, rfl, ?_⟩
  repeat' first
    | with_reducible exact Only.rfl
    | exact Eq.refl true
    | with_reducible refine Only.ite ?_ ?_
    | with_reducible intro _ _
    | with_reducible refine (State.advance_only _ _ ?_).2 ?_
    | with_reducible refine (State.mSafe_only _ _ ?_).2 ?_
    | with_reducible refine (State.setLatch_only _ _ _ _ ?_).2 ?_

theorem execFlameProveTimeout_only (dt : Nat) (s : State) :
    ∃ u, execFlameProveTimeout dt s = .next u ∧ Only [.clk, .loop, .drv, .prog, .safe, .log, .cnt] s u := by
  refine ⟨_, rfl, ?_⟩
  repeat' first
    | with_reducible exact Only.rfl
    | exact Eq.refl true
    | with_reducible refine Only.ite ?_ ?_
    | with_reducible intro _ _
    | with_reducible refine (State.advance_only _ _ ?_).2 ?_
    | with_reducible refine (State.removePermit_only _ _ _ _ ?_).2 ?_

theorem execSmLockstepMismatch_only (dt : Nat) (s : State) :
    ∃ u, execSmLockstepMismatch dt s = .next u ∧ Only [.clk, .loop, .drv, .prog, .safe, .inj, .log, .cnt, .ho] s u := by
  refine ⟨_, rfl, ?_⟩
  repeat' first
    | with_reducible exact Only.rfl
    | exact Eq.refl true
    | with_reducible intro _ _
    | with_reducible refine (State.advance_only _ _ ?_).2 ?_
    | with_reducible refine (State.smTrip_only _ _ ?_).2 ?_

theorem execSmEccError_only (dt : Nat) (s : State) :
    ∃ u, execSmEccError dt s = .next u ∧ Only [.clk, .loop, .drv, .prog, .safe, .inj, .log, .cnt, .ho] s u := by
  refine ⟨_, rfl, ?_⟩
  repeat' first
    | with_reducible exact Only.rfl
    | exact Eq.refl true
    | with_reducible intro _ _
    | with_reducible refine (State.advance_only _ _ ?_).2 ?_
    | with_reducible refine (State.smTrip_only _ _ ?_).2 ?_

theorem execSmWatchdogMiss_only (dt : Nat) (ns : Nat) (s : State) :
    ∃ u, execSmWatchdogMiss dt ns s = .next u ∧ Only [.clk, .loop, .drv, .prog, .safe, .inj, .log, .cnt, .ho] s u := by
  refine ⟨_, rfl, ?_⟩
  repeat' first
    | with_reducible exact Only.rfl
    | exact Eq.refl true
    | with_reducible refine Only.ite ?_ ?_
    | with_reducible intro _ _
    | with_reducible refine (State.advance_only _ _ ?_).2 ?_
    | with_reducible refine (State.smTrip_only _ _ ?_).2 ?_

theorem execHpBEnableStatic_only (dt : Nat) (s : State) :
    ∃ u, execHpBEnableStatic dt s = .next u ∧ Only [.clk, .loop, .drv, .prog, .safe, .inj, .log, .cnt] s u := by
  refine ⟨_, rfl, ?_⟩
  repeat' first
    | with_reducible exact Only.rfl
    | exact Eq.refl true
    | with_reducible intro _ _
    | with_reducible refine (State.advance_only _ _ ?_).2 ?_
    | with_reducible refine (State.detected_only _ _ _ _ ?_).2 ?_
    | with_reducible refine (State.mSafe_only _ _ ?_).2 ?_
    | with_reducible refine (State.removePermit_only _ _ _ _ ?_).2 ?_

theorem execScrcRecheck_only (dt : Nat) (good : Bool) (s : State) :
    ∃ u, execScrcRecheck dt good s = .next u ∧ Only [.clk, .loop, .drv, .prog, .safe, .inj, .log, .cnt] s u := by
  refine ⟨_, rfl, ?_⟩
  repeat' first
    | with_reducible exact Only.rfl
    | exact Eq.refl true
    | with_reducible refine Only.ite ?_ ?_
    | with_reducible intro _ _
    | with_reducible refine (State.advance_only _ _ ?_).2 ?_
    | with_reducible refine (State.mSafe_only _ _ ?_).2 ?_
    | with_reducible refine (State.safetyFinding_only _ _ _ _ ?_).2 ?_

theorem execSafeConfigExpire_only (dt : Nat) (s : State) : ∃ u, execSafeConfigExpire dt s = .next u ∧ Only [.clk, .safe] s u := by
  have c : Only [.clk, .safe] s (s.advance dt) := (State.advance_only _ _ (by rfl)).2 Only.rfl
  refine ⟨_, rfl, ?_⟩
  cases (s.advance dt).safe.pendCfg
  · exact c
  · exact Only.ite ((State.mSafe_only _ _ (by rfl)).2 c) c

theorem execProofTestDone_only (dt : Nat) (pass : Bool) (fstep : Byte) (detail : Byte) (s : State) :
    ∃ u, execProofTestDone dt pass fstep detail s = .next u ∧ Only [.clk, .frm, .safe, .log] s u := by
  refine ⟨_, rfl, ?_⟩
  repeat' first
    | with_reducible exact Only.rfl
    | exact Eq.refl true
    | with_reducible refine Only.ite ?_ ?_
    | with_reducible intro _ _
    | with_reducible refine (State.advance_only _ _ ?_).2 ?_
    | with_reducible refine (State.proofEnd_only _ _ _ _ ?_).2 ?_

theorem execPtAgeDay_only (dt : Nat) (s : State) : ∃ u, execPtAgeDay dt s = .next u ∧ Only [.clk, .safe] s u := by
  refine ⟨_, rfl, ?_⟩
  repeat' first
    | with_reducible exact Only.rfl
    | exact Eq.refl true
    | with_reducible refine Only.ite ?_ ?_
    | with_reducible intro _ _
    | with_reducible refine (State.advance_only _ _ ?_).2 ?_
    | with_reducible refine (State.mSafe_only _ _ ?_).2 ?_

theorem execSafeStatus_only (q : Req) (s : State) : ∃ u, execSafeStatus q s = .next u ∧ Only [.frm, .auth] s u := by
  refine ⟨_, rfl, ?_⟩
  repeat' first
    | with_reducible exact Only.rfl
    | exact Eq.refl true
    | with_reducible intro _ _ _
    | with_reducible intro _ _
    | with_reducible refine Op.serve_only ?_ ?_ ?_
    | with_reducible refine (safeStatus_run _ _ _ ?_).2 ?_

theorem execPermitRequest_only (q : Req) (s : State) : ∃ u, execPermitRequest q s = .next u ∧ Only [.frm, .auth, .safe] s u := by
  refine ⟨_, rfl, ?_⟩
  repeat' first
    | with_reducible exact Only.rfl
    | exact Eq.refl true
    | with_reducible intro _ _ _
    | with_reducible intro _ _
    | with_reducible refine Op.serve_only ?_ ?_ ?_
    | with_reducible refine (permitRequest_run _ _ _ ?_).2 ?_

theorem execPermitDrop_only (q : Req) (s : State) :
    ∃ u, execPermitDrop q s = .next u ∧ Only [.frm, .auth, .loop, .drv, .prog, .stitch, .safe, .log, .cnt] s u := by
  refine ⟨_, rfl, ?_⟩
  repeat' first
    | with_reducible exact Only.rfl
    | exact Eq.refl true
    | with_reducible intro _ _ _
    | with_reducible intro _ _
    | with_reducible refine Op.serve_only ?_ ?_ ?_
    | with_reducible refine (permitDrop_run _ _ _ ?_).2 ?_

theorem execSafeConfigWrite_only (q : Req) (image : List Byte) (s : State) :
    ∃ u, execSafeConfigWrite q image s = .next u ∧ Only [.frm, .auth, .safe] s u := by
  refine ⟨_, rfl, ?_⟩
  repeat' first
    | with_reducible exact Only.rfl
    | exact Eq.refl true
    | with_reducible intro _ _ _
    | with_reducible intro _ _
    | with_reducible refine Op.serve_only ?_ ?_ ?_
    | with_reducible refine (safeConfigWrite_run _ _ _ _ ?_).2 ?_

theorem execSafeConfigConfirm_only (q : Req) (scrc : Word) (s : State) :
    ∃ u, execSafeConfigConfirm q scrc s = .next u ∧ Only [.frm, .auth, .drv, .fan, .safe, .log] s u := by
  refine ⟨_, rfl, ?_⟩
  repeat' first
    | with_reducible exact Only.rfl
    | exact Eq.refl true
    | with_reducible intro _ _ _
    | with_reducible intro _ _
    | with_reducible refine Op.serve_only ?_ ?_ ?_
    | with_reducible refine (safeConfigConfirm_run _ _ _ _ ?_).2 ?_

theorem execSafeConfigRead_only (q : Req) (which : Byte) (s : State) : ∃ u, execSafeConfigRead q which s = .next u ∧ Only [.frm, .auth] s u := by
  refine ⟨_, rfl, ?_⟩
  repeat' first
    | with_reducible exact Only.rfl
    | exact Eq.refl true
    | with_reducible intro _ _ _
    | with_reducible intro _ _
    | with_reducible refine Op.serve_only ?_ ?_ ?_
    | with_reducible refine (safeConfigRead_run _ _ _ _ ?_).2 ?_

theorem execProofTestPermit_only (q : Req) (s : State) : ∃ u, execProofTestPermit q s = .next u ∧ Only [.frm, .auth, .safe] s u := by
  refine ⟨_, rfl, ?_⟩
  repeat' first
    | with_reducible exact Only.rfl
    | exact Eq.refl true
    | with_reducible intro _ _ _
    | with_reducible intro _ _
    | with_reducible refine Op.serve_only ?_ ?_ ?_
    | with_reducible refine (proofTest_run _ _ _ _ ?_).2 ?_

theorem execProofTestRelease_only (q : Req) (s : State) : ∃ u, execProofTestRelease q s = .next u ∧ Only [.frm, .auth, .safe] s u := by
  refine ⟨_, rfl, ?_⟩
  repeat' first
    | with_reducible exact Only.rfl
    | exact Eq.refl true
    | with_reducible intro _ _ _
    | with_reducible intro _ _
    | with_reducible refine Op.serve_only ?_ ?_ ?_
    | with_reducible refine (proofTest_run _ _ _ _ ?_).2 ?_

theorem execProofTestReport_only (q : Req) (s : State) : ∃ u, execProofTestReport q s = .next u ∧ Only [.frm, .auth, .safe] s u := by
  refine ⟨_, rfl, ?_⟩
  repeat' first
    | with_reducible exact Only.rfl
    | exact Eq.refl true
    | with_reducible intro _ _ _
    | with_reducible intro _ _
    | with_reducible refine Op.serve_only ?_ ?_ ?_
    | with_reducible refine (proofTest_run _ _ _ _ ?_).2 ?_

theorem execSafeReset_only (q : Req) (mask : Word) (s : State) :
    ∃ u, execSafeReset q mask s = .next u ∧ Only [.frm, .auth, .drv, .fan, .safe, .log] s u := by
  refine ⟨_, rfl, ?_⟩
  repeat' first
    | with_reducible exact Only.rfl
    | exact Eq.refl true
    | with_reducible intro _ _ _
    | with_reducible intro _ _
    | with_reducible refine Op.serve_only ?_ ?_ ?_
    | with_reducible refine (safeReset_run _ _ _ _ ?_).2 ?_

theorem execProbeCycleStart_only (dt : Nat) (s : State) : ∃ u, execProbeCycleStart dt s = .next u ∧ Only [.clk, .die] s u := by
  refine ⟨_, rfl, ?_⟩
  repeat' first
    | with_reducible exact Only.rfl
    | exact Eq.refl true
    | with_reducible intro _ _
    | with_reducible refine (State.advance_only _ _ ?_).2 ?_
    | with_reducible refine (State.cycleStart_only _ _ ?_).2 ?_

theorem execProbeMeasureEnd_only (dt : Nat) (cL : Int) (gL : Int) (cM : Int) (gM : Int) (cH : Int) (gH : Int) (guardBad : Bool) (s : State) :
    ∃ u, execProbeMeasureEnd dt cL gL cM gM cH gH guardBad s = .next u ∧ Only [.clk, .frm, .die, .inj, .log, .free] s u := by
  refine ⟨_, rfl, ?_⟩
  repeat' first
    | with_reducible exact Only.rfl
    | exact Eq.refl true
    | with_reducible intro _ _
    | with_reducible refine (State.advance_only _ _ ?_).2 ?_
    | with_reducible refine (State.measureEnd_only _ _ ?_).2 ?_

theorem execProbeReadConfig_only (q : Req) (portN : Byte) (count : Byte) (s : State) :
    ∃ u, execProbeReadConfig q portN count s = .next u ∧ Only [.frm, .auth] s u := by
  refine ⟨_, rfl, ?_⟩
  repeat' first
    | with_reducible exact Only.rfl
    | exact Eq.refl true
    | with_reducible intro _ _ _
    | with_reducible intro _ _
    | with_reducible refine Op.serve_only ?_ ?_ ?_
    | with_reducible refine (probeReadConfig_run _ _ _ _ _ ?_).2 ?_

theorem execProbeReadCrop_only (q : Req) (cslot : Byte) (s : State) : ∃ u, execProbeReadCrop q cslot s = .next u ∧ Only [.frm, .auth] s u := by
  refine ⟨_, rfl, ?_⟩
  repeat' first
    | with_reducible exact Only.rfl
    | exact Eq.refl true
    | with_reducible intro _ _ _
    | with_reducible intro _ _
    | with_reducible refine Op.serve_only ?_ ?_ ?_
    | with_reducible refine (probeReadCrop_run _ _ _ _ ?_).2 ?_

theorem execProbeConfigPort_only (q : Req) (portN : Byte) (en : Byte) (tch : Byte) (crop : Byte) (c0 : Half) (s : State) :
    ∃ u, execProbeConfigPort q portN en tch crop c0 s = .next u ∧ Only [.frm, .auth, .die] s u := by
  refine ⟨_, rfl, ?_⟩
  repeat' first
    | with_reducible exact Only.rfl
    | exact Eq.refl true
    | with_reducible intro _ _ _
    | with_reducible intro _ _
    | with_reducible refine Op.serve_only ?_ ?_ ?_
    | with_reducible refine (probeConfigPort_run _ _ _ _ _ _ _ _ ?_).2 ?_

theorem execProbeConfigCrop_only (q : Req) (cslot : Byte) (image : List Byte) (s : State) :
    ∃ u, execProbeConfigCrop q cslot image s = .next u ∧ Only [.frm, .auth, .die] s u := by
  refine ⟨_, rfl, ?_⟩
  repeat' first
    | with_reducible exact Only.rfl
    | exact Eq.refl true
    | with_reducible intro _ _ _
    | with_reducible intro _ _
    | with_reducible refine Op.serve_only ?_ ?_ ?_
    | with_reducible refine (probeConfigCrop_run _ _ _ _ _ ?_).2 ?_

theorem execProbeConfigCropErase_only (q : Req) (cslot : Byte) (s : State) :
    ∃ u, execProbeConfigCropErase q cslot s = .next u ∧ Only [.frm, .auth, .die] s u := by
  refine ⟨_, rfl, ?_⟩
  repeat' first
    | with_reducible exact Only.rfl
    | exact Eq.refl true
    | with_reducible intro _ _ _
    | with_reducible intro _ _
    | with_reducible refine Op.serve_only ?_ ?_ ?_
    | with_reducible refine (probeConfigErase_run _ _ _ _ ?_).2 ?_

theorem execProbeConfigCycle_only (q : Req) (period : Byte) (startOfs : Half) (s : State) :
    ∃ u, execProbeConfigCycle q period startOfs s = .next u ∧ Only [.frm, .auth, .die] s u := by
  refine ⟨_, rfl, ?_⟩
  repeat' first
    | with_reducible exact Only.rfl
    | exact Eq.refl true
    | with_reducible intro _ _ _
    | with_reducible intro _ _
    | with_reducible refine Op.serve_only ?_ ?_ ?_
    | with_reducible refine (probeConfigCycle_run _ _ _ _ _ ?_).2 ?_

theorem execProbeCalAir_only (q : Req) (portN : Byte) (s : State) : ∃ u, execProbeCalAir q portN s = .next u ∧ Only [.frm, .auth, .die] s u := by
  refine ⟨_, rfl, ?_⟩
  repeat' first
    | with_reducible exact Only.rfl
    | exact Eq.refl true
    | with_reducible intro _ _ _
    | with_reducible intro _ _
    | with_reducible refine Op.serve_only ?_ ?_ ?_
    | with_reducible refine (probeCalAir_run _ _ _ _ ?_).2 ?_

theorem execProbeCalSample_only (q : Req) (portN : Byte) (mOven : Word) (mRec : Word) (calgen : Byte) (s : State) :
    ∃ u, execProbeCalSample q portN mOven mRec calgen s = .next u ∧ Only [.frm, .auth, .die] s u := by
  refine ⟨_, rfl, ?_⟩
  repeat' first
    | with_reducible exact Only.rfl
    | exact Eq.refl true
    | with_reducible intro _ _ _
    | with_reducible intro _ _
    | with_reducible refine Op.serve_only ?_ ?_ ?_
    | with_reducible refine (probeCalSample_run _ _ _ _ _ _ _ ?_).2 ?_

theorem execProbeCalApply_only (q : Req) (portN : Byte) (s : State) : ∃ u, execProbeCalApply q portN s = .next u ∧ Only [.frm, .auth, .die] s u := by
  refine ⟨_, rfl, ?_⟩
  repeat' first
    | with_reducible exact Only.rfl
    | exact Eq.refl true
    | with_reducible intro _ _ _
    | with_reducible intro _ _
    | with_reducible refine Op.serve_only ?_ ?_ ?_
    | with_reducible refine (probeCalApply_run _ _ _ _ ?_).2 ?_

theorem execProbeCalReset_only (q : Req) (portN : Byte) (s : State) : ∃ u, execProbeCalReset q portN s = .next u ∧ Only [.frm, .auth, .die] s u := by
  refine ⟨_, rfl, ?_⟩
  repeat' first
    | with_reducible exact Only.rfl
    | exact Eq.refl true
    | with_reducible intro _ _ _
    | with_reducible intro _ _
    | with_reducible refine Op.serve_only ?_ ?_ ?_
    | with_reducible refine (probeCalReset_run _ _ _ _ ?_).2 ?_

theorem execProbeCalDiscard_only (q : Req) (portN : Byte) (s : State) :
    ∃ u, execProbeCalDiscard q portN s = .next u ∧ Only [.frm, .auth, .die] s u := by
  refine ⟨_, rfl, ?_⟩
  repeat' first
    | with_reducible exact Only.rfl
    | exact Eq.refl true
    | with_reducible intro _ _ _
    | with_reducible intro _ _
    | with_reducible refine Op.serve_only ?_ ?_ ?_
    | with_reducible refine (probeCalDiscard_run _ _ _ _ ?_).2 ?_

theorem execProgLoad_only (q : Req) (prog : Byte) (count : Byte) (items : List Byte) (s : State) :
    ∃ u, execProgLoad q prog count items s = .next u ∧ Only [.frm, .auth, .prog, .log] s u := by
  refine ⟨_, rfl, ?_⟩
  repeat' first
    | with_reducible exact Only.rfl
    | exact Eq.refl true
    | with_reducible intro _ _ _
    | with_reducible intro _ _
    | with_reducible refine Op.serve_only ?_ ?_ ?_
    | with_reducible refine (progLoad_run _ _ _ _ _ _ ?_).2 ?_

theorem execProgSet_only (q : Req) (count : Byte) (items : List Byte) (s : State) :
    ∃ u, execProgSet q count items s = .next u ∧ Only [.frm, .auth, .prog] s u := by
  refine ⟨_, rfl, ?_⟩
  repeat' first
    | with_reducible exact Only.rfl
    | exact Eq.refl true
    | with_reducible intro _ _ _
    | with_reducible intro _ _
    | with_reducible refine Op.serve_only ?_ ?_ ?_
    | with_reducible refine (progSet_run _ _ _ _ _ ?_).2 ?_

theorem execProgStartStart_only (q : Req) (s : State) : ∃ u, execProgStartStart q s = .next u ∧ Only [.frm, .auth, .prog] s u := by
  refine ⟨_, rfl, ?_⟩
  repeat' first
    | with_reducible exact Only.rfl
    | exact Eq.refl true
    | with_reducible intro _ _ _
    | with_reducible intro _ _
    | with_reducible refine Op.serve_only ?_ ?_ ?_
    | with_reducible refine (progStart_run _ _ _ _ ?_).2 ?_

theorem execProgStartResume_only (q : Req) (s : State) : ∃ u, execProgStartResume q s = .next u ∧ Only [.frm, .auth, .prog] s u := by
  refine ⟨_, rfl, ?_⟩
  repeat' first
    | with_reducible exact Only.rfl
    | exact Eq.refl true
    | with_reducible intro _ _ _
    | with_reducible intro _ _
    | with_reducible refine Op.serve_only ?_ ?_ ?_
    | with_reducible refine (progStart_run _ _ _ _ ?_).2 ?_

theorem execProgStopOrderly_only (q : Req) (s : State) : ∃ u, execProgStopOrderly q s = .next u ∧ Only [.frm, .auth, .prog] s u := by
  refine ⟨_, rfl, ?_⟩
  repeat' first
    | with_reducible exact Only.rfl
    | exact Eq.refl true
    | with_reducible intro _ _ _
    | with_reducible intro _ _
    | with_reducible refine Op.serve_only ?_ ?_ ?_
    | with_reducible refine (progStop_run _ _ _ _ ?_).2 ?_

theorem execProgStopHold_only (q : Req) (s : State) : ∃ u, execProgStopHold q s = .next u ∧ Only [.frm, .auth, .prog] s u := by
  refine ⟨_, rfl, ?_⟩
  repeat' first
    | with_reducible exact Only.rfl
    | exact Eq.refl true
    | with_reducible intro _ _ _
    | with_reducible intro _ _
    | with_reducible refine Op.serve_only ?_ ?_ ?_
    | with_reducible refine (progStop_run _ _ _ _ ?_).2 ?_

theorem execProgStopAbort_only (q : Req) (s : State) : ∃ u, execProgStopAbort q s = .next u ∧ Only [.frm, .auth, .prog] s u := by
  refine ⟨_, rfl, ?_⟩
  repeat' first
    | with_reducible exact Only.rfl
    | exact Eq.refl true
    | with_reducible intro _ _ _
    | with_reducible intro _ _
    | with_reducible refine Op.serve_only ?_ ?_ ?_
    | with_reducible refine (progStop_run _ _ _ _ ?_).2 ?_

theorem execProgStatusSummary_only (q : Req) (s : State) : ∃ u, execProgStatusSummary q s = .next u ∧ Only [.frm, .auth] s u := by
  refine ⟨_, rfl, ?_⟩
  repeat' first
    | with_reducible exact Only.rfl
    | exact Eq.refl true
    | with_reducible intro _ _ _
    | with_reducible intro _ _
    | with_reducible refine Op.serve_only ?_ ?_ ?_
    | with_reducible refine (progStatusSummary_run _ _ _ ?_).2 ?_

theorem execProgStatusParcels_only (q : Req) (first : Byte) (count : Byte) (s : State) :
    ∃ u, execProgStatusParcels q first count s = .next u ∧ Only [.frm, .auth] s u := by
  refine ⟨_, rfl, ?_⟩
  repeat' first
    | with_reducible exact Only.rfl
    | exact Eq.refl true
    | with_reducible intro _ _ _
    | with_reducible intro _ _
    | with_reducible refine Op.serve_only ?_ ?_ ?_
    | with_reducible refine (progStatusParcels_run _ _ _ _ _ ?_).2 ?_

theorem execDischargeStroke_only (dt : Nat) (s : State) : ∃ u, execDischargeStroke dt s = .next u ∧ Only [.clk, .drv, .prog, .inj, .log] s u := by
  refine ⟨_, rfl, ?_⟩
  repeat' first
    | with_reducible exact Only.rfl
    | exact Eq.refl true
    | with_reducible refine Only.ite ?_ ?_
    | with_reducible intro _ _
    | with_reducible refine (State.advance_only _ _ ?_).2 ?_
    | with_reducible refine (State.mProg_only _ _ ?_).2 ?_
    | with_reducible refine (State.stroke_only _ ?_).2 ?_

theorem execParcelStore_only (dt : Nat) (s : State) : ∃ u, execParcelStore dt s = .next u ∧ Only [.clk, .prog] s u := by
  refine ⟨_, rfl, ?_⟩
  repeat' first
    | with_reducible exact Only.rfl
    | exact Eq.refl true
    | with_reducible refine Only.ite ?_ ?_
    | with_reducible intro _ _
    | with_reducible refine (State.advance_only _ _ ?_).2 ?_
    | with_reducible refine (State.storeParcels_only _ ?_).2 ?_

theorem execAerationDecision_only (dt : Nat) (s : State) : ∃ u, execAerationDecision dt s = .next u ∧ Only [.clk, .fan, .prog] s u := by
  refine ⟨_, rfl, ?_⟩
  repeat' first
    | with_reducible exact Only.rfl
    | exact Eq.refl true
    | with_reducible refine Only.ite ?_ ?_
    | with_reducible intro _ _
    | with_reducible refine (State.advance_only _ _ ?_).2 ?_
    | with_reducible refine (State.aerDecide_only _ _ ?_).2 ?_

theorem execConvCmdStart_only (q : Req) (arg : Byte) (s : State) :
    ∃ u, execConvCmdStart q arg s = .next u ∧ Only [.frm, .auth, .drv, .conv, .inj, .log] s u := by
  refine ⟨_, rfl, ?_⟩
  repeat' first
    | with_reducible exact Only.rfl
    | exact Eq.refl true
    | with_reducible intro _ _ _
    | with_reducible intro _ _
    | with_reducible refine Op.serve_only ?_ ?_ ?_
    | with_reducible refine (convCmd_run _ _ _ _ _ ?_).2 ?_

theorem execConvCmdStopUpstream_only (q : Req) (arg : Byte) (s : State) :
    ∃ u, execConvCmdStopUpstream q arg s = .next u ∧ Only [.frm, .auth, .drv, .conv, .inj, .log] s u := by
  refine ⟨_, rfl, ?_⟩
  repeat' first
    | with_reducible exact Only.rfl
    | exact Eq.refl true
    | with_reducible intro _ _ _
    | with_reducible intro _ _
    | with_reducible refine Op.serve_only ?_ ?_ ?_
    | with_reducible refine (convCmd_run _ _ _ _ _ ?_).2 ?_

theorem execConvCmdStopNow_only (q : Req) (arg : Byte) (s : State) :
    ∃ u, execConvCmdStopNow q arg s = .next u ∧ Only [.frm, .auth, .drv, .conv, .inj, .log] s u := by
  refine ⟨_, rfl, ?_⟩
  repeat' first
    | with_reducible exact Only.rfl
    | exact Eq.refl true
    | with_reducible intro _ _ _
    | with_reducible intro _ _
    | with_reducible refine Op.serve_only ?_ ?_ ?_
    | with_reducible refine (convCmd_run _ _ _ _ _ ?_).2 ?_

theorem execConvCmdReset_only (q : Req) (arg : Byte) (s : State) :
    ∃ u, execConvCmdReset q arg s = .next u ∧ Only [.frm, .auth, .drv, .conv, .inj, .log] s u := by
  refine ⟨_, rfl, ?_⟩
  repeat' first
    | with_reducible exact Only.rfl
    | exact Eq.refl true
    | with_reducible intro _ _ _
    | with_reducible intro _ _
    | with_reducible refine Op.serve_only ?_ ?_ ?_
    | with_reducible refine (convCmd_run _ _ _ _ _ ?_).2 ?_

theorem execConvConfigStage_only (q : Req) (item : List Byte) (s : State) :
    ∃ u, execConvConfigStage q item s = .next u ∧ Only [.frm, .auth, .run, .conv] s u := by
  refine ⟨_, rfl, ?_⟩
  repeat' first
    | with_reducible exact Only.rfl
    | exact Eq.refl true
    | with_reducible intro _ _ _
    | with_reducible intro _ _
    | with_reducible refine Op.serve_only ?_ ?_ ?_
    | with_reducible refine (convConfig_run _ _ _ _ ?_).2 ?_

theorem execConvConfigLine_only (q : Req) (item : List Byte) (s : State) :
    ∃ u, execConvConfigLine q item s = .next u ∧ Only [.frm, .auth, .run, .conv] s u := by
  refine ⟨_, rfl, ?_⟩
  repeat' first
    | with_reducible exact Only.rfl
    | exact Eq.refl true
    | with_reducible intro _ _ _
    | with_reducible intro _ _
    | with_reducible refine Op.serve_only ?_ ?_ ?_
    | with_reducible refine (convConfig_run _ _ _ _ ?_).2 ?_

theorem execStageStartDelay_only (dt : Nat) (k : Fin 8) (s : State) :
    ∃ u, execStageStartDelay dt k s = .next u ∧ Only [.clk, .drv, .conv, .inj, .log] s u := by
  refine ⟨_, rfl, ?_⟩
  repeat' first
    | with_reducible exact Only.rfl
    | exact Eq.refl true
    | with_reducible refine Only.ite ?_ ?_
    | with_reducible intro _ _
    | with_reducible refine (State.advance_only _ _ ?_).2 ?_
    | with_reducible refine (State.lineSettle_only _ ?_).2 ?_
    | with_reducible refine (State.startStage_only _ _ ?_).2 ?_

theorem execStageClearDelay_only (dt : Nat) (k : Fin 8) (s : State) : ∃ u, execStageClearDelay dt k s = .next u ∧ Only [.clk, .drv, .conv] s u := by
  refine ⟨_, rfl, ?_⟩
  repeat' first
    | with_reducible exact Only.rfl
    | exact Eq.refl true
    | with_reducible refine Only.ite ?_ ?_
    | with_reducible intro _ _
    | with_reducible refine (State.advance_only _ _ ?_).2 ?_
    | with_reducible refine (State.lineSettle_only _ ?_).2 ?_
    | with_reducible refine (State.stopStage_only _ _ ?_).2 ?_

theorem execStageProveTimeout_only (dt : Nat) (k : Fin 8) (s : State) :
    ∃ u, execStageProveTimeout dt k s = .next u ∧ Only [.clk, .drv, .conv] s u := by
  refine ⟨_, rfl, ?_⟩
  repeat' first
    | with_reducible exact Only.rfl
    | exact Eq.refl true
    | with_reducible refine Only.ite ?_ ?_
    | with_reducible intro _ _
    | with_reducible refine (State.advance_only _ _ ?_).2 ?_
    | with_reducible refine (State.stageFault_only _ _ _ ?_).2 ?_

theorem execDiFilterChange_only (dt : Nat) (di : Fin 16) (level : Bool) (ns : Nat) (s : State) :
    ∃ u, execDiFilterChange dt di level ns s = .next u ∧ Only [.clk, .conv, .dio] s u := by
  refine ⟨_, rfl, ?_⟩
  repeat' first
    | with_reducible exact Only.rfl
    | exact Eq.refl true
    | with_reducible refine Only.ite ?_ ?_
    | with_reducible refine Only.each ?_ ?_
    | with_reducible intro _ _
    | with_reducible refine (State.advance_only _ _ ?_).2 ?_
    | with_reducible refine (State.mDio_only _ _ ?_).2 ?_
    | with_reducible refine (State.mStage_only _ _ _ ?_).2 ?_

theorem execStitchWrite_only (q : Req) (first : Byte) (count : Byte) (entries : List Byte) (s : State) :
    ∃ u, execStitchWrite q first count entries s = .next u ∧ Only [.frm, .auth, .stitch] s u := by
  refine ⟨_, rfl, ?_⟩
  repeat' first
    | with_reducible exact Only.rfl
    | exact Eq.refl true
    | with_reducible intro _ _ _
    | with_reducible intro _ _
    | with_reducible refine Op.serve_only ?_ ?_ ?_
    | with_reducible refine (stitchWrite_run _ _ _ _ _ _ ?_).2 ?_

theorem execStitchClear_only (q : Req) (first : Byte) (count : Half) (s : State) :
    ∃ u, execStitchClear q first count s = .next u ∧ Only [.frm, .auth, .stitch] s u := by
  refine ⟨_, rfl, ?_⟩
  repeat' first
    | with_reducible exact Only.rfl
    | exact Eq.refl true
    | with_reducible intro _ _ _
    | with_reducible intro _ _
    | with_reducible refine Op.serve_only ?_ ?_ ?_
    | with_reducible refine (stitchClear_run _ _ _ _ _ ?_).2 ?_

theorem execStitchStatus_only (q : Req) (first : Byte) (count : Byte) (s : State) :
    ∃ u, execStitchStatus q first count s = .next u ∧ Only [.frm, .auth] s u := by
  refine ⟨_, rfl, ?_⟩
  repeat' first
    | with_reducible exact Only.rfl
    | exact Eq.refl true
    | with_reducible intro _ _ _
    | with_reducible intro _ _
    | with_reducible refine Op.serve_only ?_ ?_ ?_
    | with_reducible refine (stitchStatus_run _ _ _ _ _ ?_).2 ?_

theorem execStitchExecute_only (dt : Nat) (s : State) :
    ∃ u, execStitchExecute dt s = .next u ∧ Only [.clk, .loop, .drv, .fan, .prog, .stitch, .inj, .log] s u := by
  have c : Only [.clk, .loop, .drv, .fan, .prog, .stitch, .inj, .log] s (s.advance dt) := (State.advance_only _ _ (by rfl)).2 Only.rfl
  refine ⟨_, rfl, ?_⟩
  cases (s.advance dt).stitch.first
  · exact c
  · exact Only.ite ((State.stitchRun_only _ _ _ (by rfl)).2 c) c

theorem execEnergyRead_only (q : Req) (s : State) : ∃ u, execEnergyRead q s = .next u ∧ Only [.frm, .auth, .energy, .free] s u := by
  refine ⟨_, rfl, ?_⟩
  repeat' first
    | with_reducible exact Only.rfl
    | exact Eq.refl true
    | with_reducible intro _ _ _
    | with_reducible intro _ _
    | with_reducible refine Op.serve_only ?_ ?_ ?_
    | with_reducible refine (energyRead_run _ _ _ _ ?_).2 ?_

theorem execEnergyReadRestart_only (q : Req) (s : State) : ∃ u, execEnergyReadRestart q s = .next u ∧ Only [.frm, .auth, .energy, .free] s u := by
  refine ⟨_, rfl, ?_⟩
  repeat' first
    | with_reducible exact Only.rfl
    | exact Eq.refl true
    | with_reducible intro _ _ _
    | with_reducible intro _ _
    | with_reducible refine Op.serve_only ?_ ?_ ?_
    | with_reducible refine (energyRead_run _ _ _ _ ?_).2 ?_

theorem execStatusRead_only (q : Req) (s : State) : ∃ u, execStatusRead q s = .next u ∧ Only [.frm, .auth] s u := by
  refine ⟨_, rfl, ?_⟩
  repeat' first
    | with_reducible exact Only.rfl
    | exact Eq.refl true
    | with_reducible intro _ _ _
    | with_reducible intro _ _
    | with_reducible refine Op.serve_only ?_ ?_ ?_
    | with_reducible refine (statusRead_run _ _ _ ?_).2 ?_

theorem execSweep_only (q : Req) (bidx : Word) (s : State) : ∃ u, execSweep q bidx s = .next u ∧ Only [.frm, .auth] s u := by
  refine ⟨_, rfl, ?_⟩
  repeat' first
    | with_reducible exact Only.rfl
    | exact Eq.refl true
    | with_reducible intro _ _ _
    | with_reducible intro _ _
    | with_reducible refine Op.serve_only ?_ ?_ ?_
    | with_reducible refine (sweep_run _ _ _ _ ?_).2 ?_

theorem execSweepResume_only (q : Req) (bidx : Word) (s : State) : ∃ u, execSweepResume q bidx s = .next u ∧ Only [.frm, .auth] s u := by
  refine ⟨_, rfl, ?_⟩
  repeat' first
    | with_reducible exact Only.rfl
    | exact Eq.refl true
    | with_reducible intro _ _ _
    | with_reducible intro _ _
    | with_reducible refine Op.serve_only ?_ ?_ ?_
    | with_reducible refine (sweepResume_run _ _ _ _ ?_).2 ?_

theorem execReadResults_only (q : Req) (bidx : Word) (ch : Byte) (count : Byte) (s : State) :
    ∃ u, execReadResults q bidx ch count s = .next u ∧ Only [.frm, .auth] s u := by
  refine ⟨_, rfl, ?_⟩
  repeat' first
    | with_reducible exact Only.rfl
    | exact Eq.refl true
    | with_reducible intro _ _ _
    | with_reducible intro _ _
    | with_reducible refine Op.serve_only ?_ ?_ ?_
    | with_reducible refine (readResults_run _ _ _ _ _ _ ?_).2 ?_

theorem execReadResultsFull_only (q : Req) (bidx : Word) (ch : Byte) (count : Byte) (s : State) :
    ∃ u, execReadResultsFull q bidx ch count s = .next u ∧ Only [.frm, .auth] s u := by
  refine ⟨_, rfl, ?_⟩
  repeat' first
    | with_reducible exact Only.rfl
    | exact Eq.refl true
    | with_reducible intro _ _ _
    | with_reducible intro _ _
    | with_reducible refine Op.serve_only ?_ ?_ ?_
    | with_reducible refine (readResultsFull_run _ _ _ _ _ _ ?_).2 ?_

theorem execProbeReadSnapshot_only (q : Req) (bidx : Word) (port : Byte) (count : Byte) (s : State) :
    ∃ u, execProbeReadSnapshot q bidx port count s = .next u ∧ Only [.frm, .auth] s u := by
  refine ⟨_, rfl, ?_⟩
  repeat' first
    | with_reducible exact Only.rfl
    | exact Eq.refl true
    | with_reducible intro _ _ _
    | with_reducible intro _ _
    | with_reducible refine Op.serve_only ?_ ?_ ?_
    | with_reducible refine (probeReadSnapshot_run _ _ _ _ _ _ ?_).2 ?_

theorem execTestOpen_only (q : Req) (flags : Byte) (timeout : Half) (s : State) :
    ∃ u, execTestOpen q flags timeout s = .next u ∧ Only [.frm, .auth, .inj, .log] s u := by
  refine ⟨_, rfl, ?_⟩
  repeat' first
    | with_reducible exact Only.rfl
    | exact Eq.refl true
    | with_reducible intro _ _ _
    | with_reducible intro _ _
    | with_reducible refine Op.serve_only ?_ ?_ ?_
    | with_reducible refine (testOpen_run _ _ _ _ _ ?_).2 ?_

theorem execInject_only (q : Req) (id : Half) (tgt : Byte) (arg : Half) (dur : Half) (s : State) :
    ∃ u, execInject q id tgt arg dur s = .next u ∧ Only [.frm, .auth, .inj, .log] s u := by
  refine ⟨_, rfl, ?_⟩
  repeat' first
    | with_reducible exact Only.rfl
    | exact Eq.refl true
    | with_reducible intro _ _ _
    | with_reducible intro _ _
    | with_reducible refine Op.serve_only ?_ ?_ ?_
    | with_reducible refine (inject_run _ _ _ _ _ _ _ ?_).2 ?_

theorem execInjectClear_only (q : Req) (slot : Byte) (s : State) : ∃ u, execInjectClear q slot s = .next u ∧ Only [.frm, .auth, .inj, .log] s u := by
  refine ⟨_, rfl, ?_⟩
  repeat' first
    | with_reducible exact Only.rfl
    | exact Eq.refl true
    | with_reducible intro _ _ _
    | with_reducible intro _ _
    | with_reducible refine Op.serve_only ?_ ?_ ?_
    | with_reducible refine (injectClear_run _ _ _ _ ?_).2 ?_

theorem execTestClose_only (q : Req) (s : State) : ∃ u, execTestClose q s = .next u ∧ Only [.frm, .auth, .inj, .log] s u := by
  refine ⟨_, rfl, ?_⟩
  repeat' first
    | with_reducible exact Only.rfl
    | exact Eq.refl true
    | with_reducible intro _ _ _
    | with_reducible intro _ _
    | with_reducible refine Op.serve_only ?_ ?_ ?_
    | with_reducible refine (testClose_run _ _ _ ?_).2 ?_

theorem execInjectExpire_only (dt : Nat) (i : Fin 8) (s : State) : ∃ u, execInjectExpire dt i s = .next u ∧ Only [.clk, .inj, .log] s u := by
  refine ⟨_, rfl, ?_⟩
  repeat' first
    | with_reducible exact Only.rfl
    | exact Eq.refl true
    | with_reducible refine Only.ite ?_ ?_
    | with_reducible intro _ _
    | with_reducible refine (State.advance_only _ _ ?_).2 ?_
    | with_reducible refine (State.injEnd_only _ _ ?_).2 ?_

theorem execTestTimeout_only (dt : Nat) (s : State) : ∃ u, execTestTimeout dt s = .next u ∧ Only [.clk, .inj, .log] s u := by
  refine ⟨_, rfl, ?_⟩
  repeat' first
    | with_reducible exact Only.rfl
    | exact Eq.refl true
    | with_reducible refine Only.ite ?_ ?_
    | with_reducible intro _ _
    | with_reducible refine (State.advance_only _ _ ?_).2 ?_
    | with_reducible refine (State.sessionEnd_only _ _ ?_).2 ?_

theorem execLogRead_only (q : Req) (first : Word) (count : Byte) (s : State) :
    ∃ u, execLogRead q first count s = .next u ∧ Only [.frm, .auth, .log] s u := by
  refine ⟨_, rfl, ?_⟩
  repeat' first
    | with_reducible exact Only.rfl
    | exact Eq.refl true
    | with_reducible intro _ _ _
    | with_reducible intro _ _
    | with_reducible refine Op.serve_only ?_ ?_ ?_
    | with_reducible refine (logRead_run _ _ _ _ _ ?_).2 ?_

theorem execLogInfo_only (q : Req) (s : State) : ∃ u, execLogInfo q s = .next u ∧ Only [.frm, .auth] s u := by
  refine ⟨_, rfl, ?_⟩
  repeat' first
    | with_reducible exact Only.rfl
    | exact Eq.refl true
    | with_reducible intro _ _ _
    | with_reducible intro _ _
    | with_reducible refine Op.serve_only ?_ ?_ ?_
    | with_reducible refine (logInfo_run _ _ _ ?_).2 ?_

theorem execCountersRead_only (q : Req) (s : State) : ∃ u, execCountersRead q s = .next u ∧ Only [.frm, .auth] s u := by
  refine ⟨_, rfl, ?_⟩
  repeat' first
    | with_reducible exact Only.rfl
    | exact Eq.refl true
    | with_reducible intro _ _ _
    | with_reducible intro _ _
    | with_reducible refine Op.serve_only ?_ ?_ ?_
    | with_reducible refine (countersRead_run _ _ _ ?_).2 ?_

theorem execLogEntryWrite_only (dt : Nat) (torn : Bool) (s : State) : ∃ u, execLogEntryWrite dt torn s = .next u ∧ Only [.clk, .log, .se] s u := by
  refine ⟨_, rfl, ?_⟩
  repeat' first
    | with_reducible exact Only.rfl
    | exact Eq.refl true
    | with_reducible refine Only.ite ?_ ?_
    | with_reducible intro _ _
    | with_reducible refine (State.advance_only _ _ ?_).2 ?_
    | with_reducible refine (State.mLog_only _ _ ?_).2 ?_
    | with_reducible refine (State.scDone_only _ _ ?_).2 ?_

theorem execNeedleTake_only (q : Req) (flags : Byte) (timeout : Half) (s : State) :
    ∃ u, execNeedleTake q flags timeout s = .next u ∧ Only [.frm, .auth, .fan, .lich, .safe, .inj, .log] s u := by
  refine ⟨_, rfl, ?_⟩
  repeat' first
    | with_reducible exact Only.rfl
    | exact Eq.refl true
    | with_reducible intro _ _ _
    | with_reducible intro _ _
    | with_reducible refine Op.serve_only ?_ ?_ ?_
    | with_reducible refine (needleTake_run _ _ _ _ _ ?_).2 ?_

theorem execNeedleGiveRelease_only (q : Req) (s : State) :
    ∃ u, execNeedleGiveRelease q s = .next u ∧ Only [.frm, .auth, .loop, .drv, .fan, .prog, .lich, .safe, .inj, .log, .cnt] s u := by
  refine ⟨_, rfl, ?_⟩
  repeat' first
    | with_reducible exact Only.rfl
    | exact Eq.refl true
    | with_reducible intro _ _ _
    | with_reducible intro _ _
    | with_reducible refine Op.serve_only ?_ ?_ ?_
    | with_reducible refine (needleGive_run _ _ _ _ ?_).2 ?_

theorem execNeedleGiveLichen_only (q : Req) (s : State) :
    ∃ u, execNeedleGiveLichen q s = .next u ∧ Only [.frm, .auth, .loop, .drv, .fan, .prog, .lich, .safe, .inj, .log, .cnt] s u := by
  refine ⟨_, rfl, ?_⟩
  repeat' first
    | with_reducible exact Only.rfl
    | exact Eq.refl true
    | with_reducible intro _ _ _
    | with_reducible intro _ _
    | with_reducible refine Op.serve_only ?_ ?_ ?_
    | with_reducible refine (needleGive_run _ _ _ _ ?_).2 ?_

theorem execHostTimeoutExpire_only (s : State) :
    ∃ u, execHostTimeoutExpire s = .next u ∧ Only [.frm, .loop, .drv, .fan, .prog, .lich, .safe, .inj, .log, .cnt] s u := by
  refine ⟨_, rfl, ?_⟩
  repeat' first
    | with_reducible exact Only.rfl
    | exact Eq.refl true
    | with_reducible refine Only.ite ?_ ?_
    | with_reducible intro _ _
    | with_reducible refine (State.lichenEnter_only _ _ ?_).2 ?_

theorem execLichenConfig_only (q : Req) (item : List Byte) (s : State) :
    ∃ u, execLichenConfig q item s = .next u ∧ Only [.frm, .auth, .lich] s u := by
  refine ⟨_, rfl, ?_⟩
  repeat' first
    | with_reducible exact Only.rfl
    | exact Eq.refl true
    | with_reducible intro _ _ _
    | with_reducible intro _ _
    | with_reducible refine Op.serve_only ?_ ?_ ?_
    | with_reducible refine (lichenConfig_run _ _ _ _ ?_).2 ?_

theorem execLichenHeatExpire_only (dt : Nat) (s : State) :
    ∃ u, execLichenHeatExpire dt s = .next u ∧ Only [.clk, .loop, .drv, .prog, .lich, .safe, .log, .cnt] s u := by
  refine ⟨_, rfl, ?_⟩
  repeat' first
    | with_reducible exact Only.rfl
    | exact Eq.refl true
    | with_reducible refine Only.ite ?_ ?_
    | with_reducible intro _ _
    | with_reducible refine (State.advance_only _ _ ?_).2 ?_
    | with_reducible refine (State.lichenRemove_only _ ?_).2 ?_
    | with_reducible refine (State.mSafe_only _ _ ?_).2 ?_
    | split

theorem execSessionOpen_only (q : Req) (slot : Byte) (nonceH : List Byte) (s : State) :
    ∃ u, execSessionOpen q slot nonceH s = .next u ∧ Only [.frm, .auth, .free] s u := by
  refine ⟨_, rfl, ?_⟩
  repeat' first
    | with_reducible exact Only.rfl
    | exact Eq.refl true
    | with_reducible intro _ _ _
    | with_reducible intro _ _
    | with_reducible refine Op.serve_only ?_ ?_ ?_
    | with_reducible refine (sessionOpen_run _ _ _ _ _ ?_).2 ?_

theorem execSessionClose_only (q : Req) (s : State) : ∃ u, execSessionClose q s = .next u ∧ Only [.frm, .auth] s u := by
  refine ⟨_, rfl, ?_⟩
  repeat' first
    | with_reducible exact Only.rfl
    | exact Eq.refl true
    | with_reducible intro _ _ _
    | with_reducible intro _ _
    | with_reducible refine Op.serve_only ?_ ?_ ?_
    | with_reducible refine (sessionClose_run _ _ _ ?_).2 ?_

theorem execKeyLoadPlain_only (q : Req) (slot : Byte) (keyver : Half) (key : List Byte) (s : State) :
    ∃ u, execKeyLoadPlain q slot keyver key s = .next u ∧ Only [.frm, .auth, .log] s u := by
  refine ⟨_, rfl, ?_⟩
  repeat' first
    | with_reducible exact Only.rfl
    | exact Eq.refl true
    | with_reducible intro _ _ _
    | with_reducible intro _ _
    | with_reducible refine Op.serve_only ?_ ?_ ?_
    | with_reducible refine (keyLoad_run _ _ _ _ _ _ _ ?_).2 ?_

theorem execKeyLoadWrapped_only (q : Req) (slot : Byte) (keyver : Half) (wrapped : List Byte) (s : State) :
    ∃ u, execKeyLoadWrapped q slot keyver wrapped s = .next u ∧ Only [.frm, .auth, .log] s u := by
  refine ⟨_, rfl, ?_⟩
  repeat' first
    | with_reducible exact Only.rfl
    | exact Eq.refl true
    | with_reducible intro _ _ _
    | with_reducible intro _ _
    | with_reducible refine Op.serve_only ?_ ?_ ?_
    | with_reducible refine (keyLoad_run _ _ _ _ _ _ _ ?_).2 ?_

theorem execKeyLoadErase_only (q : Req) (slot : Byte) (keyver : Half) (s : State) :
    ∃ u, execKeyLoadErase q slot keyver s = .next u ∧ Only [.frm, .auth, .log] s u := by
  refine ⟨_, rfl, ?_⟩
  repeat' first
    | with_reducible exact Only.rfl
    | exact Eq.refl true
    | with_reducible intro _ _ _
    | with_reducible intro _ _
    | with_reducible refine Op.serve_only ?_ ?_ ?_
    | with_reducible refine (keyLoad_run _ _ _ _ _ _ _ ?_).2 ?_

theorem execSessionStatus_only (q : Req) (s : State) : ∃ u, execSessionStatus q s = .next u ∧ Only [.frm, .auth] s u := by
  refine ⟨_, rfl, ?_⟩
  repeat' first
    | with_reducible exact Only.rfl
    | exact Eq.refl true
    | with_reducible intro _ _ _
    | with_reducible intro _ _
    | with_reducible refine Op.serve_only ?_ ?_ ?_
    | with_reducible refine (sessionStatus_run _ _ _ ?_).2 ?_

theorem execPendingSessionExpire_only (dt : Nat) (sender : Sender) (s : State) :
    ∃ u, execPendingSessionExpire dt sender s = .next u ∧ Only [.clk, .auth] s u := by
  have c : Only [.clk, .auth] s (s.advance dt) := (State.advance_only _ _ (by rfl)).2 Only.rfl
  refine ⟨_, rfl, ?_⟩
  cases (s.advance dt).auth.pendS[senderIx sender]
  · exact c
  · exact Only.ite ((State.mAuth_only _ _ (by rfl)).2 c) c

theorem execPollResult_only (q : Req) (ticket : Half) (s : State) : ∃ u, execPollResult q ticket s = .next u ∧ Only [.frm, .auth] s u := by
  refine ⟨_, rfl, ?_⟩
  repeat' first
    | with_reducible exact Only.rfl
    | exact Eq.refl true
    | with_reducible intro _ _ _
    | with_reducible intro _ _
    | with_reducible refine Op.serve_only ?_ ?_ ?_
    | with_reducible refine (pollResult_run _ _ _ _ ?_).2 ?_

theorem execResultExpire_only (dt : Nat) (ticket : Nat) (s : State) : ∃ u, execResultExpire dt ticket s = .next u ∧ Only [.clk, .frm] s u := by
  refine ⟨_, rfl, ?_⟩
  repeat' first
    | with_reducible exact Only.rfl
    | exact Eq.refl true
    | with_reducible intro _ _
    | with_reducible refine (State.advance_only _ _ ?_).2 ?_
    | with_reducible refine (State.mFrm_only _ _ ?_).2 ?_

theorem execIdentify_only (q : Req) (s : State) : ∃ u, execIdentify q s = .next u ∧ Only [.frm, .auth] s u := by
  refine ⟨_, rfl, ?_⟩
  repeat' first
    | with_reducible exact Only.rfl
    | exact Eq.refl true
    | with_reducible intro _ _ _
    | with_reducible intro _ _
    | with_reducible refine Op.serve_only ?_ ?_ ?_
    | with_reducible refine (identify_run _ _ _ ?_).2 ?_

theorem execReset_only (q : Req) (kind : Byte) (s : State) : ∃ u, execReset q kind s = .next u ∧ Only [.frm, .auth] s u := by
  refine ⟨_, rfl, ?_⟩
  repeat' first
    | with_reducible exact Only.rfl
    | exact Eq.refl true
    | with_reducible intro _ _ _
    | with_reducible intro _ _
    | with_reducible refine Op.serve_only ?_ ?_ ?_
    | with_reducible refine (resetOp_run _ _ _ _ ?_).2 ?_

theorem execUpdateBegin_only (q : Req) (payload : List Byte) (s : State) :
    ∃ u, execUpdateBegin q payload s = .next u ∧ Only [.frm, .auth, .log, .upd] s u := by
  refine ⟨_, rfl, ?_⟩
  repeat' first
    | with_reducible exact Only.rfl
    | exact Eq.refl true
    | with_reducible intro _ _ _
    | with_reducible intro _ _
    | with_reducible refine Op.serve_only ?_ ?_ ?_
    | with_reducible refine (updateBegin_run _ _ _ _ ?_).2 ?_

theorem execUpdateBeginChecked_only (dt : Nat) (s : State) :
    ∃ u, execUpdateBeginChecked dt s = .next u ∧ Only [.clk, .sys, .frm, .log, .upd, .mem] s u := by
  refine ⟨_, rfl, ?_⟩
  repeat' first
    | with_reducible exact Only.rfl
    | exact Eq.refl true
    | with_reducible intro _ _
    | with_reducible refine (State.advance_only _ _ ?_).2 ?_
    | with_reducible refine (State.updChecked_only _ ?_).2 ?_

theorem execFlashEraseDone_only (dt : Nat) (blankOk : Bool) (s : State) :
    ∃ u, execFlashEraseDone dt blankOk s = .next u ∧ Only [.clk, .frm, .log, .upd] s u := by
  refine ⟨_, rfl, ?_⟩
  repeat' first
    | with_reducible exact Only.rfl
    | exact Eq.refl true
    | with_reducible intro _ _
    | with_reducible refine (State.advance_only _ _ ?_).2 ?_
    | with_reducible refine (State.updErased_only _ _ ?_).2 ?_

theorem execUpdateBlock_only (q : Req) (payload : List Byte) (s : State) :
    ∃ u, execUpdateBlock q payload s = .next u ∧ Only [.frm, .auth, .log, .se, .upd] s u := by
  refine ⟨_, rfl, ?_⟩
  repeat' first
    | with_reducible exact Only.rfl
    | exact Eq.refl true
    | with_reducible intro _ _ _
    | with_reducible intro _ _
    | with_reducible refine Op.serve_only ?_ ?_ ?_
    | with_reducible refine (updateBlock_run _ _ _ _ ?_).2 ?_

theorem execProgramComplete_only (dt : Nat) (words : Nat) (readOk : Bool) (s : State) :
    ∃ u, execProgramComplete dt words readOk s = .next u ∧ Only [.clk, .frm, .log, .upd, .mem] s u := by
  refine ⟨_, rfl, ?_⟩
  repeat' first
    | with_reducible exact Only.rfl
    | exact Eq.refl true
    | with_reducible intro _ _
    | with_reducible refine (State.advance_only _ _ ?_).2 ?_
    | with_reducible refine (State.program_only _ _ _ ?_).2 ?_

theorem execUpdateVerify_only (q : Req) (tid : Half) (s : State) : ∃ u, execUpdateVerify q tid s = .next u ∧ Only [.frm, .auth, .upd] s u := by
  refine ⟨_, rfl, ?_⟩
  repeat' first
    | with_reducible exact Only.rfl
    | exact Eq.refl true
    | with_reducible intro _ _ _
    | with_reducible intro _ _
    | with_reducible refine Op.serve_only ?_ ?_ ?_
    | with_reducible refine (updateVerify_run _ _ _ _ ?_).2 ?_

theorem execVerifyDone_only (dt : Nat) (s : State) : ∃ u, execVerifyDone dt s = .next u ∧ Only [.clk, .frm, .log, .upd] s u := by
  refine ⟨_, rfl, ?_⟩
  repeat' first
    | with_reducible exact Only.rfl
    | exact Eq.refl true
    | with_reducible intro _ _
    | with_reducible refine (State.advance_only _ _ ?_).2 ?_
    | with_reducible refine (State.verified_only _ ?_).2 ?_

theorem execUpdateAbort_only (q : Req) (tid : Half) (s : State) : ∃ u, execUpdateAbort q tid s = .next u ∧ Only [.frm, .auth, .log, .upd] s u := by
  refine ⟨_, rfl, ?_⟩
  repeat' first
    | with_reducible exact Only.rfl
    | exact Eq.refl true
    | with_reducible intro _ _ _
    | with_reducible intro _ _
    | with_reducible refine Op.serve_only ?_ ?_ ?_
    | with_reducible refine (updateAbort_run _ _ _ _ ?_).2 ?_

theorem execUpdateStatus_only (q : Req) (s : State) : ∃ u, execUpdateStatus q s = .next u ∧ Only [.frm, .auth] s u := by
  refine ⟨_, rfl, ?_⟩
  repeat' first
    | with_reducible exact Only.rfl
    | exact Eq.refl true
    | with_reducible intro _ _ _
    | with_reducible intro _ _
    | with_reducible refine Op.serve_only ?_ ?_ ?_
    | with_reducible refine (updateStatus_run _ _ _ ?_).2 ?_

theorem execUpdateCommit_only (q : Req) (tid : Half) (s : State) :
    ∃ u, execUpdateCommit q tid s = .next u ∧ Only [.pow, .ring, .frm, .auth, .inj, .log, .upd, .ho] s u := by
  refine ⟨_, rfl, ?_⟩
  repeat' first
    | with_reducible exact Only.rfl
    | exact Eq.refl true
    | with_reducible intro _ _ _
    | with_reducible intro _ _
    | with_reducible refine Op.serve_only ?_ ?_ ?_
    | with_reducible refine (updateCommit_run _ _ _ _ ?_).2 ?_

theorem execHandoverBootDone_only (dt : Nat) (accepted : Bool) (pages : Nat) (s : State) :
    ∃ u, execHandoverBootDone dt accepted pages s = .next u ∧ Only [.clk, .sys, .frm, .log, .upd, .ho] s u := by
  refine ⟨_, rfl, ?_⟩
  repeat' first
    | with_reducible exact Only.rfl
    | exact Eq.refl true
    | with_reducible intro _ _
    | with_reducible refine (State.advance_only _ _ ?_).2 ?_
    | with_reducible refine (State.hoBooted_only _ _ _ ?_).2 ?_

theorem execHandoverBootTimeout_only (dt : Nat) (s : State) :
    ∃ u, execHandoverBootTimeout dt s = .next u ∧ Only [.clk, .sys, .frm, .log, .upd, .ho] s u := by
  refine ⟨_, rfl, ?_⟩
  repeat' first
    | with_reducible exact Only.rfl
    | exact Eq.refl true
    | with_reducible refine Only.ite ?_ ?_
    | with_reducible intro _ _
    | with_reducible refine Res.bad_only ?_
    | with_reducible refine Res.ok_only ?_
    | with_reducible refine (State.advance_only _ _ ?_).2 ?_
    | with_reducible refine (State.hoAbandon_only _ _ _ ?_).2 ?_

theorem execCatchupTimeout_only (dt : Nat) (s : State) : ∃ u, execCatchupTimeout dt s = .next u ∧ Only [.clk, .sys, .frm, .log, .upd, .ho] s u := by
  refine ⟨_, rfl, ?_⟩
  repeat' first
    | with_reducible exact Only.rfl
    | exact Eq.refl true
    | with_reducible refine Only.ite ?_ ?_
    | with_reducible intro _ _
    | with_reducible refine Res.bad_only ?_
    | with_reducible refine Res.ok_only ?_
    | with_reducible refine (State.advance_only _ _ ?_).2 ?_
    | with_reducible refine (State.hoAbandon_only _ _ _ ?_).2 ?_

theorem execSelfCheckReport_only (dt : Nat) (pass : Bool) (s : State) : ∃ u, execSelfCheckReport dt pass s = .next u ∧ Only [.clk, .ho] s u := by
  refine ⟨_, rfl, ?_⟩
  repeat' first
    | with_reducible exact Only.rfl
    | exact Eq.refl true
    | with_reducible refine Only.ite ?_ ?_
    | with_reducible intro _ _
    | with_reducible refine (State.advance_only _ _ ?_).2 ?_
    | with_reducible refine (State.hoFail_only _ _ ?_).2 ?_
    | with_reducible refine (State.mHo_only _ _ ?_).2 ?_

theorem execTrialWindowEnd_only (dt : Nat) (s : State) : ∃ u, execTrialWindowEnd dt s = .next u ∧ Only [.clk, .frm, .log, .upd, .ho] s u := by
  refine ⟨_, rfl, ?_⟩
  repeat' first
    | with_reducible exact Only.rfl
    | exact Eq.refl true
    | with_reducible intro _ _
    | with_reducible refine (State.advance_only _ _ ?_).2 ?_
    | with_reducible refine (State.hoWindowEnd_only _ ?_).2 ?_

theorem execSmRestartDone_only (dt : Nat) (testOk : Bool) (s : State) :
    ∃ u, execSmRestartDone dt testOk s = .next u ∧ Only [.clk, .pow, .frm, .drv, .fan, .safe, .log, .upd, .ho] s u := by
  refine ⟨_, rfl, ?_⟩
  repeat' first
    | with_reducible exact Only.rfl
    | exact Eq.refl true
    | with_reducible intro _ _
    | with_reducible refine (State.advance_only _ _ ?_).2 ?_
    | with_reducible refine (State.smRestarted_only _ _ ?_).2 ?_

theorem execPortReload_only (dt : Nat) (s : State) : ∃ u, execPortReload dt s = .next u ∧ Only [.clk, .ring, .frm, .log, .upd, .ho] s u := by
  refine ⟨_, rfl, ?_⟩
  repeat' first
    | with_reducible exact Only.rfl
    | exact Eq.refl true
    | with_reducible refine Only.ite ?_ ?_
    | with_reducible intro _ _
    | with_reducible refine (State.advance_only _ _ ?_).2 ?_
    | with_reducible refine (State.hoFellBack_only _ _ ?_).2 ?_
    | with_reducible refine (State.hoTrial_only _ ?_).2 ?_
    | with_reducible refine (State.portsReload_only _ ?_).2 ?_
    | with_reducible refine (State.takeBank_only _ _ ?_).2 ?_

theorem execPortLockTimeout_only (dt : Nat) (s : State) : ∃ u, execPortLockTimeout dt s = .next u ∧ Only [.clk, .ho] s u := by
  refine ⟨_, rfl, ?_⟩
  repeat' first
    | with_reducible exact Only.rfl
    | exact Eq.refl true
    | with_reducible refine Only.ite ?_ ?_
    | with_reducible intro _ _
    | with_reducible refine (State.advance_only _ _ ?_).2 ?_
    | with_reducible refine (State.hoFail_only _ _ ?_).2 ?_

theorem execImageInfo_only (q : Req) (s : State) : ∃ u, execImageInfo q s = .next u ∧ Only [.frm, .auth] s u := by
  refine ⟨_, rfl, ?_⟩
  repeat' first
    | with_reducible exact Only.rfl
    | exact Eq.refl true
    | with_reducible intro _ _ _
    | with_reducible intro _ _
    | with_reducible refine Op.serve_only ?_ ?_ ?_
    | with_reducible refine (imageInfo_run _ _ _ ?_).2 ?_

theorem execHandoverStatus_only (q : Req) (s : State) : ∃ u, execHandoverStatus q s = .next u ∧ Only [.frm, .auth] s u := by
  refine ⟨_, rfl, ?_⟩
  repeat' first
    | with_reducible exact Only.rfl
    | exact Eq.refl true
    | with_reducible intro _ _ _
    | with_reducible intro _ _
    | with_reducible refine Op.serve_only ?_ ?_ ?_
    | with_reducible refine (handoverStatus_run _ _ _ ?_).2 ?_

theorem execSporeEnter_only (q : Req) (key : Half) (s : State) : ∃ u, execSporeEnter q key s = .next u ∧ Only [.frm, .auth] s u := by
  refine ⟨_, rfl, ?_⟩
  repeat' first
    | with_reducible exact Only.rfl
    | exact Eq.refl true
    | with_reducible intro _ _ _
    | with_reducible intro _ _
    | with_reducible refine Op.serve_only ?_ ?_ ?_
    | with_reducible refine (sporeEnter_run _ _ _ _ ?_).2 ?_

theorem execSramEccError_only (dt : Nat) (s : State) : ∃ u, execSramEccError dt s = .next u ∧ Only [.clk, .ho] s u := by
  refine ⟨_, rfl, ?_⟩
  repeat' first
    | with_reducible exact Only.rfl
    | exact Eq.refl true
    | with_reducible refine Only.ite ?_ ?_
    | with_reducible intro _ _
    | with_reducible refine (State.advance_only _ _ ?_).2 ?_
    | with_reducible refine (State.hoFail_only _ _ ?_).2 ?_

theorem execEstopPathOpen_only (dt : Nat) (s : State) : ∃ u, execEstopPathOpen dt s = .next u ∧ Only [.clk, .drv, .fan, .log, .ho] s u := by
  refine ⟨_, rfl, ?_⟩
  repeat' first
    | with_reducible exact Only.rfl
    | exact Eq.refl true
    | with_reducible refine Only.ite ?_ ?_
    | with_reducible intro _ _
    | with_reducible refine (State.advance_only _ _ ?_).2 ?_
    | with_reducible refine (State.fansSettle_only _ ?_).2 ?_
    | with_reducible refine (State.mHo_only _ _ ?_).2 ?_
    | with_reducible refine (State.releaseAll_only _ ?_).2 ?_

theorem execVsLogicPowerUp_only (dt : Nat) (s : State) :
    ∃ u, execVsLogicPowerUp dt s = .next u ∧ Only [.clk, .sys, .pow, .ring, .frm, .auth, .run, .cfgs, .fe, .tab, .snap, .loop, .die, .drv, .fan, .prog,
      .conv, .stitch, .energy, .lich, .therm, .safe, .inj, .log, .cnt, .se, .upd, .ho, .dio, .mem] s u := by
  refine ⟨_, rfl, ?_⟩
  repeat' first
    | with_reducible exact Only.rfl
    | exact Eq.refl true
    | with_reducible refine Only.ite ?_ ?_
    | with_reducible intro _ _
    | with_reducible refine (State.advance_only _ _ ?_).2 ?_
    | with_reducible refine (State.restart_only _ _ ?_).2 ?_

theorem execSporeSample_only (dt : Nat) (high : Bool) (s : State) : ∃ u, execSporeSample dt high s = .next u ∧ Only [.clk, .pow, .log, .ho] s u := by
  refine ⟨_, rfl, ?_⟩
  repeat' first
    | with_reducible exact Only.rfl
    | exact Eq.refl true
    | with_reducible refine Only.ite ?_ ?_
    | with_reducible intro _ _
    | with_reducible refine (State.advance_only _ _ ?_).2 ?_
    | with_reducible refine (State.toSpore_only _ _ ?_).2 ?_

theorem execSmStart_only (dt : Nat) (selfOk : Bool) (s : State) :
    ∃ u, execSmStart dt selfOk s = .next u ∧ Only [.clk, .pow, .drv, .fan, .safe, .log] s u := by
  refine ⟨_, rfl, ?_⟩
  repeat' first
    | with_reducible exact Only.rfl
    | exact Eq.refl true
    | with_reducible intro _ _
    | with_reducible refine (State.advance_only _ _ ?_).2 ?_
    | with_reducible refine (State.smBoot_only _ _ ?_).2 ?_

theorem execRingReady_only (dt : Nat) (lockA : Bool) (lockB : Bool) (s : State) :
    ∃ u, execRingReady dt lockA lockB s = .next u ∧ Only [.clk, .pow, .ring] s u := by
  refine ⟨_, rfl, ?_⟩
  repeat' first
    | with_reducible exact Only.rfl
    | exact Eq.refl true
    | with_reducible intro _ _
    | with_reducible refine (State.advance_only _ _ ?_).2 ?_
    | with_reducible refine (State.ringUp_only _ _ _ ?_).2 ?_

theorem execCtrlRunning_only (dt : Nat) (s : State) :
    ∃ u, execCtrlRunning dt s = .next u ∧ Only [.clk, .sys, .pow, .frm, .run, .cfgs, .fe, .snap, .loop, .die, .drv, .fan, .prog, .energy, .therm, .log,
      .ho] s u := by
  refine ⟨_, rfl, ?_⟩
  repeat' first
    | with_reducible exact Only.rfl
    | exact Eq.refl true
    | with_reducible intro _ _
    | with_reducible refine (State.advance_only _ _ ?_).2 ?_
    | with_reducible refine (State.ctrlUp_only _ ?_).2 ?_

theorem execVsLogicPowerDown_only (dt : Nat) (s : State) :
    ∃ u, execVsLogicPowerDown dt s = .next u ∧ Only [.clk, .pow, .loop, .drv, .fan, .safe, .log, .cnt] s u := by
  refine ⟨_, rfl, ?_⟩
  repeat' first
    | with_reducible exact Only.rfl
    | exact Eq.refl true
    | with_reducible intro _ _
    | with_reducible refine (State.advance_only _ _ ?_).2 ?_
    | with_reducible refine (State.powerDown_only _ ?_).2 ?_

theorem execVsLogicRecoverInPowerDown_only (dt : Nat) (s : State) :
    ∃ u, execVsLogicRecoverInPowerDown dt s = .next u ∧ Only [.clk, .sys, .pow, .ring, .frm, .auth, .run, .cfgs, .fe, .tab, .snap, .loop, .die, .drv,
      .fan, .prog, .conv, .stitch, .energy, .lich, .therm, .safe, .inj, .log, .cnt, .se, .upd, .ho, .dio, .mem] s u := by
  refine ⟨_, rfl, ?_⟩
  repeat' first
    | with_reducible exact Only.rfl
    | exact Eq.refl true
    | with_reducible refine Only.ite ?_ ?_
    | with_reducible intro _ _
    | with_reducible refine (State.advance_only _ _ ?_).2 ?_
    | with_reducible refine (State.restart_only _ _ ?_).2 ?_

theorem execFullReset_only (dt : Nat) (s : State) :
    ∃ u, execFullReset dt s = .next u ∧ Only [.clk, .sys, .pow, .ring, .frm, .auth, .run, .cfgs, .fe, .tab, .snap, .loop, .die, .drv, .fan, .prog,
      .conv, .stitch, .energy, .lich, .therm, .safe, .inj, .log, .cnt, .se, .upd, .ho, .dio, .mem] s u := by
  refine ⟨_, rfl, ?_⟩
  repeat' first
    | with_reducible exact Only.rfl
    | exact Eq.refl true
    | with_reducible refine Only.ite ?_ ?_
    | with_reducible intro _ _
    | with_reducible refine (State.advance_only _ _ ?_).2 ?_
    | with_reducible refine (State.restart_only _ _ ?_).2 ?_
    | split

theorem execMossEnter_only (q : Req) (s : State) : ∃ u, execMossEnter q s = .next u ∧ Only [.frm, .auth] s u := by
  refine ⟨_, rfl, ?_⟩
  repeat' first
    | with_reducible exact Only.rfl
    | exact Eq.refl true
    | with_reducible intro _ _ _
    | with_reducible intro _ _
    | with_reducible refine Op.serve_only ?_ ?_ ?_
    | with_reducible refine (mossEnter_run _ _ _ ?_).2 ?_

theorem execMossShutdown_only (dt : Nat) (s : State) :
    ∃ u, execMossShutdown dt s = .next u ∧ Only [.clk, .sys, .pow, .ring, .frm, .auth, .run, .cfgs, .fe, .tab, .snap, .loop, .die, .drv, .fan,
      .prog, .conv, .stitch, .energy, .lich, .therm, .safe, .inj, .log, .cnt, .se, .upd, .ho, .dio, .mem] s u := by
  refine ⟨_, rfl, ?_⟩
  repeat' first
    | with_reducible exact Only.rfl
    | exact Eq.refl true
    | with_reducible refine Only.each ?_ ?_
    | with_reducible intro _ _
    | with_reducible refine (State.advance_only _ _ ?_).2 ?_
    | with_reducible refine (State.mossReached_only _ ?_).2 ?_

theorem execWakeSymbolRx_only (dt : Nat) (port : PortId) (s : State) :
    ∃ u, execWakeSymbolRx dt port s = .next u ∧ Only [.clk, .sys, .pow, .ring, .frm, .auth, .run, .cfgs, .fe, .tab, .snap, .loop, .die, .drv, .fan,
      .prog, .conv, .stitch, .energy, .lich, .therm, .safe, .inj, .log, .cnt, .se, .upd, .ho, .dio, .mem] s u := by
  refine ⟨_, rfl, ?_⟩
  repeat' first
    | with_reducible exact Only.rfl
    | exact Eq.refl true
    | with_reducible refine Only.ite ?_ ?_
    | with_reducible intro _ _
    | with_reducible refine (State.advance_only _ _ ?_).2 ?_
    | with_reducible refine (State.wakeEvent_only _ _ _ ?_).2 ?_

theorem execDi00Wake_only (dt : Nat) (rising : Bool) (s : State) :
    ∃ u, execDi00Wake dt rising s = .next u ∧ Only [.clk, .sys, .pow, .ring, .frm, .auth, .run, .cfgs, .fe, .tab, .snap, .loop, .die, .drv, .fan,
      .prog, .conv, .stitch, .energy, .lich, .therm, .safe, .inj, .log, .cnt, .se, .upd, .ho, .dio, .mem] s u := by
  refine ⟨_, rfl, ?_⟩
  repeat' first
    | with_reducible exact Only.rfl
    | exact Eq.refl true
    | with_reducible intro _ _
    | with_reducible refine (State.advance_only _ _ ?_).2 ?_
    | with_reducible refine (State.wakeEvent_only _ _ _ ?_).2 ?_

theorem execSvcWake_only (dt : Nat) (s : State) :
    ∃ u, execSvcWake dt s = .next u ∧ Only [.clk, .sys, .pow, .ring, .frm, .auth, .run, .cfgs, .fe, .tab, .snap, .loop, .die, .drv, .fan, .prog,
      .conv, .stitch, .energy, .lich, .therm, .safe, .inj, .log, .cnt, .se, .upd, .ho, .dio, .mem] s u := by
  refine ⟨_, rfl, ?_⟩
  repeat' first
    | with_reducible exact Only.rfl
    | exact Eq.refl true
    | with_reducible intro _ _
    | with_reducible refine (State.advance_only _ _ ?_).2 ?_
    | with_reducible refine (State.wakeEvent_only _ _ _ ?_).2 ?_

theorem execLinkIdSend_only (dt : Nat) (port : PortId) (s : State) : ∃ u, execLinkIdSend dt port s = .next u ∧ Only [.clk, .ring] s u := by
  refine ⟨_, rfl, ?_⟩
  repeat' first
    | with_reducible exact Only.rfl
    | exact Eq.refl true
    | with_reducible refine Only.ite ?_ ?_
    | with_reducible intro _ _
    | with_reducible refine (State.advance_only _ _ ?_).2 ?_
    | with_reducible refine (State.mRp_only _ _ _ ?_).2 ?_

theorem execLinkIdReceive_only (dt : Nat) (port : PortId) (bytes : List Byte) (s : State) :
    ∃ u, execLinkIdReceive dt port bytes s = .next u ∧ Only [.clk, .ring] s u := by
  refine ⟨_, rfl, ?_⟩
  repeat' first
    | with_reducible exact Only.rfl
    | exact Eq.refl true
    | with_reducible refine Only.ite ?_ ?_
    | with_reducible intro _ _
    | with_reducible refine (State.advance_only _ _ ?_).2 ?_
    | with_reducible refine (State.mRp_only _ _ _ ?_).2 ?_
    | split

theorem execEqAdapt_only (dt : Nat) (port : PortId) (best : Nat) (eye : Nat) (pe : Nat) (s : State) :
    ∃ u, execEqAdapt dt port best eye pe s = .next u ∧ Only [.clk, .ring] s u := by
  refine ⟨_, rfl, ?_⟩
  repeat' first
    | with_reducible exact Only.rfl
    | exact Eq.refl true
    | with_reducible refine Only.ite ?_ ?_
    | with_reducible intro _ _
    | with_reducible refine (State.advance_only _ _ ?_).2 ?_
    | with_reducible refine (State.mRp_only _ _ _ ?_).2 ?_

theorem execMarginLowDetect_only (dt : Nat) (port : PortId) (s : State) : ∃ u, execMarginLowDetect dt port s = .next u ∧ Only [.clk, .ring] s u := by
  refine ⟨_, rfl, ?_⟩
  repeat' first
    | with_reducible exact Only.rfl
    | exact Eq.refl true
    | with_reducible refine Only.ite ?_ ?_
    | with_reducible intro _ _
    | with_reducible refine (State.advance_only _ _ ?_).2 ?_
    | with_reducible refine (State.mRp_only _ _ _ ?_).2 ?_

theorem execRangeRequestSend_only (dt : Nat) (port : PortId) (s : State) :
    ∃ u, execRangeRequestSend dt port s = .next u ∧ Only [.clk, .ring] s u := by
  refine ⟨_, rfl, ?_⟩
  repeat' first
    | with_reducible exact Only.rfl
    | exact Eq.refl true
    | with_reducible refine Only.ite ?_ ?_
    | with_reducible intro _ _
    | with_reducible refine (State.advance_only _ _ ?_).2 ?_
    | with_reducible refine (State.mRp_only _ _ _ ?_).2 ?_

theorem execRangeReceive_only (dt : Nat) (port : PortId) (bytes : List Byte) (elapsed : Nat) (s : State) :
    ∃ u, execRangeReceive dt port bytes elapsed s = .next u ∧ Only [.clk, .ring] s u := by
  refine ⟨_, rfl, ?_⟩
  repeat' first
    | with_reducible exact Only.rfl
    | exact Eq.refl true
    | with_reducible refine Only.ite ?_ ?_
    | with_reducible intro _ _
    | with_reducible refine (State.advance_only _ _ ?_).2 ?_
    | with_reducible refine (State.mRp_only _ _ _ ?_).2 ?_
    | split

theorem execLossOfLock_only (dt : Nat) (port : PortId) (cause : LossCause) (ns : Nat) (n : Nat) (s : State) :
    ∃ u, execLossOfLock dt port cause ns n s = .next u ∧ Only [.clk, .ring, .inj, .log] s u := by
  refine ⟨_, rfl, ?_⟩
  repeat' first
    | with_reducible exact Only.rfl
    | exact Eq.refl true
    | with_reducible refine Only.ite ?_ ?_
    | with_reducible intro _ _
    | with_reducible refine (State.advance_only _ _ ?_).2 ?_
    | with_reducible refine (State.loseLock_only _ _ _ ?_).2 ?_
    | with_reducible refine (State.mRp_only _ _ _ ?_).2 ?_

theorem execRelock_only (dt : Nat) (port : PortId) (s : State) : ∃ u, execRelock dt port s = .next u ∧ Only [.clk, .ring, .log] s u := by
  refine ⟨_, rfl, ?_⟩
  repeat' first
    | with_reducible exact Only.rfl
    | exact Eq.refl true
    | with_reducible intro _ _
    | with_reducible refine (State.advance_only _ _ ?_).2 ?_
    | with_reducible refine (State.relock_only _ _ ?_).2 ?_

theorem execTurnaroundExit_only (dt : Nat) (port : PortId) (s : State) : ∃ u, execTurnaroundExit dt port s = .next u ∧ Only [.clk, .ring] s u := by
  refine ⟨_, rfl, ?_⟩
  repeat' first
    | with_reducible exact Only.rfl
    | exact Eq.refl true
    | with_reducible intro _ _
    | with_reducible refine (State.advance_only _ _ ?_).2 ?_
    | with_reducible refine (State.leaveTurn_only _ _ ?_).2 ?_

theorem execRateSearchSwitch_only (dt : Nat) (port : PortId) (s : State) :
    ∃ u, execRateSearchSwitch dt port s = .next u ∧ Only [.clk, .ring] s u := by
  refine ⟨_, rfl, ?_⟩
  repeat' first
    | with_reducible exact Only.rfl
    | exact Eq.refl true
    | with_reducible refine Only.ite ?_ ?_
    | with_reducible intro _ _
    | with_reducible refine (State.advance_only _ _ ?_).2 ?_
    | with_reducible refine (State.mRp_only _ _ _ ?_).2 ?_

theorem execRingRateSwitch_only (dt : Nat) (s : State) : ∃ u, execRingRateSwitch dt s = .next u ∧ Only [.clk, .ring, .log] s u := by
  refine ⟨_, rfl, ?_⟩
  repeat' first
    | with_reducible exact Only.rfl
    | exact Eq.refl true
    | with_reducible refine Only.ite ?_ ?_
    | with_reducible intro _ _
    | with_reducible refine (State.advance_only _ _ ?_).2 ?_
    | with_reducible refine (State.switchRate_only _ _ ?_).2 ?_
    | split

theorem execWakeSymbolSend_only (dt : Nat) (port : PortId) (s : State) : ∃ u, execWakeSymbolSend dt port s = .next u ∧ Only [.clk, .ring] s u := by
  refine ⟨_, rfl, ?_⟩
  repeat' first
    | with_reducible exact Only.rfl
    | exact Eq.refl true
    | with_reducible refine Only.ite ?_ ?_
    | with_reducible intro _ _
    | with_reducible refine (State.advance_only _ _ ?_).2 ?_
    | with_reducible refine (State.mRp_only _ _ _ ?_).2 ?_

theorem execWakeSeen_only (dt : Nat) (port : PortId) (s : State) : ∃ u, execWakeSeen dt port s = .next u ∧ Only [.clk, .ring, .free] s u := by
  refine ⟨_, rfl, ?_⟩
  repeat' first
    | with_reducible exact Only.rfl
    | exact Eq.refl true
    | with_reducible refine Only.ite ?_ ?_
    | with_reducible intro _ _
    | with_reducible refine (State.advance_only _ _ ?_).2 ?_
    | with_reducible refine (State.drew_only _ ?_).2 ?_
    | with_reducible refine (State.mRp_only _ _ _ ?_).2 ?_

theorem execRingStatus_only (q : Req) (s : State) : ∃ u, execRingStatus q s = .next u ∧ Only [.clk, .frm, .auth] s u := by
  refine ⟨_, rfl, ?_⟩
  repeat' first
    | with_reducible exact Only.rfl
    | exact Eq.refl true
    | with_reducible intro _ _ _
    | with_reducible intro _ _
    | with_reducible refine Op.serve_only ?_ ?_ ?_
    | with_reducible refine (ringStatus_run _ _ _ ?_).2 ?_

theorem execCastOn_only (q : Req) (base : Byte) (mode : Byte) (s : State) :
    ∃ u, execCastOn q base mode s = .next u ∧ Only [.clk, .ring, .frm, .auth] s u := by
  refine ⟨_, rfl, ?_⟩
  repeat' first
    | with_reducible exact Only.rfl
    | exact Eq.refl true
    | with_reducible intro _ _ _
    | with_reducible intro _ _
    | with_reducible refine Op.serve_only ?_ ?_ ?_
    | with_reducible refine (castOn_run _ _ _ _ _ ?_).2 ?_

theorem execAddrAssign_only (q : Req) (serial : BitVec 64) (addr : Byte) (pin : Byte) (s : State) :
    ∃ u, execAddrAssign q serial addr pin s = .next u ∧ Only [.ring, .frm, .auth] s u := by
  refine ⟨_, rfl, ?_⟩
  repeat' first
    | with_reducible exact Only.rfl
    | exact Eq.refl true
    | with_reducible intro _ _ _
    | with_reducible intro _ _
    | with_reducible refine Op.serve_only ?_ ?_ ?_
    | with_reducible refine (addrAssign_run _ _ _ _ _ _ ?_).2 ?_

theorem execAddrPin_only (q : Req) (pin : Byte) (s : State) : ∃ u, execAddrPin q pin s = .next u ∧ Only [.ring, .frm, .auth] s u := by
  refine ⟨_, rfl, ?_⟩
  repeat' first
    | with_reducible exact Only.rfl
    | exact Eq.refl true
    | with_reducible intro _ _ _
    | with_reducible intro _ _
    | with_reducible refine Op.serve_only ?_ ?_ ?_
    | with_reducible refine (addrPin_run _ _ _ _ ?_).2 ?_

theorem execBindOff_only (q : Req) (unpin : Byte) (s : State) : ∃ u, execBindOff q unpin s = .next u ∧ Only [.pow, .ring, .frm, .auth] s u := by
  refine ⟨_, rfl, ?_⟩
  repeat' first
    | with_reducible exact Only.rfl
    | exact Eq.refl true
    | with_reducible intro _ _ _
    | with_reducible intro _ _
    | with_reducible refine Op.serve_only ?_ ?_ ?_
    | with_reducible refine (bindOff_run _ _ _ _ ?_).2 ?_

theorem execRingRate_only (q : Req) (rate : Byte) (bidx : Word) (s : State) :
    ∃ u, execRingRate q rate bidx s = .next u ∧ Only [.ring, .frm, .auth] s u := by
  refine ⟨_, rfl, ?_⟩
  repeat' first
    | with_reducible exact Only.rfl
    | exact Eq.refl true
    | with_reducible intro _ _ _
    | with_reducible intro _ _
    | with_reducible refine Op.serve_only ?_ ?_ ?_
    | with_reducible refine (ringRate_run _ _ _ _ _ ?_).2 ?_

theorem execWakeSend_only (q : Req) (portN : Byte) (s : State) : ∃ u, execWakeSend q portN s = .next u ∧ Only [.ring, .frm, .auth] s u := by
  refine ⟨_, rfl, ?_⟩
  repeat' first
    | with_reducible exact Only.rfl
    | exact Eq.refl true
    | with_reducible intro _ _ _
    | with_reducible intro _ _
    | with_reducible refine Op.serve_only ?_ ?_ ?_
    | with_reducible refine (wakeSend_run _ _ _ _ ?_).2 ?_

theorem execMarkReceive_only (dt : Nat) (port : PortId) (mark : List Byte) (cyc : Nat) (s : State) :
    ∃ u, execMarkReceive dt port mark cyc s = .next u ∧ Only [.clk, .sys, .ring, .fe, .tab, .snap, .loop, .die, .drv, .fan, .prog, .stitch, .inj, .log,
      .se] s u := by
  refine ⟨_, rfl, ?_⟩
  repeat' first
    | with_reducible exact Only.rfl
    | exact Eq.refl true
    | with_reducible intro _ _
    | with_reducible refine (State.advance_only _ _ ?_).2 ?_
    | with_reducible refine (State.markIn_only _ _ _ _ ?_).2 ?_

theorem execMarkSourceTimeout_only (dt : Nat) (s : State) :
    ∃ u, execMarkSourceTimeout dt s = .next u ∧ Only [.clk, .sys, .fe, .tab, .snap, .loop, .die, .drv, .fan, .prog, .stitch, .inj, .log, .se] s u := by
  refine ⟨_, rfl, ?_⟩
  repeat' first
    | with_reducible exact Only.rfl
    | exact Eq.refl true
    | with_reducible intro _ _
    | with_reducible refine (State.advance_only _ _ ?_).2 ?_
    | with_reducible refine (State.markWait_only _ ?_).2 ?_

theorem execMarkHoldover_only (dt : Nat) (s : State) : ∃ u, execMarkHoldover dt s = .next u ∧ Only [.clk, .sys] s u := by
  refine ⟨_, rfl, ?_⟩
  repeat' first
    | with_reducible exact Only.rfl
    | exact Eq.refl true
    | with_reducible refine Only.ite ?_ ?_
    | with_reducible intro _ _
    | with_reducible refine (State.advance_only _ _ ?_).2 ?_
    | with_reducible refine (State.mSys_only _ _ ?_).2 ?_

theorem execCtSaturate_only (dt : Nat) (s : State) : ∃ u, execCtSaturate dt s = .next u ∧ Only [.clk] s u := by
  refine ⟨_, rfl, ?_⟩
  repeat' first
    | with_reducible exact Only.rfl
    | exact Eq.refl true
    | with_reducible refine Only.ite ?_ ?_
    | with_reducible intro _ _
    | with_reducible refine (State.advance_only _ _ ?_).2 ?_
    | with_reducible refine (State.mClk_only _ _ ?_).2 ?_

theorem execCtLoRead_only (dt : Nat) (s : State) : ∃ u, execCtLoRead dt s = .next u ∧ Only [.clk] s u := by
  refine ⟨_, rfl, ?_⟩
  repeat' first
    | with_reducible exact Only.rfl
    | exact Eq.refl true
    | with_reducible intro _ _
    | with_reducible refine (State.advance_only _ _ ?_).2 ?_
    | with_reducible refine (State.latchHi_only _ ?_).2 ?_

theorem execScConfigDescriptor_only (q : Req) (slot : Byte) (desc : List Byte) (s : State) :
    ∃ u, execScConfigDescriptor q slot desc s = .next u ∧ Only [.frm, .auth, .run, .se, .free] s u := by
  refine ⟨_, rfl, ?_⟩
  repeat' first
    | with_reducible exact Only.rfl
    | exact Eq.refl true
    | with_reducible intro _ _ _
    | with_reducible intro _ _
    | with_reducible refine Op.serve_only ?_ ?_ ?_
    | with_reducible refine (scConfig_run _ _ _ _ ?_).2 ?_

theorem execScConfigTimer_only (q : Req) (tmr : Byte) (period : Word) (phase : Word) (s : State) :
    ∃ u, execScConfigTimer q tmr period phase s = .next u ∧ Only [.frm, .auth, .run, .se, .free] s u := by
  refine ⟨_, rfl, ?_⟩
  repeat' first
    | with_reducible exact Only.rfl
    | exact Eq.refl true
    | with_reducible intro _ _ _
    | with_reducible intro _ _
    | with_reducible refine Op.serve_only ?_ ?_ ?_
    | with_reducible refine (scConfig_run _ _ _ _ ?_).2 ?_

theorem execScConfigRing_only (q : Req) (rb : Byte) (base : Word) (size : Word) (hi : Word) (lo : Word) (s : State) :
    ∃ u, execScConfigRing q rb base size hi lo s = .next u ∧ Only [.frm, .auth, .run, .se, .free] s u := by
  refine ⟨_, rfl, ?_⟩
  repeat' first
    | with_reducible exact Only.rfl
    | exact Eq.refl true
    | with_reducible intro _ _ _
    | with_reducible intro _ _
    | with_reducible refine Op.serve_only ?_ ?_ ?_
    | with_reducible refine (scConfig_run _ _ _ _ ?_).2 ?_

theorem execScConfigChannel_only (q : Req) (chN : Byte) (first : Byte) (s : State) :
    ∃ u, execScConfigChannel q chN first s = .next u ∧ Only [.frm, .auth, .run, .se, .free] s u := by
  refine ⟨_, rfl, ?_⟩
  repeat' first
    | with_reducible exact Only.rfl
    | exact Eq.refl true
    | with_reducible intro _ _ _
    | with_reducible intro _ _
    | with_reducible refine Op.serve_only ?_ ?_ ?_
    | with_reducible refine (scConfig_run _ _ _ _ ?_).2 ?_

theorem execScStartArm_only (q : Req) (chN : Byte) (s : State) : ∃ u, execScStartArm q chN s = .next u ∧ Only [.frm, .auth, .se] s u := by
  refine ⟨_, rfl, ?_⟩
  repeat' first
    | with_reducible exact Only.rfl
    | exact Eq.refl true
    | with_reducible intro _ _ _
    | with_reducible intro _ _
    | with_reducible refine Op.serve_only ?_ ?_ ?_
    | with_reducible refine (scStart_run _ _ _ _ _ ?_).2 ?_

theorem execScStartRunNow_only (q : Req) (chN : Byte) (s : State) : ∃ u, execScStartRunNow q chN s = .next u ∧ Only [.frm, .auth, .se] s u := by
  refine ⟨_, rfl, ?_⟩
  repeat' first
    | with_reducible exact Only.rfl
    | exact Eq.refl true
    | with_reducible intro _ _ _
    | with_reducible intro _ _
    | with_reducible refine Op.serve_only ?_ ?_ ?_
    | with_reducible refine (scStart_run _ _ _ _ _ ?_).2 ?_

theorem execScStartResume_only (q : Req) (chN : Byte) (s : State) : ∃ u, execScStartResume q chN s = .next u ∧ Only [.frm, .auth, .se] s u := by
  refine ⟨_, rfl, ?_⟩
  repeat' first
    | with_reducible exact Only.rfl
    | exact Eq.refl true
    | with_reducible intro _ _ _
    | with_reducible intro _ _
    | with_reducible refine Op.serve_only ?_ ?_ ?_
    | with_reducible refine (scStart_run _ _ _ _ _ ?_).2 ?_

theorem execScStartRestart_only (q : Req) (chN : Byte) (s : State) : ∃ u, execScStartRestart q chN s = .next u ∧ Only [.frm, .auth, .se] s u := by
  refine ⟨_, rfl, ?_⟩
  repeat' first
    | with_reducible exact Only.rfl
    | exact Eq.refl true
    | with_reducible intro _ _ _
    | with_reducible intro _ _
    | with_reducible refine Op.serve_only ?_ ?_ ?_
    | with_reducible refine (scStart_run _ _ _ _ _ ?_).2 ?_

theorem execScStatus_only (q : Req) (chN : Byte) (count : Byte) (s : State) : ∃ u, execScStatus q chN count s = .next u ∧ Only [.frm, .auth] s u := by
  refine ⟨_, rfl, ?_⟩
  repeat' first
    | with_reducible exact Only.rfl
    | exact Eq.refl true
    | with_reducible intro _ _ _
    | with_reducible intro _ _
    | with_reducible refine Op.serve_only ?_ ?_ ?_
    | with_reducible refine (scStatus_run _ _ _ _ _ ?_).2 ?_

theorem execStreamTimerFire_only (dt : Nat) (t : Fin 4) (s : State) : ∃ u, execStreamTimerFire dt t s = .next u ∧ Only [.clk, .se] s u := by
  refine ⟨_, rfl, ?_⟩
  repeat' first
    | with_reducible exact Only.rfl
    | exact Eq.refl true
    | with_reducible intro _ _
    | with_reducible refine (State.advance_only _ _ ?_).2 ?_
    | with_reducible refine (State.timerFire_only _ _ ?_).2 ?_

theorem execMemRead_only (q : Req) (addr : Word) (len : Half) (s : State) :
    ∃ u, execMemRead q addr len s = .next u ∧ Only [.clk, .frm, .auth, .snap, .free] s u := by
  refine ⟨_, rfl, ?_⟩
  repeat' first
    | with_reducible exact Only.rfl
    | exact Eq.refl true
    | with_reducible intro _ _ _
    | with_reducible intro _ _
    | with_reducible refine Op.serve_only ?_ ?_ ?_
    | with_reducible refine (memRead_run _ _ _ _ _ ?_).2 ?_

theorem execMemWrite_only (q : Req) (addr : Word) (bytes : List Byte) (s : State) :
    ∃ u, execMemWrite q addr bytes s = .next u ∧ Only [.clk, .sys, .pow, .ring, .frm, .auth, .fe, .loop, .die, .drv, .fan, .prog, .conv, .stitch,
      .lich, .therm, .inj, .log, .se, .upd, .ho, .mem] s u := by
  refine ⟨_, rfl, ?_⟩
  repeat' first
    | with_reducible exact Only.rfl
    | exact Eq.refl true
    | with_reducible intro _ _ _
    | with_reducible intro _ _
    | with_reducible refine Op.serve_only ?_ ?_ ?_
    | with_reducible refine (memWrite_run _ _ _ _ ?_).2 ?_

theorem execFlagClear_only (q : Req) (addr : Word) (mask : Word) (s : State) :
    ∃ u, execFlagClear q addr mask s = .next u ∧ Only [.clk, .sys, .pow, .ring, .frm, .auth, .fe, .loop, .die, .drv, .fan, .prog, .conv, .stitch,
      .lich, .therm, .inj, .log, .se, .upd, .ho] s u := by
  refine ⟨_, rfl, ?_⟩
  repeat' first
    | with_reducible exact Only.rfl
    | exact Eq.refl true
    | with_reducible intro _ _ _
    | with_reducible intro _ _
    | with_reducible refine Op.serve_only ?_ ?_ ?_
    | with_reducible refine (flagClear_run _ _ _ _ _ ?_).2 ?_

theorem execRegisterWrite_only (dt : Nat) (addr : Nat) (value : Word) (strobes : BitVec 4) (s : State) :
    ∃ u, execRegisterWrite dt addr value strobes s = .next u ∧ Only [.clk, .sys, .pow, .ring, .frm, .auth, .fe, .loop, .die, .drv, .fan, .prog,
      .conv, .stitch, .lich, .therm, .inj, .log, .se, .upd, .ho] s u := by
  refine ⟨_, rfl, ?_⟩
  repeat' first
    | with_reducible exact Only.rfl
    | exact Eq.refl true
    | with_reducible refine Only.ite ?_ ?_
    | with_reducible intro _ _
    | with_reducible refine (State.advance_only _ _ ?_).2 ?_
    | with_reducible refine (State.busWrite_only _ _ _ _ ?_).2 ?_

theorem execRbRdWrite_only (dt : Nat) (b : Fin 4) (value : Word) (s : State) : ∃ u, execRbRdWrite dt b value s = .next u ∧ Only [.clk, .se] s u := by
  refine ⟨_, rfl, ?_⟩
  repeat' first
    | with_reducible exact Only.rfl
    | exact Eq.refl true
    | with_reducible refine Only.ite ?_ ?_
    | with_reducible intro _ _
    | with_reducible refine (State.advance_only _ _ ?_).2 ?_
    | with_reducible refine (State.rdWrite_only _ _ _ ?_).2 ?_

theorem execDescriptorDone_only (dt : Nat) (ch : Fin 16) (s : State) :
    ∃ u, execDescriptorDone dt ch s = .next u ∧ Only [.clk, .se, .mem, .free] s u := by
  refine ⟨_, rfl, ?_⟩
  repeat' first
    | with_reducible exact Only.rfl
    | exact Eq.refl true
    | with_reducible intro _ _
    | with_reducible refine (State.advance_only _ _ ?_).2 ?_
    | with_reducible refine (State.descDone_only _ _ ?_).2 ?_
    | with_reducible refine State.onHost_only ?_ ?_ ?_

theorem execBurstBusError_only (dt : Nat) (ch : Fin 16) (offset : Nat) (addr : Nat) (s : State) :
    ∃ u, execBurstBusError dt ch offset addr s = .next u ∧ Only [.clk, .se, .mem, .free] s u := by
  refine ⟨_, rfl, ?_⟩
  repeat' first
    | with_reducible exact Only.rfl
    | exact Eq.refl true
    | with_reducible intro _ _
    | with_reducible refine (State.advance_only _ _ ?_).2 ?_
    | with_reducible refine (State.burstFails_only _ _ _ _ ?_).2 ?_
    | with_reducible refine State.onHost_only ?_ ?_ ?_

theorem execBurstRetry_only (dt : Nat) (ch : Fin 16) (s : State) : ∃ u, execBurstRetry dt ch s = .next u ∧ Only [.clk, .se] s u := by
  refine ⟨_, rfl, ?_⟩
  repeat' first
    | with_reducible exact Only.rfl
    | exact Eq.refl true
    | with_reducible intro _ _
    | with_reducible refine (State.advance_only _ _ ?_).2 ?_
    | with_reducible refine (State.burstAgain_only _ _ ?_).2 ?_
    | with_reducible refine State.onHost_only ?_ ?_ ?_

theorem execSnapDeadline_only (dt : Nat) (ch : Fin 16) (s : State) : ∃ u, execSnapDeadline dt ch s = .next u ∧ Only [.clk, .se, .mem, .free] s u := by
  refine ⟨_, rfl, ?_⟩
  repeat' first
    | with_reducible exact Only.rfl
    | exact Eq.refl true
    | with_reducible intro _ _
    | with_reducible refine (State.advance_only _ _ ?_).2 ?_
    | with_reducible refine State.onHost_only ?_ ?_ ?_
    | with_reducible refine (State.snapEnd_only _ _ ?_).2 ?_

theorem execScStopChainEnd_only (q : Req) (chN : Byte) (s : State) :
    ∃ u, execScStopChainEnd q chN s = .next u ∧ Only [.clk, .frm, .auth, .se, .mem, .free] s u := by
  refine ⟨_, rfl, ?_⟩
  repeat' first
    | with_reducible exact Only.rfl
    | exact Eq.refl true
    | with_reducible intro _ _ _
    | with_reducible intro _ _
    | with_reducible refine Op.serve_only ?_ ?_ ?_
    | with_reducible refine (scStop_run _ _ _ _ _ ?_).2 ?_

theorem execScStopBurstEnd_only (q : Req) (chN : Byte) (s : State) :
    ∃ u, execScStopBurstEnd q chN s = .next u ∧ Only [.clk, .frm, .auth, .se, .mem, .free] s u := by
  refine ⟨_, rfl, ?_⟩
  repeat' first
    | with_reducible exact Only.rfl
    | exact Eq.refl true
    | with_reducible intro _ _ _
    | with_reducible intro _ _
    | with_reducible refine Op.serve_only ?_ ?_ ?_
    | with_reducible refine (scStop_run _ _ _ _ _ ?_).2 ?_

theorem execCfgRead_only (q : Req) (source : Byte) (cls : Byte) (index : Half) (s : State) :
    ∃ u, execCfgRead q source cls index s = .next u ∧ Only [.frm, .auth] s u := by
  refine ⟨_, rfl, ?_⟩
  repeat' first
    | with_reducible exact Only.rfl
    | exact Eq.refl true
    | with_reducible intro _ _ _
    | with_reducible intro _ _
    | with_reducible refine Op.serve_only ?_ ?_ ?_
    | with_reducible refine (cfgRead_run _ _ _ _ _ _ ?_).2 ?_

theorem execCfgWrite_only (q : Req) (cls : Byte) (pad : Byte) (index : Half) (item : List Byte) (s : State) :
    ∃ u, execCfgWrite q cls pad index item s = .next u ∧ Only [.frm, .auth, .run, .fe, .loop, .die, .drv, .fan, .prog, .conv, .lich, .therm, .log,
      .se, .free] s u := by
  refine ⟨_, rfl, ?_⟩
  repeat' first
    | with_reducible exact Only.rfl
    | exact Eq.refl true
    | with_reducible intro _ _ _
    | with_reducible intro _ _
    | with_reducible refine Op.serve_only ?_ ?_ ?_
    | with_reducible refine (cfgWrite_run _ _ _ _ ?_).2 ?_

theorem execCfgSave_only (q : Req) (mode : Byte) (s : State) : ∃ u, execCfgSave q mode s = .next u ∧ Only [.frm, .auth, .cfgs] s u := by
  refine ⟨_, rfl, ?_⟩
  repeat' first
    | with_reducible exact Only.rfl
    | exact Eq.refl true
    | with_reducible intro _ _ _
    | with_reducible intro _ _
    | with_reducible refine Op.serve_only ?_ ?_ ?_
    | with_reducible refine (State.cfgCapture_only _ ?_).2 ?_
    | with_reducible refine (cfgSave_run _ _ _ _ ?_).2 ?_

theorem execCfgSaveDone_only (dt : Nat) (readOk : Bool) (s : State) :
    ∃ u, execCfgSaveDone dt readOk s = .next u ∧ Only [.clk, .frm, .cfgs, .free] s u := by
  refine ⟨_, rfl, ?_⟩
  repeat' first
    | with_reducible exact Only.rfl
    | exact Eq.refl true
    | with_reducible intro _ _
    | with_reducible refine (State.advance_only _ _ ?_).2 ?_
    | with_reducible refine (State.cfgSaved_only _ _ ?_).2 ?_

theorem execControlTick_only (meas : List Meas) (s : State) :
    ∃ u, execControlTick meas s = .next u ∧ Only [.clk, .sys, .pow, .ring, .frm, .auth, .run, .cfgs, .fe, .tab, .snap, .loop, .die, .drv, .fan,
      .prog, .conv, .stitch, .energy, .lich, .therm, .safe, .inj, .log, .cnt, .se, .upd, .ho, .mem, .free] s u := by
  refine ⟨_, rfl, ?_⟩
  repeat' first
    | with_reducible exact Only.rfl
    | exact Eq.refl true
    | with_reducible intro _ _
    | with_reducible refine (State.controlTick_only _ _ ?_).2 ?_

theorem execTickCommit_only (dt : Nat) (s : State) : ∃ u, execTickCommit dt s = .next u ∧ Only [.clk, .sys] s u := by
  refine ⟨_, rfl, ?_⟩
  repeat' first
    | with_reducible exact Only.rfl
    | exact Eq.refl true
    | with_reducible refine Only.ite ?_ ?_
    | with_reducible intro _ _
    | with_reducible refine (State.advance_only _ _ ?_).2 ?_
    | with_reducible refine (State.commitTick_only _ ?_).2 ?_

theorem execCoreWatchdogFail_only (dt : Nat) (s : State) :
    ∃ u, execCoreWatchdogFail dt s = .next u ∧ Only [.clk, .loop, .drv, .prog, .safe, .inj, .log, .cnt] s u := by
  refine ⟨_, rfl, ?_⟩
  repeat' first
    | with_reducible exact Only.rfl
    | exact Eq.refl true
    | with_reducible refine Only.ite ?_ ?_
    | with_reducible refine Only.each ?_ ?_
    | with_reducible intro _ _
    | with_reducible refine (State.advance_only _ _ ?_).2 ?_
    | with_reducible refine (State.detected_only _ _ _ _ ?_).2 ?_
    | with_reducible refine (State.injEnd_only _ _ ?_).2 ?_
    | with_reducible refine (State.removePermit_only _ _ _ _ ?_).2 ?_

theorem execStbyWriteDropped_only (dt : Nat) (s : State) : ∃ u, execStbyWriteDropped dt s = .next u ∧ Only [.clk, .sys] s u := by
  refine ⟨_, rfl, ?_⟩
  repeat' first
    | with_reducible exact Only.rfl
    | exact Eq.refl true
    | with_reducible refine Only.ite ?_ ?_
    | with_reducible intro _ _
    | with_reducible refine (State.advance_only _ _ ?_).2 ?_
    | with_reducible refine (State.mSys_only _ _ ?_).2 ?_

theorem execProcessTick_only (s : State) :
    ∃ u, execProcessTick s = .next u ∧ Only [.clk, .sys, .fe, .loop, .drv, .fan, .prog, .energy, .safe, .log, .free] s u := by
  refine ⟨_, rfl, ?_⟩
  repeat' first
    | with_reducible exact Only.rfl
    | exact Eq.refl true
    | with_reducible refine Only.ite ?_ ?_
    | with_reducible intro _ _
    | with_reducible refine (State.cjAsk_only _ ?_).2 ?_
    | with_reducible refine (State.mClk_only _ _ ?_).2 ?_
    | with_reducible refine (State.mSys_only _ _ ?_).2 ?_
    | with_reducible refine (State.processTick_only _ _ ?_).2 ?_

theorem execSnapshotPublish_only (s : State) :
    ∃ u, execSnapshotPublish s = .next u ∧ Only [.clk, .frm, .fe, .tab, .snap, .prog, .log, .se, .upd, .ho, .mem, .free] s u := by
  refine ⟨_, rfl, ?_⟩
  repeat' first
    | with_reducible exact Only.rfl
    | exact Eq.refl true
    | with_reducible intro _ _
    | with_reducible refine (State.publishAt_only _ _ ?_).2 ?_
    | split

theorem execFrameReceive_only (dt : Nat) (lane : Lane) (body : List Byte) (hop : Nat) (ending : Ending) (s : State) :
    ∃ u, execFrameReceive dt lane body hop ending s = .next u ∧ Only [.clk, .sys, .pow, .ring, .frm, .auth, .run, .cfgs, .fe, .tab, .snap, .loop,
      .die, .drv, .fan, .prog, .conv, .stitch, .energy, .lich, .therm, .safe, .inj, .log, .cnt, .se, .upd, .ho, .mem, .free] s u := by
  refine ⟨_, rfl, ?_⟩
  repeat' first
    | with_reducible exact Only.rfl
    | exact Eq.refl true
    | with_reducible intro _ _
    | with_reducible refine (State.advance_only _ _ ?_).2 ?_
    | with_reducible refine (State.ringFrame_only _ _ _ _ ?_).2 ?_
    | with_reducible refine (State.svcFrame_only _ _ _ ?_).2 ?_
    | split

theorem execReplySend_only (dt : Nat) (lane : Lane) (s : State) :
    ∃ u, execReplySend dt lane s = .next u ∧ Only [.clk, .sys, .pow, .ring, .frm, .auth] s u := by
  refine ⟨_, rfl, ?_⟩
  repeat' first
    | with_reducible exact Only.rfl
    | exact Eq.refl true
    | with_reducible refine Only.ite ?_ ?_
    | with_reducible intro _ _
    | with_reducible refine (State.advance_only _ _ ?_).2 ?_
    | with_reducible refine (State.sendRing_only _ _ ?_).2 ?_
    | with_reducible refine (State.sendSvc_only _ ?_).2 ?_
    | split

theorem execKeptFrameRelease_only (dt : Nat) (port : PortId) (s : State) :
    ∃ u, execKeptFrameRelease dt port s = .next u ∧ Only [.clk, .ring] s u := by
  refine ⟨_, rfl, ?_⟩
  repeat' first
    | with_reducible exact Only.rfl
    | exact Eq.refl true
    | with_reducible intro _ _
    | with_reducible refine (State.advance_only _ _ ?_).2 ?_
    | with_reducible refine (State.mRp_only _ _ _ ?_).2 ?_

end Sys2Proof.Machine
end

