-- ==== Sys2Proof/Laws/MemKept.lean ====
section
/-! SUPPORT. Every operation and every command keeps memory in its canonical form. -/

namespace Sys2Proof.Machine

theorem Within.self (l : List Part) : Within l l := List.all_eq_true.2 fun _ m => List.contains_iff_mem.2 m

/-- Where memory has its canonical form in `s`, it has it in `t`. -/
def MemKept (s t : State) : Prop := memWf s.mem = true → memWf t.mem = true

theorem MemKept.rfl {s : State} : MemKept s s := id

theorem MemKept.trans {s t u : State} (h : MemKept s t) (k : MemKept t u) : MemKept s u := fun a => k (h a)

theorem MemKept.skip {l : List Part} {s t u : State} (o : Only l t u) (m : Part.mem ∉ l) (h : MemKept s t) : MemKept s u := by
  have e := o.mem m
  unfold MemKept at h ⊢
  rw [e]; exact h

theorem MemKept.ite {s a b : State} {c : Prop} [Decidable c] (h : MemKept s a) (k : MemKept s b) : MemKept s (if c then a else b) := by
  split <;> assumption

theorem MemKept.each {α : Type} {s t : State} {k : List α} {f : State → α → State} (h : MemKept s t) (c : ∀ u a, MemKept u (f u a)) :
    MemKept s (t.each k f) := by
  unfold State.each
  induction k generalizing t with
  | nil => exact h
  | cons a k ih => exact ih (h.trans (c t a))

theorem MemKept.bad {s t : State} {st : Status} (h : MemKept s t) : MemKept s (Res.bad st t).s := h

theorem MemKept.ok {s t : State} {d : List Byte} (h : MemKept s t) : MemKept s (Res.ok d t).s := h

theorem MemKept.onHost {s t : State} {ch : Fin 16} {f : State → Fin 8 → State} (c : ∀ u n, MemKept u (f u n)) (h : MemKept s t) :
    MemKept s (t.onHost ch f) := by
  unfold State.onHost
  split
  · exact h.trans (c _ _)
  · exact h

theorem State.mMem_memKept {s : State} (t : State) (f : List Host.Cell → List Host.Cell) (g : ∀ m, memWf m = true → memWf (f m) = true)
    (h : MemKept s t) : MemKept s (t.mMem f) := fun a => g _ (h a)

theorem MemKept.foldl {α β : Type} {s : State} {f : β → α → β} {g : β → State} (k : List α) (c : ∀ a x, MemKept s (g a) → MemKept s (g (f a x)))
    (a : β) (h : MemKept s (g a)) : MemKept s (g (k.foldl f a)) := by
  induction k generalizing a with
  | nil => exact h
  | cons x k ih => exact ih _ (c _ _ h)

theorem MemKept.free {s t : State} (n : Nat) (h : MemKept s t) : MemKept s { t with free := n } := h

theorem memPut_each {α : Type} (f : α → Nat × Byte) (l : List α) : ∀ m, memWf m = true → memWf (l.foldl (fun m x => memPut m (f x).1 (f x).2) m) =
    true := by
  induction l with
  | nil => exact fun _ h => h
  | cons x l ih => exact fun m h => ih _ (memPut_wf h _ _)

theorem memPutAll_each (l : List (Nat × List Byte)) : ∀ m, memWf m = true → memWf (l.foldl (fun m x => memPutAll m x.1 x.2) m) = true := by
  induction l with
  | nil => exact fun _ h => h
  | cons x l ih => exact fun m h => ih _ (memPutAll_wf h _ _)

theorem State.drew_kept {s t : State} (h : MemKept s t) : MemKept s t.drew := h

theorem MemKept.serve {s t : State} {o : Op} {q : Req} (hr : ∀ r k u, MemKept u (o.run r k u).s) (c : MemKept s t) : MemKept s (o.serve q t) := by
  have hf : ∀ {u v : State}, Only [.frm, .auth] u v → MemKept s u → MemKept s v := fun o d => MemKept.skip o (by decide) d
  have hj : ∀ u, MemKept s u → MemKept s (o.judge q (fun _ => true) u).s := by
    intro u d
    unfold Op.judge
    split
    · exact hf (Op.screen_only (by decide) Only.rfl ‹_›) d
    · split
      · exact d.trans (hr _ _ _)
      · exact d
  have hv : MemKept s (t.noteValid q.sender) := hf ((State.noteValid_only _ _ (by decide)).2 Only.rfl) c
  unfold Op.serve
  refine MemKept.ite c (MemKept.ite (hf ((State.countFull_only _ (by decide)).2 Only.rfl) ?_) (MemKept.ite (hj _ hv) ?_))
  · cases b : o.barred q (t.noteValid q.sender) with
    | none => exact hv
    | some r => exact hf (Op.barred_only (by decide) Only.rfl b) hv
  · exact hf ((State.pushReply_only _ _ _ (by decide)).2 ((State.countReply_only _ _ (by decide)).2 Only.rfl)) (hj _ hv)

theorem State.advance_memKept {s : State} (t : State) (ns : Nat) (h : MemKept s t) :
    MemKept s (t.advance ns) :=
  MemKept.skip ((State.advance_only (l := [.clk]) _ _ (Within.self _)).2 Only.rfl) (by decide) h

theorem State.finish_memKept {s : State} (t : State) (t' : Nat) (st : Status) (data : List Byte) (h : MemKept s t) :
    MemKept s (t.finish t' st data) :=
  MemKept.skip ((State.finish_only (l := [.frm]) _ _ _ _ (Within.self _)).2 Only.rfl) (by decide) h

theorem State.logUpd_memKept {s : State} (t : State) (code : Nat) (data : List Byte) (h : MemKept s t) :
    MemKept s (t.logUpd code data) :=
  MemKept.skip ((State.logUpd_only (l := [.log]) _ _ _ (Within.self _)).2 Only.rfl) (by decide) h

theorem State.mBank_memKept {s : State} (t : State) (i : Fin 8) (f : Bank → Bank) (h : MemKept s t) :
    MemKept s (t.mBank i f) :=
  MemKept.skip ((State.mBank_only (l := [.upd]) _ _ _ (Within.self _)).2 Only.rfl) (by decide) h

theorem State.mSys_memKept {s : State} (t : State) (f : Sys → Sys) (h : MemKept s t) :
    MemKept s (t.mSys f) :=
  MemKept.skip ((State.mSys_only (l := [.sys]) _ _ (Within.self _)).2 Only.rfl) (by decide) h

theorem State.mUpd_memKept {s : State} (t : State) (f : Update → Update) (h : MemKept s t) :
    MemKept s (t.mUpd f) :=
  MemKept.skip ((State.mUpd_only (l := [.upd]) _ _ (Within.self _)).2 Only.rfl) (by decide) h

theorem State.updAborted_memKept {s : State} (t : State) (h : MemKept s t) :
    MemKept s (t.updAborted) :=
  MemKept.skip ((State.updAborted_only (l := [.frm, .log, .upd]) _ (Within.self _)).2 Only.rfl) (by decide) h

theorem State.updChecked_memKept {s : State} (t : State) (h : MemKept s t) :
    MemKept s (t.updChecked) := by
  refine h.trans ?_
  unfold State.updChecked
  repeat' first
    | with_reducible refine State.mMem_memKept _ _ (fun m hm => memClear_wf hm _ _) ?_
    | with_reducible refine State.mMem_memKept _ _ (fun m hm => memPut_wf hm _ _) ?_
    | with_reducible exact MemKept.rfl
    | with_reducible refine MemKept.ite ?_ ?_
    | with_reducible intro _ _
    | with_reducible refine State.finish_memKept _ _ _ _ ?_
    | with_reducible refine State.logUpd_memKept _ _ _ ?_
    | with_reducible refine State.mBank_memKept _ _ _ ?_
    | with_reducible refine State.mSys_memKept _ _ ?_
    | with_reducible refine State.mUpd_memKept _ _ ?_
    | with_reducible refine State.updAborted_memKept _ ?_
    | split

theorem execUpdateBeginChecked_memKept (dt : Nat) (s : State) : ∃ u, execUpdateBeginChecked dt s = .next u ∧ MemKept s u := by
  refine ⟨_, rfl, ?_⟩
  repeat' first
    | with_reducible exact MemKept.rfl
    | with_reducible intro _ _
    | with_reducible refine State.advance_memKept _ _ ?_
    | with_reducible refine State.updChecked_memKept _ ?_

theorem State.program_memKept {s : State} (t : State) (words : Nat) (readOk : Bool) (h : MemKept s t) : MemKept s (t.program words readOk) := by
  refine h.trans ?_
  have c : ∀ u : State, MemKept t u → MemKept t (if u.upd.state == .verifying then (u.finish u.upd.ticket .signatureFail []).mUpd fun x => { x with
      vfail := x.vfail.raise } else u) :=
    fun u k => MemKept.ite (MemKept.skip (l := [.frm, .upd]) (by simp) (by decide) k) k
  unfold State.program
  refine MemKept.ite MemKept.rfl (MemKept.ite MemKept.rfl ?_)
  dsimp only
  have b : MemKept t ((t.mMem fun m => (takeWords words t.upd.queue).1.foldl (fun m w => memPutAll m w.1 w.2) m).mUpd fun u =>
      { u with queue := (takeWords words t.upd.queue).2, outLen := u.outLen + ((takeWords words t.upd.queue).1.map fun w => w.2.length).sum }) :=
    State.mMem_memKept t _ (memPutAll_each _) MemKept.rfl
  refine MemKept.ite b ?_
  refine MemKept.skip ((State.updTaint_only (l := [.log, .upd]) _ _ _ (by decide)).2 Only.rfl) (by decide) ?_
  exact MemKept.ite (MemKept.skip (l := [.frm, .upd]) (by simp) (by decide) b) b

theorem execProgramComplete_memKept (dt : Nat) (words : Nat) (readOk : Bool) (s : State) : ∃ u, execProgramComplete dt words readOk s = .next u ∧
    MemKept s u := by
  refine ⟨_, rfl, ?_⟩
  repeat' first
    | with_reducible exact MemKept.rfl
    | with_reducible intro _ _
    | with_reducible refine State.advance_memKept _ _ ?_
    | with_reducible refine State.program_memKept _ _ _ ?_

theorem State.countAwake_memKept {s : State} (t : State) (h : MemKept s t) :
    MemKept s (t.countAwake) :=
  MemKept.skip ((State.countAwake_only (l := [.cnt]) _ (Within.self _)).2 Only.rfl) (by decide) h

theorem State.fresh_memKept {s : State} (t : State) (cause : Nat) (h : MemKept s t) : MemKept s (t.fresh cause) :=
  fun a => memClear_wf (h a) _ _

theorem State.logFlush_memKept {s : State} (t : State) (h : MemKept s t) :
    MemKept s (t.logFlush) :=
  MemKept.skip ((State.logFlush_only (l := [.log]) _ (Within.self _)).2 Only.rfl) (by decide) h

theorem State.logStart_memKept {s : State} (t : State) (cause : Nat) (h : MemKept s t) :
    MemKept s (t.logStart cause) :=
  MemKept.skip ((State.logStart_only (l := [.log]) _ _ (Within.self _)).2 Only.rfl) (by decide) h

theorem State.mCnt_memKept {s : State} (t : State) (f : Counters → Counters) (h : MemKept s t) :
    MemKept s (t.mCnt f) :=
  MemKept.skip ((State.mCnt_only (l := [.cnt]) _ _ (Within.self _)).2 Only.rfl) (by decide) h

theorem State.sessionEnd_memKept {s : State} (t : State) (c : EndCause) (h : MemKept s t) :
    MemKept s (t.sessionEnd c) :=
  MemKept.skip ((State.sessionEnd_only (l := [.inj, .log]) _ _ (Within.self _)).2 Only.rfl) (by decide) h

theorem State.startImages_memKept {s : State} (t : State) (cause : Nat) (h : MemKept s t) :
    MemKept s (t.startImages cause) :=
  MemKept.skip ((State.startImages_only (l := [.sys, .fe, .log, .upd, .ho]) _ _ (Within.self _)).2 Only.rfl) (by decide) h

theorem State.toSpore_memKept {s : State} (t : State) (c : Nat) (h : MemKept s t) :
    MemKept s (t.toSpore c) :=
  MemKept.skip ((State.toSpore_only (l := [.pow, .log, .ho]) _ _ (Within.self _)).2 Only.rfl) (by decide) h

theorem State.restart_memKept {s : State} (t : State) (cause : Nat) (h : MemKept s t) :
    MemKept s (t.restart cause) := by
  refine h.trans ?_
  unfold State.restart
  repeat' first
    | with_reducible exact MemKept.rfl
    | with_reducible intro _ _
    | with_reducible refine State.countAwake_memKept _ ?_
    | with_reducible refine State.fresh_memKept _ _ ?_
    | with_reducible refine State.logFlush_memKept _ ?_
    | with_reducible refine State.logStart_memKept _ _ ?_
    | with_reducible refine State.mCnt_memKept _ _ ?_
    | with_reducible refine State.sessionEnd_memKept _ _ ?_
    | with_reducible refine State.startImages_memKept _ _ ?_
    | with_reducible refine State.toSpore_memKept _ _ ?_
    | split
    | dsimp only

theorem execVsLogicPowerUp_memKept (dt : Nat) (s : State) : ∃ u, execVsLogicPowerUp dt s = .next u ∧ MemKept s u := by
  refine ⟨_, rfl, ?_⟩
  repeat' first
    | with_reducible exact MemKept.rfl
    | with_reducible refine MemKept.ite ?_ ?_
    | with_reducible intro _ _
    | with_reducible refine State.advance_memKept _ _ ?_
    | with_reducible refine State.restart_memKept _ _ ?_

theorem execVsLogicRecoverInPowerDown_memKept (dt : Nat) (s : State) : ∃ u, execVsLogicRecoverInPowerDown dt s = .next u ∧ MemKept s u := by
  refine ⟨_, rfl, ?_⟩
  repeat' first
    | with_reducible exact MemKept.rfl
    | with_reducible refine MemKept.ite ?_ ?_
    | with_reducible intro _ _
    | with_reducible refine State.advance_memKept _ _ ?_
    | with_reducible refine State.restart_memKept _ _ ?_

theorem execFullReset_memKept (dt : Nat) (s : State) : ∃ u, execFullReset dt s = .next u ∧ MemKept s u := by
  refine ⟨_, rfl, ?_⟩
  repeat' first
    | with_reducible exact MemKept.rfl
    | with_reducible refine MemKept.ite ?_ ?_
    | with_reducible intro _ _
    | with_reducible refine State.advance_memKept _ _ ?_
    | with_reducible refine State.restart_memKept _ _ ?_
    | split

theorem State.logE_memKept {s : State} (t : State) (cls : Nat) (code : Nat) (data : List Byte) (h : MemKept s t) :
    MemKept s (t.logE cls code data) :=
  MemKept.skip ((State.logE_only (l := [.log]) _ _ _ _ (Within.self _)).2 Only.rfl) (by decide) h

theorem State.mLog_memKept {s : State} (t : State) (f : Log → Log) (h : MemKept s t) :
    MemKept s (t.mLog f) :=
  MemKept.skip ((State.mLog_only (l := [.log]) _ _ (Within.self _)).2 Only.rfl) (by decide) h

theorem State.mPow_memKept {s : State} (t : State) (f : Power → Power) (h : MemKept s t) :
    MemKept s (t.mPow f) :=
  MemKept.skip ((State.mPow_only (l := [.pow]) _ _ (Within.self _)).2 Only.rfl) (by decide) h

theorem State.supplyGone_memKept {s : State} (t : State) (h : MemKept s t) :
    MemKept s (t.supplyGone) :=
  MemKept.skip ((State.supplyGone_only (l := [.loop, .drv, .fan, .safe, .log, .cnt]) _ (Within.self _)).2 Only.rfl) (by decide) h

theorem State.wakeUp_memKept {s : State} (t : State) (h : MemKept s t) :
    MemKept s (t.wakeUp) := by
  refine h.trans ?_
  unfold State.wakeUp
  repeat' first
    | with_reducible exact MemKept.rfl
    | with_reducible intro _ _
    | with_reducible refine State.restart_memKept _ _ ?_

theorem State.mossReached_memKept {s : State} (t : State) (h : MemKept s t) :
    MemKept s (t.mossReached) := by
  refine h.trans ?_
  unfold State.mossReached
  repeat' first
    | with_reducible exact MemKept.rfl
    | with_reducible refine MemKept.ite ?_ ?_
    | with_reducible intro _ _
    | with_reducible refine State.countAwake_memKept _ ?_
    | with_reducible refine State.logE_memKept _ _ _ _ ?_
    | with_reducible refine State.logFlush_memKept _ ?_
    | with_reducible refine State.mCnt_memKept _ _ ?_
    | with_reducible refine State.mLog_memKept _ _ ?_
    | with_reducible refine State.mPow_memKept _ _ ?_
    | with_reducible refine State.sessionEnd_memKept _ _ ?_
    | with_reducible refine State.supplyGone_memKept _ ?_
    | with_reducible refine State.wakeUp_memKept _ ?_
    | split

theorem execMossShutdown_memKept (dt : Nat) (s : State) : ∃ u, execMossShutdown dt s = .next u ∧ MemKept s u := by
  refine ⟨_, rfl, ?_⟩
  repeat' first
    | with_reducible exact MemKept.rfl
    | with_reducible intro _ _
    | with_reducible refine State.advance_memKept _ _ ?_
    | with_reducible refine State.mossReached_memKept _ ?_

theorem State.wakeEvent_memKept {s : State} (t : State) (i : Fin 4) (enabled : Bool) (h : MemKept s t) :
    MemKept s (t.wakeEvent i enabled) := by
  refine h.trans ?_
  unfold State.wakeEvent
  repeat' first
    | with_reducible exact MemKept.rfl
    | with_reducible refine MemKept.ite ?_ ?_
    | with_reducible intro _ _
    | with_reducible refine State.mPow_memKept _ _ ?_
    | with_reducible refine State.wakeUp_memKept _ ?_

theorem execWakeSymbolRx_memKept (dt : Nat) (port : PortId) (s : State) : ∃ u, execWakeSymbolRx dt port s = .next u ∧ MemKept s u := by
  refine ⟨_, rfl, ?_⟩
  repeat' first
    | with_reducible exact MemKept.rfl
    | with_reducible refine MemKept.ite ?_ ?_
    | with_reducible intro _ _
    | with_reducible refine State.advance_memKept _ _ ?_
    | with_reducible refine State.wakeEvent_memKept _ _ _ ?_

theorem execDi00Wake_memKept (dt : Nat) (rising : Bool) (s : State) : ∃ u, execDi00Wake dt rising s = .next u ∧ MemKept s u := by
  refine ⟨_, rfl, ?_⟩
  repeat' first
    | with_reducible exact MemKept.rfl
    | with_reducible intro _ _
    | with_reducible refine State.advance_memKept _ _ ?_
    | with_reducible refine State.wakeEvent_memKept _ _ _ ?_

theorem execSvcWake_memKept (dt : Nat) (s : State) : ∃ u, execSvcWake dt s = .next u ∧ MemKept s u := by
  refine ⟨_, rfl, ?_⟩
  repeat' first
    | with_reducible exact MemKept.rfl
    | with_reducible intro _ _
    | with_reducible refine State.advance_memKept _ _ ?_
    | with_reducible refine State.wakeEvent_memKept _ _ _ ?_

theorem State.regWrite_memKept {s : State} (t : State) (a : Nat) (v : Nat) (h : MemKept s t) :
    MemKept s (t.regWrite a v) :=
  MemKept.skip ((State.regWrite_only (l := [.clk, .sys, .pow, .ring, .frm, .auth, .fe, .loop, .die, .drv, .fan, .prog, .conv, .stitch, .lich,
    .therm, .inj, .log, .se, .upd, .ho]) _ _ _ (Within.self _)).2 Only.rfl) (by decide) h

theorem memWrite_memKept {s : State} (b : List Byte) (q : Req) (k : Target → Bool) (t : State) (h : MemKept s t) :
    MemKept s ((memWrite b).run q k t).s := by
  refine h.trans ?_
  dsimp only [memWrite, Op.read, Op.readTagged, Op.order, Op.orderLen, Op.orderMem, Op.readMem, Op.sized, Op.least, Op.noKind]
  repeat' first
    | with_reducible refine State.mMem_memKept _ _ (fun m hm => memClear_wf hm _ _) ?_
    | with_reducible refine State.mMem_memKept _ _ (fun m hm => memPut_wf hm _ _) ?_
    | with_reducible exact MemKept.rfl
    | with_reducible refine MemKept.ite ?_ ?_
    | with_reducible refine MemKept.each ?_ ?_
    | with_reducible intro _ _
    | with_reducible refine MemKept.bad ?_
    | with_reducible refine MemKept.ok ?_
    | with_reducible refine State.regWrite_memKept _ _ _ ?_
    | split

theorem execMemWrite_memKept (q : Req) (addr : Word) (bytes : List Byte) (s : State) : ∃ u, execMemWrite q addr bytes s = .next u ∧ MemKept s u := by
  refine ⟨_, rfl, ?_⟩
  repeat' first
    | with_reducible exact MemKept.rfl
    | with_reducible intro _ _ _
    | with_reducible intro _ _
    | with_reducible refine MemKept.serve ?_ ?_
    | with_reducible refine memWrite_memKept _ _ _ _ ?_

theorem State.scEnter_memKept {s : State} (t : State) (n : Fin 8) (slot : Nat) (h : MemKept s t) :
    MemKept s (t.scEnter n slot) :=
  MemKept.skip ((State.scEnter_only (l := [.se]) _ _ _ (Within.self _)).2 Only.rfl) (by decide) h

theorem State.scFinish_memKept {s : State} (t : State) (n : Fin 8) (h : MemKept s t) :
    MemKept s (t.scFinish n) :=
  MemKept.skip ((State.scFinish_only (l := [.se, .free]) _ _ (Within.self _)).2 Only.rfl) (by decide) h

theorem State.scHalt_memKept {s : State} (t : State) (n : Fin 8) (e : Nat) (h : MemKept s t) :
    MemKept s (t.scHalt n e) :=
  MemKept.skip ((State.scHalt_only (l := [.se]) _ _ _ (Within.self _)).2 Only.rfl) (by decide) h

theorem State.mSc_memKept {s : State} (t : State) (n : Fin 16) (f : ScChan → ScChan) (h : MemKept s t) :
    MemKept s (t.mSc n f) :=
  MemKept.skip ((State.mSc_only (l := [.se]) _ _ _ (Within.self _)).2 Only.rfl) (by decide) h

theorem State.putAt_memKept {s : State} (t : State) (as : List Nat) (p : List Byte) (h : MemKept s t) : MemKept s (t.putAt as p) :=
  State.mMem_memKept t _ (fun m hm => memPut_each (fun x => x) _ m hm) h

theorem State.source_memKept {s : State} (t : State) (n : Fin 8) (d : List Byte) (o : Nat) (m : Nat) (h : MemKept s t) : MemKept s (t.source n d o
    m).2 :=
  MemKept.skip ((State.source_snd (l := [.clk, .free]) _ _ _ _ _ (Within.self _)).2 Only.rfl) (by decide) h

theorem State.scMove_memKept {s : State} (t : State) (n : Fin 8) (e : Nat) (h : MemKept s t) :
    MemKept s (t.scMove n e) := by
  refine h.trans ?_
  unfold State.scMove
  repeat' first
    | with_reducible exact MemKept.rfl
    | with_reducible refine MemKept.ite ?_ ?_
    | with_reducible intro _ _
    | with_reducible refine State.mSc_memKept _ _ _ ?_
    | with_reducible refine State.putAt_memKept _ _ _ ?_
    | with_reducible refine State.source_memKept _ _ _ _ _ ?_

theorem State.descDone_memKept {s : State} (t : State) (n : Fin 8) (h : MemKept s t) :
    MemKept s (t.descDone n) := by
  refine h.trans ?_
  unfold State.descDone
  repeat' first
    | with_reducible exact MemKept.rfl
    | with_reducible refine MemKept.ite ?_ ?_
    | with_reducible intro _ _
    | with_reducible refine State.scEnter_memKept _ _ _ ?_
    | with_reducible refine State.scFinish_memKept _ _ ?_
    | with_reducible refine State.scHalt_memKept _ _ _ ?_
    | with_reducible refine State.scMove_memKept _ _ _ ?_

theorem execDescriptorDone_memKept (dt : Nat) (ch : Fin 16) (s : State) : ∃ u, execDescriptorDone dt ch s = .next u ∧ MemKept s u := by
  refine ⟨_, rfl, ?_⟩
  repeat' first
    | with_reducible exact MemKept.rfl
    | with_reducible refine MemKept.onHost ?_ ?_
    | with_reducible intro _ _
    | with_reducible refine State.advance_memKept _ _ ?_
    | with_reducible refine State.descDone_memKept _ _ ?_

theorem State.scramble_memKept {s : State} (t : State) (n : Fin 8) (h : MemKept s t) : MemKept s (t.scramble n) :=
  State.putAt_memKept _ _ _ (MemKept.skip ((State.freeBytes_snd (l := [.free]) _ _ (Within.self _)).2 Only.rfl) (by decide) h)

theorem State.burstFails_memKept {s : State} (t : State) (n : Fin 8) (o : Nat) (a : Nat) (h : MemKept s t) :
    MemKept s (t.burstFails n o a) := by
  refine h.trans ?_
  unfold State.burstFails
  repeat' first
    | with_reducible exact MemKept.rfl
    | with_reducible refine MemKept.ite ?_ ?_
    | with_reducible intro _ _
    | with_reducible refine State.mSc_memKept _ _ _ ?_
    | with_reducible refine State.scHalt_memKept _ _ _ ?_
    | with_reducible refine State.scMove_memKept _ _ _ ?_
    | with_reducible refine State.scramble_memKept _ _ ?_

theorem execBurstBusError_memKept (dt : Nat) (ch : Fin 16) (offset : Nat) (addr : Nat) (s : State) : ∃ u, execBurstBusError dt ch offset addr s =
    .next u ∧ MemKept s u := by
  refine ⟨_, rfl, ?_⟩
  repeat' first
    | with_reducible exact MemKept.rfl
    | with_reducible refine MemKept.onHost ?_ ?_
    | with_reducible intro _ _
    | with_reducible refine State.advance_memKept _ _ ?_
    | with_reducible refine State.burstFails_memKept _ _ _ _ ?_

theorem State.drew_memKept {s : State} (t : State) (h : MemKept s t) :
    MemKept s (t.drew) :=
  MemKept.skip ((State.drew_only (l := [.free]) _ (Within.self _)).2 Only.rfl) (by decide) h

theorem State.scPart_memKept {s : State} (t : State) (n : Fin 8) (h : MemKept s t) :
    MemKept s (t.scPart n) := by
  refine h.trans ?_
  unfold State.scPart
  repeat' first
    | with_reducible exact MemKept.rfl
    | with_reducible refine MemKept.ite ?_ ?_
    | with_reducible intro _ _
    | with_reducible refine State.drew_memKept _ ?_
    | with_reducible refine State.scMove_memKept _ _ _ ?_

theorem State.snapEnd_memKept {s : State} (t : State) (n : Fin 8) (h : MemKept s t) :
    MemKept s (t.snapEnd n) := by
  refine h.trans ?_
  unfold State.snapEnd
  repeat' first
    | with_reducible exact MemKept.rfl
    | with_reducible refine MemKept.ite ?_ ?_
    | with_reducible intro _ _
    | with_reducible refine State.scHalt_memKept _ _ _ ?_
    | with_reducible refine State.scPart_memKept _ _ ?_

theorem execSnapDeadline_memKept (dt : Nat) (ch : Fin 16) (s : State) : ∃ u, execSnapDeadline dt ch s = .next u ∧ MemKept s u := by
  refine ⟨_, rfl, ?_⟩
  repeat' first
    | with_reducible exact MemKept.rfl
    | with_reducible refine MemKept.onHost ?_ ?_
    | with_reducible intro _ _
    | with_reducible refine State.advance_memKept _ _ ?_
    | with_reducible refine State.snapEnd_memKept _ _ ?_

theorem State.scStopBurst_memKept {s : State} (t : State) (n : Fin 8) (h : MemKept s t) :
    MemKept s (t.scStopBurst n) := by
  refine h.trans ?_
  unfold State.scStopBurst
  repeat' first
    | with_reducible exact MemKept.rfl
    | with_reducible refine MemKept.ite ?_ ?_
    | with_reducible intro _ _
    | with_reducible refine State.mSc_memKept _ _ _ ?_
    | with_reducible refine State.scPart_memKept _ _ ?_

theorem State.scStopChain_memKept {s : State} (t : State) (n : Fin 8) (h : MemKept s t) :
    MemKept s (t.scStopChain n) :=
  MemKept.skip ((State.scStopChain_only (l := [.se]) _ _ (Within.self _)).2 Only.rfl) (by decide) h

theorem scStop_memKept {s : State} (ch : Nat) (mode : Nat) (q : Req) (k : Target → Bool) (t : State) (h : MemKept s t) :
    MemKept s ((scStop ch mode).run q k t).s := by
  refine h.trans ?_
  dsimp only [scStop, Op.read, Op.readTagged, Op.order, Op.orderLen, Op.orderMem, Op.readMem, Op.sized, Op.least, Op.noKind]
  repeat' first
    | with_reducible exact MemKept.rfl
    | with_reducible refine MemKept.ite ?_ ?_
    | with_reducible intro _ _
    | with_reducible refine MemKept.bad ?_
    | with_reducible refine MemKept.ok ?_
    | with_reducible refine State.scStopBurst_memKept _ _ ?_
    | with_reducible refine State.scStopChain_memKept _ _ ?_
    | split

theorem execScStopChainEnd_memKept (q : Req) (chN : Byte) (s : State) : ∃ u, execScStopChainEnd q chN s = .next u ∧ MemKept s u := by
  refine ⟨_, rfl, ?_⟩
  repeat' first
    | with_reducible exact MemKept.rfl
    | with_reducible intro _ _ _
    | with_reducible intro _ _
    | with_reducible refine MemKept.serve ?_ ?_
    | with_reducible refine scStop_memKept _ _ _ _ _ ?_

theorem execScStopBurstEnd_memKept (q : Req) (chN : Byte) (s : State) : ∃ u, execScStopBurstEnd q chN s = .next u ∧ MemKept s u := by
  refine ⟨_, rfl, ?_⟩
  repeat' first
    | with_reducible exact MemKept.rfl
    | with_reducible intro _ _ _
    | with_reducible intro _ _
    | with_reducible refine MemKept.serve ?_ ?_
    | with_reducible refine scStop_memKept _ _ _ _ _ ?_

theorem State.latchMeas_memKept {s : State} (t : State) (m : Meas) (h : MemKept s t) :
    MemKept s (t.latchMeas m) :=
  MemKept.skip ((State.latchMeas_only (l := [.sys, .pow, .loop, .drv, .fan, .energy, .safe, .ho]) _ _ (Within.self _)).2 Only.rfl) (by decide) h

theorem State.mClk_memKept {s : State} (t : State) (f : Clock → Clock) (h : MemKept s t) :
    MemKept s (t.mClk f) :=
  MemKept.skip ((State.mClk_only (l := [.clk]) _ _ (Within.self _)).2 Only.rfl) (by decide) h

theorem State.coreMs_memKept {s : State} (t : State) (t' : Nat) (h : MemKept s t) :
    MemKept s (t.coreMs t') :=
  MemKept.skip ((State.coreMs_only (l := [.clk, .sys, .pow, .fe, .loop, .drv, .fan, .prog, .conv, .energy, .safe, .log, .free]) _ _ (Within.self
    _)).2 Only.rfl) (by decide) h

theorem State.fallbackTick_memKept {s : State} (t : State) (h : MemKept s t) :
    MemKept s (t.fallbackTick) :=
  MemKept.skip ((State.fallbackTick_only (l := [.sys, .pow, .ring, .frm, .log, .upd, .ho]) _ (Within.self _)).2 Only.rfl) (by decide) h

theorem State.hardMs_memKept {s : State} (t : State) (t' : Nat) (held : Bool) (h : MemKept s t) :
    MemKept s (t.hardMs t' held) :=
  MemKept.skip ((State.hardMs_only (l := [.fe, .loop, .drv, .fan, .free]) _ _ _ (Within.self _)).2 Only.rfl) (by decide) h

theorem State.hoTick_memKept {s : State} (t : State) (t' : Nat) (h : MemKept s t) :
    MemKept s (t.hoTick t') :=
  MemKept.skip ((State.hoTick_only (l := [.sys, .log, .cnt, .upd, .ho]) _ _ (Within.self _)).2 Only.rfl) (by decide) h

theorem State.mTab_memKept {s : State} (t : State) (f : Tables → Tables) (h : MemKept s t) :
    MemKept s (t.mTab f) :=
  MemKept.skip ((State.mTab_only (l := [.tab]) _ _ (Within.self _)).2 Only.rfl) (by decide) h

theorem mergeOne_memKept {s : State} (t' : Nat) (k : List Placed) (a : State × State) (x : Placed × Nat) (c : MemKept s a.1) :
    MemKept s (mergeOne t' k a x).1 := by
  have ha : ∀ (u : State) (o : Order) (st : Status) (d : List Byte) (b : Bool), MemKept s u → MemKept s (u.answer o st d b) := fun u o st d b e =>
    MemKept.skip ((State.answer_only (l := [.frm, .auth]) u o st d b (by decide)).2 Only.rfl) (by decide) e
  have hf : ∀ (u : State) (f : Frames → Frames), MemKept s u → MemKept s (u.mFrm f) := fun u f d =>
    MemKept.skip ((State.mFrm_only (l := [.frm]) _ _ (by decide)).2 Only.rfl) (by decide) d
  unfold mergeOne
  dsimp only
  split
  · exact ha _ _ _ _ _ c
  · split
    · exact ha _ _ _ _ _ c
    · split
      · exact MemKept.skip ((State.winAdmit_only (l := [.frm, .auth]) _ _ (by decide)).2 Only.rfl) (by decide) (MemKept.free _ (hf _ _ c))
      · split
        · exact ha _ _ _ _ _ (MemKept.free _ (hf _ _ c))
        · exact ha _ _ _ _ _ (MemKept.free _ (hf _ _ c))

theorem handoverStatus_memKept {s : State} (q : Req) (k : Target → Bool) (t : State) (h : MemKept s t) :
    MemKept s ((handoverStatus).run q k t).s :=
  MemKept.skip ((handoverStatus_run (l := []) _ _ _ (Within.self _)).2 Only.rfl) (by decide) h

theorem imageInfo_memKept {s : State} (q : Req) (k : Target → Bool) (t : State) (h : MemKept s t) :
    MemKept s ((imageInfo).run q k t).s :=
  MemKept.skip ((imageInfo_run (l := []) _ _ _ (Within.self _)).2 Only.rfl) (by decide) h

theorem memRead_memKept {s : State} (a : Nat) (n : Nat) (q : Req) (k : Target → Bool) (t : State) (h : MemKept s t) :
    MemKept s ((memRead a n).run q k t).s :=
  MemKept.skip ((memRead_run (l := [.clk, .snap, .free]) _ _ _ _ _ (Within.self _)).2 Only.rfl) (by decide) h

theorem scConfig_memKept {s : State} (b : List Byte) (q : Req) (k : Target → Bool) (t : State) (h : MemKept s t) :
    MemKept s ((scConfig b).run q k t).s :=
  MemKept.skip ((scConfig_run (l := [.run, .se, .free]) _ _ _ _ (Within.self _)).2 Only.rfl) (by decide) h

theorem scStart_memKept {s : State} (ch : Nat) (mode : Nat) (q : Req) (k : Target → Bool) (t : State) (h : MemKept s t) :
    MemKept s ((scStart ch mode).run q k t).s :=
  MemKept.skip ((scStart_run (l := [.se]) _ _ _ _ _ (Within.self _)).2 Only.rfl) (by decide) h

theorem scStatus_memKept {s : State} (ch : Nat) (count : Nat) (q : Req) (k : Target → Bool) (t : State) (h : MemKept s t) :
    MemKept s ((scStatus ch count).run q k t).s :=
  MemKept.skip ((scStatus_run (l := []) _ _ _ _ _ (Within.self _)).2 Only.rfl) (by decide) h

theorem sporeEnter_memKept {s : State} (key : Nat) (q : Req) (k : Target → Bool) (t : State) (h : MemKept s t) :
    MemKept s ((sporeEnter key).run q k t).s :=
  MemKept.skip ((sporeEnter_run (l := []) _ _ _ _ (Within.self _)).2 Only.rfl) (by decide) h

theorem updateAbort_memKept {s : State} (tid : Nat) (q : Req) (k : Target → Bool) (t : State) (h : MemKept s t) :
    MemKept s ((updateAbort tid).run q k t).s :=
  MemKept.skip ((updateAbort_run (l := [.log, .upd]) _ _ _ _ (Within.self _)).2 Only.rfl) (by decide) h

theorem updateBegin_memKept {s : State} (p : List Byte) (q : Req) (k : Target → Bool) (t : State) (h : MemKept s t) :
    MemKept s ((updateBegin p).run q k t).s :=
  MemKept.skip ((updateBegin_run (l := [.frm, .log, .upd]) _ _ _ _ (Within.self _)).2 Only.rfl) (by decide) h

theorem updateBlock_memKept {s : State} (p : List Byte) (q : Req) (k : Target → Bool) (t : State) (h : MemKept s t) :
    MemKept s ((updateBlock p).run q k t).s :=
  MemKept.skip ((updateBlock_run (l := [.log, .se, .upd]) _ _ _ _ (Within.self _)).2 Only.rfl) (by decide) h

theorem updateCommit_memKept {s : State} (tid : Nat) (q : Req) (k : Target → Bool) (t : State) (h : MemKept s t) :
    MemKept s ((updateCommit tid).run q k t).s :=
  MemKept.skip ((updateCommit_run (l := [.pow, .ring, .frm, .inj, .log, .upd, .ho]) _ _ _ _ (Within.self _)).2 Only.rfl) (by decide) h

theorem updateStatus_memKept {s : State} (q : Req) (k : Target → Bool) (t : State) (h : MemKept s t) :
    MemKept s ((updateStatus).run q k t).s :=
  MemKept.skip ((updateStatus_run (l := []) _ _ _ (Within.self _)).2 Only.rfl) (by decide) h

theorem updateVerify_memKept {s : State} (tid : Nat) (q : Req) (k : Target → Bool) (t : State) (h : MemKept s t) :
    MemKept s ((updateVerify tid).run q k t).s :=
  MemKept.skip ((updateVerify_run (l := [.frm, .upd]) _ _ _ _ (Within.self _)).2 Only.rfl) (by decide) h

theorem memOp0_memKept {s : State} {opc : Nat} {p : List Byte} {o : Op} (e : memOp0 opc p = some o) (q : Req) (k : Target → Bool) (t : State) (h :
    MemKept s t) :
    MemKept s (o.run q k t).s := by
  refine h.trans ?_
  unfold memOp0 at e
  split at e <;> cases e
  all_goals repeat' first
    | with_reducible exact MemKept.rfl
    | with_reducible refine handoverStatus_memKept _ _ _ ?_
    | with_reducible refine imageInfo_memKept _ _ _ ?_
    | with_reducible refine memRead_memKept _ _ _ _ _ ?_
    | with_reducible refine memWrite_memKept _ _ _ _ ?_
    | with_reducible refine scConfig_memKept _ _ _ _ ?_
    | with_reducible refine scStart_memKept _ _ _ _ _ ?_
    | with_reducible refine scStatus_memKept _ _ _ _ _ ?_
    | with_reducible refine scStop_memKept _ _ _ _ _ ?_
    | with_reducible refine sporeEnter_memKept _ _ _ _ ?_
    | with_reducible refine updateAbort_memKept _ _ _ _ ?_
    | with_reducible refine updateBegin_memKept _ _ _ _ ?_
    | with_reducible refine updateBlock_memKept _ _ _ _ ?_
    | with_reducible refine updateCommit_memKept _ _ _ _ ?_
    | with_reducible refine updateStatus_memKept _ _ _ ?_
    | with_reducible refine updateVerify_memKept _ _ _ _ ?_
    | dsimp only [Op.sized, Op.least, Op.noKind]

theorem baseOp_memKept {s : State} {mem : Bool} {opc : Nat} {p : List Byte} {o : Op} (e : baseOp mem opc p = some o) (q : Req)
    (k : Target → Bool) (t : State) (h : MemKept s t) : MemKept s (o.run q k t).s := by
  unfold baseOp at e
  split at e
  · split at e
    · exact memOp0_memKept e q k t h
    · exact MemKept.skip ((memOp1_run (l := [.clk, .sys, .pow, .ring, .frm, .auth, .fe, .loop, .die, .drv, .fan, .prog, .conv, .stitch, .lich,
    .therm, .inj, .log, .se, .upd, .ho]) e q k t (Within.self _)).2 Only.rfl) (by decide) h
  · split at e
    · exact MemKept.skip ((ctrlOp0_run (l := [.clk, .pow, .ring, .frm, .auth, .loop, .drv, .fan, .prog, .lich, .safe, .inj, .log, .cnt, .free]) e q
        k t (Within.self _)).2 Only.rfl) (by decide) h
    · exact MemKept.skip ((ctrlOp1_run (l := [.run, .tab, .lich, .therm]) e q k t (Within.self _)).2 Only.rfl) (by decide) h
    · exact MemKept.skip ((ctrlOp1_run (l := [.run, .tab, .lich, .therm]) e q k t (Within.self _)).2 Only.rfl) (by decide) h
    · exact MemKept.skip ((ctrlOp2_run (l := [.frm, .run, .fe, .die, .drv, .prog, .stitch, .inj, .log, .free]) e q k t (Within.self _)).2 Only.rfl)
        (by decide) h
    · exact MemKept.skip ((ctrlOp2_run (l := [.frm, .run, .fe, .die, .drv, .prog, .stitch, .inj, .log, .free]) e q k t (Within.self _)).2 Only.rfl)
        (by decide) h
    · exact MemKept.skip ((ctrlOp3_run (l := [.run, .loop, .drv, .fan, .prog, .conv, .stitch, .energy, .inj, .log, .free]) e q k t (Within.self
        _)).2 Only.rfl) (by decide) h
    · exact MemKept.skip ((ctrlOp3_run (l := [.run, .loop, .drv, .fan, .prog, .conv, .stitch, .energy, .inj, .log, .free]) e q k t (Within.self
        _)).2 Only.rfl) (by decide) h
    · exact MemKept.skip ((ctrlOp4_run (l := [.frm, .loop, .drv, .fan, .prog, .stitch, .safe, .log, .cnt]) e q k t (Within.self _)).2 Only.rfl) (by
        decide) h

theorem opOf_memKept {s : State} {mem : Bool} {opc : Nat} {p : List Byte} {o : Op} (e : opOf mem opc p = some o) (q : Req)
    (k : Target → Bool) (t : State) (h : MemKept s t) : MemKept s (o.run q k t).s := by
  unfold opOf at e
  split at e
  · exact baseOp_memKept e q k t h
  · split at e
    · cases e; exact MemKept.skip ((cfgRead_run (l := []) _ _ _ q k t (by decide)).2 Only.rfl) (by decide) h
    · cases e; exact MemKept.skip ((cfgWrite_run (l := [.frm, .run, .fe, .loop, .die, .drv, .fan, .prog, .conv, .lich, .therm, .log, .se, .free]) _
        q k t (by decide)).2 Only.rfl) (by decide) h
    · cases e; exact MemKept.skip ((cfgSave_run (l := [.frm, .cfgs]) _ q k t (by decide)).2 Only.rfl) (by decide) h
    · exact baseOp_memKept e q k t h

theorem Order.run_memKept {s t : State} {o : Order} {keep : Target → Bool} {us : Option Nat} (c : MemKept s t) : MemKept s (o.run keep us t).s := by
  unfold Order.run Order.op
  dsimp only
  unfold State.settled
  refine MemKept.skip ((State.mFrm_only (l := [.frm]) _ _ (by decide)).2 Only.rfl) (by decide) ?_
  cases e : opOf o.mem o.opc o.payload with
  | none => exact MemKept.skip ((State.mFrm_only (l := [.frm]) _ _ (by decide)).2 Only.rfl) (by decide) c
  | some op =>
    exact opOf_memKept e o.q keep _ (MemKept.skip ((State.mFrm_only (l := [.frm]) _ _ (by decide)).2 Only.rfl) (by decide) c)

theorem State.place_memKept {s : State} (t : State) (k : List Order) (c : MemKept s t) : MemKept s (t.place k).1 := by
  unfold State.place
  refine MemKept.foldl (g := fun a : State × List Placed => a.1) k ?_ _ c
  intro a o d
  dsimp only
  split
  · exact Order.run_memKept d
  · split <;> exact d

theorem State.merge_memKept {s : State} (t : State) (t' : Nat) (h : MemKept s t) : MemKept s (t.merge t') := by
  refine h.trans ?_
  unfold State.merge
  dsimp only
  refine MemKept.foldl (g := fun a : State × State => a.1) _ (fun a x d => mergeOne_memKept _ _ a x d) _ ?_
  refine State.place_memKept _ _ ?_
  exact MemKept.skip ((State.mLich_only (l := [.frm, .lich]) _ _ (by decide)).2 ((State.mFrm_only _ _ (by decide)).2 Only.rfl)) (by decide)
      MemKept.rfl

theorem State.actsLive_memKept {s : State} (t : State) (h : MemKept s t) :
    MemKept s (t.actsLive) :=
  MemKept.skip ((State.actsLive_only (l := [.loop, .drv, .fan, .prog, .conv, .stitch, .lich, .inj, .log]) _ (Within.self _)).2 Only.rfl) (by decide) h

theorem State.applyOne_memKept {s : State} (t : State) (t' : Nat) (x : Staged) (h : MemKept s t) : MemKept s (t.applyOne t' x) := by
  refine h.trans ?_
  have hf : ∀ (u v : State) (f : Frames → Frames), MemKept v u → MemKept v (u.mFrm f) := fun u v f d =>
    MemKept.skip ((State.mFrm_only (l := [.frm]) _ _ (by decide)).2 Only.rfl) (by decide) d
  have hn : ∀ (u v : State) t st d, MemKept v u → MemKept v (u.finish t st d) := fun u v t st d e =>
    MemKept.skip ((State.finish_only (l := [.frm]) _ _ _ _ (by decide)).2 Only.rfl) (by decide) e
  unfold State.applyOne
  dsimp only
  refine MemKept.ite MemKept.rfl (MemKept.ite ?_ ?_)
  · exact MemKept.free _ (hf _ _ _ (Order.run_memKept (MemKept.free _ (hf _ _ _ (hf _ _ _ MemKept.rfl)))))
  · exact MemKept.free _ (hf _ _ _ (hn _ _ _ _ _ (hf _ _ _ (Order.run_memKept (MemKept.free _ (hf _ _ _ (hf _ _ _ MemKept.rfl)))))))

theorem State.cfgCapture_memKept {s : State} (t : State) (h : MemKept s t) :
    MemKept s (t.cfgCapture) :=
  MemKept.skip ((State.cfgCapture_only (l := [.cfgs]) _ (Within.self _)).2 Only.rfl) (by decide) h

theorem State.applyAll_memKept {s : State} (t : State) (t' : Nat) (l' : List Staged) (h : MemKept s t) :
    MemKept s (t.applyAll t' l') := by
  refine h.trans ?_
  unfold State.applyAll
  repeat' first
    | with_reducible exact MemKept.rfl
    | with_reducible refine MemKept.each ?_ ?_
    | with_reducible intro _ _
    | with_reducible refine State.actsLive_memKept _ ?_
    | with_reducible refine State.applyOne_memKept _ _ _ ?_
    | with_reducible refine State.cfgCapture_memKept _ ?_

theorem State.mFrm_memKept {s : State} (t : State) (f : Frames → Frames) (h : MemKept s t) :
    MemKept s (t.mFrm f) :=
  MemKept.skip ((State.mFrm_only (l := [.frm]) _ _ (Within.self _)).2 Only.rfl) (by decide) h

theorem State.golive_memKept {s : State} (t : State) (t' : Nat) (h : MemKept s t) :
    MemKept s (t.golive t') := by
  refine h.trans ?_
  unfold State.golive
  repeat' first
    | with_reducible exact MemKept.rfl
    | with_reducible intro _ _
    | with_reducible refine State.applyAll_memKept _ _ _ ?_
    | with_reducible refine State.mFrm_memKept _ _ ?_

theorem State.mHo_memKept {s : State} (t : State) (f : Handover → Handover) (h : MemKept s t) :
    MemKept s (t.mHo f) :=
  MemKept.skip ((State.mHo_only (l := [.ho]) _ _ (Within.self _)).2 Only.rfl) (by decide) h

theorem State.missed_memKept {s : State} (t : State) (h : MemKept s t) :
    MemKept s (t.missed) :=
  MemKept.skip ((State.missed_only (l := [.sys, .ho]) _ (Within.self _)).2 Only.rfl) (by decide) h

theorem State.outputLatch_memKept {s : State} (t : State) (t' : Nat) (h : MemKept s t) :
    MemKept s (t.outputLatch t') := by
  refine h.trans ?_
  unfold State.outputLatch
  repeat' first
    | with_reducible exact MemKept.rfl
    | with_reducible refine MemKept.ite ?_ ?_
    | with_reducible intro _ _
    | with_reducible refine State.golive_memKept _ _ ?_
    | with_reducible refine State.mHo_memKept _ _ ?_
    | with_reducible refine State.mSys_memKept _ _ ?_
    | with_reducible refine State.missed_memKept _ ?_

theorem State.seenMs_memKept {s : State} (t : State) (h : MemKept s t) :
    MemKept s (t.seenMs) :=
  MemKept.skip ((State.seenMs_only (l := [.frm, .loop]) _ (Within.self _)).2 Only.rfl) (by decide) h

theorem State.tickWork_memKept {s : State} (t : State) (t' : Nat) (h : MemKept s t) :
    MemKept s (t.tickWork t') := by
  refine h.trans ?_
  unfold State.tickWork
  repeat' first
    | with_reducible exact MemKept.rfl
    | with_reducible refine MemKept.ite ?_ ?_
    | with_reducible intro _ _
    | with_reducible refine State.coreMs_memKept _ _ ?_
    | with_reducible refine State.fallbackTick_memKept _ ?_
    | with_reducible refine State.hardMs_memKept _ _ _ ?_
    | with_reducible refine State.hoTick_memKept _ _ ?_
    | with_reducible refine State.mSys_memKept _ _ ?_
    | with_reducible refine State.mTab_memKept _ _ ?_
    | with_reducible refine State.merge_memKept _ _ ?_
    | with_reducible refine State.outputLatch_memKept _ _ ?_
    | with_reducible refine State.seenMs_memKept _ ?_

theorem State.controlTick_memKept {s : State} (t : State) (l' : List Meas) (h : MemKept s t) :
    MemKept s (t.controlTick l') := by
  refine h.trans ?_
  unfold State.controlTick
  repeat' first
    | with_reducible exact MemKept.rfl
    | with_reducible refine MemKept.ite ?_ ?_
    | with_reducible refine MemKept.each ?_ ?_
    | with_reducible intro _ _
    | with_reducible refine State.latchMeas_memKept _ _ ?_
    | with_reducible refine State.mClk_memKept _ _ ?_
    | with_reducible refine State.mLog_memKept _ _ ?_
    | with_reducible refine State.tickWork_memKept _ _ ?_

theorem execControlTick_memKept (meas : List Meas) (s : State) : ∃ u, execControlTick meas s = .next u ∧ MemKept s u := by
  refine ⟨_, rfl, ?_⟩
  repeat' first
    | with_reducible exact MemKept.rfl
    | with_reducible intro _ _
    | with_reducible refine State.controlTick_memKept _ _ ?_

theorem State.calSwitch_memKept {s : State} (t : State) (h : MemKept s t) :
    MemKept s (t.calSwitch) :=
  MemKept.skip ((State.calSwitch_only (l := [.frm, .fe, .log, .upd, .ho]) _ (Within.self _)).2 Only.rfl) (by decide) h

theorem State.progPublish_memKept {s : State} (t : State) (b : Nat) (h : MemKept s t) :
    MemKept s (t.progPublish b) :=
  MemKept.skip ((State.progPublish_only (l := [.prog]) _ _ (Within.self _)).2 Only.rfl) (by decide) h

theorem State.publish_memKept {s : State} (t : State) (b : Nat) (h : MemKept s t) :
    MemKept s (t.publish b) :=
  MemKept.skip ((State.publish_only (l := [.snap]) _ _ (Within.self _)).2 Only.rfl) (by decide) h

theorem State.scDone_memKept {s : State} (t : State) (k : Fin 8) (h : MemKept s t) :
    MemKept s (t.scDone k) :=
  MemKept.skip ((State.scDone_only (l := [.se]) _ _ (Within.self _)).2 Only.rfl) (by decide) h

theorem State.snapEnds_memKept {s : State} (t : State) (h : MemKept s t) :
    MemKept s (t.snapEnds) := by
  refine h.trans ?_
  unfold State.snapEnds
  repeat' first
    | with_reducible exact MemKept.rfl
    | with_reducible refine MemKept.each ?_ ?_
    | with_reducible intro _ _
    | with_reducible refine State.snapEnd_memKept _ _ ?_

theorem State.publishAt_memKept {s : State} (t : State) (t' : Nat) (h : MemKept s t) :
    MemKept s (t.publishAt t') := by
  refine h.trans ?_
  unfold State.publishAt
  repeat' first
    | with_reducible exact MemKept.rfl
    | with_reducible refine MemKept.each ?_ ?_
    | with_reducible intro _ _
    | with_reducible refine State.calSwitch_memKept _ ?_
    | with_reducible refine State.mTab_memKept _ _ ?_
    | with_reducible refine State.progPublish_memKept _ _ ?_
    | with_reducible refine State.publish_memKept _ _ ?_
    | with_reducible refine State.scDone_memKept _ _ ?_
    | with_reducible refine State.snapEnds_memKept _ ?_

theorem execSnapshotPublish_memKept (s : State) : ∃ u, execSnapshotPublish s = .next u ∧ MemKept s u := by
  refine ⟨_, rfl, ?_⟩
  repeat' first
    | with_reducible exact MemKept.rfl
    | with_reducible intro _ _
    | with_reducible refine State.publishAt_memKept _ _ ?_
    | split

theorem State.abortOn_memKept {s : State} (t : State) (p : PortId) (f : TxFrame) (h : MemKept s t) :
    MemKept s (t.abortOn p f) :=
  MemKept.skip ((State.abortOn_only (l := [.ring]) _ _ _ (Within.self _)).2 Only.rfl) (by decide) h

theorem State.crcFails_memKept {s : State} (t : State) (p : PortId) (f : TxFrame) (h : MemKept s t) :
    MemKept s (t.crcFails p f) :=
  MemKept.skip ((State.crcFails_only (l := [.ring]) _ _ _ (Within.self _)).2 Only.rfl) (by decide) h

theorem State.cutCopy_memKept {s : State} (t : State) (p : PortId) (sent : List Byte) (n : Nat) (h : MemKept s t) :
    MemKept s (t.cutCopy p sent n) :=
  MemKept.skip ((State.cutCopy_only (l := [.ring]) _ _ _ _ (Within.self _)).2 Only.rfl) (by decide) h

theorem State.dispatch_memKept {s : State} (t : State) (f : Frame) (who : Sender) (x : Option Session) (h : MemKept s t) :
    MemKept s (t.dispatch f who x) := by
  refine h.trans ?_
  have hs : ∀ {u v : State}, Only [.frm, .auth] u v → MemKept t u → MemKept t v := fun o d => MemKept.skip o (by decide) d
  unfold State.dispatch
  dsimp only
  split
  · exact hs (Only.ite ((State.countFull_only _ (by decide)).2 Only.rfl) ((State.served_only _ _ _ _ _ _ (by decide)).2 Only.rfl)) MemKept.rfl
  · split
    · refine hs ((State.countFull_only _ (by decide)).2 ?_) MemKept.rfl
      cases b : Op.barred _ (f.req who) t with
      | none => exact Only.rfl
      | some r => exact Op.barred_only (by decide) Only.rfl b
    · split
      · refine hs ((State.served_only _ _ _ _ _ _ (by decide)).2 ((State.mFrm_only _ _ (by decide)).2 ?_)) MemKept.rfl
        exact Op.screen_only (by decide) ((State.mFrm_only _ _ (by decide)).2 Only.rfl) ‹_›
      · refine MemKept.ite (hs ((State.mFrm_only _ _ (by decide)).2 Only.rfl) MemKept.rfl) ?_
        exact hs ((State.served_only _ _ _ _ _ _ (by decide)).2 Only.rfl) (Order.run_memKept MemKept.rfl)

theorem State.mAuth_memKept {s : State} (t : State) (f : Auth → Auth) (h : MemKept s t) :
    MemKept s (t.mAuth f) :=
  MemKept.skip ((State.mAuth_only (l := [.auth]) _ _ (Within.self _)).2 Only.rfl) (by decide) h

theorem State.noteValid_memKept {s : State} (t : State) (who : Sender) (h : MemKept s t) :
    MemKept s (t.noteValid who) :=
  MemKept.skip ((State.noteValid_only (l := [.frm]) _ _ (Within.self _)).2 Only.rfl) (by decide) h

theorem State.reply_memKept {s : State} (t : State) (who : Sender) (r : Reply) (h : MemKept s t) :
    MemKept s (t.reply who r) :=
  MemKept.skip ((State.reply_only (l := [.frm]) _ _ _ (Within.self _)).2 Only.rfl) (by decide) h

theorem State.rateCount_memKept {s : State} (t : State) (who : Sender) (h : MemKept s t) :
    MemKept s (t.rateCount who) :=
  MemKept.skip ((State.rateCount_only (l := [.auth]) _ _ (Within.self _)).2 Only.rfl) (by decide) h

theorem State.refuse_memKept {s : State} (t : State) (f : Frame) (who : Sender) (sess : Option Nat) (zero : Bool) (st : Status) (h : MemKept s t) :
    MemKept s (t.refuse f who sess zero st) :=
  MemKept.skip ((State.refuse_only (l := [.frm]) _ _ _ _ _ _ (Within.self _)).2 Only.rfl) (by decide) h

theorem State.repeated_memKept {s : State} (t : State) (f : Frame) (who : Sender) (sess : Option Nat) (e : WinEntry) (h : MemKept s t) :
    MemKept s (t.repeated f who sess e) :=
  MemKept.skip ((State.repeated_only (l := [.frm]) _ _ _ _ _ (Within.self _)).2 Only.rfl) (by decide) h

theorem State.tagFailed_memKept {s : State} (t : State) (who : Sender) (h : MemKept s t) :
    MemKept s (t.tagFailed who) :=
  MemKept.skip ((State.tagFailed_only (l := [.auth, .log]) _ _ (Within.self _)).2 Only.rfl) (by decide) h

theorem State.winEnter_memKept {s : State} (t : State) (who : Sender) (seq : Nat) (crc : Nat) (sess : Option Nat) (mctr : Nat) (h : MemKept s t) :
    MemKept s (t.winEnter who seq crc sess mctr) :=
  MemKept.skip ((State.winEnter_only (l := [.frm, .auth]) _ _ _ _ _ _ (Within.self _)).2 Only.rfl) (by decide) h

theorem State.request_memKept {s : State} (t : State) (l' : Lane) (b : List Byte) (h : MemKept s t) : MemKept s (t.request l' b) := by
  refine h.trans ?_
  unfold State.request
  repeat' first
    | with_reducible exact MemKept.rfl
    | with_reducible refine MemKept.ite ?_ ?_
    | with_reducible intro _ _
    | with_reducible refine State.dispatch_memKept _ _ _ _ ?_
    | with_reducible refine State.mAuth_memKept _ _ ?_
    | with_reducible refine State.mFrm_memKept _ _ ?_
    | with_reducible refine State.noteValid_memKept _ _ ?_
    | with_reducible refine State.reply_memKept _ _ _ ?_
    | with_reducible refine State.rateCount_memKept _ _ ?_
    | with_reducible refine State.refuse_memKept _ _ _ _ _ _ ?_
    | with_reducible refine State.repeated_memKept _ _ _ _ _ ?_
    | with_reducible refine State.tagFailed_memKept _ _ ?_
    | with_reducible refine State.winEnter_memKept _ _ _ _ _ _ ?_
    | split
    | dsimp only
  refine MemKept.skip (l := [.auth]) (State.counterBad_only ‹_› (by decide) Only.rfl) (by decide) ?_
  refine MemKept.ite ?_ ?_
  · exact MemKept.skip ((State.rateCount_only (l := [.frm, .auth]) _ _ (by decide)).2 ((State.noteValid_only _ _ (by decide)).2 Only.rfl)) (by
      decide) MemKept.rfl
  · exact MemKept.skip ((State.noteValid_only (l := [.frm]) _ _ (by decide)).2 Only.rfl) (by decide) MemKept.rfl

theorem State.deliver_memKept {s : State} (t : State) (p : PortId) (b : List Byte) (h : MemKept s t) :
    MemKept s (t.deliver p b) := by
  refine h.trans ?_
  unfold State.deliver
  repeat' first
    | with_reducible exact MemKept.rfl
    | with_reducible refine MemKept.ite ?_ ?_
    | with_reducible intro _ _
    | with_reducible refine State.request_memKept _ _ _ ?_
    | with_reducible refine State.scDone_memKept _ _ ?_

theorem State.detected_memKept {s : State} (t : State) (id : Nat) (tgt : Nat) (latch : Nat) (h : MemKept s t) :
    MemKept s (t.detected id tgt latch) :=
  MemKept.skip ((State.detected_only (l := [.inj, .log]) _ _ _ _ (Within.self _)).2 Only.rfl) (by decide) h

theorem State.mInj_memKept {s : State} (t : State) (f : Inject → Inject) (h : MemKept s t) :
    MemKept s (t.mInj f) :=
  MemKept.skip ((State.mInj_only (l := [.inj]) _ _ (Within.self _)).2 Only.rfl) (by decide) h

theorem State.onward_memKept {s : State} (t : State) (p : PortId) (body : List Byte) (h : MemKept s t) :
    MemKept s (t.onward p body) :=
  MemKept.skip ((State.onward_only (l := [.ring]) _ _ _ (Within.self _)).2 Only.rfl) (by decide) h

theorem State.turnedOn_memKept {s : State} (t : State) (p : PortId) (body : List Byte) (turn : List Byte) (h : MemKept s t) :
    MemKept s (t.turnedOn p body turn) :=
  MemKept.skip ((State.turnedOn_only (l := [.ring]) _ _ _ _ (Within.self _)).2 Only.rfl) (by decide) h

theorem State.ringFrame_memKept {s : State} (t : State) (p : PortId) (b : List Byte) (ending : Ending) (h : MemKept s t) :
    MemKept s (t.ringFrame p b ending) := by
  refine h.trans ?_
  unfold State.ringFrame
  repeat' first
    | with_reducible exact MemKept.rfl
    | with_reducible refine MemKept.ite ?_ ?_
    | with_reducible intro _ _
    | with_reducible refine State.abortOn_memKept _ _ _ ?_
    | with_reducible refine State.crcFails_memKept _ _ _ ?_
    | with_reducible refine State.cutCopy_memKept _ _ _ _ ?_
    | with_reducible refine State.deliver_memKept _ _ _ ?_
    | with_reducible refine State.detected_memKept _ _ _ _ ?_
    | with_reducible refine State.mFrm_memKept _ _ ?_
    | with_reducible refine State.mInj_memKept _ _ ?_
    | with_reducible refine State.onward_memKept _ _ _ ?_
    | with_reducible refine State.turnedOn_memKept _ _ _ _ ?_
    | split

theorem State.svcFrame_memKept {s : State} (t : State) (b : List Byte) (ending : Ending) (h : MemKept s t) :
    MemKept s (t.svcFrame b ending) := by
  refine h.trans ?_
  unfold State.svcFrame
  repeat' first
    | with_reducible exact MemKept.rfl
    | with_reducible refine MemKept.ite ?_ ?_
    | with_reducible intro _ _
    | with_reducible refine State.mFrm_memKept _ _ ?_
    | with_reducible refine State.request_memKept _ _ _ ?_
    | with_reducible refine State.scDone_memKept _ _ ?_

theorem execFrameReceive_memKept (dt : Nat) (lane : Lane) (body : List Byte) (hop : Nat) (ending : Ending) (s : State) : ∃ u, execFrameReceive dt
    lane body hop ending s = .next u ∧ MemKept s u := by
  refine ⟨_, rfl, ?_⟩
  repeat' first
    | with_reducible exact MemKept.rfl
    | with_reducible intro _ _
    | with_reducible refine State.advance_memKept _ _ ?_
    | with_reducible refine State.ringFrame_memKept _ _ _ _ ?_
    | with_reducible refine State.svcFrame_memKept _ _ _ ?_
    | split

end Sys2Proof.Machine
end

