-- ==== Sys2Proof/Laws/ActiveKept.lean ====
section
/-! SUPPORT. No operation and no command but a control-tick boundary and a start changes which core is active. -/

namespace Sys2Proof.Machine

/-- The same core is active. -/
def ActiveKept (s t : State) : Prop := t.sys.active = s.sys.active

theorem ActiveKept.rfl {s : State} : ActiveKept s s := Eq.refl _

theorem ActiveKept.trans {s t u : State} (h : ActiveKept s t) (k : ActiveKept t u) : ActiveKept s u := Eq.trans k h

theorem ActiveKept.skip {l : List Part} {s t u : State} (o : Only l t u) (m : Part.sys ∉ l) (h : ActiveKept s t) : ActiveKept s u := by
  have e := o.sys m
  unfold ActiveKept at h ⊢
  rw [e]; exact h

theorem ActiveKept.ite {s a b : State} {c : Prop} [Decidable c] (h : ActiveKept s a) (k : ActiveKept s b) : ActiveKept s (if c then a else b) := by
  split <;> assumption

theorem ActiveKept.each {α : Type} {s t : State} {k : List α} {f : State → α → State} (h : ActiveKept s t) (c : ∀ u a, ActiveKept u (f u a)) :
    ActiveKept s (t.each k f) := by
  unfold State.each
  induction k generalizing t with
  | nil => exact h
  | cons a k ih => exact ih (h.trans (c t a))

theorem ActiveKept.bad {s t : State} {st : Status} (h : ActiveKept s t) : ActiveKept s (Res.bad st t).s := h

theorem ActiveKept.ok {s t : State} {d : List Byte} (h : ActiveKept s t) : ActiveKept s (Res.ok d t).s := h

theorem ActiveKept.onHost {s t : State} {ch : Fin 16} {f : State → Fin 8 → State} (c : ∀ u n, ActiveKept u (f u n)) (h : ActiveKept s t) :
    ActiveKept s (t.onHost ch f) := by
  unfold State.onHost
  split
  · exact h.trans (c _ _)
  · exact h

theorem State.mSys_active {s : State} (t : State) (f : Sys → Sys) (g : ∀ x, (f x).active = x.active) (h : ActiveKept s t) :
    ActiveKept s (t.mSys f) := (g _).trans h

theorem ActiveKept.foldl {α β : Type} {s : State} {f : β → α → β} {g : β → State} (k : List α) (c : ∀ a x, ActiveKept s (g a) → ActiveKept s (g (f
    a x)))
    (a : β) (h : ActiveKept s (g a)) : ActiveKept s (g (k.foldl f a)) := by
  induction k generalizing a with
  | nil => exact h
  | cons x k ih => exact ih _ (c _ _ h)

theorem ActiveKept.free {s t : State} (n : Nat) (h : ActiveKept s t) : ActiveKept s { t with free := n } := h

theorem ActiveKept.serve {s t : State} {o : Op} {q : Req} (hr : ∀ r k u, ActiveKept u (o.run r k u).s) (c : ActiveKept s t) : ActiveKept s (o.serve
    q t) := by
  have hf : ∀ {u v : State}, Only [.frm, .auth] u v → ActiveKept s u → ActiveKept s v := fun o d => ActiveKept.skip o (by decide) d
  have hj : ∀ u, ActiveKept s u → ActiveKept s (o.judge q (fun _ => true) u).s := by
    intro u d
    unfold Op.judge
    split
    · exact hf (Op.screen_only (by decide) Only.rfl ‹_›) d
    · split
      · exact d.trans (hr _ _ _)
      · exact d
  have hv : ActiveKept s (t.noteValid q.sender) := hf ((State.noteValid_only _ _ (by decide)).2 Only.rfl) c
  unfold Op.serve
  refine ActiveKept.ite c (ActiveKept.ite (hf ((State.countFull_only _ (by decide)).2 Only.rfl) ?_) (ActiveKept.ite (hj _ hv) ?_))
  · cases b : o.barred q (t.noteValid q.sender) with
    | none => exact hv
    | some r => exact hf (Op.barred_only (by decide) Only.rfl b) hv
  · exact hf ((State.pushReply_only _ _ _ (by decide)).2 ((State.countReply_only _ _ (by decide)).2 Only.rfl)) (hj _ hv)

theorem ActiveKept.withTicket {s t : State} {q : Req} {opc est : Nat} {f : Nat → State → State} (hf : ∀ n u, ActiveKept u (f n u))
    (c : ActiveKept s t) : ActiveKept s (t.withTicket q opc est f).s := by
  unfold State.withTicket
  split
  · exact c
  · exact (ActiveKept.skip ((State.mFrm_only (l := [.frm]) _ _ (Within.self _)).2 Only.rfl) (by decide) c).trans (hf _ _)

theorem State.advance_active {s : State} (t : State) (ns : Nat) (h : ActiveKept s t) :
    ActiveKept s (t.advance ns) :=
  ActiveKept.skip ((State.advance_only (l := [.clk]) _ _ (Within.self _)).2 Only.rfl) (by decide) h

theorem State.logAs_active {s : State} (t : State) (orig : Nat) (cls : Nat) (code : Nat) (inj : Bool) (data : List Byte) (h : ActiveKept s t) :
    ActiveKept s (t.logAs orig cls code inj data) :=
  ActiveKept.skip ((State.logAs_only (l := [.log]) _ _ _ _ _ _ (Within.self _)).2 Only.rfl) (by decide) h

theorem State.mCnt_active {s : State} (t : State) (f : Counters → Counters) (h : ActiveKept s t) :
    ActiveKept s (t.mCnt f) :=
  ActiveKept.skip ((State.mCnt_only (l := [.cnt]) _ _ (Within.self _)).2 Only.rfl) (by decide) h

theorem State.mSafe_active {s : State} (t : State) (f : Safe → Safe) (h : ActiveKept s t) :
    ActiveKept s (t.mSafe f) :=
  ActiveKept.skip ((State.mSafe_only (l := [.safe]) _ _ (Within.self _)).2 Only.rfl) (by decide) h

theorem State.releaseAll_active {s : State} (t : State) (h : ActiveKept s t) :
    ActiveKept s (t.releaseAll) :=
  ActiveKept.skip ((State.releaseAll_only (l := [.drv]) _ (Within.self _)).2 Only.rfl) (by decide) h

theorem State.clockTrip_active {s : State} (t : State) (h : ActiveKept s t) :
    ActiveKept s (t.clockTrip) := by
  refine h.trans ?_
  unfold State.clockTrip
  repeat' first
    | with_reducible refine State.mSys_active _ _ (fun _ => Eq.refl _) ?_
    | with_reducible exact ActiveKept.rfl
    | with_reducible refine ActiveKept.ite ?_ ?_
    | with_reducible intro _ _
    | with_reducible refine State.logAs_active _ _ _ _ _ _ ?_
    | with_reducible refine State.mCnt_active _ _ ?_
    | with_reducible refine State.mSafe_active _ _ ?_
    | with_reducible refine State.releaseAll_active _ ?_

theorem execClkFault_active (dt : Nat) (s : State) : ∃ u, execClkFault dt s = .next u ∧ ActiveKept s u := by
  refine ⟨_, rfl, ?_⟩
  repeat' first
    | with_reducible exact ActiveKept.rfl
    | with_reducible intro _ _
    | with_reducible refine State.advance_active _ _ ?_
    | with_reducible refine State.clockTrip_active _ ?_

theorem State.detected_active {s : State} (t : State) (id : Nat) (tgt : Nat) (latch : Nat) (h : ActiveKept s t) :
    ActiveKept s (t.detected id tgt latch) :=
  ActiveKept.skip ((State.detected_only (l := [.inj, .log]) _ _ _ _ (Within.self _)).2 Only.rfl) (by decide) h

theorem State.logHw_active {s : State} (t : State) (id : Nat) (tgt : Nat) (cls : Nat) (code : Nat) (data : List Byte) (h : ActiveKept s t) :
    ActiveKept s (t.logHw id tgt cls code data) :=
  ActiveKept.skip ((State.logHw_only (l := [.log]) _ _ _ _ _ _ (Within.self _)).2 Only.rfl) (by decide) h

theorem State.avsStep_active {s : State} (t : State) (up : Bool) (h : ActiveKept s t) :
    ActiveKept s (t.avsStep up) := by
  refine h.trans ?_
  unfold State.avsStep
  repeat' first
    | with_reducible refine State.mSys_active _ _ (fun _ => Eq.refl _) ?_
    | with_reducible exact ActiveKept.rfl
    | with_reducible refine ActiveKept.ite ?_ ?_
    | with_reducible intro _ _
    | with_reducible refine State.detected_active _ _ _ _ ?_
    | with_reducible refine State.logHw_active _ _ _ _ _ _ ?_

theorem execAvsAdjust_active (dt : Nat) (up : Bool) (s : State) : ∃ u, execAvsAdjust dt up s = .next u ∧ ActiveKept s u := by
  refine ⟨_, rfl, ?_⟩
  repeat' first
    | with_reducible exact ActiveKept.rfl
    | with_reducible intro _ _
    | with_reducible refine State.advance_active _ _ ?_
    | with_reducible refine State.avsStep_active _ _ ?_

theorem State.finish_active {s : State} (t : State) (t' : Nat) (st : Status) (data : List Byte) (h : ActiveKept s t) :
    ActiveKept s (t.finish t' st data) :=
  ActiveKept.skip ((State.finish_only (l := [.frm]) _ _ _ _ (Within.self _)).2 Only.rfl) (by decide) h

theorem State.logUpd_active {s : State} (t : State) (code : Nat) (data : List Byte) (h : ActiveKept s t) :
    ActiveKept s (t.logUpd code data) :=
  ActiveKept.skip ((State.logUpd_only (l := [.log]) _ _ _ (Within.self _)).2 Only.rfl) (by decide) h

theorem State.mBank_active {s : State} (t : State) (i : Fin 8) (f : Bank → Bank) (h : ActiveKept s t) :
    ActiveKept s (t.mBank i f) :=
  ActiveKept.skip ((State.mBank_only (l := [.upd]) _ _ _ (Within.self _)).2 Only.rfl) (by decide) h

theorem State.mMem_active {s : State} (t : State) (f : List Host.Cell → List Host.Cell) (h : ActiveKept s t) :
    ActiveKept s (t.mMem f) :=
  ActiveKept.skip ((State.mMem_only (l := [.mem]) _ _ (Within.self _)).2 Only.rfl) (by decide) h

theorem State.mUpd_active {s : State} (t : State) (f : Update → Update) (h : ActiveKept s t) :
    ActiveKept s (t.mUpd f) :=
  ActiveKept.skip ((State.mUpd_only (l := [.upd]) _ _ (Within.self _)).2 Only.rfl) (by decide) h

theorem State.updAborted_active {s : State} (t : State) (h : ActiveKept s t) :
    ActiveKept s (t.updAborted) :=
  ActiveKept.skip ((State.updAborted_only (l := [.frm, .log, .upd]) _ (Within.self _)).2 Only.rfl) (by decide) h

theorem State.updChecked_active {s : State} (t : State) (h : ActiveKept s t) :
    ActiveKept s (t.updChecked) := by
  refine h.trans ?_
  unfold State.updChecked
  repeat' first
    | with_reducible refine State.mSys_active _ _ (fun _ => Eq.refl _) ?_
    | with_reducible exact ActiveKept.rfl
    | with_reducible refine ActiveKept.ite ?_ ?_
    | with_reducible intro _ _
    | with_reducible refine State.finish_active _ _ _ _ ?_
    | with_reducible refine State.logUpd_active _ _ _ ?_
    | with_reducible refine State.mBank_active _ _ _ ?_
    | with_reducible refine State.mMem_active _ _ ?_
    | with_reducible refine State.mUpd_active _ _ ?_
    | with_reducible refine State.updAborted_active _ ?_
    | split

theorem execUpdateBeginChecked_active (dt : Nat) (s : State) : ∃ u, execUpdateBeginChecked dt s = .next u ∧ ActiveKept s u := by
  refine ⟨_, rfl, ?_⟩
  repeat' first
    | with_reducible exact ActiveKept.rfl
    | with_reducible intro _ _
    | with_reducible refine State.advance_active _ _ ?_
    | with_reducible refine State.updChecked_active _ ?_

theorem State.hoEnd_active {s : State} (t : State) (result : Nat) (fb : Nat) (st : Status) (h : ActiveKept s t) :
    ActiveKept s (t.hoEnd result fb st) :=
  ActiveKept.skip ((State.hoEnd_only (l := [.frm, .ho]) _ _ _ _ (Within.self _)).2 Only.rfl) (by decide) h

theorem State.mHo_active {s : State} (t : State) (f : Handover → Handover) (h : ActiveKept s t) :
    ActiveKept s (t.mHo f) :=
  ActiveKept.skip ((State.mHo_only (l := [.ho]) _ _ (Within.self _)).2 Only.rfl) (by decide) h

theorem State.hoAbandon_active {s : State} (t : State) (result : Nat) (st : Status) (h : ActiveKept s t) :
    ActiveKept s (t.hoAbandon result st) := by
  refine h.trans ?_
  unfold State.hoAbandon
  repeat' first
    | with_reducible refine State.mSys_active _ _ (fun _ => Eq.refl _) ?_
    | with_reducible exact ActiveKept.rfl
    | with_reducible intro _ _
    | with_reducible refine State.hoEnd_active _ _ _ _ ?_
    | with_reducible refine State.logUpd_active _ _ _ ?_
    | with_reducible refine State.mBank_active _ _ _ ?_
    | with_reducible refine State.mHo_active _ _ ?_
    | with_reducible refine State.mUpd_active _ _ ?_

theorem State.hoTo_active {s : State} (t : State) (p : HoPhase) (h : ActiveKept s t) :
    ActiveKept s (t.hoTo p) :=
  ActiveKept.skip ((State.hoTo_only (l := [.ho]) _ _ (Within.self _)).2 Only.rfl) (by decide) h

theorem State.hoBooted_active {s : State} (t : State) (accepted : Bool) (pages : Nat) (h : ActiveKept s t) :
    ActiveKept s (t.hoBooted accepted pages) := by
  refine h.trans ?_
  unfold State.hoBooted
  repeat' first
    | with_reducible refine State.mSys_active _ _ (fun _ => Eq.refl _) ?_
    | with_reducible exact ActiveKept.rfl
    | with_reducible refine ActiveKept.ite ?_ ?_
    | with_reducible intro _ _
    | with_reducible refine State.hoAbandon_active _ _ _ ?_
    | with_reducible refine State.hoTo_active _ _ ?_
    | with_reducible refine State.mHo_active _ _ ?_

theorem execHandoverBootDone_active (dt : Nat) (accepted : Bool) (pages : Nat) (s : State) : ∃ u, execHandoverBootDone dt accepted pages s = .next u
    ∧ ActiveKept s u := by
  refine ⟨_, rfl, ?_⟩
  repeat' first
    | with_reducible exact ActiveKept.rfl
    | with_reducible intro _ _
    | with_reducible refine State.advance_active _ _ ?_
    | with_reducible refine State.hoBooted_active _ _ _ ?_

theorem execHandoverBootTimeout_active (dt : Nat) (s : State) : ∃ u, execHandoverBootTimeout dt s = .next u ∧ ActiveKept s u := by
  refine ⟨_, rfl, ?_⟩
  repeat' first
    | with_reducible exact ActiveKept.rfl
    | with_reducible refine ActiveKept.ite ?_ ?_
    | with_reducible intro _ _
    | with_reducible refine State.advance_active _ _ ?_
    | with_reducible refine State.hoAbandon_active _ _ _ ?_

theorem execCatchupTimeout_active (dt : Nat) (s : State) : ∃ u, execCatchupTimeout dt s = .next u ∧ ActiveKept s u := by
  refine ⟨_, rfl, ?_⟩
  repeat' first
    | with_reducible exact ActiveKept.rfl
    | with_reducible refine ActiveKept.ite ?_ ?_
    | with_reducible intro _ _
    | with_reducible refine State.advance_active _ _ ?_
    | with_reducible refine State.hoAbandon_active _ _ _ ?_

theorem State.chargeReview_active {s : State} (t : State) (h : ActiveKept s t) :
    ActiveKept s (t.chargeReview) :=
  ActiveKept.skip ((State.chargeReview_only (l := [.drv]) _ (Within.self _)).2 Only.rfl) (by decide) h

theorem State.ioAsk_active {s : State} (t : State) (h : ActiveKept s t) :
    ActiveKept s (t.ioAsk) :=
  ActiveKept.skip ((State.ioAsk_only (l := [.pow]) _ (Within.self _)).2 Only.rfl) (by decide) h

theorem State.loadRun_active {s : State} (t : State) (r : RunCfg) (h : ActiveKept s t) :
    ActiveKept s (t.loadRun r) :=
  ActiveKept.skip ((State.loadRun_only (l := [.run, .fe, .loop, .drv, .fan, .therm, .log]) _ _ (Within.self _)).2 Only.rfl) (by decide) h

theorem State.mCfgs_active {s : State} (t : State) (f : CfgStore → CfgStore) (h : ActiveKept s t) :
    ActiveKept s (t.mCfgs f) :=
  ActiveKept.skip ((State.mCfgs_only (l := [.cfgs]) _ _ (Within.self _)).2 Only.rfl) (by decide) h

theorem State.mDie_active {s : State} (t : State) (f : Probes → Probes) (h : ActiveKept s t) :
    ActiveKept s (t.mDie f) :=
  ActiveKept.skip ((State.mDie_only (l := [.die]) _ _ (Within.self _)).2 Only.rfl) (by decide) h

theorem State.mEnergy_active {s : State} (t : State) (f : Energy → Energy) (h : ActiveKept s t) :
    ActiveKept s (t.mEnergy f) :=
  ActiveKept.skip ((State.mEnergy_only (l := [.energy]) _ _ (Within.self _)).2 Only.rfl) (by decide) h

theorem State.mFrm_active {s : State} (t : State) (f : Frames → Frames) (h : ActiveKept s t) :
    ActiveKept s (t.mFrm f) :=
  ActiveKept.skip ((State.mFrm_only (l := [.frm]) _ _ (Within.self _)).2 Only.rfl) (by decide) h

theorem State.mPow_active {s : State} (t : State) (f : Power → Power) (h : ActiveKept s t) :
    ActiveKept s (t.mPow f) :=
  ActiveKept.skip ((State.mPow_only (l := [.pow]) _ _ (Within.self _)).2 Only.rfl) (by decide) h

theorem State.mProg_active {s : State} (t : State) (f : Prog → Prog) (h : ActiveKept s t) :
    ActiveKept s (t.mProg f) :=
  ActiveKept.skip ((State.mProg_only (l := [.prog]) _ _ (Within.self _)).2 Only.rfl) (by decide) h

theorem State.mSnap_active {s : State} (t : State) (f : Snaps → Snaps) (h : ActiveKept s t) :
    ActiveKept s (t.mSnap f) :=
  ActiveKept.skip ((State.mSnap_only (l := [.snap]) _ _ (Within.self _)).2 Only.rfl) (by decide) h

theorem State.pdReview_active {s : State} (t : State) (h : ActiveKept s t) :
    ActiveKept s (t.pdReview) :=
  ActiveKept.skip ((State.pdReview_only (l := [.pow, .fe, .drv, .fan]) _ (Within.self _)).2 Only.rfl) (by decide) h

theorem State.sporeTrial_active {s : State} (t : State) (h : ActiveKept s t) :
    ActiveKept s (t.sporeTrial) :=
  ActiveKept.skip ((State.sporeTrial_only (l := [.ho]) _ (Within.self _)).2 Only.rfl) (by decide) h

theorem State.ctrlUp_active {s : State} (t : State) (h : ActiveKept s t) :
    ActiveKept s (t.ctrlUp) := by
  refine h.trans ?_
  unfold State.ctrlUp
  repeat' first
    | with_reducible refine State.mSys_active _ _ (fun _ => Eq.refl _) ?_
    | with_reducible exact ActiveKept.rfl
    | with_reducible refine ActiveKept.ite ?_ ?_
    | with_reducible intro _ _
    | with_reducible refine State.chargeReview_active _ ?_
    | with_reducible refine State.ioAsk_active _ ?_
    | with_reducible refine State.loadRun_active _ _ ?_
    | with_reducible refine State.mCfgs_active _ _ ?_
    | with_reducible refine State.mDie_active _ _ ?_
    | with_reducible refine State.mEnergy_active _ _ ?_
    | with_reducible refine State.mFrm_active _ _ ?_
    | with_reducible refine State.mPow_active _ _ ?_
    | with_reducible refine State.mProg_active _ _ ?_
    | with_reducible refine State.mSnap_active _ _ ?_
    | with_reducible refine State.pdReview_active _ ?_
    | with_reducible refine State.sporeTrial_active _ ?_
    | split

theorem execCtrlRunning_active (dt : Nat) (s : State) : ∃ u, execCtrlRunning dt s = .next u ∧ ActiveKept s u := by
  refine ⟨_, rfl, ?_⟩
  repeat' first
    | with_reducible exact ActiveKept.rfl
    | with_reducible intro _ _
    | with_reducible refine State.advance_active _ _ ?_
    | with_reducible refine State.ctrlUp_active _ ?_

theorem State.compareMark_active {s : State} (t : State) (srcB : Bool) (x : MarkHeard) (h : ActiveKept s t) :
    ActiveKept s (t.compareMark srcB x) :=
  ActiveKept.skip ((State.compareMark_only (l := [.clk]) _ _ _ (Within.self _)).2 Only.rfl) (by decide) h

theorem State.mClk_active {s : State} (t : State) (f : Clock → Clock) (h : ActiveKept s t) :
    ActiveKept s (t.mClk f) :=
  ActiveKept.skip ((State.mClk_only (l := [.clk]) _ _ (Within.self _)).2 Only.rfl) (by decide) h

theorem State.jumpTo_active {s : State} (t : State) (ns : Nat) (h : ActiveKept s t) :
    ActiveKept s (t.jumpTo ns) :=
  ActiveKept.skip ((State.jumpTo_only (l := [.clk, .fe, .tab, .snap, .loop, .die, .drv, .fan, .prog, .stitch, .inj, .log, .se]) _ _ (Within.self
    _)).2 Only.rfl) (by decide) h

theorem State.snapClear_active {s : State} (t : State) (h : ActiveKept s t) :
    ActiveKept s (t.snapClear) :=
  ActiveKept.skip ((State.snapClear_only (l := [.snap]) _ (Within.self _)).2 Only.rfl) (by decide) h

theorem State.trimBy_active {s : State} (t : State) (new : MarkTaken) (h : ActiveKept s t) :
    ActiveKept s (t.trimBy new) := by
  refine h.trans ?_
  unfold State.trimBy
  repeat' first
    | with_reducible refine State.mSys_active _ _ (fun _ => Eq.refl _) ?_
    | with_reducible exact ActiveKept.rfl
    | with_reducible refine ActiveKept.ite ?_ ?_

theorem State.takeMark_active {s : State} (t : State) (time : Nat) (srcB : Bool) (x : MarkSeen) (h : ActiveKept s t) :
    ActiveKept s (t.takeMark time srcB x) := by
  refine h.trans ?_
  unfold State.takeMark
  repeat' first
    | with_reducible exact ActiveKept.rfl
    | with_reducible refine ActiveKept.ite ?_ ?_
    | with_reducible intro _ _
    | with_reducible refine State.jumpTo_active _ _ ?_
    | with_reducible refine State.logAs_active _ _ _ _ _ _ ?_
    | with_reducible refine State.mClk_active _ _ ?_
    | with_reducible refine State.snapClear_active _ ?_
    | with_reducible refine State.trimBy_active _ _ ?_

theorem State.judgeMark_active {s : State} (t : State) (m : Mark) (x : MarkSeen) (h : ActiveKept s t) :
    ActiveKept s (t.judgeMark m x) := by
  refine h.trans ?_
  unfold State.judgeMark
  repeat' first
    | with_reducible exact ActiveKept.rfl
    | with_reducible refine ActiveKept.ite ?_ ?_
    | with_reducible intro _ _
    | with_reducible refine State.compareMark_active _ _ _ ?_
    | with_reducible refine State.mClk_active _ _ ?_
    | with_reducible refine State.takeMark_active _ _ _ _ ?_

theorem State.mRp_active {s : State} (t : State) (p : PortId) (f : Port → Port) (h : ActiveKept s t) :
    ActiveKept s (t.mRp p f) :=
  ActiveKept.skip ((State.mRp_only (l := [.ring]) _ _ _ (Within.self _)).2 Only.rfl) (by decide) h

theorem State.markIn_active {s : State} (t : State) (p : PortId) (bytes : List Byte) (cyc : Nat) (h : ActiveKept s t) :
    ActiveKept s (t.markIn p bytes cyc) := by
  refine h.trans ?_
  unfold State.markIn
  repeat' first
    | with_reducible refine State.mSys_active _ _ (fun _ => Eq.refl _) ?_
    | with_reducible exact ActiveKept.rfl
    | with_reducible refine ActiveKept.ite ?_ ?_
    | with_reducible intro _ _
    | with_reducible refine State.judgeMark_active _ _ _ ?_
    | with_reducible refine State.mClk_active _ _ ?_
    | with_reducible refine State.mRp_active _ _ _ ?_

theorem execMarkReceive_active (dt : Nat) (port : PortId) (mark : List Byte) (cyc : Nat) (s : State) : ∃ u, execMarkReceive dt port mark cyc s =
    .next u ∧ ActiveKept s u := by
  refine ⟨_, rfl, ?_⟩
  repeat' first
    | with_reducible exact ActiveKept.rfl
    | with_reducible intro _ _
    | with_reducible refine State.advance_active _ _ ?_
    | with_reducible refine State.markIn_active _ _ _ _ ?_

theorem State.markWait_active {s : State} (t : State) (h : ActiveKept s t) :
    ActiveKept s (t.markWait) := by
  refine h.trans ?_
  unfold State.markWait
  repeat' first
    | with_reducible exact ActiveKept.rfl
    | with_reducible refine ActiveKept.ite ?_ ?_
    | with_reducible intro _ _
    | with_reducible refine State.takeMark_active _ _ _ _ ?_
    | split

theorem execMarkSourceTimeout_active (dt : Nat) (s : State) : ∃ u, execMarkSourceTimeout dt s = .next u ∧ ActiveKept s u := by
  refine ⟨_, rfl, ?_⟩
  repeat' first
    | with_reducible exact ActiveKept.rfl
    | with_reducible intro _ _
    | with_reducible refine State.advance_active _ _ ?_
    | with_reducible refine State.markWait_active _ ?_

theorem execMarkHoldover_active (dt : Nat) (s : State) : ∃ u, execMarkHoldover dt s = .next u ∧ ActiveKept s u := by
  refine ⟨_, rfl, ?_⟩
  repeat' first
    | with_reducible refine State.mSys_active _ _ (fun _ => Eq.refl _) ?_
    | with_reducible exact ActiveKept.rfl
    | with_reducible refine ActiveKept.ite ?_ ?_
    | with_reducible intro _ _
    | with_reducible refine State.advance_active _ _ ?_

theorem State.mInj_active {s : State} (t : State) (f : Inject → Inject) (h : ActiveKept s t) :
    ActiveKept s (t.mInj f) :=
  ActiveKept.skip ((State.mInj_only (l := [.inj]) _ _ (Within.self _)).2 Only.rfl) (by decide) h

theorem State.mLo_active {s : State} (t : State) (n : Fin 8) (f : LoopOut → LoopOut) (h : ActiveKept s t) :
    ActiveKept s (t.mLo n f) :=
  ActiveKept.skip ((State.mLo_only (l := [.loop]) _ _ _ (Within.self _)).2 Only.rfl) (by decide) h

theorem State.mPort_active {s : State} (t : State) (n : Fin 8) (f : ProbePort → ProbePort) (h : ActiveKept s t) :
    ActiveKept s (t.mPort n f) :=
  ActiveKept.skip ((State.mPort_only (l := [.die]) _ _ _ (Within.self _)).2 Only.rfl) (by decide) h

theorem State.mTherm_active {s : State} (t : State) (f : Therm → Therm) (h : ActiveKept s t) :
    ActiveKept s (t.mTherm f) :=
  ActiveKept.skip ((State.mTherm_only (l := [.therm]) _ _ (Within.self _)).2 Only.rfl) (by decide) h

theorem State.w1cDrv_active {s : State} (t : State) (o : Nat) (m : Nat) (h : ActiveKept s t) :
    ActiveKept s (t.w1cDrv o m) :=
  ActiveKept.skip ((State.w1cDrv_only (l := [.drv]) _ _ _ (Within.self _)).2 Only.rfl) (by decide) h

theorem State.w1cFan_active {s : State} (t : State) (o : Nat) (m : Nat) (h : ActiveKept s t) :
    ActiveKept s (t.w1cFan o m) :=
  ActiveKept.skip ((State.w1cFan_only (l := [.fan]) _ _ _ (Within.self _)).2 Only.rfl) (by decide) h

theorem State.w1cFe_active {s : State} (t : State) (o : Nat) (m : Nat) (h : ActiveKept s t) :
    ActiveKept s (t.w1cFe o m) :=
  ActiveKept.skip ((State.w1cFe_only (l := [.fe]) _ _ _ (Within.self _)).2 Only.rfl) (by decide) h

theorem State.w1cRing_active {s : State} (t : State) (o : Nat) (m : Nat) (h : ActiveKept s t) :
    ActiveKept s (t.w1cRing o m) :=
  ActiveKept.skip ((State.w1cRing_only (l := [.clk, .ring]) _ _ _ (Within.self _)).2 Only.rfl) (by decide) h

theorem State.w1cSe_active {s : State} (t : State) (o : Nat) (m : Nat) (h : ActiveKept s t) :
    ActiveKept s (t.w1cSe o m) :=
  ActiveKept.skip ((State.w1cSe_only (l := [.se]) _ _ _ (Within.self _)).2 Only.rfl) (by decide) h

theorem State.mAuth_active {s : State} (t : State) (f : Auth → Auth) (h : ActiveKept s t) :
    ActiveKept s (t.mAuth f) :=
  ActiveKept.skip ((State.mAuth_only (l := [.auth]) _ _ (Within.self _)).2 Only.rfl) (by decide) h

theorem State.mConv_active {s : State} (t : State) (f : Conveyor → Conveyor) (h : ActiveKept s t) :
    ActiveKept s (t.mConv f) :=
  ActiveKept.skip ((State.mConv_only (l := [.conv]) _ _ (Within.self _)).2 Only.rfl) (by decide) h

theorem State.mLich_active {s : State} (t : State) (f : Lichen → Lichen) (h : ActiveKept s t) :
    ActiveKept s (t.mLich f) :=
  ActiveKept.skip ((State.mLich_only (l := [.lich]) _ _ (Within.self _)).2 Only.rfl) (by decide) h

theorem State.mLog_active {s : State} (t : State) (f : Log → Log) (h : ActiveKept s t) :
    ActiveKept s (t.mLog f) :=
  ActiveKept.skip ((State.mLog_only (l := [.log]) _ _ (Within.self _)).2 Only.rfl) (by decide) h

theorem State.mStitch_active {s : State} (t : State) (f : Stitches → Stitches) (h : ActiveKept s t) :
    ActiveKept s (t.mStitch f) :=
  ActiveKept.skip ((State.mStitch_only (l := [.stitch]) _ _ (Within.self _)).2 Only.rfl) (by decide) h

theorem State.w1cSys_active {s : State} (t : State) (o : Nat) (m : Nat) (h : ActiveKept s t) :
    ActiveKept s (t.w1cSys o m) := by
  refine h.trans ?_
  unfold State.w1cSys
  repeat' first
    | with_reducible refine State.mSys_active _ _ (fun _ => Eq.refl _) ?_
    | with_reducible exact ActiveKept.rfl
    | with_reducible refine ActiveKept.ite ?_ ?_
    | with_reducible intro _ _
    | with_reducible refine State.mAuth_active _ _ ?_
    | with_reducible refine State.mConv_active _ _ ?_
    | with_reducible refine State.mFrm_active _ _ ?_
    | with_reducible refine State.mHo_active _ _ ?_
    | with_reducible refine State.mLich_active _ _ ?_
    | with_reducible refine State.mLog_active _ _ ?_
    | with_reducible refine State.mPow_active _ _ ?_
    | with_reducible refine State.mProg_active _ _ ?_
    | with_reducible refine State.mStitch_active _ _ ?_
    | with_reducible refine State.mUpd_active _ _ ?_
    | split

theorem State.clearFlags_active {s : State} (t : State) (a : Nat) (m : Nat) (h : ActiveKept s t) :
    ActiveKept s (t.clearFlags a m) := by
  refine h.trans ?_
  unfold State.clearFlags
  repeat' first
    | with_reducible exact ActiveKept.rfl
    | with_reducible refine ActiveKept.ite ?_ ?_
    | with_reducible intro _ _
    | with_reducible refine State.mInj_active _ _ ?_
    | with_reducible refine State.mLo_active _ _ _ ?_
    | with_reducible refine State.mPort_active _ _ _ ?_
    | with_reducible refine State.mTherm_active _ _ ?_
    | with_reducible refine State.w1cDrv_active _ _ _ ?_
    | with_reducible refine State.w1cFan_active _ _ _ ?_
    | with_reducible refine State.w1cFe_active _ _ _ ?_
    | with_reducible refine State.w1cRing_active _ _ _ ?_
    | with_reducible refine State.w1cSe_active _ _ _ ?_
    | with_reducible refine State.w1cSys_active _ _ _ ?_

theorem State.rdWrite_active {s : State} (t : State) (b : Fin 4) (v : Nat) (h : ActiveKept s t) :
    ActiveKept s (t.rdWrite b v) :=
  ActiveKept.skip ((State.rdWrite_only (l := [.se]) _ _ _ (Within.self _)).2 Only.rfl) (by decide) h

theorem State.regWrite_active {s : State} (t : State) (a : Nat) (v : Nat) (h : ActiveKept s t) :
    ActiveKept s (t.regWrite a v) := by
  refine h.trans ?_
  unfold State.regWrite
  repeat' first
    | with_reducible exact ActiveKept.rfl
    | with_reducible refine ActiveKept.ite ?_ ?_
    | with_reducible intro _ _
    | with_reducible refine State.clearFlags_active _ _ _ ?_
    | with_reducible refine State.mClk_active _ _ ?_
    | with_reducible refine State.mPow_active _ _ ?_
    | with_reducible refine State.rdWrite_active _ _ _ ?_
    | split

theorem memWrite_active {s : State} (b : List Byte) (q : Req) (k : Target → Bool) (t : State) (h : ActiveKept s t) :
    ActiveKept s ((memWrite b).run q k t).s := by
  refine h.trans ?_
  dsimp only [memWrite, Op.read, Op.readTagged, Op.order, Op.orderLen, Op.orderMem, Op.readMem, Op.sized, Op.least, Op.noKind]
  repeat' first
    | with_reducible exact ActiveKept.rfl
    | with_reducible refine ActiveKept.ite ?_ ?_
    | with_reducible refine ActiveKept.each ?_ ?_
    | with_reducible intro _ _
    | with_reducible refine ActiveKept.bad ?_
    | with_reducible refine ActiveKept.ok ?_
    | with_reducible refine State.mMem_active _ _ ?_
    | with_reducible refine State.regWrite_active _ _ _ ?_
    | split

theorem execMemWrite_active (q : Req) (addr : Word) (bytes : List Byte) (s : State) : ∃ u, execMemWrite q addr bytes s = .next u ∧ ActiveKept s u :=
    by
  refine ⟨_, rfl, ?_⟩
  repeat' first
    | with_reducible exact ActiveKept.rfl
    | with_reducible intro _ _ _
    | with_reducible intro _ _
    | with_reducible refine ActiveKept.serve ?_ ?_
    | with_reducible refine memWrite_active _ _ _ _ ?_

theorem flagClear_active {s : State} (a : Nat) (m : Nat) (q : Req) (k : Target → Bool) (t : State) (h : ActiveKept s t) :
    ActiveKept s ((flagClear a m).run q k t).s := by
  refine h.trans ?_
  dsimp only [flagClear, Op.read, Op.readTagged, Op.order, Op.orderLen, Op.orderMem, Op.readMem, Op.sized, Op.least, Op.noKind]
  repeat' first
    | with_reducible exact ActiveKept.rfl
    | with_reducible refine ActiveKept.ite ?_ ?_
    | with_reducible intro _ _
    | with_reducible refine ActiveKept.bad ?_
    | with_reducible refine ActiveKept.ok ?_
    | with_reducible refine State.clearFlags_active _ _ _ ?_
    | split

theorem execFlagClear_active (q : Req) (addr : Word) (mask : Word) (s : State) : ∃ u, execFlagClear q addr mask s = .next u ∧ ActiveKept s u := by
  refine ⟨_, rfl, ?_⟩
  repeat' first
    | with_reducible exact ActiveKept.rfl
    | with_reducible intro _ _ _
    | with_reducible intro _ _
    | with_reducible refine ActiveKept.serve ?_ ?_
    | with_reducible refine flagClear_active _ _ _ _ _ ?_

theorem State.commitTick_active {s : State} (t : State) (h : ActiveKept s t) :
    ActiveKept s (t.commitTick) := by
  refine h.trans ?_
  unfold State.commitTick
  repeat' first
    | with_reducible refine State.mSys_active _ _ (fun _ => Eq.refl _) ?_
    | with_reducible exact ActiveKept.rfl
    | with_reducible refine ActiveKept.ite ?_ ?_

theorem State.domAskAll_active {s : State} (t : State) (want : Nat → Bool) (h : ActiveKept s t) :
    ActiveKept s (t.domAskAll want) :=
  ActiveKept.skip ((State.domAskAll_only (l := [.pow, .fe, .drv, .fan]) _ _ (Within.self _)).2 Only.rfl) (by decide) h

theorem State.busWrite_active {s : State} (t : State) (a : Nat) (v : Nat) (m : Nat) (h : ActiveKept s t) :
    ActiveKept s (t.busWrite a v m) := by
  refine h.trans ?_
  unfold State.busWrite
  repeat' first
    | with_reducible exact ActiveKept.rfl
    | with_reducible refine ActiveKept.ite ?_ ?_
    | with_reducible intro _ _
    | with_reducible refine State.clearFlags_active _ _ _ ?_
    | with_reducible refine State.commitTick_active _ ?_
    | with_reducible refine State.domAskAll_active _ _ ?_
    | with_reducible refine State.mClk_active _ _ ?_
    | with_reducible refine State.mPow_active _ _ ?_
    | with_reducible refine State.rdWrite_active _ _ _ ?_
    | split

theorem execRegisterWrite_active (dt : Nat) (addr : Nat) (value : Word) (strobes : BitVec 4) (s : State) : ∃ u, execRegisterWrite dt addr value
    strobes s = .next u ∧ ActiveKept s u := by
  refine ⟨_, rfl, ?_⟩
  repeat' first
    | with_reducible exact ActiveKept.rfl
    | with_reducible refine ActiveKept.ite ?_ ?_
    | with_reducible intro _ _
    | with_reducible refine State.advance_active _ _ ?_
    | with_reducible refine State.busWrite_active _ _ _ _ ?_

theorem execTickCommit_active (dt : Nat) (s : State) : ∃ u, execTickCommit dt s = .next u ∧ ActiveKept s u := by
  refine ⟨_, rfl, ?_⟩
  repeat' first
    | with_reducible exact ActiveKept.rfl
    | with_reducible refine ActiveKept.ite ?_ ?_
    | with_reducible intro _ _
    | with_reducible refine State.advance_active _ _ ?_
    | with_reducible refine State.commitTick_active _ ?_

theorem execStbyWriteDropped_active (dt : Nat) (s : State) : ∃ u, execStbyWriteDropped dt s = .next u ∧ ActiveKept s u := by
  refine ⟨_, rfl, ?_⟩
  repeat' first
    | with_reducible refine State.mSys_active _ _ (fun _ => Eq.refl _) ?_
    | with_reducible exact ActiveKept.rfl
    | with_reducible refine ActiveKept.ite ?_ ?_
    | with_reducible intro _ _
    | with_reducible refine State.advance_active _ _ ?_

theorem State.abortOn_active {s : State} (t : State) (p : PortId) (f : TxFrame) (h : ActiveKept s t) :
    ActiveKept s (t.abortOn p f) :=
  ActiveKept.skip ((State.abortOn_only (l := [.ring]) _ _ _ (Within.self _)).2 Only.rfl) (by decide) h

theorem State.crcFails_active {s : State} (t : State) (p : PortId) (f : TxFrame) (h : ActiveKept s t) :
    ActiveKept s (t.crcFails p f) :=
  ActiveKept.skip ((State.crcFails_only (l := [.ring]) _ _ _ (Within.self _)).2 Only.rfl) (by decide) h

theorem State.cutCopy_active {s : State} (t : State) (p : PortId) (sent : List Byte) (n : Nat) (h : ActiveKept s t) :
    ActiveKept s (t.cutCopy p sent n) :=
  ActiveKept.skip ((State.cutCopy_only (l := [.ring]) _ _ _ _ (Within.self _)).2 Only.rfl) (by decide) h

theorem handoverStatus_active {s : State} (q : Req) (k : Target → Bool) (t : State) (h : ActiveKept s t) :
    ActiveKept s ((handoverStatus).run q k t).s :=
  ActiveKept.skip ((handoverStatus_run (l := []) _ _ _ (Within.self _)).2 Only.rfl) (by decide) h

theorem imageInfo_active {s : State} (q : Req) (k : Target → Bool) (t : State) (h : ActiveKept s t) :
    ActiveKept s ((imageInfo).run q k t).s :=
  ActiveKept.skip ((imageInfo_run (l := []) _ _ _ (Within.self _)).2 Only.rfl) (by decide) h

theorem memRead_active {s : State} (a : Nat) (n : Nat) (q : Req) (k : Target → Bool) (t : State) (h : ActiveKept s t) :
    ActiveKept s ((memRead a n).run q k t).s :=
  ActiveKept.skip ((memRead_run (l := [.clk, .snap, .free]) _ _ _ _ _ (Within.self _)).2 Only.rfl) (by decide) h

theorem scConfig_active {s : State} (b : List Byte) (q : Req) (k : Target → Bool) (t : State) (h : ActiveKept s t) :
    ActiveKept s ((scConfig b).run q k t).s :=
  ActiveKept.skip ((scConfig_run (l := [.run, .se, .free]) _ _ _ _ (Within.self _)).2 Only.rfl) (by decide) h

theorem scStart_active {s : State} (ch : Nat) (mode : Nat) (q : Req) (k : Target → Bool) (t : State) (h : ActiveKept s t) :
    ActiveKept s ((scStart ch mode).run q k t).s :=
  ActiveKept.skip ((scStart_run (l := [.se]) _ _ _ _ _ (Within.self _)).2 Only.rfl) (by decide) h

theorem scStatus_active {s : State} (ch : Nat) (count : Nat) (q : Req) (k : Target → Bool) (t : State) (h : ActiveKept s t) :
    ActiveKept s ((scStatus ch count).run q k t).s :=
  ActiveKept.skip ((scStatus_run (l := []) _ _ _ _ _ (Within.self _)).2 Only.rfl) (by decide) h

theorem scStop_active {s : State} (ch : Nat) (mode : Nat) (q : Req) (k : Target → Bool) (t : State) (h : ActiveKept s t) :
    ActiveKept s ((scStop ch mode).run q k t).s :=
  ActiveKept.skip ((scStop_run (l := [.clk, .se, .mem, .free]) _ _ _ _ _ (Within.self _)).2 Only.rfl) (by decide) h

theorem sporeEnter_active {s : State} (key : Nat) (q : Req) (k : Target → Bool) (t : State) (h : ActiveKept s t) :
    ActiveKept s ((sporeEnter key).run q k t).s :=
  ActiveKept.skip ((sporeEnter_run (l := []) _ _ _ _ (Within.self _)).2 Only.rfl) (by decide) h

theorem updateAbort_active {s : State} (tid : Nat) (q : Req) (k : Target → Bool) (t : State) (h : ActiveKept s t) :
    ActiveKept s ((updateAbort tid).run q k t).s :=
  ActiveKept.skip ((updateAbort_run (l := [.log, .upd]) _ _ _ _ (Within.self _)).2 Only.rfl) (by decide) h

theorem updateBegin_active {s : State} (p : List Byte) (q : Req) (k : Target → Bool) (t : State) (h : ActiveKept s t) :
    ActiveKept s ((updateBegin p).run q k t).s :=
  ActiveKept.skip ((updateBegin_run (l := [.frm, .log, .upd]) _ _ _ _ (Within.self _)).2 Only.rfl) (by decide) h

theorem updateBlock_active {s : State} (p : List Byte) (q : Req) (k : Target → Bool) (t : State) (h : ActiveKept s t) :
    ActiveKept s ((updateBlock p).run q k t).s :=
  ActiveKept.skip ((updateBlock_run (l := [.log, .se, .upd]) _ _ _ _ (Within.self _)).2 Only.rfl) (by decide) h

theorem updateCommit_active {s : State} (tid : Nat) (q : Req) (k : Target → Bool) (t : State) (h : ActiveKept s t) :
    ActiveKept s ((updateCommit tid).run q k t).s :=
  ActiveKept.skip ((updateCommit_run (l := [.pow, .ring, .frm, .inj, .log, .upd, .ho]) _ _ _ _ (Within.self _)).2 Only.rfl) (by decide) h

theorem updateStatus_active {s : State} (q : Req) (k : Target → Bool) (t : State) (h : ActiveKept s t) :
    ActiveKept s ((updateStatus).run q k t).s :=
  ActiveKept.skip ((updateStatus_run (l := []) _ _ _ (Within.self _)).2 Only.rfl) (by decide) h

theorem updateVerify_active {s : State} (tid : Nat) (q : Req) (k : Target → Bool) (t : State) (h : ActiveKept s t) :
    ActiveKept s ((updateVerify tid).run q k t).s :=
  ActiveKept.skip ((updateVerify_run (l := [.frm, .upd]) _ _ _ _ (Within.self _)).2 Only.rfl) (by decide) h

theorem memOp0_active {s : State} {opc : Nat} {p : List Byte} {o : Op} (e : memOp0 opc p = some o) (q : Req) (k : Target → Bool) (t : State) (h :
    ActiveKept s t) :
    ActiveKept s (o.run q k t).s := by
  refine h.trans ?_
  unfold memOp0 at e
  split at e <;> cases e
  all_goals repeat' first
    | with_reducible exact ActiveKept.rfl
    | with_reducible refine handoverStatus_active _ _ _ ?_
    | with_reducible refine imageInfo_active _ _ _ ?_
    | with_reducible refine memRead_active _ _ _ _ _ ?_
    | with_reducible refine memWrite_active _ _ _ _ ?_
    | with_reducible refine scConfig_active _ _ _ _ ?_
    | with_reducible refine scStart_active _ _ _ _ _ ?_
    | with_reducible refine scStatus_active _ _ _ _ _ ?_
    | with_reducible refine scStop_active _ _ _ _ _ ?_
    | with_reducible refine sporeEnter_active _ _ _ _ ?_
    | with_reducible refine updateAbort_active _ _ _ _ ?_
    | with_reducible refine updateBegin_active _ _ _ _ ?_
    | with_reducible refine updateBlock_active _ _ _ _ ?_
    | with_reducible refine updateCommit_active _ _ _ _ ?_
    | with_reducible refine updateStatus_active _ _ _ ?_
    | with_reducible refine updateVerify_active _ _ _ _ ?_
    | dsimp only [Op.sized, Op.least, Op.noKind]

theorem countersRead_active {s : State} (q : Req) (k : Target → Bool) (t : State) (h : ActiveKept s t) :
    ActiveKept s ((countersRead).run q k t).s :=
  ActiveKept.skip ((countersRead_run (l := []) _ _ _ (Within.self _)).2 Only.rfl) (by decide) h

theorem inject_active {s : State} (id : Nat) (tgt : Nat) (arg : Nat) (dur : Nat) (q : Req) (k : Target → Bool) (t : State) (h : ActiveKept s t) :
    ActiveKept s ((inject id tgt arg dur).run q k t).s :=
  ActiveKept.skip ((inject_run (l := [.inj, .log]) _ _ _ _ _ _ _ (Within.self _)).2 Only.rfl) (by decide) h

theorem injectClear_active {s : State} (slot : Nat) (q : Req) (k : Target → Bool) (t : State) (h : ActiveKept s t) :
    ActiveKept s ((injectClear slot).run q k t).s :=
  ActiveKept.skip ((injectClear_run (l := [.inj, .log]) _ _ _ _ (Within.self _)).2 Only.rfl) (by decide) h

theorem logInfo_active {s : State} (q : Req) (k : Target → Bool) (t : State) (h : ActiveKept s t) :
    ActiveKept s ((logInfo).run q k t).s :=
  ActiveKept.skip ((logInfo_run (l := []) _ _ _ (Within.self _)).2 Only.rfl) (by decide) h

theorem logRead_active {s : State} (from_ : Nat) (count : Nat) (q : Req) (k : Target → Bool) (t : State) (h : ActiveKept s t) :
    ActiveKept s ((logRead from_ count).run q k t).s :=
  ActiveKept.skip ((logRead_run (l := [.log]) _ _ _ _ _ (Within.self _)).2 Only.rfl) (by decide) h

theorem testClose_active {s : State} (q : Req) (k : Target → Bool) (t : State) (h : ActiveKept s t) :
    ActiveKept s ((testClose).run q k t).s :=
  ActiveKept.skip ((testClose_run (l := [.inj, .log]) _ _ _ (Within.self _)).2 Only.rfl) (by decide) h

theorem testOpen_active {s : State} (flags : Nat) (timeout : Nat) (q : Req) (k : Target → Bool) (t : State) (h : ActiveKept s t) :
    ActiveKept s ((testOpen flags timeout).run q k t).s :=
  ActiveKept.skip ((testOpen_run (l := [.inj, .log]) _ _ _ _ _ (Within.self _)).2 Only.rfl) (by decide) h

theorem memOp1_active {s : State} {opc : Nat} {p : List Byte} {o : Op} (e : memOp1 opc p = some o) (q : Req) (k : Target → Bool) (t : State) (h :
    ActiveKept s t) :
    ActiveKept s (o.run q k t).s := by
  refine h.trans ?_
  unfold memOp1 at e
  split at e <;> cases e
  all_goals repeat' first
    | with_reducible exact ActiveKept.rfl
    | with_reducible refine countersRead_active _ _ _ ?_
    | with_reducible refine flagClear_active _ _ _ _ _ ?_
    | with_reducible refine inject_active _ _ _ _ _ _ _ ?_
    | with_reducible refine injectClear_active _ _ _ _ ?_
    | with_reducible refine logInfo_active _ _ _ ?_
    | with_reducible refine logRead_active _ _ _ _ _ ?_
    | with_reducible refine testClose_active _ _ _ ?_
    | with_reducible refine testOpen_active _ _ _ _ _ ?_
    | dsimp only [Op.sized, Op.least, Op.noKind]

theorem baseOp_active {s : State} {mem : Bool} {opc : Nat} {p : List Byte} {o : Op} (e : baseOp mem opc p = some o) (q : Req)
    (k : Target → Bool) (t : State) (h : ActiveKept s t) : ActiveKept s (o.run q k t).s := by
  unfold baseOp at e
  split at e
  · split at e
    · exact memOp0_active e q k t h
    · exact memOp1_active e q k t h
  · split at e
    · exact ActiveKept.skip ((ctrlOp0_run (l := [.clk, .pow, .ring, .frm, .auth, .loop, .drv, .fan, .prog, .lich, .safe, .inj, .log, .cnt, .free])
        e q k t (Within.self _)).2 Only.rfl) (by decide) h
    · exact ActiveKept.skip ((ctrlOp1_run (l := [.run, .tab, .lich, .therm]) e q k t (Within.self _)).2 Only.rfl) (by decide) h
    · exact ActiveKept.skip ((ctrlOp1_run (l := [.run, .tab, .lich, .therm]) e q k t (Within.self _)).2 Only.rfl) (by decide) h
    · exact ActiveKept.skip ((ctrlOp2_run (l := [.frm, .run, .fe, .die, .drv, .prog, .stitch, .inj, .log, .free]) e q k t (Within.self _)).2
        Only.rfl) (by decide) h
    · exact ActiveKept.skip ((ctrlOp2_run (l := [.frm, .run, .fe, .die, .drv, .prog, .stitch, .inj, .log, .free]) e q k t (Within.self _)).2
        Only.rfl) (by decide) h
    · exact ActiveKept.skip ((ctrlOp3_run (l := [.run, .loop, .drv, .fan, .prog, .conv, .stitch, .energy, .inj, .log, .free]) e q k t (Within.self
        _)).2 Only.rfl) (by decide) h
    · exact ActiveKept.skip ((ctrlOp3_run (l := [.run, .loop, .drv, .fan, .prog, .conv, .stitch, .energy, .inj, .log, .free]) e q k t (Within.self
        _)).2 Only.rfl) (by decide) h
    · exact ActiveKept.skip ((ctrlOp4_run (l := [.frm, .loop, .drv, .fan, .prog, .stitch, .safe, .log, .cnt]) e q k t (Within.self _)).2 Only.rfl)
        (by decide) h

theorem opOf_active {s : State} {mem : Bool} {opc : Nat} {p : List Byte} {o : Op} (e : opOf mem opc p = some o) (q : Req)
    (k : Target → Bool) (t : State) (h : ActiveKept s t) : ActiveKept s (o.run q k t).s := by
  unfold opOf at e
  split at e
  · exact baseOp_active e q k t h
  · split at e
    · cases e; exact ActiveKept.skip ((cfgRead_run (l := []) _ _ _ q k t (by decide)).2 Only.rfl) (by decide) h
    · cases e; exact ActiveKept.skip ((cfgWrite_run (l := [.frm, .run, .fe, .loop, .die, .drv, .fan, .prog, .conv, .lich, .therm, .log, .se, .free])
    _ q k t (by decide)).2 Only.rfl) (by decide) h
    · cases e; exact ActiveKept.skip ((cfgSave_run (l := [.frm, .cfgs]) _ q k t (by decide)).2 Only.rfl) (by decide) h
    · exact baseOp_active e q k t h

theorem Order.run_active {s t : State} {o : Order} {keep : Target → Bool} {us : Option Nat} (c : ActiveKept s t) : ActiveKept s (o.run keep us t).s
    := by
  unfold Order.run Order.op
  dsimp only
  unfold State.settled
  refine ActiveKept.skip ((State.mFrm_only (l := [.frm]) _ _ (by decide)).2 Only.rfl) (by decide) ?_
  cases e : opOf o.mem o.opc o.payload with
  | none => exact ActiveKept.skip ((State.mFrm_only (l := [.frm]) _ _ (by decide)).2 Only.rfl) (by decide) c
  | some op =>
    exact opOf_active e o.q keep _ (ActiveKept.skip ((State.mFrm_only (l := [.frm]) _ _ (by decide)).2 Only.rfl) (by decide) c)

theorem State.dispatch_active {s : State} (t : State) (f : Frame) (who : Sender) (x : Option Session) (h : ActiveKept s t) :
    ActiveKept s (t.dispatch f who x) := by
  refine h.trans ?_
  have hs : ∀ {u v : State}, Only [.frm, .auth] u v → ActiveKept t u → ActiveKept t v := fun o d => ActiveKept.skip o (by decide) d
  unfold State.dispatch
  dsimp only
  split
  · exact hs (Only.ite ((State.countFull_only _ (by decide)).2 Only.rfl) ((State.served_only _ _ _ _ _ _ (by decide)).2 Only.rfl)) ActiveKept.rfl
  · split
    · refine hs ((State.countFull_only _ (by decide)).2 ?_) ActiveKept.rfl
      cases b : Op.barred _ (f.req who) t with
      | none => exact Only.rfl
      | some r => exact Op.barred_only (by decide) Only.rfl b
    · split
      · refine hs ((State.served_only _ _ _ _ _ _ (by decide)).2 ((State.mFrm_only _ _ (by decide)).2 ?_)) ActiveKept.rfl
        exact Op.screen_only (by decide) ((State.mFrm_only _ _ (by decide)).2 Only.rfl) ‹_›
      · refine ActiveKept.ite (hs ((State.mFrm_only _ _ (by decide)).2 Only.rfl) ActiveKept.rfl) ?_
        exact hs ((State.served_only _ _ _ _ _ _ (by decide)).2 Only.rfl) (Order.run_active ActiveKept.rfl)

theorem State.noteValid_active {s : State} (t : State) (who : Sender) (h : ActiveKept s t) :
    ActiveKept s (t.noteValid who) :=
  ActiveKept.skip ((State.noteValid_only (l := [.frm]) _ _ (Within.self _)).2 Only.rfl) (by decide) h

theorem State.reply_active {s : State} (t : State) (who : Sender) (r : Reply) (h : ActiveKept s t) :
    ActiveKept s (t.reply who r) :=
  ActiveKept.skip ((State.reply_only (l := [.frm]) _ _ _ (Within.self _)).2 Only.rfl) (by decide) h

theorem State.rateCount_active {s : State} (t : State) (who : Sender) (h : ActiveKept s t) :
    ActiveKept s (t.rateCount who) :=
  ActiveKept.skip ((State.rateCount_only (l := [.auth]) _ _ (Within.self _)).2 Only.rfl) (by decide) h

theorem State.refuse_active {s : State} (t : State) (f : Frame) (who : Sender) (sess : Option Nat) (zero : Bool) (st : Status) (h : ActiveKept s t) :
    ActiveKept s (t.refuse f who sess zero st) :=
  ActiveKept.skip ((State.refuse_only (l := [.frm]) _ _ _ _ _ _ (Within.self _)).2 Only.rfl) (by decide) h

theorem State.repeated_active {s : State} (t : State) (f : Frame) (who : Sender) (sess : Option Nat) (e : WinEntry) (h : ActiveKept s t) :
    ActiveKept s (t.repeated f who sess e) :=
  ActiveKept.skip ((State.repeated_only (l := [.frm]) _ _ _ _ _ (Within.self _)).2 Only.rfl) (by decide) h

theorem State.tagFailed_active {s : State} (t : State) (who : Sender) (h : ActiveKept s t) :
    ActiveKept s (t.tagFailed who) :=
  ActiveKept.skip ((State.tagFailed_only (l := [.auth, .log]) _ _ (Within.self _)).2 Only.rfl) (by decide) h

theorem State.winEnter_active {s : State} (t : State) (who : Sender) (seq : Nat) (crc : Nat) (sess : Option Nat) (mctr : Nat) (h : ActiveKept s t) :
    ActiveKept s (t.winEnter who seq crc sess mctr) :=
  ActiveKept.skip ((State.winEnter_only (l := [.frm, .auth]) _ _ _ _ _ _ (Within.self _)).2 Only.rfl) (by decide) h

theorem State.request_active {s : State} (t : State) (l' : Lane) (b : List Byte) (h : ActiveKept s t) : ActiveKept s (t.request l' b) := by
  refine h.trans ?_
  unfold State.request
  repeat' first
    | with_reducible exact ActiveKept.rfl
    | with_reducible refine ActiveKept.ite ?_ ?_
    | with_reducible intro _ _
    | with_reducible refine State.dispatch_active _ _ _ _ ?_
    | with_reducible refine State.mAuth_active _ _ ?_
    | with_reducible refine State.mFrm_active _ _ ?_
    | with_reducible refine State.noteValid_active _ _ ?_
    | with_reducible refine State.reply_active _ _ _ ?_
    | with_reducible refine State.rateCount_active _ _ ?_
    | with_reducible refine State.refuse_active _ _ _ _ _ _ ?_
    | with_reducible refine State.repeated_active _ _ _ _ _ ?_
    | with_reducible refine State.tagFailed_active _ _ ?_
    | with_reducible refine State.winEnter_active _ _ _ _ _ _ ?_
    | split
    | dsimp only
  refine ActiveKept.skip (l := [.auth]) (State.counterBad_only ‹_› (by decide) Only.rfl) (by decide) ?_
  refine ActiveKept.ite ?_ ?_
  · exact ActiveKept.skip ((State.rateCount_only (l := [.frm, .auth]) _ _ (by decide)).2 ((State.noteValid_only _ _ (by decide)).2 Only.rfl)) (by
      decide) ActiveKept.rfl
  · exact ActiveKept.skip ((State.noteValid_only (l := [.frm]) _ _ (by decide)).2 Only.rfl) (by decide) ActiveKept.rfl

theorem State.scDone_active {s : State} (t : State) (k : Fin 8) (h : ActiveKept s t) :
    ActiveKept s (t.scDone k) :=
  ActiveKept.skip ((State.scDone_only (l := [.se]) _ _ (Within.self _)).2 Only.rfl) (by decide) h

theorem State.deliver_active {s : State} (t : State) (p : PortId) (b : List Byte) (h : ActiveKept s t) :
    ActiveKept s (t.deliver p b) := by
  refine h.trans ?_
  unfold State.deliver
  repeat' first
    | with_reducible exact ActiveKept.rfl
    | with_reducible refine ActiveKept.ite ?_ ?_
    | with_reducible intro _ _
    | with_reducible refine State.request_active _ _ _ ?_
    | with_reducible refine State.scDone_active _ _ ?_

theorem State.onward_active {s : State} (t : State) (p : PortId) (body : List Byte) (h : ActiveKept s t) :
    ActiveKept s (t.onward p body) :=
  ActiveKept.skip ((State.onward_only (l := [.ring]) _ _ _ (Within.self _)).2 Only.rfl) (by decide) h

theorem State.turnedOn_active {s : State} (t : State) (p : PortId) (body : List Byte) (turn : List Byte) (h : ActiveKept s t) :
    ActiveKept s (t.turnedOn p body turn) :=
  ActiveKept.skip ((State.turnedOn_only (l := [.ring]) _ _ _ _ (Within.self _)).2 Only.rfl) (by decide) h

theorem State.ringFrame_active {s : State} (t : State) (p : PortId) (b : List Byte) (ending : Ending) (h : ActiveKept s t) :
    ActiveKept s (t.ringFrame p b ending) := by
  refine h.trans ?_
  unfold State.ringFrame
  repeat' first
    | with_reducible exact ActiveKept.rfl
    | with_reducible refine ActiveKept.ite ?_ ?_
    | with_reducible intro _ _
    | with_reducible refine State.abortOn_active _ _ _ ?_
    | with_reducible refine State.crcFails_active _ _ _ ?_
    | with_reducible refine State.cutCopy_active _ _ _ _ ?_
    | with_reducible refine State.deliver_active _ _ _ ?_
    | with_reducible refine State.detected_active _ _ _ _ ?_
    | with_reducible refine State.mFrm_active _ _ ?_
    | with_reducible refine State.mInj_active _ _ ?_
    | with_reducible refine State.onward_active _ _ _ ?_
    | with_reducible refine State.turnedOn_active _ _ _ _ ?_
    | split

theorem State.svcFrame_active {s : State} (t : State) (b : List Byte) (ending : Ending) (h : ActiveKept s t) :
    ActiveKept s (t.svcFrame b ending) := by
  refine h.trans ?_
  unfold State.svcFrame
  repeat' first
    | with_reducible exact ActiveKept.rfl
    | with_reducible refine ActiveKept.ite ?_ ?_
    | with_reducible intro _ _
    | with_reducible refine State.mFrm_active _ _ ?_
    | with_reducible refine State.request_active _ _ _ ?_
    | with_reducible refine State.scDone_active _ _ ?_

theorem execFrameReceive_active (dt : Nat) (lane : Lane) (body : List Byte) (hop : Nat) (ending : Ending) (s : State) : ∃ u, execFrameReceive dt
    lane body hop ending s = .next u ∧ ActiveKept s u := by
  refine ⟨_, rfl, ?_⟩
  repeat' first
    | with_reducible exact ActiveKept.rfl
    | with_reducible intro _ _
    | with_reducible refine State.advance_active _ _ ?_
    | with_reducible refine State.ringFrame_active _ _ _ _ ?_
    | with_reducible refine State.svcFrame_active _ _ _ ?_
    | split

theorem State.openReplied_active {s : State} (t : State) (who : Sender) (r : Reply) (up : Nat) (h : ActiveKept s t) :
    ActiveKept s (t.openReplied who r up) :=
  ActiveKept.skip ((State.openReplied_only (l := [.auth]) _ _ _ _ (Within.self _)).2 Only.rfl) (by decide) h

theorem State.winStore_active {s : State} (t : State) (who : Sender) (r : Reply) (h : ActiveKept s t) :
    ActiveKept s (t.winStore who r) :=
  ActiveKept.skip ((State.winStore_only (l := [.frm]) _ _ _ (Within.self _)).2 Only.rfl) (by decide) h

theorem State.afterReply_active {s : State} (t : State) (who : Sender) (r : Reply) (ns : Nat) (sym : Nat) (h : ActiveKept s t) :
    ActiveKept s (t.afterReply who r ns sym) := by
  refine h.trans ?_
  unfold State.afterReply
  repeat' first
    | with_reducible refine State.mSys_active _ _ (fun _ => Eq.refl _) ?_
    | with_reducible exact ActiveKept.rfl
    | with_reducible refine ActiveKept.ite ?_ ?_
    | with_reducible intro _ _
    | with_reducible refine State.mAuth_active _ _ ?_
    | with_reducible refine State.mPow_active _ _ ?_
    | with_reducible refine State.openReplied_active _ _ _ _ ?_
    | with_reducible refine State.winStore_active _ _ _ ?_
    | split

theorem State.popReply_active {s : State} (t : State) (who : Sender) (h : ActiveKept s t) :
    ActiveKept s (t.popReply who) :=
  ActiveKept.skip ((State.popReply_only (l := [.frm]) _ _ (Within.self _)).2 Only.rfl) (by decide) h

theorem State.replyBody_active {s : State} (t : State) (who : Sender) (r : Reply) (h : ActiveKept s t) : ActiveKept s (t.replyBody who r).2 :=
  ActiveKept.skip ((State.replyBody_snd (l := [.auth]) _ _ _ (Within.self _)).2 Only.rfl) (by decide) h

theorem State.sendOwn_active {s : State} (t : State) (p : PortId) (f : TxFrame) (h : ActiveKept s t) :
    ActiveKept s (t.sendOwn p f) :=
  ActiveKept.skip ((State.sendOwn_only (l := [.ring]) _ _ _ (Within.self _)).2 Only.rfl) (by decide) h

theorem State.sendRing_active {s : State} (t : State) (p : PortId) (h : ActiveKept s t) :
    ActiveKept s (t.sendRing p) := by
  refine h.trans ?_
  unfold State.sendRing
  repeat' first
    | with_reducible exact ActiveKept.rfl
    | with_reducible refine ActiveKept.ite ?_ ?_
    | with_reducible intro _ _
    | with_reducible refine State.afterReply_active _ _ _ _ _ ?_
    | with_reducible refine State.mRp_active _ _ _ ?_
    | with_reducible refine State.popReply_active _ _ ?_
    | with_reducible refine State.replyBody_active _ _ _ ?_
    | with_reducible refine State.sendOwn_active _ _ _ ?_
    | split
    | dsimp only

theorem State.sendSvc_active {s : State} (t : State) (h : ActiveKept s t) :
    ActiveKept s (t.sendSvc) := by
  refine h.trans ?_
  unfold State.sendSvc
  repeat' first
    | with_reducible exact ActiveKept.rfl
    | with_reducible intro _ _
    | with_reducible refine State.afterReply_active _ _ _ _ _ ?_
    | with_reducible refine State.mFrm_active _ _ ?_
    | with_reducible refine State.popReply_active _ _ ?_
    | with_reducible refine State.replyBody_active _ _ _ ?_
    | split

theorem execReplySend_active (dt : Nat) (lane : Lane) (s : State) : ∃ u, execReplySend dt lane s = .next u ∧ ActiveKept s u := by
  refine ⟨_, rfl, ?_⟩
  repeat' first
    | with_reducible exact ActiveKept.rfl
    | with_reducible refine ActiveKept.ite ?_ ?_
    | with_reducible intro _ _
    | with_reducible refine State.advance_active _ _ ?_
    | with_reducible refine State.sendRing_active _ _ ?_
    | with_reducible refine State.sendSvc_active _ ?_
    | split

theorem State.cjAsk_active {s : State} (t : State) (h : ActiveKept s t) :
    ActiveKept s (t.cjAsk) :=
  ActiveKept.skip ((State.cjAsk_only (l := [.fe]) _ (Within.self _)).2 Only.rfl) (by decide) h

theorem State.processTick_active {s : State} (t : State) (t' : Nat) (h : ActiveKept s t) :
    ActiveKept s (t.processTick t') :=
  ActiveKept.skip ((State.processTick_only (l := [.clk, .loop, .drv, .fan, .prog, .energy, .safe, .log, .free]) _ _ (Within.self _)).2 Only.rfl) (by
    decide) h

theorem execProcessTick_active (s : State) : ∃ u, execProcessTick s = .next u ∧ ActiveKept s u := by
  refine ⟨_, rfl, ?_⟩
  repeat' first
    | with_reducible refine State.mSys_active _ _ (fun _ => Eq.refl _) ?_
    | with_reducible exact ActiveKept.rfl
    | with_reducible refine ActiveKept.ite ?_ ?_
    | with_reducible intro _ _
    | with_reducible refine State.cjAsk_active _ ?_
    | with_reducible refine State.mClk_active _ _ ?_
    | with_reducible refine State.processTick_active _ _ ?_

end Sys2Proof.Machine
end

