-- ==== Sys2Proof/Laws/Permit.lean ====
section
/-! SUPPORT. What a removal of the heat permit leaves: the permit is not on, the latch is set, no heat actuator runs a current. -/

namespace Sys2Proof.Machine

@[simp] theorem State.mDrvCh_same (s : State) (n : Fin 32) (f : Driver → Driver) : (s.mDrvCh n f).drv.ch[n.val] = f s.drv.ch[n.val] := by
  simp [State.mDrvCh, State.mDrv]

theorem State.mDrvCh_other (s : State) (n m : Fin 32) (f : Driver → Driver) (h : m ≠ n) : (s.mDrvCh n f).drv.ch[m] = s.drv.ch[m] :=
  vmod_other _ _ _ _ h

@[simp] theorem State.rebudget_ch (s : State) : s.rebudget.drv.ch = s.drv.ch := rfl

@[simp] theorem Driver.enter_phase (d : Driver) (p : Phase) (n : Nat) : (d.enter p n).phase = p := rfl

@[simp] theorem State.toPhase_same (s : State) (n : Fin 32) (p : Phase) : ((s.toPhase n p).drv.ch[n.val]).phase = p := by
  simp [State.toPhase]

theorem State.toPhase_other (s : State) (n m : Fin 32) (p : Phase) (h : m ≠ n) : (s.toPhase n p).drv.ch[m] = s.drv.ch[m] := by
  simp only [State.toPhase, State.rebudget_ch]
  exact State.mDrvCh_other _ _ _ _ h

theorem State.release_other (s : State) (n m : Fin 32) (f : Bool) (h : m ≠ n) : (s.release n f).drv.ch[m] = s.drv.ch[m] := by
  unfold State.release
  dsimp only
  split <;> simp only [State.toPhase_other _ _ _ _ h, State.mDrvCh_other _ _ _ _ h]

/-- RELEASE leaves a channel in a phase without a current of its own. -/
theorem State.release_quiet (s : State) (n : Fin 32) (f : Bool) : ((s.release n f).drv.ch[n]).phase.quiet = true := by
  unfold State.release
  dsimp only
  split
  all_goals simp only [Fin.getElem_fin, State.toPhase_same, State.mDrvCh_same]
  all_goals first
    | rfl
    | (rename_i e; simp only [Fin.getElem_fin] at e; rw [e]; rfl)
    | (cases e : (s.drv.ch[n.val]).phase <;> simp_all [Phase.quiet])

theorem State.heatStep_other (s : State) (n m : Fin 32) (h : m ≠ n) : (s.heatStep n).drv.ch[m] = s.drv.ch[m] := by
  unfold State.heatStep
  split
  · split <;> simp only [State.mDrvCh_other _ _ _ _ h, State.release_other _ _ _ _ h]
  · rfl

theorem State.heatStep_run (s : State) (n : Fin 32) : (s.heatStep n).run = s.run := by
  have h : Only [.drv] s (s.heatStep n) := by
    unfold State.heatStep
    split
    · split <;> simp
    · exact Only.rfl
  exact (h .run (by decide)).symm

theorem State.heatStep_quiet (s : State) (n : Fin 32) (h : (s.run.prof[n]).heat = true) : (((s.heatStep n).drv.ch[n]).phase.quiet) = true := by
  have hs : s.isHeat n = true := h
  unfold State.heatStep
  rw [if_pos hs]
  split
  all_goals first
    | (simp only [Fin.getElem_fin, State.mDrvCh_same]; exact s.release_quiet n true)
    | (cases e : (s.drv.ch[n]).phase <;> simp_all [Phase.quiet])

theorem State.heatSteps (l : List (Fin 32)) (s : State) : (s.each l State.heatStep).run = s.run ∧
    ∀ n, n ∈ l ∨ ((s.drv.ch[n]).phase.quiet = true) → (s.run.prof[n]).heat = true → (((s.each l State.heatStep).drv.ch[n]).phase.quiet) = true := by
  induction l generalizing s with
  | nil => exact ⟨rfl, fun n h _ => by simpa [State.each] using h⟩
  | cons a l ih =>
    obtain ⟨i1, i2⟩ := ih (s.heatStep a)
    refine ⟨i1.trans (s.heatStep_run a), fun n hn hh => i2 n ?_ (by rw [s.heatStep_run a]; exact hh)⟩
    by_cases e : n = a
    · subst e; exact .inr (s.heatStep_quiet n hh)
    · rcases hn with hn | hn
      · rcases List.mem_cons.1 hn with h | h
        · exact absurd h e
        · exact .inl h
      · right; rw [s.heatStep_other a n e]; exact hn

/-- The heat actuators are quiet once they have been released. -/
theorem State.heatRelease_quiet (s : State) (n : Fin 32) (h : (s.run.prof[n]).heat = true) : ((s.heatRelease.drv.ch[n]).phase.quiet) = true := by
  unfold State.heatRelease
  exact (State.heatSteps (List.finRange 32) s).2 n (.inl (List.mem_finRange n)) h

theorem quiet_iff (s : State) : Safety.heatQuiet s = true ↔ ∀ n : Fin 32, (s.run.prof[n]).heat = true → ((s.drv.ch[n]).phase.quiet) = true := by
  unfold Safety.heatQuiet
  simp only [List.all_eq_true, List.mem_finRange, true_implies]
  refine forall_congr' fun n => ?_
  cases (s.run.prof[n]).heat <;> cases (s.drv.ch[n]).phase <;> simp [Phase.quiet]

theorem State.setLatch_drv (s : State) (k : Latch) (r : Nat) (i : Bool) : Only [.safe, .log] s (s.setLatch k r i) := by simp

theorem State.setLatch_set (s : State) (k : Latch) (r : Nat) (i : Bool) : (((s.setLatch k r i).safe.latch[k.bit]).set) = true := by
  unfold State.setLatch
  split
  · assumption
  · simp [State.logSm, State.logAs, State.mLog, State.mSafe, Flag.raise]

/-- A latch that is set stays set when another is. -/
theorem State.setLatch_keeps (s : State) (j k : Latch) (r : Nat) (i : Bool) (h : (s.safe.latch[j.bit]).set = true) :
    (((s.setLatch k r i).safe.latch[j.bit]).set) = true := by
  by_cases e : j.bit = k.bit
  · have : j = k := by cases j <;> cases k <;> first | rfl | exact absurd e (by decide)
    subst this; exact s.setLatch_set j r i
  · unfold State.setLatch
    split
    · exact h
    · simp only [State.logSm, State.logAs, State.mLog, State.mSafe]
      rw [vmod_other _ _ _ _ e]; exact h

theorem State.setLatch_off (s : State) (k : Latch) (r : Nat) (i : Bool) (h : s.safe.permit ≠ .on) : (s.setLatch k r i).safe.permit ≠ .on := by
  unfold State.setLatch
  split
  · exact h
  · simp [State.logSm, State.logAs, State.mLog, State.mSafe, h]

theorem State.latchOf_on (s : State) (k : Option Latch) (r : Nat) (i : Bool) (h : s.safe.permit = .on) : (s.latchOf k r i).safe.permit = .on := by
  unfold State.latchOf State.setLatch
  split
  · split
    · exact h
    · simp [State.logSm, State.logAs, State.mLog, State.mSafe, h]
  · exact h

/-- What goes with the permit touches SM's own part no further than `permitOff` and a missing acknowledgement do. -/
theorem State.permitGone_mid (s : State) (r : Nat) (k : Option Latch) (i : Bool) : Only [.drv, .loop, .prog] (s.permitOff r k i)
    ((((s.permitOff r k i).heatRelease).heatClose).mProg fun p => { p with lostPermit := some (r == 0x0D) }) := by simp

theorem State.permitOff_off (s : State) (r : Nat) (k : Option Latch) (i : Bool) : (s.permitOff r k i).safe.permit ≠ .on := by
  simp only [State.permitOff, State.logSm, State.logAs, State.mLog, State.mSafe, State.mCnt]
  by_cases h : s.safe.anyLatch <;> simp [h]

theorem State.permitGone_off (s : State) (r : Nat) (k : Option Latch) (i : Bool) : (s.permitGone r k i).safe.permit ≠ .on := by
  have h1 : _ = _ := (s.permitGone_mid r k i) .safe (by decide)
  have h2 := s.permitOff_off r k i
  rw [h1] at h2
  unfold State.permitGone
  dsimp only
  split
  · exact State.setLatch_off _ _ _ _ h2
  · exact h2

/-- A removal leaves the permit off, armed or locked. -/
theorem State.removePermit_off (s : State) (r : Nat) (k : Option Latch) (i : Bool) : (s.removePermit r k i).safe.permit ≠ .on := by
  unfold State.removePermit
  dsimp only
  split
  · exact State.permitGone_off _ _ _ _
  · rename_i e
    split
    · simp [State.mSafe]
    · simp [e]
  · assumption

theorem State.permitGone_quiet (s : State) (r : Nat) (k : Option Latch) (i : Bool) : Safety.heatQuiet (s.permitGone r k i) = true := by
  rw [quiet_iff]
  intro n
  have h2 : Only [.safe, .log, .prog, .loop] (s.permitOff r k i).heatRelease (s.permitGone r k i) := by
    unfold State.permitGone
    exact Only.ite (by simp) (by simp)
  have e1 : _ = _ := h2 .drv (by decide)
  have e2 : _ = _ := h2 .run (by decide)
  have e3 : Only [.drv] (s.permitOff r k i) (s.permitOff r k i).heatRelease := by simp
  have e4 : _ = _ := e3 .run (by decide)
  rw [← e1, ← e2, ← e4]
  exact State.heatRelease_quiet _ n

/-- A removal of a permit that is on leaves no heat actuator with a current. -/
theorem State.removePermit_quiet (s : State) (r : Nat) (k : Option Latch) (i : Bool) (h : s.safe.permit = .on) :
    Safety.heatQuiet (s.removePermit r k i) = true := by
  unfold State.removePermit
  dsimp only
  rw [State.latchOf_on s k r i h]
  exact State.permitGone_quiet _ _ _ _

/-- The latch of the finding is set after a removal. -/
theorem State.removePermit_latch (s : State) (r : Nat) (k : Latch) (i : Bool) : (((s.removePermit r (some k) i).safe.latch[k.bit]).set) = true := by
  have h0 : (((s.latchOf (some k) r i).safe.latch[k.bit]).set) = true := s.setLatch_set k r i
  unfold State.removePermit
  dsimp only
  generalize s.latchOf (some k) r i = u at h0 ⊢
  split
  · have h3 : _ = _ := (u.permitGone_mid r (some k) i) .safe (by decide)
    have h1 : ((((((u.permitOff r (some k) i).heatRelease).heatClose).mProg fun p =>
        { p with lostPermit := some (r == 0x0D) }).safe.latch[k.bit]).set) = true := by
      rw [← h3]; exact h0
    unfold State.permitGone
    dsimp only
    split
    · exact State.setLatch_keeps _ _ _ _ _ h1
    · exact h1
  · split
    · exact h0
    · exact h0
  · exact h0

end Sys2Proof.Machine
end

