-- ==== Sys2Proof/Laws/PermitKept.lean ====
section
/-! SUPPORT. No operation and no command but a cycle of the safety monitor turns the heat permit on. -/

namespace Sys2Proof.Machine

/-- A permit that is on in `t` was on in `s`. -/
def PermitKept (s t : State) : Prop := t.safe.permit = .on → s.safe.permit = .on

theorem PermitKept.rfl {s : State} : PermitKept s s := id

theorem PermitKept.trans {s t u : State} (h : PermitKept s t) (k : PermitKept t u) : PermitKept s u := fun a => h (k a)

theorem PermitKept.skip {l : List Part} {s t u : State} (o : Only l t u) (m : Part.safe ∉ l) (h : PermitKept s t) : PermitKept s u := by
  have e := o.safe m
  unfold PermitKept at h ⊢
  rw [e]; exact h

theorem PermitKept.ite {s a b : State} {c : Prop} [Decidable c] (h : PermitKept s a) (k : PermitKept s b) : PermitKept s (if c then a else b) := by
  split <;> assumption

theorem PermitKept.each {α : Type} {s t : State} {k : List α} {f : State → α → State} (h : PermitKept s t) (c : ∀ u a, PermitKept u (f u a)) :
    PermitKept s (t.each k f) := by
  unfold State.each
  induction k generalizing t with
  | nil => exact h
  | cons a k ih => exact ih (h.trans (c t a))

theorem PermitKept.bad {s t : State} {st : Status} (h : PermitKept s t) : PermitKept s (Res.bad st t).s := h

theorem PermitKept.ok {s t : State} {d : List Byte} (h : PermitKept s t) : PermitKept s (Res.ok d t).s := h

theorem PermitKept.onHost {s t : State} {ch : Fin 16} {f : State → Fin 8 → State} (c : ∀ u n, PermitKept u (f u n)) (h : PermitKept s t) :
    PermitKept s (t.onHost ch f) := by
  unfold State.onHost
  split
  · exact h.trans (c _ _)
  · exact h

theorem State.mSafe_permit {s : State} (t : State) (f : Safe → Safe) (g : ∀ x, (f x).permit = .on → x.permit = .on) (h : PermitKept s t) :
    PermitKept s (t.mSafe f) := fun a => h (g _ a)

theorem PermitKept.foldl {α β : Type} {s : State} {f : β → α → β} {g : β → State} (k : List α) (c : ∀ a x, PermitKept s (g a) → PermitKept s (g (f
    a x)))
    (a : β) (h : PermitKept s (g a)) : PermitKept s (g (k.foldl f a)) := by
  induction k generalizing a with
  | nil => exact h
  | cons x k ih => exact ih _ (c _ _ h)

theorem PermitKept.free {s t : State} (n : Nat) (h : PermitKept s t) : PermitKept s { t with free := n } := h

theorem PermitKept.serve {s t : State} {o : Op} {q : Req} (hr : ∀ r k u, PermitKept u (o.run r k u).s) (c : PermitKept s t) : PermitKept s (o.serve
    q t) := by
  have hf : ∀ {u v : State}, Only [.frm, .auth] u v → PermitKept s u → PermitKept s v := fun o d => PermitKept.skip o (by decide) d
  have hj : ∀ u, PermitKept s u → PermitKept s (o.judge q (fun _ => true) u).s := by
    intro u d
    unfold Op.judge
    split
    · exact hf (Op.screen_only (by decide) Only.rfl ‹_›) d
    · split
      · exact d.trans (hr _ _ _)
      · exact d
  have hv : PermitKept s (t.noteValid q.sender) := hf ((State.noteValid_only _ _ (by decide)).2 Only.rfl) c
  unfold Op.serve
  refine PermitKept.ite c (PermitKept.ite (hf ((State.countFull_only _ (by decide)).2 Only.rfl) ?_) (PermitKept.ite (hj _ hv) ?_))
  · cases b : o.barred q (t.noteValid q.sender) with
    | none => exact hv
    | some r => exact hf (Op.barred_only (by decide) Only.rfl b) hv
  · exact hf ((State.pushReply_only _ _ _ (by decide)).2 ((State.countReply_only _ _ (by decide)).2 Only.rfl)) (hj _ hv)

theorem permit_ite {c : Prop} [Decidable c] {a b : Permit} {p : Prop} (h : (if c then a else b) = .on) (ha : c → a = .on → p)
    (hb : ¬c → b = .on → p) : p := by
  by_cases e : c
  · rw [if_pos e] at h; exact ha e h
  · rw [if_neg e] at h; exact hb e h

theorem permit_boot {x : Safe} {p : Prop} (h : x.boot.permit = .on) : p :=
  permit_ite (c := x.anyLatch = true) h (fun _ e => Permit.noConfusion e) (fun _ e => Permit.noConfusion e)

theorem PermitKept.withTicket {s t : State} {q : Req} {opc est : Nat} {f : Nat → State → State} (hf : ∀ n u, PermitKept u (f n u))
    (c : PermitKept s t) : PermitKept s (t.withTicket q opc est f).s := by
  unfold State.withTicket
  split
  · exact c
  · exact (PermitKept.skip ((State.mFrm_only (l := [.frm]) _ _ (Within.self _)).2 Only.rfl) (by decide) c).trans (hf _ _)

theorem State.advance_permit {s : State} (t : State) (ns : Nat) (h : PermitKept s t) :
    PermitKept s (t.advance ns) :=
  PermitKept.skip ((State.advance_only (l := [.clk]) _ _ (Within.self _)).2 Only.rfl) (by decide) h

theorem State.mDiag_permit {s : State} (t : State) (n : Fin 32) (f : Diag → Diag) (h : PermitKept s t) :
    PermitKept s (t.mDiag n f) :=
  PermitKept.skip ((State.mDiag_only (l := [.drv]) _ _ _ (Within.self _)).2 Only.rfl) (by decide) h

theorem State.detected_permit {s : State} (t : State) (id : Nat) (tgt : Nat) (latch : Nat) (h : PermitKept s t) :
    PermitKept s (t.detected id tgt latch) :=
  PermitKept.skip ((State.detected_only (l := [.inj, .log]) _ _ _ _ (Within.self _)).2 Only.rfl) (by decide) h

theorem State.logSm_permit {s : State} (t : State) (code : Nat) (inj : Bool) (data : List Byte) (h : PermitKept s t) :
    PermitKept s (t.logSm code inj data) :=
  PermitKept.skip ((State.logSm_only (l := [.log]) _ _ _ _ (Within.self _)).2 Only.rfl) (by decide) h

theorem State.setLatch_permit {s : State} (t : State) (k : Latch) (reason : Nat) (inj : Bool) (h : PermitKept s t) :
    PermitKept s (t.setLatch k reason inj) := by
  refine h.trans ?_
  unfold State.setLatch
  repeat' first
    | with_reducible refine State.mSafe_permit _ _ (fun _ h => h) ?_
    | with_reducible refine State.mSafe_permit _ _ (fun _ h => Permit.noConfusion h) ?_
    | with_reducible refine State.mSafe_permit _ _ (fun _ h => permit_ite h (fun _ e => Permit.noConfusion e) (fun _ e => Permit.noConfusion e)) ?_
    | with_reducible refine State.mSafe_permit _ _ (fun _ h => permit_ite h (fun _ e => Permit.noConfusion e) (fun _ e => e)) ?_
    | with_reducible refine State.mSafe_permit _ _ (fun _ h => permit_ite h (fun c _ => eq_of_beq c) (fun _ e => Permit.noConfusion e)) ?_
    | with_reducible refine State.mSafe_permit _ _ (fun _ h => permit_boot h) ?_
    | with_reducible exact PermitKept.rfl
    | with_reducible refine PermitKept.ite ?_ ?_
    | with_reducible intro _ _
    | with_reducible refine State.logSm_permit _ _ _ _ ?_

theorem State.latchOf_permit {s : State} (t : State) (latch : Option Latch) (reason : Nat) (inj : Bool) (h : PermitKept s t) :
    PermitKept s (t.latchOf latch reason inj) := by
  refine h.trans ?_
  unfold State.latchOf
  repeat' first
    | with_reducible exact PermitKept.rfl
    | with_reducible intro _ _
    | with_reducible refine State.setLatch_permit _ _ _ _ ?_
    | split

theorem State.heatClose_permit {s : State} (t : State) (h : PermitKept s t) :
    PermitKept s (t.heatClose) :=
  PermitKept.skip ((State.heatClose_only (l := [.loop]) _ (Within.self _)).2 Only.rfl) (by decide) h

theorem State.heatRelease_permit {s : State} (t : State) (h : PermitKept s t) :
    PermitKept s (t.heatRelease) :=
  PermitKept.skip ((State.heatRelease_only (l := [.drv]) _ (Within.self _)).2 Only.rfl) (by decide) h

theorem State.mProg_permit {s : State} (t : State) (f : Prog → Prog) (h : PermitKept s t) :
    PermitKept s (t.mProg f) :=
  PermitKept.skip ((State.mProg_only (l := [.prog]) _ _ (Within.self _)).2 Only.rfl) (by decide) h

theorem State.mCnt_permit {s : State} (t : State) (f : Counters → Counters) (h : PermitKept s t) :
    PermitKept s (t.mCnt f) :=
  PermitKept.skip ((State.mCnt_only (l := [.cnt]) _ _ (Within.self _)).2 Only.rfl) (by decide) h

theorem State.permitOff_permit {s : State} (t : State) (reason : Nat) (latch : Option Latch) (inj : Bool) (h : PermitKept s t) :
    PermitKept s (t.permitOff reason latch inj) := by
  refine h.trans ?_
  unfold State.permitOff
  repeat' first
    | with_reducible refine State.mSafe_permit _ _ (fun _ h => h) ?_
    | with_reducible refine State.mSafe_permit _ _ (fun _ h => Permit.noConfusion h) ?_
    | with_reducible refine State.mSafe_permit _ _ (fun _ h => permit_ite h (fun _ e => Permit.noConfusion e) (fun _ e => Permit.noConfusion e)) ?_
    | with_reducible refine State.mSafe_permit _ _ (fun _ h => permit_ite h (fun _ e => Permit.noConfusion e) (fun _ e => e)) ?_
    | with_reducible refine State.mSafe_permit _ _ (fun _ h => permit_ite h (fun c _ => eq_of_beq c) (fun _ e => Permit.noConfusion e)) ?_
    | with_reducible refine State.mSafe_permit _ _ (fun _ h => permit_boot h) ?_
    | with_reducible exact PermitKept.rfl
    | with_reducible refine PermitKept.ite ?_ ?_
    | with_reducible intro _ _
    | with_reducible refine State.logSm_permit _ _ _ _ ?_
    | with_reducible refine State.mCnt_permit _ _ ?_

theorem State.permitGone_permit {s : State} (t : State) (reason : Nat) (latch : Option Latch) (inj : Bool) (h : PermitKept s t) :
    PermitKept s (t.permitGone reason latch inj) := by
  refine h.trans ?_
  unfold State.permitGone
  repeat' first
    | with_reducible exact PermitKept.rfl
    | with_reducible refine PermitKept.ite ?_ ?_
    | with_reducible intro _ _
    | with_reducible refine State.heatClose_permit _ ?_
    | with_reducible refine State.heatRelease_permit _ ?_
    | with_reducible refine State.mProg_permit _ _ ?_
    | with_reducible refine State.permitOff_permit _ _ _ _ ?_
    | with_reducible refine State.setLatch_permit _ _ _ _ ?_

theorem State.removePermit_permit {s : State} (t : State) (reason : Nat) (latch : Option Latch) (inj : Bool) (h : PermitKept s t) :
    PermitKept s (t.removePermit reason latch inj) := by
  refine h.trans ?_
  unfold State.removePermit
  repeat' first
    | with_reducible refine State.mSafe_permit _ _ (fun _ h => h) ?_
    | with_reducible refine State.mSafe_permit _ _ (fun _ h => Permit.noConfusion h) ?_
    | with_reducible refine State.mSafe_permit _ _ (fun _ h => permit_ite h (fun _ e => Permit.noConfusion e) (fun _ e => Permit.noConfusion e)) ?_
    | with_reducible refine State.mSafe_permit _ _ (fun _ h => permit_ite h (fun _ e => Permit.noConfusion e) (fun _ e => e)) ?_
    | with_reducible refine State.mSafe_permit _ _ (fun _ h => permit_ite h (fun c _ => eq_of_beq c) (fun _ e => Permit.noConfusion e)) ?_
    | with_reducible refine State.mSafe_permit _ _ (fun _ h => permit_boot h) ?_
    | with_reducible exact PermitKept.rfl
    | with_reducible refine PermitKept.ite ?_ ?_
    | with_reducible intro _ _
    | with_reducible refine State.latchOf_permit _ _ _ _ ?_
    | with_reducible refine State.permitGone_permit _ _ _ _ ?_
    | split
    | dsimp only

theorem State.heatShort_permit {s : State} (t : State) (n : Fin 32) (id : Nat) (h : PermitKept s t) :
    PermitKept s (t.heatShort n id) := by
  refine h.trans ?_
  unfold State.heatShort
  repeat' first
    | with_reducible exact PermitKept.rfl
    | with_reducible refine PermitKept.ite ?_ ?_
    | with_reducible intro _ _
    | with_reducible refine State.removePermit_permit _ _ _ _ ?_

theorem State.redoAction_permit {s : State} (t : State) (n : Fin 32) (h : PermitKept s t) :
    PermitKept s (t.redoAction n) :=
  PermitKept.skip ((State.redoAction_only (l := [.drv, .inj, .log]) _ _ (Within.self _)).2 Only.rfl) (by decide) h

theorem State.toFault_permit {s : State} (t : State) (n : Fin 32) (f : FCode) (h : PermitKept s t) :
    PermitKept s (t.toFault n f) :=
  PermitKept.skip ((State.toFault_only (l := [.drv, .inj, .log]) _ _ _ (Within.self _)).2 Only.rfl) (by decide) h

theorem State.offFinding_permit {s : State} (t : State) (n : Fin 32) (f : OffFind) (h : PermitKept s t) :
    PermitKept s (t.offFinding n f) := by
  refine h.trans ?_
  unfold State.offFinding
  repeat' first
    | with_reducible exact PermitKept.rfl
    | with_reducible refine PermitKept.ite ?_ ?_
    | with_reducible intro _ _
    | with_reducible refine State.detected_permit _ _ _ _ ?_
    | with_reducible refine State.heatShort_permit _ _ _ ?_
    | with_reducible refine State.mDiag_permit _ _ _ ?_
    | with_reducible refine State.redoAction_permit _ _ ?_
    | with_reducible refine State.toFault_permit _ _ _ ?_
    | split

theorem State.offSample_permit {s : State} (t : State) (n : Fin 32) (vDh : Nat) (vDl : Nat) (h : PermitKept s t) :
    PermitKept s (t.offSample n vDh vDl) := by
  refine h.trans ?_
  unfold State.offSample
  repeat' first
    | with_reducible exact PermitKept.rfl
    | with_reducible refine PermitKept.ite ?_ ?_
    | with_reducible intro _ _
    | with_reducible refine State.mDiag_permit _ _ _ ?_
    | with_reducible refine State.offFinding_permit _ _ _ ?_

theorem execOffStateSample_permit (dt : Nat) (ch : Fin 32) (vDh : Nat) (vDl : Nat) (s : State) : ∃ u, execOffStateSample dt ch vDh vDl s = .next u ∧
    PermitKept s u := by
  refine ⟨_, rfl, ?_⟩
  repeat' first
    | with_reducible exact PermitKept.rfl
    | with_reducible intro _ _
    | with_reducible refine State.advance_permit _ _ ?_
    | with_reducible refine State.offSample_permit _ _ _ _ ?_

theorem State.directOff_permit {s : State} (t : State) (n : Fin 32) (h : PermitKept s t) :
    PermitKept s (t.directOff n) :=
  PermitKept.skip ((State.directOff_only (l := [.drv]) _ _ (Within.self _)).2 Only.rfl) (by decide) h

theorem State.findShort_permit {s : State} (t : State) (n : Fin 32) (f : FCode) (hsv : Nat) (vRes : Nat) (h : PermitKept s t) :
    PermitKept s (t.findShort n f hsv vRes) :=
  PermitKept.skip ((State.findShort_only (l := [.drv, .inj, .log]) _ _ _ _ _ (Within.self _)).2 Only.rfl) (by decide) h

theorem State.onShort_permit {s : State} (t : State) (n : Fin 32) (f : FCode) (x : Sense) (h : PermitKept s t) :
    PermitKept s (t.onShort n f x) := by
  refine h.trans ?_
  unfold State.onShort
  repeat' first
    | with_reducible exact PermitKept.rfl
    | with_reducible refine PermitKept.ite ?_ ?_
    | with_reducible intro _ _
    | with_reducible refine State.directOff_permit _ _ ?_
    | with_reducible refine State.findShort_permit _ _ _ _ _ ?_
    | with_reducible refine State.heatShort_permit _ _ _ ?_

theorem execDrvShortSupDetect_permit (dt : Nat) (ch : Fin 32) (x : Sense) (s : State) : ∃ u, execDrvShortSupDetect dt ch x s = .next u ∧ PermitKept
    s u := by
  refine ⟨_, rfl, ?_⟩
  repeat' first
    | with_reducible exact PermitKept.rfl
    | with_reducible intro _ _
    | with_reducible refine State.advance_permit _ _ ?_
    | with_reducible refine State.onShort_permit _ _ _ _ ?_

theorem execDrvShortLoadDetect_permit (dt : Nat) (ch : Fin 32) (x : Sense) (s : State) : ∃ u, execDrvShortLoadDetect dt ch x s = .next u ∧
    PermitKept s u := by
  refine ⟨_, rfl, ?_⟩
  repeat' first
    | with_reducible exact PermitKept.rfl
    | with_reducible intro _ _
    | with_reducible refine State.advance_permit _ _ ?_
    | with_reducible refine State.onShort_permit _ _ _ _ ?_

theorem execDrvShortGndDetect_permit (dt : Nat) (ch : Fin 32) (x : Sense) (s : State) : ∃ u, execDrvShortGndDetect dt ch x s = .next u ∧ PermitKept
    s u := by
  refine ⟨_, rfl, ?_⟩
  repeat' first
    | with_reducible exact PermitKept.rfl
    | with_reducible intro _ _
    | with_reducible refine State.advance_permit _ _ ?_
    | with_reducible refine State.onShort_permit _ _ _ _ ?_

theorem State.fansSettle_permit {s : State} (t : State) (h : PermitKept s t) :
    PermitKept s (t.fansSettle) :=
  PermitKept.skip ((State.fansSettle_only (l := [.fan, .log]) _ (Within.self _)).2 Only.rfl) (by decide) h

theorem State.logAs_permit {s : State} (t : State) (orig : Nat) (cls : Nat) (code : Nat) (inj : Bool) (data : List Byte) (h : PermitKept s t) :
    PermitKept s (t.logAs orig cls code inj data) :=
  PermitKept.skip ((State.logAs_only (l := [.log]) _ _ _ _ _ _ (Within.self _)).2 Only.rfl) (by decide) h

theorem State.loopsSettle_permit {s : State} (t : State) (h : PermitKept s t) :
    PermitKept s (t.loopsSettle) :=
  PermitKept.skip ((State.loopsSettle_only (l := [.loop]) _ (Within.self _)).2 Only.rfl) (by decide) h

theorem State.mDrv_permit {s : State} (t : State) (f : Drivers → Drivers) (h : PermitKept s t) :
    PermitKept s (t.mDrv f) :=
  PermitKept.skip ((State.mDrv_only (l := [.drv]) _ _ (Within.self _)).2 Only.rfl) (by decide) h

theorem State.mTherm_permit {s : State} (t : State) (f : Therm → Therm) (h : PermitKept s t) :
    PermitKept s (t.mTherm f) :=
  PermitKept.skip ((State.mTherm_only (l := [.therm]) _ _ (Within.self _)).2 Only.rfl) (by decide) h

theorem State.releaseAll_permit {s : State} (t : State) (h : PermitKept s t) :
    PermitKept s (t.releaseAll) :=
  PermitKept.skip ((State.releaseAll_only (l := [.drv]) _ (Within.self _)).2 Only.rfl) (by decide) h

theorem State.setStep_permit {s : State} (t : State) (n : Nat) (h : PermitKept s t) :
    PermitKept s (t.setStep n) :=
  PermitKept.skip ((State.setStep_only (l := [.drv, .therm, .log]) _ _ (Within.self _)).2 Only.rfl) (by decide) h

theorem State.enterShutdown_permit {s : State} (t : State) (h : PermitKept s t) :
    PermitKept s (t.enterShutdown) := by
  refine h.trans ?_
  unfold State.enterShutdown
  repeat' first
    | with_reducible exact PermitKept.rfl
    | with_reducible refine PermitKept.ite ?_ ?_
    | with_reducible refine PermitKept.each ?_ ?_
    | with_reducible intro _ _
    | with_reducible refine State.detected_permit _ _ _ _ ?_
    | with_reducible refine State.fansSettle_permit _ ?_
    | with_reducible refine State.logAs_permit _ _ _ _ _ _ ?_
    | with_reducible refine State.loopsSettle_permit _ ?_
    | with_reducible refine State.mDrv_permit _ _ ?_
    | with_reducible refine State.mTherm_permit _ _ ?_
    | with_reducible refine State.releaseAll_permit _ ?_
    | with_reducible refine State.removePermit_permit _ _ _ _ ?_
    | with_reducible refine State.setStep_permit _ _ ?_

theorem State.logHw_permit {s : State} (t : State) (id : Nat) (tgt : Nat) (cls : Nat) (code : Nat) (data : List Byte) (h : PermitKept s t) :
    PermitKept s (t.logHw id tgt cls code data) :=
  PermitKept.skip ((State.logHw_only (l := [.log]) _ _ _ _ _ _ (Within.self _)).2 Only.rfl) (by decide) h

theorem State.thermMax_permit {s : State} (t : State) (h : PermitKept s t) :
    PermitKept s (t.thermMax) :=
  PermitKept.skip ((State.thermMax_only (l := [.therm]) _ (Within.self _)).2 Only.rfl) (by decide) h

theorem State.throttle_permit {s : State} (t : State) (h : PermitKept s t) :
    PermitKept s (t.throttle) :=
  PermitKept.skip ((State.throttle_only (l := [.drv, .therm, .log]) _ (Within.self _)).2 Only.rfl) (by decide) h

theorem State.thermSample_permit {s : State} (t : State) (t' : Vector Int 7) (h : PermitKept s t) :
    PermitKept s (t.thermSample t') := by
  refine h.trans ?_
  unfold State.thermSample
  repeat' first
    | with_reducible exact PermitKept.rfl
    | with_reducible refine PermitKept.ite ?_ ?_
    | with_reducible refine PermitKept.each ?_ ?_
    | with_reducible intro _ _
    | with_reducible refine State.detected_permit _ _ _ _ ?_
    | with_reducible refine State.enterShutdown_permit _ ?_
    | with_reducible refine State.logHw_permit _ _ _ _ _ _ ?_
    | with_reducible refine State.mTherm_permit _ _ ?_
    | with_reducible refine State.thermMax_permit _ ?_
    | with_reducible refine State.throttle_permit _ ?_

theorem execThermSample_permit (dt : Nat) (t : Vector Int 7) (s : State) : ∃ u, execThermSample dt t s = .next u ∧ PermitKept s u := by
  refine ⟨_, rfl, ?_⟩
  repeat' first
    | with_reducible exact PermitKept.rfl
    | with_reducible refine PermitKept.ite ?_ ?_
    | with_reducible intro _ _
    | with_reducible refine State.advance_permit _ _ ?_
    | with_reducible refine State.thermSample_permit _ _ ?_

theorem execThermalShutdown_permit (dt : Nat) (s : State) : ∃ u, execThermalShutdown dt s = .next u ∧ PermitKept s u := by
  refine ⟨_, rfl, ?_⟩
  repeat' first
    | with_reducible exact PermitKept.rfl
    | with_reducible refine PermitKept.ite ?_ ?_
    | with_reducible intro _ _
    | with_reducible refine State.advance_permit _ _ ?_
    | with_reducible refine State.enterShutdown_permit _ ?_

theorem State.mPow_permit {s : State} (t : State) (f : Power → Power) (h : PermitKept s t) :
    PermitKept s (t.mPow f) :=
  PermitKept.skip ((State.mPow_only (l := [.pow]) _ _ (Within.self _)).2 Only.rfl) (by decide) h

theorem State.vpLost_permit {s : State} (t : State) (high : Bool) (h : PermitKept s t) :
    PermitKept s (t.vpLost high) := by
  refine h.trans ?_
  unfold State.vpLost
  repeat' first
    | with_reducible exact PermitKept.rfl
    | with_reducible refine PermitKept.ite ?_ ?_
    | with_reducible intro _ _
    | with_reducible refine State.detected_permit _ _ _ _ ?_
    | with_reducible refine State.fansSettle_permit _ ?_
    | with_reducible refine State.logAs_permit _ _ _ _ _ _ ?_
    | with_reducible refine State.loopsSettle_permit _ ?_
    | with_reducible refine State.mDrv_permit _ _ ?_
    | with_reducible refine State.mPow_permit _ _ ?_
    | with_reducible refine State.releaseAll_permit _ ?_
    | with_reducible refine State.removePermit_permit _ _ _ _ ?_

theorem execVsPowerUndervoltage_permit (dt : Nat) (s : State) : ∃ u, execVsPowerUndervoltage dt s = .next u ∧ PermitKept s u := by
  refine ⟨_, rfl, ?_⟩
  repeat' first
    | with_reducible exact PermitKept.rfl
    | with_reducible intro _ _
    | with_reducible refine State.advance_permit _ _ ?_
    | with_reducible refine State.vpLost_permit _ _ ?_

theorem execVsPowerOvervoltage_permit (dt : Nat) (s : State) : ∃ u, execVsPowerOvervoltage dt s = .next u ∧ PermitKept s u := by
  refine ⟨_, rfl, ?_⟩
  repeat' first
    | with_reducible exact PermitKept.rfl
    | with_reducible intro _ _
    | with_reducible refine State.advance_permit _ _ ?_
    | with_reducible refine State.vpLost_permit _ _ ?_

theorem State.mSys_permit {s : State} (t : State) (f : Sys → Sys) (h : PermitKept s t) :
    PermitKept s (t.mSys f) :=
  PermitKept.skip ((State.mSys_only (l := [.sys]) _ _ (Within.self _)).2 Only.rfl) (by decide) h

theorem State.clockTrip_permit {s : State} (t : State) (h : PermitKept s t) :
    PermitKept s (t.clockTrip) := by
  refine h.trans ?_
  unfold State.clockTrip
  repeat' first
    | with_reducible refine State.mSafe_permit _ _ (fun _ h => h) ?_
    | with_reducible refine State.mSafe_permit _ _ (fun _ h => Permit.noConfusion h) ?_
    | with_reducible refine State.mSafe_permit _ _ (fun _ h => permit_ite h (fun _ e => Permit.noConfusion e) (fun _ e => Permit.noConfusion e)) ?_
    | with_reducible refine State.mSafe_permit _ _ (fun _ h => permit_ite h (fun _ e => Permit.noConfusion e) (fun _ e => e)) ?_
    | with_reducible refine State.mSafe_permit _ _ (fun _ h => permit_ite h (fun c _ => eq_of_beq c) (fun _ e => Permit.noConfusion e)) ?_
    | with_reducible refine State.mSafe_permit _ _ (fun _ h => permit_boot h) ?_
    | with_reducible exact PermitKept.rfl
    | with_reducible refine PermitKept.ite ?_ ?_
    | with_reducible intro _ _
    | with_reducible refine State.logAs_permit _ _ _ _ _ _ ?_
    | with_reducible refine State.mCnt_permit _ _ ?_
    | with_reducible refine State.mSys_permit _ _ ?_
    | with_reducible refine State.releaseAll_permit _ ?_

theorem execClkFault_permit (dt : Nat) (s : State) : ∃ u, execClkFault dt s = .next u ∧ PermitKept s u := by
  refine ⟨_, rfl, ?_⟩
  repeat' first
    | with_reducible exact PermitKept.rfl
    | with_reducible intro _ _
    | with_reducible refine State.advance_permit _ _ ?_
    | with_reducible refine State.clockTrip_permit _ ?_

theorem State.checkNoted_permit {s : State} (t : State) (g : Fin 4) (good : Bool) (h : PermitKept s t) :
    PermitKept s (t.checkNoted g good) :=
  PermitKept.skip ((State.checkNoted_only (l := [.fe, .inj, .log]) _ _ _ (Within.self _)).2 Only.rfl) (by decide) h

theorem State.safetyFinding_permit {s : State} (t : State) (k : Latch) (id : Nat) (tgt : Nat) (h : PermitKept s t) :
    PermitKept s (t.safetyFinding k id tgt) := by
  refine h.trans ?_
  unfold State.safetyFinding
  repeat' first
    | with_reducible exact PermitKept.rfl
    | with_reducible intro _ _
    | with_reducible refine State.detected_permit _ _ _ _ ?_
    | with_reducible refine State.removePermit_permit _ _ _ _ ?_

theorem State.checkSm_permit {s : State} (t : State) (g : Fin 4) (good : Bool) (h : PermitKept s t) :
    PermitKept s (t.checkSm g good) := by
  refine h.trans ?_
  unfold State.checkSm
  repeat' first
    | with_reducible refine State.mSafe_permit _ _ (fun _ h => h) ?_
    | with_reducible refine State.mSafe_permit _ _ (fun _ h => Permit.noConfusion h) ?_
    | with_reducible refine State.mSafe_permit _ _ (fun _ h => permit_ite h (fun _ e => Permit.noConfusion e) (fun _ e => Permit.noConfusion e)) ?_
    | with_reducible refine State.mSafe_permit _ _ (fun _ h => permit_ite h (fun _ e => Permit.noConfusion e) (fun _ e => e)) ?_
    | with_reducible refine State.mSafe_permit _ _ (fun _ h => permit_ite h (fun c _ => eq_of_beq c) (fun _ e => Permit.noConfusion e)) ?_
    | with_reducible refine State.mSafe_permit _ _ (fun _ h => permit_boot h) ?_
    | with_reducible exact PermitKept.rfl
    | with_reducible refine PermitKept.ite ?_ ?_
    | with_reducible intro _ _
    | with_reducible refine State.removePermit_permit _ _ _ _ ?_
    | with_reducible refine State.safetyFinding_permit _ _ _ _ ?_
    | split

theorem State.slotEnded_permit {s : State} (t : State) (g : Fin 4) (h : PermitKept s t) :
    PermitKept s (t.slotEnded g) :=
  PermitKept.skip ((State.slotEnded_only (l := [.fe]) _ _ (Within.self _)).2 Only.rfl) (by decide) h

theorem State.checkSlot_permit {s : State} (t : State) (g : Fin 4) (zero : Int) (ref : Int) (h : PermitKept s t) :
    PermitKept s (t.checkSlot g zero ref) := by
  refine h.trans ?_
  unfold State.checkSlot
  repeat' first
    | with_reducible exact PermitKept.rfl
    | with_reducible intro _ _
    | with_reducible refine State.checkNoted_permit _ _ _ ?_
    | with_reducible refine State.checkSm_permit _ _ _ ?_
    | with_reducible refine State.slotEnded_permit _ _ ?_

theorem execCheckSlotEnd_permit (dt : Nat) (group : Fin 4) (zero : Int) (ref : Int) (s : State) : ∃ u, execCheckSlotEnd dt group zero ref s = .next
    u ∧ PermitKept s u := by
  refine ⟨_, rfl, ?_⟩
  repeat' first
    | with_reducible exact PermitKept.rfl
    | with_reducible refine PermitKept.ite ?_ ?_
    | with_reducible intro _ _
    | with_reducible refine State.advance_permit _ _ ?_
    | with_reducible refine State.checkSlot_permit _ _ _ _ ?_

theorem State.convDetect_permit {s : State} (t : State) (n : Fin 64) (clamped : Bool) (burnt : Bool) (h : PermitKept s t) :
    PermitKept s (t.convDetect n clamped burnt) :=
  PermitKept.skip ((State.convDetect_only (l := [.inj, .log]) _ _ _ _ (Within.self _)).2 Only.rfl) (by decide) h

theorem State.convKeep_permit {s : State} (t : State) (n : Fin 64) (v : Conv) (r : ChRec) (h : PermitKept s t) :
    PermitKept s (t.convKeep n v r) :=
  PermitKept.skip ((State.convKeep_only (l := [.fe]) _ _ _ _ (Within.self _)).2 Only.rfl) (by decide) h

theorem State.smJudge_permit {s : State} (t : State) (k : Fin 2) (n : Fin 64) (r : ChRec) (t' : Option Int) (h : PermitKept s t) :
    PermitKept s (t.smJudge k n r t') := by
  refine h.trans ?_
  unfold State.smJudge
  repeat' first
    | with_reducible refine State.mSafe_permit _ _ (fun _ h => h) ?_
    | with_reducible refine State.mSafe_permit _ _ (fun _ h => Permit.noConfusion h) ?_
    | with_reducible refine State.mSafe_permit _ _ (fun _ h => permit_ite h (fun _ e => Permit.noConfusion e) (fun _ e => Permit.noConfusion e)) ?_
    | with_reducible refine State.mSafe_permit _ _ (fun _ h => permit_ite h (fun _ e => Permit.noConfusion e) (fun _ e => e)) ?_
    | with_reducible refine State.mSafe_permit _ _ (fun _ h => permit_ite h (fun c _ => eq_of_beq c) (fun _ e => Permit.noConfusion e)) ?_
    | with_reducible refine State.mSafe_permit _ _ (fun _ h => permit_boot h) ?_
    | with_reducible exact PermitKept.rfl
    | with_reducible refine PermitKept.ite ?_ ?_
    | with_reducible intro _ _
    | with_reducible refine State.removePermit_permit _ _ _ _ ?_
    | with_reducible refine State.safetyFinding_permit _ _ _ _ ?_

theorem State.smConvert_permit {s : State} (t : State) (n : Fin 64) (r : ChRec) (x : Int) (clamped : Bool) (h : PermitKept s t) :
    PermitKept s (t.smConvert n r x clamped) := by
  refine h.trans ?_
  unfold State.smConvert
  repeat' first
    | with_reducible exact PermitKept.rfl
    | with_reducible intro _ _
    | with_reducible refine State.smJudge_permit _ _ _ _ _ ?_
    | split

theorem State.convDone_permit {s : State} (t : State) (n : Fin 64) (v : Conv) (h : PermitKept s t) :
    PermitKept s (t.convDone n v) := by
  refine h.trans ?_
  unfold State.convDone
  repeat' first
    | with_reducible exact PermitKept.rfl
    | with_reducible intro _ _
    | with_reducible refine State.convDetect_permit _ _ _ _ ?_
    | with_reducible refine State.convKeep_permit _ _ _ _ ?_
    | with_reducible refine State.smConvert_permit _ _ _ _ _ ?_

theorem State.mCh_permit {s : State} (t : State) (n : Fin 64) (f : Chan → Chan) (h : PermitKept s t) :
    PermitKept s (t.mCh n f) :=
  PermitKept.skip ((State.mCh_only (l := [.fe]) _ _ _ (Within.self _)).2 Only.rfl) (by decide) h

theorem State.finishPair_permit {s : State} (t : State) (p : Fin 64) (n : Fin 64) (v : Conv) (h : PermitKept s t) :
    PermitKept s (t.finishPair p n v) := by
  refine h.trans ?_
  unfold State.finishPair
  repeat' first
    | with_reducible exact PermitKept.rfl
    | with_reducible refine PermitKept.ite ?_ ?_
    | with_reducible intro _ _
    | with_reducible refine State.convDone_permit _ _ _ ?_
    | with_reducible refine State.mCh_permit _ _ _ ?_

theorem State.convForm_permit {s : State} (t : State) (n : Fin 64) (v : Conv) (h : PermitKept s t) :
    PermitKept s (t.convForm n v) := by
  refine h.trans ?_
  unfold State.convForm
  repeat' first
    | with_reducible exact PermitKept.rfl
    | with_reducible refine PermitKept.ite ?_ ?_
    | with_reducible intro _ _
    | with_reducible refine State.convDone_permit _ _ _ ?_
    | with_reducible refine State.finishPair_permit _ _ _ _ ?_
    | with_reducible refine State.mCh_permit _ _ _ ?_
    | split

theorem State.convTaken_permit {s : State} (t : State) (n : Fin 64) (v : Conv) (h : PermitKept s t) :
    PermitKept s (t.convTaken n v) :=
  PermitKept.skip ((State.convTaken_only (l := [.fe, .energy]) _ _ _ (Within.self _)).2 Only.rfl) (by decide) h

theorem State.convert_permit {s : State} (t : State) (n : Fin 64) (raw0 : Int) (clamp0 : Option Bool) (h : PermitKept s t) :
    PermitKept s (t.convert n raw0 clamp0) := by
  refine h.trans ?_
  unfold State.convert
  repeat' first
    | with_reducible exact PermitKept.rfl
    | with_reducible intro _ _
    | with_reducible refine State.convForm_permit _ _ _ ?_
    | with_reducible refine State.convTaken_permit _ _ _ ?_
    | with_reducible refine State.slotEnded_permit _ _ ?_

theorem State.scDone_permit {s : State} (t : State) (k : Fin 8) (h : PermitKept s t) :
    PermitKept s (t.scDone k) :=
  PermitKept.skip ((State.scDone_only (l := [.se]) _ _ (Within.self _)).2 Only.rfl) (by decide) h

theorem execConversionEnd_permit (dt : Nat) (ch : Fin 64) (raw : Int) (clamp : Option Bool) (s : State) : ∃ u, execConversionEnd dt ch raw clamp s =
    .next u ∧ PermitKept s u := by
  refine ⟨_, rfl, ?_⟩
  repeat' first
    | with_reducible exact PermitKept.rfl
    | with_reducible refine PermitKept.ite ?_ ?_
    | with_reducible intro _ _
    | with_reducible refine State.advance_permit _ _ ?_
    | with_reducible refine State.convert_permit _ _ _ _ ?_
    | with_reducible refine State.scDone_permit _ _ ?_

theorem State.estopFollow_permit {s : State} (t : State) (h : PermitKept s t) :
    PermitKept s (t.estopFollow) := by
  refine h.trans ?_
  unfold State.estopFollow
  repeat' first
    | with_reducible refine State.mSafe_permit _ _ (fun _ h => h) ?_
    | with_reducible refine State.mSafe_permit _ _ (fun _ h => Permit.noConfusion h) ?_
    | with_reducible refine State.mSafe_permit _ _ (fun _ h => permit_ite h (fun _ e => Permit.noConfusion e) (fun _ e => Permit.noConfusion e)) ?_
    | with_reducible refine State.mSafe_permit _ _ (fun _ h => permit_ite h (fun _ e => Permit.noConfusion e) (fun _ e => e)) ?_
    | with_reducible refine State.mSafe_permit _ _ (fun _ h => permit_ite h (fun c _ => eq_of_beq c) (fun _ e => Permit.noConfusion e)) ?_
    | with_reducible refine State.mSafe_permit _ _ (fun _ h => permit_boot h) ?_
    | with_reducible exact PermitKept.rfl
    | with_reducible refine PermitKept.ite ?_ ?_
    | with_reducible intro _ _
    | with_reducible refine State.fansSettle_permit _ ?_
    | with_reducible refine State.releaseAll_permit _ ?_

theorem State.finish_permit {s : State} (t : State) (t' : Nat) (st : Status) (data : List Byte) (h : PermitKept s t) :
    PermitKept s (t.finish t' st data) :=
  PermitKept.skip ((State.finish_only (l := [.frm]) _ _ _ _ (Within.self _)).2 Only.rfl) (by decide) h

theorem State.proofEnd_permit {s : State} (t : State) (result : Nat) (fstep : Nat) (detail : Nat) (h : PermitKept s t) :
    PermitKept s (t.proofEnd result fstep detail) := by
  refine h.trans ?_
  unfold State.proofEnd
  repeat' first
    | with_reducible refine State.mSafe_permit _ _ (fun _ h => h) ?_
    | with_reducible refine State.mSafe_permit _ _ (fun _ h => Permit.noConfusion h) ?_
    | with_reducible refine State.mSafe_permit _ _ (fun _ h => permit_ite h (fun _ e => Permit.noConfusion e) (fun _ e => Permit.noConfusion e)) ?_
    | with_reducible refine State.mSafe_permit _ _ (fun _ h => permit_ite h (fun _ e => Permit.noConfusion e) (fun _ e => e)) ?_
    | with_reducible refine State.mSafe_permit _ _ (fun _ h => permit_ite h (fun c _ => eq_of_beq c) (fun _ e => Permit.noConfusion e)) ?_
    | with_reducible refine State.mSafe_permit _ _ (fun _ h => permit_boot h) ?_
    | with_reducible exact PermitKept.rfl
    | with_reducible refine PermitKept.ite ?_ ?_
    | with_reducible intro _ _
    | with_reducible refine State.finish_permit _ _ _ _ ?_
    | with_reducible refine State.logSm_permit _ _ _ _ ?_
    | split

theorem State.proofAbort_permit {s : State} (t : State) (h : PermitKept s t) :
    PermitKept s (t.proofAbort) := by
  refine h.trans ?_
  unfold State.proofAbort
  repeat' first
    | with_reducible exact PermitKept.rfl
    | with_reducible intro _ _
    | with_reducible refine State.proofEnd_permit _ _ _ _ ?_

theorem State.siEnter_permit {s : State} (t : State) (i : Fin 4) (h : PermitKept s t) :
    PermitKept s (t.siEnter i) := by
  refine h.trans ?_
  unfold State.siEnter
  repeat' first
    | with_reducible exact PermitKept.rfl
    | with_reducible refine PermitKept.ite ?_ ?_
    | with_reducible intro _ _
    | with_reducible refine State.estopFollow_permit _ ?_
    | with_reducible refine State.proofAbort_permit _ ?_
    | with_reducible refine State.removePermit_permit _ _ _ _ ?_

theorem State.siDiagSet_permit {s : State} (t : State) (i : Fin 4) (id : Nat) (h : PermitKept s t) :
    PermitKept s (t.siDiagSet i id) := by
  refine h.trans ?_
  unfold State.siDiagSet
  repeat' first
    | with_reducible refine State.mSafe_permit _ _ (fun _ h => h) ?_
    | with_reducible refine State.mSafe_permit _ _ (fun _ h => Permit.noConfusion h) ?_
    | with_reducible refine State.mSafe_permit _ _ (fun _ h => permit_ite h (fun _ e => Permit.noConfusion e) (fun _ e => Permit.noConfusion e)) ?_
    | with_reducible refine State.mSafe_permit _ _ (fun _ h => permit_ite h (fun _ e => Permit.noConfusion e) (fun _ e => e)) ?_
    | with_reducible refine State.mSafe_permit _ _ (fun _ h => permit_ite h (fun c _ => eq_of_beq c) (fun _ e => Permit.noConfusion e)) ?_
    | with_reducible refine State.mSafe_permit _ _ (fun _ h => permit_boot h) ?_
    | with_reducible exact PermitKept.rfl
    | with_reducible refine PermitKept.ite ?_ ?_
    | with_reducible intro _ _
    | with_reducible refine State.safetyFinding_permit _ _ _ _ ?_
    | with_reducible refine State.siEnter_permit _ _ ?_

theorem State.siPulse_permit {s : State} (t : State) (i : Fin 4) (k : Nat) (own : Bool) (other : Bool) (h : PermitKept s t) :
    PermitKept s (t.siPulse i k own other) := by
  refine h.trans ?_
  unfold State.siPulse
  repeat' first
    | with_reducible refine State.mSafe_permit _ _ (fun _ h => h) ?_
    | with_reducible refine State.mSafe_permit _ _ (fun _ h => Permit.noConfusion h) ?_
    | with_reducible refine State.mSafe_permit _ _ (fun _ h => permit_ite h (fun _ e => Permit.noConfusion e) (fun _ e => Permit.noConfusion e)) ?_
    | with_reducible refine State.mSafe_permit _ _ (fun _ h => permit_ite h (fun _ e => Permit.noConfusion e) (fun _ e => e)) ?_
    | with_reducible refine State.mSafe_permit _ _ (fun _ h => permit_ite h (fun c _ => eq_of_beq c) (fun _ e => Permit.noConfusion e)) ?_
    | with_reducible refine State.mSafe_permit _ _ (fun _ h => permit_boot h) ?_
    | with_reducible exact PermitKept.rfl
    | with_reducible refine PermitKept.ite ?_ ?_
    | with_reducible intro _ _
    | with_reducible refine State.siDiagSet_permit _ _ _ ?_

theorem execTestOutputPulse_permit (dt : Nat) (ofB : Bool) (own : BitVec 4) (other : BitVec 4) (s : State) : ∃ u, execTestOutputPulse dt ofB own
    other s = .next u ∧ PermitKept s u := by
  refine ⟨_, rfl, ?_⟩
  repeat' first
    | with_reducible exact PermitKept.rfl
    | with_reducible refine PermitKept.ite ?_ ?_
    | with_reducible refine PermitKept.each ?_ ?_
    | with_reducible intro _ _
    | with_reducible refine State.advance_permit _ _ ?_
    | with_reducible refine State.siPulse_permit _ _ _ _ _ ?_

theorem execSiDiscrepancy_permit (dt : Nat) (input : Fin 4) (s : State) : ∃ u, execSiDiscrepancy dt input s = .next u ∧ PermitKept s u := by
  refine ⟨_, rfl, ?_⟩
  repeat' first
    | with_reducible exact PermitKept.rfl
    | with_reducible refine PermitKept.ite ?_ ?_
    | with_reducible intro _ _
    | with_reducible refine State.advance_permit _ _ ?_
    | with_reducible refine State.siDiagSet_permit _ _ _ ?_

theorem execHpTestPulse_permit (dt : Nat) (ofB : Bool) (v : Nat) (s : State) : ∃ u, execHpTestPulse dt ofB v s = .next u ∧ PermitKept s u := by
  refine ⟨_, rfl, ?_⟩
  repeat' first
    | with_reducible exact PermitKept.rfl
    | with_reducible refine PermitKept.ite ?_ ?_
    | with_reducible intro _ _
    | with_reducible refine State.advance_permit _ _ ?_
    | with_reducible refine State.safetyFinding_permit _ _ _ _ ?_

theorem execHpOpenDetect_permit (dt : Nat) (_ofB : Bool) (ua : Nat) (ns : Nat) (s : State) : ∃ u, execHpOpenDetect dt _ofB ua ns s = .next u ∧
    PermitKept s u := by
  refine ⟨_, rfl, ?_⟩
  repeat' first
    | with_reducible refine State.mSafe_permit _ _ (fun _ h => h) ?_
    | with_reducible refine State.mSafe_permit _ _ (fun _ h => Permit.noConfusion h) ?_
    | with_reducible refine State.mSafe_permit _ _ (fun _ h => permit_ite h (fun _ e => Permit.noConfusion e) (fun _ e => Permit.noConfusion e)) ?_
    | with_reducible refine State.mSafe_permit _ _ (fun _ h => permit_ite h (fun _ e => Permit.noConfusion e) (fun _ e => e)) ?_
    | with_reducible refine State.mSafe_permit _ _ (fun _ h => permit_ite h (fun c _ => eq_of_beq c) (fun _ e => Permit.noConfusion e)) ?_
    | with_reducible refine State.mSafe_permit _ _ (fun _ h => permit_boot h) ?_
    | with_reducible exact PermitKept.rfl
    | with_reducible refine PermitKept.ite ?_ ?_
    | with_reducible intro _ _
    | with_reducible refine State.advance_permit _ _ ?_

theorem execAirflowLoss_permit (dt : Nat) (s : State) : ∃ u, execAirflowLoss dt s = .next u ∧ PermitKept s u := by
  refine ⟨_, rfl, ?_⟩
  repeat' first
    | with_reducible exact PermitKept.rfl
    | with_reducible refine PermitKept.ite ?_ ?_
    | with_reducible intro _ _
    | with_reducible refine State.advance_permit _ _ ?_
    | with_reducible refine State.removePermit_permit _ _ _ _ ?_
    | split

theorem execAirOkDisagree_permit (dt : Nat) (group : Fin 4) (s : State) : ∃ u, execAirOkDisagree dt group s = .next u ∧ PermitKept s u := by
  refine ⟨_, rfl, ?_⟩
  repeat' first
    | with_reducible exact PermitKept.rfl
    | with_reducible refine PermitKept.ite ?_ ?_
    | with_reducible intro _ _
    | with_reducible refine State.advance_permit _ _ ?_
    | with_reducible refine State.safetyFinding_permit _ _ _ _ ?_

theorem execFlameOffTimeout_permit (dt : Nat) (s : State) : ∃ u, execFlameOffTimeout dt s = .next u ∧ PermitKept s u := by
  refine ⟨_, rfl, ?_⟩
  repeat' first
    | with_reducible refine State.mSafe_permit _ _ (fun _ h => h) ?_
    | with_reducible refine State.mSafe_permit _ _ (fun _ h => Permit.noConfusion h) ?_
    | with_reducible refine State.mSafe_permit _ _ (fun _ h => permit_ite h (fun _ e => Permit.noConfusion e) (fun _ e => Permit.noConfusion e)) ?_
    | with_reducible refine State.mSafe_permit _ _ (fun _ h => permit_ite h (fun _ e => Permit.noConfusion e) (fun _ e => e)) ?_
    | with_reducible refine State.mSafe_permit _ _ (fun _ h => permit_ite h (fun c _ => eq_of_beq c) (fun _ e => Permit.noConfusion e)) ?_
    | with_reducible refine State.mSafe_permit _ _ (fun _ h => permit_boot h) ?_
    | with_reducible exact PermitKept.rfl
    | with_reducible refine PermitKept.ite ?_ ?_
    | with_reducible intro _ _
    | with_reducible refine State.advance_permit _ _ ?_
    | with_reducible refine State.setLatch_permit _ _ _ _ ?_

theorem execFlameProveTimeout_permit (dt : Nat) (s : State) : ∃ u, execFlameProveTimeout dt s = .next u ∧ PermitKept s u := by
  refine ⟨_, rfl, ?_⟩
  repeat' first
    | with_reducible exact PermitKept.rfl
    | with_reducible refine PermitKept.ite ?_ ?_
    | with_reducible intro _ _
    | with_reducible refine State.advance_permit _ _ ?_
    | with_reducible refine State.removePermit_permit _ _ _ _ ?_

theorem State.mHo_permit {s : State} (t : State) (f : Handover → Handover) (h : PermitKept s t) :
    PermitKept s (t.mHo f) :=
  PermitKept.skip ((State.mHo_only (l := [.ho]) _ _ (Within.self _)).2 Only.rfl) (by decide) h

theorem State.smTrip_permit {s : State} (t : State) (id : Nat) (h : PermitKept s t) :
    PermitKept s (t.smTrip id) := by
  refine h.trans ?_
  unfold State.smTrip
  repeat' first
    | with_reducible exact PermitKept.rfl
    | with_reducible refine PermitKept.ite ?_ ?_
    | with_reducible intro _ _
    | with_reducible refine State.detected_permit _ _ _ _ ?_
    | with_reducible refine State.mHo_permit _ _ ?_
    | with_reducible refine State.removePermit_permit _ _ _ _ ?_

theorem execSmLockstepMismatch_permit (dt : Nat) (s : State) : ∃ u, execSmLockstepMismatch dt s = .next u ∧ PermitKept s u := by
  refine ⟨_, rfl, ?_⟩
  repeat' first
    | with_reducible exact PermitKept.rfl
    | with_reducible intro _ _
    | with_reducible refine State.advance_permit _ _ ?_
    | with_reducible refine State.smTrip_permit _ _ ?_

theorem execSmEccError_permit (dt : Nat) (s : State) : ∃ u, execSmEccError dt s = .next u ∧ PermitKept s u := by
  refine ⟨_, rfl, ?_⟩
  repeat' first
    | with_reducible exact PermitKept.rfl
    | with_reducible intro _ _
    | with_reducible refine State.advance_permit _ _ ?_
    | with_reducible refine State.smTrip_permit _ _ ?_

theorem execSmWatchdogMiss_permit (dt : Nat) (ns : Nat) (s : State) : ∃ u, execSmWatchdogMiss dt ns s = .next u ∧ PermitKept s u := by
  refine ⟨_, rfl, ?_⟩
  repeat' first
    | with_reducible exact PermitKept.rfl
    | with_reducible refine PermitKept.ite ?_ ?_
    | with_reducible intro _ _
    | with_reducible refine State.advance_permit _ _ ?_
    | with_reducible refine State.smTrip_permit _ _ ?_

theorem execHpBEnableStatic_permit (dt : Nat) (s : State) : ∃ u, execHpBEnableStatic dt s = .next u ∧ PermitKept s u := by
  refine ⟨_, rfl, ?_⟩
  repeat' first
    | with_reducible refine State.mSafe_permit _ _ (fun _ h => h) ?_
    | with_reducible refine State.mSafe_permit _ _ (fun _ h => Permit.noConfusion h) ?_
    | with_reducible refine State.mSafe_permit _ _ (fun _ h => permit_ite h (fun _ e => Permit.noConfusion e) (fun _ e => Permit.noConfusion e)) ?_
    | with_reducible refine State.mSafe_permit _ _ (fun _ h => permit_ite h (fun _ e => Permit.noConfusion e) (fun _ e => e)) ?_
    | with_reducible refine State.mSafe_permit _ _ (fun _ h => permit_ite h (fun c _ => eq_of_beq c) (fun _ e => Permit.noConfusion e)) ?_
    | with_reducible refine State.mSafe_permit _ _ (fun _ h => permit_boot h) ?_
    | with_reducible exact PermitKept.rfl
    | with_reducible intro _ _
    | with_reducible refine State.advance_permit _ _ ?_
    | with_reducible refine State.detected_permit _ _ _ _ ?_
    | with_reducible refine State.removePermit_permit _ _ _ _ ?_

theorem execScrcRecheck_permit (dt : Nat) (good : Bool) (s : State) : ∃ u, execScrcRecheck dt good s = .next u ∧ PermitKept s u := by
  refine ⟨_, rfl, ?_⟩
  repeat' first
    | with_reducible refine State.mSafe_permit _ _ (fun _ h => h) ?_
    | with_reducible refine State.mSafe_permit _ _ (fun _ h => Permit.noConfusion h) ?_
    | with_reducible refine State.mSafe_permit _ _ (fun _ h => permit_ite h (fun _ e => Permit.noConfusion e) (fun _ e => Permit.noConfusion e)) ?_
    | with_reducible refine State.mSafe_permit _ _ (fun _ h => permit_ite h (fun _ e => Permit.noConfusion e) (fun _ e => e)) ?_
    | with_reducible refine State.mSafe_permit _ _ (fun _ h => permit_ite h (fun c _ => eq_of_beq c) (fun _ e => Permit.noConfusion e)) ?_
    | with_reducible refine State.mSafe_permit _ _ (fun _ h => permit_boot h) ?_
    | with_reducible exact PermitKept.rfl
    | with_reducible refine PermitKept.ite ?_ ?_
    | with_reducible intro _ _
    | with_reducible refine State.advance_permit _ _ ?_
    | with_reducible refine State.safetyFinding_permit _ _ _ _ ?_

theorem execSafeConfigExpire_permit (dt : Nat) (s : State) : ∃ u, execSafeConfigExpire dt s = .next u ∧ PermitKept s u := by
  refine ⟨_, rfl, ?_⟩
  repeat' first
    | with_reducible refine State.mSafe_permit _ _ (fun _ h => h) ?_
    | with_reducible refine State.mSafe_permit _ _ (fun _ h => Permit.noConfusion h) ?_
    | with_reducible refine State.mSafe_permit _ _ (fun _ h => permit_ite h (fun _ e => Permit.noConfusion e) (fun _ e => Permit.noConfusion e)) ?_
    | with_reducible refine State.mSafe_permit _ _ (fun _ h => permit_ite h (fun _ e => Permit.noConfusion e) (fun _ e => e)) ?_
    | with_reducible refine State.mSafe_permit _ _ (fun _ h => permit_ite h (fun c _ => eq_of_beq c) (fun _ e => Permit.noConfusion e)) ?_
    | with_reducible refine State.mSafe_permit _ _ (fun _ h => permit_boot h) ?_
    | with_reducible exact PermitKept.rfl
    | with_reducible refine PermitKept.ite ?_ ?_
    | with_reducible intro _ _
    | with_reducible refine State.advance_permit _ _ ?_
    | split

theorem execProofTestDone_permit (dt : Nat) (pass : Bool) (fstep : Byte) (detail : Byte) (s : State) : ∃ u, execProofTestDone dt pass fstep detail s
    = .next u ∧ PermitKept s u := by
  refine ⟨_, rfl, ?_⟩
  repeat' first
    | with_reducible exact PermitKept.rfl
    | with_reducible refine PermitKept.ite ?_ ?_
    | with_reducible intro _ _
    | with_reducible refine State.advance_permit _ _ ?_
    | with_reducible refine State.proofEnd_permit _ _ _ _ ?_

theorem execPtAgeDay_permit (dt : Nat) (s : State) : ∃ u, execPtAgeDay dt s = .next u ∧ PermitKept s u := by
  refine ⟨_, rfl, ?_⟩
  repeat' first
    | with_reducible refine State.mSafe_permit _ _ (fun _ h => h) ?_
    | with_reducible refine State.mSafe_permit _ _ (fun _ h => Permit.noConfusion h) ?_
    | with_reducible refine State.mSafe_permit _ _ (fun _ h => permit_ite h (fun _ e => Permit.noConfusion e) (fun _ e => Permit.noConfusion e)) ?_
    | with_reducible refine State.mSafe_permit _ _ (fun _ h => permit_ite h (fun _ e => Permit.noConfusion e) (fun _ e => e)) ?_
    | with_reducible refine State.mSafe_permit _ _ (fun _ h => permit_ite h (fun c _ => eq_of_beq c) (fun _ e => Permit.noConfusion e)) ?_
    | with_reducible refine State.mSafe_permit _ _ (fun _ h => permit_boot h) ?_
    | with_reducible exact PermitKept.rfl
    | with_reducible refine PermitKept.ite ?_ ?_
    | with_reducible intro _ _
    | with_reducible refine State.advance_permit _ _ ?_

theorem permitRequest_permit {s : State} (q : Req) (k : Target → Bool) (t : State) (h : PermitKept s t) :
    PermitKept s ((permitRequest).run q k t).s := by
  refine h.trans ?_
  dsimp only [permitRequest, Op.read, Op.readTagged, Op.order, Op.orderLen, Op.orderMem, Op.readMem, Op.sized, Op.least, Op.noKind]
  repeat' first
    | with_reducible refine State.mSafe_permit _ _ (fun _ h => h) ?_
    | with_reducible refine State.mSafe_permit _ _ (fun _ h => Permit.noConfusion h) ?_
    | with_reducible refine State.mSafe_permit _ _ (fun _ h => permit_ite h (fun _ e => Permit.noConfusion e) (fun _ e => Permit.noConfusion e)) ?_
    | with_reducible refine State.mSafe_permit _ _ (fun _ h => permit_ite h (fun _ e => Permit.noConfusion e) (fun _ e => e)) ?_
    | with_reducible refine State.mSafe_permit _ _ (fun _ h => permit_ite h (fun c _ => eq_of_beq c) (fun _ e => Permit.noConfusion e)) ?_
    | with_reducible refine State.mSafe_permit _ _ (fun _ h => permit_boot h) ?_
    | with_reducible exact PermitKept.rfl
    | with_reducible refine PermitKept.ite ?_ ?_
    | with_reducible intro _ _
    | with_reducible refine PermitKept.bad ?_
    | with_reducible refine PermitKept.ok ?_
    | split

theorem execPermitRequest_permit (q : Req) (s : State) : ∃ u, execPermitRequest q s = .next u ∧ PermitKept s u := by
  refine ⟨_, rfl, ?_⟩
  repeat' first
    | with_reducible exact PermitKept.rfl
    | with_reducible intro _ _ _
    | with_reducible intro _ _
    | with_reducible refine PermitKept.serve ?_ ?_
    | with_reducible refine permitRequest_permit _ _ _ ?_

theorem State.stitchCancel_permit {s : State} (t : State) (p : Stitch → Bool) (h : PermitKept s t) :
    PermitKept s (t.stitchCancel p) :=
  PermitKept.skip ((State.stitchCancel_only (l := [.stitch]) _ _ (Within.self _)).2 Only.rfl) (by decide) h

theorem permitDrop_permit {s : State} (q : Req) (k : Target → Bool) (t : State) (h : PermitKept s t) :
    PermitKept s ((permitDrop).run q k t).s := by
  refine h.trans ?_
  dsimp only [permitDrop, Op.read, Op.readTagged, Op.order, Op.orderLen, Op.orderMem, Op.readMem, Op.sized, Op.least, Op.noKind]
  repeat' first
    | with_reducible exact PermitKept.rfl
    | with_reducible intro _ _
    | with_reducible refine PermitKept.bad ?_
    | with_reducible refine PermitKept.ok ?_
    | with_reducible refine State.removePermit_permit _ _ _ _ ?_
    | with_reducible refine State.stitchCancel_permit _ _ ?_

theorem execPermitDrop_permit (q : Req) (s : State) : ∃ u, execPermitDrop q s = .next u ∧ PermitKept s u := by
  refine ⟨_, rfl, ?_⟩
  repeat' first
    | with_reducible exact PermitKept.rfl
    | with_reducible intro _ _ _
    | with_reducible intro _ _
    | with_reducible refine PermitKept.serve ?_ ?_
    | with_reducible refine permitDrop_permit _ _ _ ?_

theorem safeConfigWrite_permit {s : State} (img : List Byte) (q : Req) (k : Target → Bool) (t : State) (h : PermitKept s t) :
    PermitKept s ((safeConfigWrite img).run q k t).s := by
  refine h.trans ?_
  dsimp only [safeConfigWrite, Op.read, Op.readTagged, Op.order, Op.orderLen, Op.orderMem, Op.readMem, Op.sized, Op.least, Op.noKind]
  repeat' first
    | with_reducible refine State.mSafe_permit _ _ (fun _ h => h) ?_
    | with_reducible refine State.mSafe_permit _ _ (fun _ h => Permit.noConfusion h) ?_
    | with_reducible refine State.mSafe_permit _ _ (fun _ h => permit_ite h (fun _ e => Permit.noConfusion e) (fun _ e => Permit.noConfusion e)) ?_
    | with_reducible refine State.mSafe_permit _ _ (fun _ h => permit_ite h (fun _ e => Permit.noConfusion e) (fun _ e => e)) ?_
    | with_reducible refine State.mSafe_permit _ _ (fun _ h => permit_ite h (fun c _ => eq_of_beq c) (fun _ e => Permit.noConfusion e)) ?_
    | with_reducible refine State.mSafe_permit _ _ (fun _ h => permit_boot h) ?_
    | with_reducible exact PermitKept.rfl
    | with_reducible refine PermitKept.ite ?_ ?_
    | with_reducible intro _ _
    | with_reducible refine PermitKept.bad ?_
    | with_reducible refine PermitKept.ok ?_
    | split

theorem execSafeConfigWrite_permit (q : Req) (image : List Byte) (s : State) : ∃ u, execSafeConfigWrite q image s = .next u ∧ PermitKept s u := by
  refine ⟨_, rfl, ?_⟩
  repeat' first
    | with_reducible exact PermitKept.rfl
    | with_reducible intro _ _ _
    | with_reducible intro _ _
    | with_reducible refine PermitKept.serve ?_ ?_
    | with_reducible refine safeConfigWrite_permit _ _ _ _ ?_

theorem State.confirm_permit {s : State} (t : State) (c : SafeCfg) (h : PermitKept s t) :
    PermitKept s (t.confirm c) := by
  refine h.trans ?_
  unfold State.confirm
  repeat' first
    | with_reducible refine State.mSafe_permit _ _ (fun _ h => h) ?_
    | with_reducible refine State.mSafe_permit _ _ (fun _ h => Permit.noConfusion h) ?_
    | with_reducible refine State.mSafe_permit _ _ (fun _ h => permit_ite h (fun _ e => Permit.noConfusion e) (fun _ e => Permit.noConfusion e)) ?_
    | with_reducible refine State.mSafe_permit _ _ (fun _ h => permit_ite h (fun _ e => Permit.noConfusion e) (fun _ e => e)) ?_
    | with_reducible refine State.mSafe_permit _ _ (fun _ h => permit_ite h (fun c _ => eq_of_beq c) (fun _ e => Permit.noConfusion e)) ?_
    | with_reducible refine State.mSafe_permit _ _ (fun _ h => permit_boot h) ?_
    | with_reducible exact PermitKept.rfl
    | with_reducible refine PermitKept.ite ?_ ?_
    | with_reducible intro _ _
    | with_reducible refine State.estopFollow_permit _ ?_
    | with_reducible refine State.logSm_permit _ _ _ _ ?_

theorem safeConfigConfirm_permit {s : State} (scrc : Nat) (q : Req) (k : Target → Bool) (t : State) (h : PermitKept s t) :
    PermitKept s ((safeConfigConfirm scrc).run q k t).s := by
  refine h.trans ?_
  dsimp only [safeConfigConfirm, Op.read, Op.readTagged, Op.order, Op.orderLen, Op.orderMem, Op.readMem, Op.sized, Op.least, Op.noKind]
  repeat' first
    | with_reducible exact PermitKept.rfl
    | with_reducible refine PermitKept.ite ?_ ?_
    | with_reducible intro _ _
    | with_reducible refine PermitKept.bad ?_
    | with_reducible refine PermitKept.ok ?_
    | with_reducible refine State.confirm_permit _ _ ?_
    | split

theorem execSafeConfigConfirm_permit (q : Req) (scrc : Word) (s : State) : ∃ u, execSafeConfigConfirm q scrc s = .next u ∧ PermitKept s u := by
  refine ⟨_, rfl, ?_⟩
  repeat' first
    | with_reducible exact PermitKept.rfl
    | with_reducible intro _ _ _
    | with_reducible intro _ _
    | with_reducible refine PermitKept.serve ?_ ?_
    | with_reducible refine safeConfigConfirm_permit _ _ _ _ ?_

theorem proofTest_permit {s : State} (kind : Nat) (q : Req) (k : Target → Bool) (t : State) (h : PermitKept s t) :
    PermitKept s ((proofTest kind).run q k t).s := by
  refine h.trans ?_
  dsimp only [proofTest, Op.read, Op.readTagged, Op.order, Op.orderLen, Op.orderMem, Op.readMem, Op.sized, Op.least, Op.noKind]
  repeat' first
    | with_reducible refine State.mSafe_permit _ _ (fun _ h => h) ?_
    | with_reducible refine State.mSafe_permit _ _ (fun _ h => Permit.noConfusion h) ?_
    | with_reducible refine State.mSafe_permit _ _ (fun _ h => permit_ite h (fun _ e => Permit.noConfusion e) (fun _ e => Permit.noConfusion e)) ?_
    | with_reducible refine State.mSafe_permit _ _ (fun _ h => permit_ite h (fun _ e => Permit.noConfusion e) (fun _ e => e)) ?_
    | with_reducible refine State.mSafe_permit _ _ (fun _ h => permit_ite h (fun c _ => eq_of_beq c) (fun _ e => Permit.noConfusion e)) ?_
    | with_reducible refine State.mSafe_permit _ _ (fun _ h => permit_boot h) ?_
    | with_reducible exact PermitKept.rfl
    | with_reducible refine PermitKept.ite ?_ ?_
    | with_reducible intro _ _
    | with_reducible refine PermitKept.bad ?_
    | with_reducible refine PermitKept.ok ?_
    | with_reducible refine PermitKept.withTicket ?_ ?_
    | split

theorem execProofTestPermit_permit (q : Req) (s : State) : ∃ u, execProofTestPermit q s = .next u ∧ PermitKept s u := by
  refine ⟨_, rfl, ?_⟩
  repeat' first
    | with_reducible exact PermitKept.rfl
    | with_reducible intro _ _ _
    | with_reducible intro _ _
    | with_reducible refine PermitKept.serve ?_ ?_
    | with_reducible refine proofTest_permit _ _ _ _ ?_

theorem execProofTestRelease_permit (q : Req) (s : State) : ∃ u, execProofTestRelease q s = .next u ∧ PermitKept s u := by
  refine ⟨_, rfl, ?_⟩
  repeat' first
    | with_reducible exact PermitKept.rfl
    | with_reducible intro _ _ _
    | with_reducible intro _ _
    | with_reducible refine PermitKept.serve ?_ ?_
    | with_reducible refine proofTest_permit _ _ _ _ ?_

theorem execProofTestReport_permit (q : Req) (s : State) : ∃ u, execProofTestReport q s = .next u ∧ PermitKept s u := by
  refine ⟨_, rfl, ?_⟩
  repeat' first
    | with_reducible exact PermitKept.rfl
    | with_reducible intro _ _ _
    | with_reducible intro _ _
    | with_reducible refine PermitKept.serve ?_ ?_
    | with_reducible refine proofTest_permit _ _ _ _ ?_

theorem State.siForget_permit {s : State} (t : State) (h : PermitKept s t) :
    PermitKept s (t.siForget) := by
  refine h.trans ?_
  unfold State.siForget
  repeat' first
    | with_reducible refine State.mSafe_permit _ _ (fun _ h => h) ?_
    | with_reducible refine State.mSafe_permit _ _ (fun _ h => Permit.noConfusion h) ?_
    | with_reducible refine State.mSafe_permit _ _ (fun _ h => permit_ite h (fun _ e => Permit.noConfusion e) (fun _ e => Permit.noConfusion e)) ?_
    | with_reducible refine State.mSafe_permit _ _ (fun _ h => permit_ite h (fun _ e => Permit.noConfusion e) (fun _ e => e)) ?_
    | with_reducible refine State.mSafe_permit _ _ (fun _ h => permit_ite h (fun c _ => eq_of_beq c) (fun _ e => Permit.noConfusion e)) ?_
    | with_reducible refine State.mSafe_permit _ _ (fun _ h => permit_boot h) ?_
    | with_reducible exact PermitKept.rfl

theorem safeReset_permit {s : State} (mask : Nat) (q : Req) (k : Target → Bool) (t : State) (h : PermitKept s t) :
    PermitKept s ((safeReset mask).run q k t).s := by
  refine h.trans ?_
  dsimp only [safeReset, Op.read, Op.readTagged, Op.order, Op.orderLen, Op.orderMem, Op.readMem, Op.sized, Op.least, Op.noKind]
  repeat' first
    | with_reducible refine State.mSafe_permit _ _ (fun _ h => h) ?_
    | with_reducible refine State.mSafe_permit _ _ (fun _ h => Permit.noConfusion h) ?_
    | with_reducible refine State.mSafe_permit _ _ (fun _ h => permit_ite h (fun _ e => Permit.noConfusion e) (fun _ e => Permit.noConfusion e)) ?_
    | with_reducible refine State.mSafe_permit _ _ (fun _ h => permit_ite h (fun _ e => Permit.noConfusion e) (fun _ e => e)) ?_
    | with_reducible refine State.mSafe_permit _ _ (fun _ h => permit_ite h (fun c _ => eq_of_beq c) (fun _ e => Permit.noConfusion e)) ?_
    | with_reducible refine State.mSafe_permit _ _ (fun _ h => permit_boot h) ?_
    | with_reducible exact PermitKept.rfl
    | with_reducible refine PermitKept.ite ?_ ?_
    | with_reducible intro _ _
    | with_reducible refine PermitKept.bad ?_
    | with_reducible refine PermitKept.ok ?_
    | with_reducible refine State.estopFollow_permit _ ?_
    | with_reducible refine State.logSm_permit _ _ _ _ ?_
    | with_reducible refine State.siForget_permit _ ?_
    | split

theorem execSafeReset_permit (q : Req) (mask : Word) (s : State) : ∃ u, execSafeReset q mask s = .next u ∧ PermitKept s u := by
  refine ⟨_, rfl, ?_⟩
  repeat' first
    | with_reducible exact PermitKept.rfl
    | with_reducible intro _ _ _
    | with_reducible intro _ _
    | with_reducible refine PermitKept.serve ?_ ?_
    | with_reducible refine safeReset_permit _ _ _ _ ?_

theorem State.mFrm_permit {s : State} (t : State) (f : Frames → Frames) (h : PermitKept s t) :
    PermitKept s (t.mFrm f) :=
  PermitKept.skip ((State.mFrm_only (l := [.frm]) _ _ (Within.self _)).2 Only.rfl) (by decide) h

theorem State.needleLost_permit {s : State} (t : State) (old : Holder) (new : Holder) (h : PermitKept s t) :
    PermitKept s (t.needleLost old new) :=
  PermitKept.skip ((State.needleLost_only (l := [.frm, .log]) _ _ _ (Within.self _)).2 Only.rfl) (by decide) h

theorem State.lichenExit_permit {s : State} (t : State) (h' : Holder) (h : PermitKept s t) :
    PermitKept s (t.lichenExit h') :=
  PermitKept.skip ((State.lichenExit_only (l := [.fan, .lich, .log]) _ _ (Within.self _)).2 Only.rfl) (by decide) h

theorem State.sessionEnd_permit {s : State} (t : State) (c : EndCause) (h : PermitKept s t) :
    PermitKept s (t.sessionEnd c) :=
  PermitKept.skip ((State.sessionEnd_only (l := [.inj, .log]) _ _ (Within.self _)).2 Only.rfl) (by decide) h

theorem State.passNeedle_permit {s : State} (t : State) (h' : Holder) (auth : Bool) (up : Nat) (h : PermitKept s t) :
    PermitKept s (t.passNeedle h' auth up) := by
  refine h.trans ?_
  unfold State.passNeedle
  repeat' first
    | with_reducible exact PermitKept.rfl
    | with_reducible refine PermitKept.ite ?_ ?_
    | with_reducible intro _ _
    | with_reducible refine State.lichenExit_permit _ _ ?_
    | with_reducible refine State.mFrm_permit _ _ ?_
    | with_reducible refine State.proofAbort_permit _ ?_
    | with_reducible refine State.sessionEnd_permit _ _ ?_

theorem needleTake_permit {s : State} (flags : Nat) (timeout : Nat) (q : Req) (k : Target → Bool) (t : State) (h : PermitKept s t) :
    PermitKept s ((needleTake flags timeout).run q k t).s := by
  refine h.trans ?_
  dsimp only [needleTake, Op.read, Op.readTagged, Op.order, Op.orderLen, Op.orderMem, Op.readMem, Op.sized, Op.least, Op.noKind]
  repeat' first
    | with_reducible exact PermitKept.rfl
    | with_reducible refine PermitKept.ite ?_ ?_
    | with_reducible intro _ _
    | with_reducible refine PermitKept.bad ?_
    | with_reducible refine PermitKept.ok ?_
    | with_reducible refine State.mFrm_permit _ _ ?_
    | with_reducible refine State.needleLost_permit _ _ _ ?_
    | with_reducible refine State.passNeedle_permit _ _ _ _ ?_
    | split

theorem execNeedleTake_permit (q : Req) (flags : Byte) (timeout : Half) (s : State) : ∃ u, execNeedleTake q flags timeout s = .next u ∧ PermitKept s
    u := by
  refine ⟨_, rfl, ?_⟩
  repeat' first
    | with_reducible exact PermitKept.rfl
    | with_reducible intro _ _ _
    | with_reducible intro _ _
    | with_reducible refine PermitKept.serve ?_ ?_
    | with_reducible refine needleTake_permit _ _ _ _ _ ?_

theorem State.mLich_permit {s : State} (t : State) (f : Lichen → Lichen) (h : PermitKept s t) :
    PermitKept s (t.mLich f) :=
  PermitKept.skip ((State.mLich_only (l := [.lich]) _ _ (Within.self _)).2 Only.rfl) (by decide) h

theorem State.lichenRemove_permit {s : State} (t : State) (h : PermitKept s t) :
    PermitKept s (t.lichenRemove) := by
  refine h.trans ?_
  unfold State.lichenRemove
  repeat' first
    | with_reducible exact PermitKept.rfl
    | with_reducible refine PermitKept.ite ?_ ?_
    | with_reducible intro _ _
    | with_reducible refine State.logAs_permit _ _ _ _ _ _ ?_
    | with_reducible refine State.mLich_permit _ _ ?_
    | with_reducible refine State.removePermit_permit _ _ _ _ ?_

theorem State.lichenSignal_permit {s : State} (t : State) (h : PermitKept s t) :
    PermitKept s (t.lichenSignal) := by
  refine h.trans ?_
  unfold State.lichenSignal
  repeat' first
    | with_reducible refine State.mSafe_permit _ _ (fun _ h => h) ?_
    | with_reducible refine State.mSafe_permit _ _ (fun _ h => Permit.noConfusion h) ?_
    | with_reducible refine State.mSafe_permit _ _ (fun _ h => permit_ite h (fun _ e => Permit.noConfusion e) (fun _ e => Permit.noConfusion e)) ?_
    | with_reducible refine State.mSafe_permit _ _ (fun _ h => permit_ite h (fun _ e => Permit.noConfusion e) (fun _ e => e)) ?_
    | with_reducible refine State.mSafe_permit _ _ (fun _ h => permit_ite h (fun c _ => eq_of_beq c) (fun _ e => Permit.noConfusion e)) ?_
    | with_reducible refine State.mSafe_permit _ _ (fun _ h => permit_boot h) ?_
    | with_reducible exact PermitKept.rfl
    | with_reducible refine PermitKept.ite ?_ ?_
    | with_reducible intro _ _
    | with_reducible refine State.lichenRemove_permit _ ?_

theorem State.lichenEnter_permit {s : State} (t : State) (cause : Nat) (h : PermitKept s t) :
    PermitKept s (t.lichenEnter cause) := by
  refine h.trans ?_
  unfold State.lichenEnter
  repeat' first
    | with_reducible exact PermitKept.rfl
    | with_reducible refine PermitKept.ite ?_ ?_
    | with_reducible intro _ _
    | with_reducible refine State.lichenSignal_permit _ ?_
    | with_reducible refine State.logAs_permit _ _ _ _ _ _ ?_
    | with_reducible refine State.mFrm_permit _ _ ?_
    | with_reducible refine State.mLich_permit _ _ ?_
    | with_reducible refine State.needleLost_permit _ _ _ ?_
    | with_reducible refine State.passNeedle_permit _ _ _ _ ?_

theorem needleGive_permit {s : State} (mode : Nat) (q : Req) (k : Target → Bool) (t : State) (h : PermitKept s t) :
    PermitKept s ((needleGive mode).run q k t).s := by
  refine h.trans ?_
  dsimp only [needleGive, Op.read, Op.readTagged, Op.order, Op.orderLen, Op.orderMem, Op.readMem, Op.sized, Op.least, Op.noKind]
  repeat' first
    | with_reducible exact PermitKept.rfl
    | with_reducible refine PermitKept.ite ?_ ?_
    | with_reducible intro _ _
    | with_reducible refine PermitKept.bad ?_
    | with_reducible refine PermitKept.ok ?_
    | with_reducible refine State.lichenEnter_permit _ _ ?_
    | with_reducible refine State.passNeedle_permit _ _ _ _ ?_
    | split

theorem execNeedleGiveRelease_permit (q : Req) (s : State) : ∃ u, execNeedleGiveRelease q s = .next u ∧ PermitKept s u := by
  refine ⟨_, rfl, ?_⟩
  repeat' first
    | with_reducible exact PermitKept.rfl
    | with_reducible intro _ _ _
    | with_reducible intro _ _
    | with_reducible refine PermitKept.serve ?_ ?_
    | with_reducible refine needleGive_permit _ _ _ _ ?_

theorem execNeedleGiveLichen_permit (q : Req) (s : State) : ∃ u, execNeedleGiveLichen q s = .next u ∧ PermitKept s u := by
  refine ⟨_, rfl, ?_⟩
  repeat' first
    | with_reducible exact PermitKept.rfl
    | with_reducible intro _ _ _
    | with_reducible intro _ _
    | with_reducible refine PermitKept.serve ?_ ?_
    | with_reducible refine needleGive_permit _ _ _ _ ?_

theorem execHostTimeoutExpire_permit (s : State) : ∃ u, execHostTimeoutExpire s = .next u ∧ PermitKept s u := by
  refine ⟨_, rfl, ?_⟩
  repeat' first
    | with_reducible exact PermitKept.rfl
    | with_reducible refine PermitKept.ite ?_ ?_
    | with_reducible intro _ _
    | with_reducible refine State.lichenEnter_permit _ _ ?_

theorem execLichenHeatExpire_permit (dt : Nat) (s : State) : ∃ u, execLichenHeatExpire dt s = .next u ∧ PermitKept s u := by
  refine ⟨_, rfl, ?_⟩
  repeat' first
    | with_reducible refine State.mSafe_permit _ _ (fun _ h => h) ?_
    | with_reducible refine State.mSafe_permit _ _ (fun _ h => Permit.noConfusion h) ?_
    | with_reducible refine State.mSafe_permit _ _ (fun _ h => permit_ite h (fun _ e => Permit.noConfusion e) (fun _ e => Permit.noConfusion e)) ?_
    | with_reducible refine State.mSafe_permit _ _ (fun _ h => permit_ite h (fun _ e => Permit.noConfusion e) (fun _ e => e)) ?_
    | with_reducible refine State.mSafe_permit _ _ (fun _ h => permit_ite h (fun c _ => eq_of_beq c) (fun _ e => Permit.noConfusion e)) ?_
    | with_reducible refine State.mSafe_permit _ _ (fun _ h => permit_boot h) ?_
    | with_reducible exact PermitKept.rfl
    | with_reducible refine PermitKept.ite ?_ ?_
    | with_reducible intro _ _
    | with_reducible refine State.advance_permit _ _ ?_
    | with_reducible refine State.lichenRemove_permit _ ?_
    | split

theorem State.failBank_permit {s : State} (t : State) (t' : Nat) (h : PermitKept s t) :
    PermitKept s (t.failBank t') :=
  PermitKept.skip ((State.failBank_only (l := [.upd]) _ _ (Within.self _)).2 Only.rfl) (by decide) h

theorem State.hoFellBack_permit {s : State} (t : State) (fb : Nat) (h : PermitKept s t) :
    PermitKept s (t.hoFellBack fb) :=
  PermitKept.skip ((State.hoFellBack_only (l := [.frm, .log, .ho]) _ _ (Within.self _)).2 Only.rfl) (by decide) h

theorem State.hoTo_permit {s : State} (t : State) (p : HoPhase) (h : PermitKept s t) :
    PermitKept s (t.hoTo p) :=
  PermitKept.skip ((State.hoTo_only (l := [.ho]) _ _ (Within.self _)).2 Only.rfl) (by decide) h

theorem State.hoTrial_permit {s : State} (t : State) (h : PermitKept s t) :
    PermitKept s (t.hoTrial) :=
  PermitKept.skip ((State.hoTrial_only (l := [.ho]) _ (Within.self _)).2 Only.rfl) (by decide) h

theorem State.smStart_permit {s : State} (t : State) (selfOk : Bool) (h : PermitKept s t) :
    PermitKept s (t.smStart selfOk) := by
  refine h.trans ?_
  unfold State.smStart
  repeat' first
    | with_reducible refine State.mSafe_permit _ _ (fun _ h => h) ?_
    | with_reducible refine State.mSafe_permit _ _ (fun _ h => Permit.noConfusion h) ?_
    | with_reducible refine State.mSafe_permit _ _ (fun _ h => permit_ite h (fun _ e => Permit.noConfusion e) (fun _ e => Permit.noConfusion e)) ?_
    | with_reducible refine State.mSafe_permit _ _ (fun _ h => permit_ite h (fun _ e => Permit.noConfusion e) (fun _ e => e)) ?_
    | with_reducible refine State.mSafe_permit _ _ (fun _ h => permit_ite h (fun c _ => eq_of_beq c) (fun _ e => Permit.noConfusion e)) ?_
    | with_reducible refine State.mSafe_permit _ _ (fun _ h => permit_boot h) ?_
    | with_reducible exact PermitKept.rfl
    | with_reducible refine PermitKept.ite ?_ ?_
    | with_reducible intro _ _
    | with_reducible refine State.estopFollow_permit _ ?_
    | with_reducible refine State.mPow_permit _ _ ?_
    | with_reducible refine State.setLatch_permit _ _ _ _ ?_

theorem State.takeBank_permit {s : State} (t : State) (b : Fin 8) (h : PermitKept s t) :
    PermitKept s (t.takeBank b) :=
  PermitKept.skip ((State.takeBank_only (l := [.upd]) _ _ (Within.self _)).2 Only.rfl) (by decide) h

theorem State.smRestarted_permit {s : State} (t : State) (testOk : Bool) (h : PermitKept s t) :
    PermitKept s (t.smRestarted testOk) := by
  refine h.trans ?_
  unfold State.smRestarted
  repeat' first
    | with_reducible exact PermitKept.rfl
    | with_reducible refine PermitKept.ite ?_ ?_
    | with_reducible intro _ _
    | with_reducible refine State.estopFollow_permit _ ?_
    | with_reducible refine State.failBank_permit _ _ ?_
    | with_reducible refine State.hoFellBack_permit _ _ ?_
    | with_reducible refine State.hoTo_permit _ _ ?_
    | with_reducible refine State.hoTrial_permit _ ?_
    | with_reducible refine State.mHo_permit _ _ ?_
    | with_reducible refine State.setLatch_permit _ _ _ _ ?_
    | with_reducible refine State.smStart_permit _ _ ?_
    | with_reducible refine State.takeBank_permit _ _ ?_

theorem execSmRestartDone_permit (dt : Nat) (testOk : Bool) (s : State) : ∃ u, execSmRestartDone dt testOk s = .next u ∧ PermitKept s u := by
  refine ⟨_, rfl, ?_⟩
  repeat' first
    | with_reducible exact PermitKept.rfl
    | with_reducible intro _ _
    | with_reducible refine State.advance_permit _ _ ?_
    | with_reducible refine State.smRestarted_permit _ _ ?_

theorem State.countAwake_permit {s : State} (t : State) (h : PermitKept s t) :
    PermitKept s (t.countAwake) :=
  PermitKept.skip ((State.countAwake_only (l := [.cnt]) _ (Within.self _)).2 Only.rfl) (by decide) h

theorem State.fresh_permit {s : State} (t : State) (cause : Nat) (_h : PermitKept s t) : PermitKept s (t.fresh cause) := by
  intro a
  have : (t.fresh cause).safe.permit ≠ .on := by
    show (if t.safe.anyLatch = true then Permit.locked else Permit.off) ≠ _
    split <;> decide
  exact absurd a this

theorem State.logFlush_permit {s : State} (t : State) (h : PermitKept s t) :
    PermitKept s (t.logFlush) :=
  PermitKept.skip ((State.logFlush_only (l := [.log]) _ (Within.self _)).2 Only.rfl) (by decide) h

theorem State.logStart_permit {s : State} (t : State) (cause : Nat) (h : PermitKept s t) :
    PermitKept s (t.logStart cause) :=
  PermitKept.skip ((State.logStart_only (l := [.log]) _ _ (Within.self _)).2 Only.rfl) (by decide) h

theorem State.startImages_permit {s : State} (t : State) (cause : Nat) (h : PermitKept s t) :
    PermitKept s (t.startImages cause) :=
  PermitKept.skip ((State.startImages_only (l := [.sys, .fe, .log, .upd, .ho]) _ _ (Within.self _)).2 Only.rfl) (by decide) h

theorem State.toSpore_permit {s : State} (t : State) (c : Nat) (h : PermitKept s t) :
    PermitKept s (t.toSpore c) :=
  PermitKept.skip ((State.toSpore_only (l := [.pow, .log, .ho]) _ _ (Within.self _)).2 Only.rfl) (by decide) h

theorem State.restart_permit {s : State} (t : State) (cause : Nat) (h : PermitKept s t) :
    PermitKept s (t.restart cause) := by
  refine h.trans ?_
  unfold State.restart
  repeat' first
    | with_reducible exact PermitKept.rfl
    | with_reducible intro _ _
    | with_reducible refine State.countAwake_permit _ ?_
    | with_reducible refine State.fresh_permit _ _ ?_
    | with_reducible refine State.logFlush_permit _ ?_
    | with_reducible refine State.logStart_permit _ _ ?_
    | with_reducible refine State.mCnt_permit _ _ ?_
    | with_reducible refine State.sessionEnd_permit _ _ ?_
    | with_reducible refine State.startImages_permit _ _ ?_
    | with_reducible refine State.toSpore_permit _ _ ?_
    | split
    | dsimp only

theorem execVsLogicPowerUp_permit (dt : Nat) (s : State) : ∃ u, execVsLogicPowerUp dt s = .next u ∧ PermitKept s u := by
  refine ⟨_, rfl, ?_⟩
  repeat' first
    | with_reducible exact PermitKept.rfl
    | with_reducible refine PermitKept.ite ?_ ?_
    | with_reducible intro _ _
    | with_reducible refine State.advance_permit _ _ ?_
    | with_reducible refine State.restart_permit _ _ ?_

theorem State.smBoot_permit {s : State} (t : State) (selfOk : Bool) (h : PermitKept s t) :
    PermitKept s (t.smBoot selfOk) := by
  refine h.trans ?_
  unfold State.smBoot
  repeat' first
    | with_reducible refine State.mSafe_permit _ _ (fun _ h => h) ?_
    | with_reducible refine State.mSafe_permit _ _ (fun _ h => Permit.noConfusion h) ?_
    | with_reducible refine State.mSafe_permit _ _ (fun _ h => permit_ite h (fun _ e => Permit.noConfusion e) (fun _ e => Permit.noConfusion e)) ?_
    | with_reducible refine State.mSafe_permit _ _ (fun _ h => permit_ite h (fun _ e => Permit.noConfusion e) (fun _ e => e)) ?_
    | with_reducible refine State.mSafe_permit _ _ (fun _ h => permit_ite h (fun c _ => eq_of_beq c) (fun _ e => Permit.noConfusion e)) ?_
    | with_reducible refine State.mSafe_permit _ _ (fun _ h => permit_boot h) ?_
    | with_reducible exact PermitKept.rfl
    | with_reducible refine PermitKept.ite ?_ ?_
    | with_reducible intro _ _
    | with_reducible refine State.logSm_permit _ _ _ _ ?_
    | with_reducible refine State.setLatch_permit _ _ _ _ ?_
    | with_reducible refine State.smStart_permit _ _ ?_
    | split
    | dsimp only

theorem execSmStart_permit (dt : Nat) (selfOk : Bool) (s : State) : ∃ u, execSmStart dt selfOk s = .next u ∧ PermitKept s u := by
  refine ⟨_, rfl, ?_⟩
  repeat' first
    | with_reducible exact PermitKept.rfl
    | with_reducible intro _ _
    | with_reducible refine State.advance_permit _ _ ?_
    | with_reducible refine State.smBoot_permit _ _ ?_

theorem State.logE_permit {s : State} (t : State) (cls : Nat) (code : Nat) (data : List Byte) (h : PermitKept s t) :
    PermitKept s (t.logE cls code data) :=
  PermitKept.skip ((State.logE_only (l := [.log]) _ _ _ _ (Within.self _)).2 Only.rfl) (by decide) h

theorem State.outputsGone_permit {s : State} (t : State) (h : PermitKept s t) :
    PermitKept s (t.outputsGone) :=
  PermitKept.skip ((State.outputsGone_only (l := [.loop, .fan]) _ (Within.self _)).2 Only.rfl) (by decide) h

theorem State.supplyGone_permit {s : State} (t : State)  (h : PermitKept s t) : PermitKept s (t.supplyGone) := by
  refine h.trans ?_
  unfold State.supplyGone
  refine State.outputsGone_permit _ (State.releaseAll_permit _ (State.mSafe_permit _ _ (fun _ h => ?_) ?_))
  · exact permit_ite h (fun _ e => Permit.noConfusion e) (fun _ e => Permit.noConfusion e)
  · exact PermitKept.ite (State.mCnt_permit _ _ PermitKept.rfl) PermitKept.rfl

theorem State.powerDown_permit {s : State} (t : State) (h : PermitKept s t) :
    PermitKept s (t.powerDown) := by
  refine h.trans ?_
  unfold State.powerDown
  repeat' first
    | with_reducible refine State.mSafe_permit _ _ (fun _ h => h) ?_
    | with_reducible refine State.mSafe_permit _ _ (fun _ h => Permit.noConfusion h) ?_
    | with_reducible refine State.mSafe_permit _ _ (fun _ h => permit_ite h (fun _ e => Permit.noConfusion e) (fun _ e => Permit.noConfusion e)) ?_
    | with_reducible refine State.mSafe_permit _ _ (fun _ h => permit_ite h (fun _ e => Permit.noConfusion e) (fun _ e => e)) ?_
    | with_reducible refine State.mSafe_permit _ _ (fun _ h => permit_ite h (fun c _ => eq_of_beq c) (fun _ e => Permit.noConfusion e)) ?_
    | with_reducible refine State.mSafe_permit _ _ (fun _ h => permit_boot h) ?_
    | with_reducible exact PermitKept.rfl
    | with_reducible intro _ _
    | with_reducible refine State.countAwake_permit _ ?_
    | with_reducible refine State.logE_permit _ _ _ _ ?_
    | with_reducible refine State.logFlush_permit _ ?_
    | with_reducible refine State.mPow_permit _ _ ?_
    | with_reducible refine State.supplyGone_permit _ ?_
    | with_reducible refine PermitKept.ite ?_ ?_
    | split

theorem execVsLogicPowerDown_permit (dt : Nat) (s : State) : ∃ u, execVsLogicPowerDown dt s = .next u ∧ PermitKept s u := by
  refine ⟨_, rfl, ?_⟩
  repeat' first
    | with_reducible exact PermitKept.rfl
    | with_reducible intro _ _
    | with_reducible refine State.advance_permit _ _ ?_
    | with_reducible refine State.powerDown_permit _ ?_

theorem execVsLogicRecoverInPowerDown_permit (dt : Nat) (s : State) : ∃ u, execVsLogicRecoverInPowerDown dt s = .next u ∧ PermitKept s u := by
  refine ⟨_, rfl, ?_⟩
  repeat' first
    | with_reducible exact PermitKept.rfl
    | with_reducible refine PermitKept.ite ?_ ?_
    | with_reducible intro _ _
    | with_reducible refine State.advance_permit _ _ ?_
    | with_reducible refine State.restart_permit _ _ ?_

theorem execFullReset_permit (dt : Nat) (s : State) : ∃ u, execFullReset dt s = .next u ∧ PermitKept s u := by
  refine ⟨_, rfl, ?_⟩
  repeat' first
    | with_reducible exact PermitKept.rfl
    | with_reducible refine PermitKept.ite ?_ ?_
    | with_reducible intro _ _
    | with_reducible refine State.advance_permit _ _ ?_
    | with_reducible refine State.restart_permit _ _ ?_
    | split

theorem State.mLog_permit {s : State} (t : State) (f : Log → Log) (h : PermitKept s t) :
    PermitKept s (t.mLog f) :=
  PermitKept.skip ((State.mLog_only (l := [.log]) _ _ (Within.self _)).2 Only.rfl) (by decide) h

theorem State.wakeUp_permit {s : State} (t : State) (h : PermitKept s t) :
    PermitKept s (t.wakeUp) := by
  refine h.trans ?_
  unfold State.wakeUp
  repeat' first
    | with_reducible exact PermitKept.rfl
    | with_reducible intro _ _
    | with_reducible refine State.restart_permit _ _ ?_

theorem State.mossReached_permit {s : State} (t : State) (h : PermitKept s t) :
    PermitKept s (t.mossReached) := by
  refine h.trans ?_
  unfold State.mossReached
  repeat' first
    | with_reducible exact PermitKept.rfl
    | with_reducible refine PermitKept.ite ?_ ?_
    | with_reducible intro _ _
    | with_reducible refine State.countAwake_permit _ ?_
    | with_reducible refine State.logE_permit _ _ _ _ ?_
    | with_reducible refine State.logFlush_permit _ ?_
    | with_reducible refine State.mCnt_permit _ _ ?_
    | with_reducible refine State.mLog_permit _ _ ?_
    | with_reducible refine State.mPow_permit _ _ ?_
    | with_reducible refine State.sessionEnd_permit _ _ ?_
    | with_reducible refine State.supplyGone_permit _ ?_
    | with_reducible refine State.wakeUp_permit _ ?_
    | split

theorem execMossShutdown_permit (dt : Nat) (s : State) : ∃ u, execMossShutdown dt s = .next u ∧ PermitKept s u := by
  refine ⟨_, rfl, ?_⟩
  repeat' first
    | with_reducible exact PermitKept.rfl
    | with_reducible intro _ _
    | with_reducible refine State.advance_permit _ _ ?_
    | with_reducible refine State.mossReached_permit _ ?_

theorem State.wakeEvent_permit {s : State} (t : State) (i : Fin 4) (enabled : Bool) (h : PermitKept s t) :
    PermitKept s (t.wakeEvent i enabled) := by
  refine h.trans ?_
  unfold State.wakeEvent
  repeat' first
    | with_reducible exact PermitKept.rfl
    | with_reducible refine PermitKept.ite ?_ ?_
    | with_reducible intro _ _
    | with_reducible refine State.mPow_permit _ _ ?_
    | with_reducible refine State.wakeUp_permit _ ?_

theorem execWakeSymbolRx_permit (dt : Nat) (port : PortId) (s : State) : ∃ u, execWakeSymbolRx dt port s = .next u ∧ PermitKept s u := by
  refine ⟨_, rfl, ?_⟩
  repeat' first
    | with_reducible exact PermitKept.rfl
    | with_reducible refine PermitKept.ite ?_ ?_
    | with_reducible intro _ _
    | with_reducible refine State.advance_permit _ _ ?_
    | with_reducible refine State.wakeEvent_permit _ _ _ ?_

theorem execDi00Wake_permit (dt : Nat) (rising : Bool) (s : State) : ∃ u, execDi00Wake dt rising s = .next u ∧ PermitKept s u := by
  refine ⟨_, rfl, ?_⟩
  repeat' first
    | with_reducible exact PermitKept.rfl
    | with_reducible intro _ _
    | with_reducible refine State.advance_permit _ _ ?_
    | with_reducible refine State.wakeEvent_permit _ _ _ ?_

theorem execSvcWake_permit (dt : Nat) (s : State) : ∃ u, execSvcWake dt s = .next u ∧ PermitKept s u := by
  refine ⟨_, rfl, ?_⟩
  repeat' first
    | with_reducible exact PermitKept.rfl
    | with_reducible intro _ _
    | with_reducible refine State.advance_permit _ _ ?_
    | with_reducible refine State.wakeEvent_permit _ _ _ ?_

theorem State.mDrvCh_permit {s : State} (t : State) (n : Fin 32) (f : Driver → Driver) (h : PermitKept s t) :
    PermitKept s (t.mDrvCh n f) :=
  PermitKept.skip ((State.mDrvCh_only (l := [.drv]) _ _ _ (Within.self _)).2 Only.rfl) (by decide) h

theorem State.mEnergy_permit {s : State} (t : State) (f : Energy → Energy) (h : PermitKept s t) :
    PermitKept s (t.mEnergy f) :=
  PermitKept.skip ((State.mEnergy_only (l := [.energy]) _ _ (Within.self _)).2 Only.rfl) (by decide) h

theorem State.mFanCh_permit {s : State} (t : State) (n : Fin 12) (f : Fan → Fan) (h : PermitKept s t) :
    PermitKept s (t.mFanCh n f) :=
  PermitKept.skip ((State.mFanCh_only (l := [.fan]) _ _ _ (Within.self _)).2 Only.rfl) (by decide) h

theorem State.mLo_permit {s : State} (t : State) (n : Fin 8) (f : LoopOut → LoopOut) (h : PermitKept s t) :
    PermitKept s (t.mLo n f) :=
  PermitKept.skip ((State.mLo_only (l := [.loop]) _ _ _ (Within.self _)).2 Only.rfl) (by decide) h

theorem State.latchMeas_permit {s : State} (t : State) (m : Meas) (h : PermitKept s t) :
    PermitKept s (t.latchMeas m) := by
  refine h.trans ?_
  unfold State.latchMeas
  repeat' first
    | with_reducible refine State.mSafe_permit _ _ (fun _ h => h) ?_
    | with_reducible refine State.mSafe_permit _ _ (fun _ h => Permit.noConfusion h) ?_
    | with_reducible refine State.mSafe_permit _ _ (fun _ h => permit_ite h (fun _ e => Permit.noConfusion e) (fun _ e => Permit.noConfusion e)) ?_
    | with_reducible refine State.mSafe_permit _ _ (fun _ h => permit_ite h (fun _ e => Permit.noConfusion e) (fun _ e => e)) ?_
    | with_reducible refine State.mSafe_permit _ _ (fun _ h => permit_ite h (fun c _ => eq_of_beq c) (fun _ e => Permit.noConfusion e)) ?_
    | with_reducible refine State.mSafe_permit _ _ (fun _ h => permit_boot h) ?_
    | with_reducible exact PermitKept.rfl
    | with_reducible intro _ _
    | with_reducible refine State.mDiag_permit _ _ _ ?_
    | with_reducible refine State.mDrv_permit _ _ ?_
    | with_reducible refine State.mDrvCh_permit _ _ _ ?_
    | with_reducible refine State.mEnergy_permit _ _ ?_
    | with_reducible refine State.mFanCh_permit _ _ _ ?_
    | with_reducible refine State.mHo_permit _ _ ?_
    | with_reducible refine State.mLo_permit _ _ _ ?_
    | with_reducible refine State.mPow_permit _ _ ?_
    | with_reducible refine State.mSys_permit _ _ ?_
    | split

theorem State.mClk_permit {s : State} (t : State) (f : Clock → Clock) (h : PermitKept s t) :
    PermitKept s (t.mClk f) :=
  PermitKept.skip ((State.mClk_only (l := [.clk]) _ _ (Within.self _)).2 Only.rfl) (by decide) h

theorem State.convTick_permit {s : State} (t : State) (h : PermitKept s t) :
    PermitKept s (t.convTick) :=
  PermitKept.skip ((State.convTick_only (l := [.drv, .conv]) _ (Within.self _)).2 Only.rfl) (by decide) h

theorem State.loopsTick_permit {s : State} (t : State) (t' : Nat) (h : PermitKept s t) :
    PermitKept s (t.loopsTick t') :=
  PermitKept.skip ((State.loopsTick_only (l := [.loop]) _ _ (Within.self _)).2 Only.rfl) (by decide) h

theorem State.pdReview_permit {s : State} (t : State) (h : PermitKept s t) :
    PermitKept s (t.pdReview) :=
  PermitKept.skip ((State.pdReview_only (l := [.pow, .fe, .drv, .fan]) _ (Within.self _)).2 Only.rfl) (by decide) h

theorem State.fanTables_permit {s : State} (t : State) (now : Nat) (h : PermitKept s t) :
    PermitKept s (t.fanTables now) :=
  PermitKept.skip ((State.fanTables_only (l := [.fan]) _ _ (Within.self _)).2 Only.rfl) (by decide) h

theorem State.discharge_permit {s : State} (t : State) (t' : Nat) (h : PermitKept s t) :
    PermitKept s (t.discharge t') :=
  PermitKept.skip ((State.discharge_only (l := [.prog, .energy, .free]) _ _ (Within.self _)).2 Only.rfl) (by decide) h

theorem State.pauseCheck_permit {s : State} (t : State) (h : PermitKept s t) :
    PermitKept s (t.pauseCheck) :=
  PermitKept.skip ((State.pauseCheck_only (l := [.prog]) _ (Within.self _)).2 Only.rfl) (by decide) h

theorem State.plenumClose_permit {s : State} (t : State) (h : PermitKept s t) :
    PermitKept s (t.plenumClose) :=
  PermitKept.skip ((State.plenumClose_only (l := [.loop, .drv]) _ (Within.self _)).2 Only.rfl) (by decide) h

theorem State.plenumDrive_permit {s : State} (t : State) (u : Nat) (h : PermitKept s t) :
    PermitKept s (t.plenumDrive u) :=
  PermitKept.skip ((State.plenumDrive_only (l := [.loop, .drv]) _ _ (Within.self _)).2 Only.rfl) (by decide) h

theorem State.batchWater_permit {s : State} (t : State) (next : PState) (t' : Nat) (h : PermitKept s t) :
    PermitKept s (t.batchWater next t') :=
  PermitKept.skip ((State.batchWater_only (l := [.prog, .energy, .free]) _ _ _ (Within.self _)).2 Only.rfl) (by decide) h

theorem State.enterRun_permit {s : State} (t : State) (t' : Nat) (h : PermitKept s t) :
    PermitKept s (t.enterRun t') :=
  PermitKept.skip ((State.enterRun_only (l := [.prog]) _ _ (Within.self _)).2 Only.rfl) (by decide) h

theorem State.progEnter_permit {s : State} (t : State) (next : PState) (cause : Nat) (t' : Nat) (h : PermitKept s t) :
    PermitKept s (t.progEnter next cause t') := by
  refine h.trans ?_
  unfold State.progEnter
  repeat' first
    | with_reducible refine State.mSafe_permit _ _ (fun _ h => h) ?_
    | with_reducible refine State.mSafe_permit _ _ (fun _ h => Permit.noConfusion h) ?_
    | with_reducible refine State.mSafe_permit _ _ (fun _ h => permit_ite h (fun _ e => Permit.noConfusion e) (fun _ e => Permit.noConfusion e)) ?_
    | with_reducible refine State.mSafe_permit _ _ (fun _ h => permit_ite h (fun _ e => Permit.noConfusion e) (fun _ e => e)) ?_
    | with_reducible refine State.mSafe_permit _ _ (fun _ h => permit_ite h (fun c _ => eq_of_beq c) (fun _ e => Permit.noConfusion e)) ?_
    | with_reducible refine State.mSafe_permit _ _ (fun _ h => permit_boot h) ?_
    | with_reducible exact PermitKept.rfl
    | with_reducible refine PermitKept.ite ?_ ?_
    | with_reducible intro _ _
    | with_reducible refine State.batchWater_permit _ _ _ ?_
    | with_reducible refine State.enterRun_permit _ _ ?_
    | with_reducible refine State.logAs_permit _ _ _ _ _ _ ?_
    | with_reducible refine State.mProg_permit _ _ ?_

theorem State.plenumLoop_permit {s : State} (t : State) (t' : Nat) (h : PermitKept s t) :
    PermitKept s (t.plenumLoop t') := by
  refine h.trans ?_
  unfold State.plenumLoop
  repeat' first
    | with_reducible exact PermitKept.rfl
    | with_reducible intro _ _
    | with_reducible refine State.mProg_permit _ _ ?_
    | with_reducible refine State.plenumClose_permit _ ?_
    | with_reducible refine State.plenumDrive_permit _ _ ?_
    | with_reducible refine State.progEnter_permit _ _ _ _ ?_
    | split

theorem State.progEvent_permit {s : State} (t : State) (t' : Nat) (h : PermitKept s t) :
    PermitKept s (t.progEvent t') := by
  refine h.trans ?_
  unfold State.progEvent
  repeat' first
    | with_reducible exact PermitKept.rfl
    | with_reducible refine PermitKept.ite ?_ ?_
    | with_reducible intro _ _
    | with_reducible refine State.mProg_permit _ _ ?_
    | with_reducible refine State.progEnter_permit _ _ _ _ ?_
    | split
    | dsimp only

theorem State.progOutputs_permit {s : State} (t : State) (changed : Bool) (h : PermitKept s t) :
    PermitKept s (t.progOutputs changed) :=
  PermitKept.skip ((State.progOutputs_only (l := [.loop, .drv, .fan]) _ _ (Within.self _)).2 Only.rfl) (by decide) h

theorem State.progPermitLost_permit {s : State} (t : State) (t' : Nat) (h : PermitKept s t) :
    PermitKept s (t.progPermitLost t') := by
  refine h.trans ?_
  unfold State.progPermitLost
  repeat' first
    | with_reducible exact PermitKept.rfl
    | with_reducible refine PermitKept.ite ?_ ?_
    | with_reducible intro _ _
    | with_reducible refine State.mProg_permit _ _ ?_
    | with_reducible refine State.progEnter_permit _ _ _ _ ?_
    | split

theorem State.progReq_permit {s : State} (t : State) (t' : Nat) (r : ProgReq) (h : PermitKept s t) :
    PermitKept s (t.progReq t' r) := by
  refine h.trans ?_
  unfold State.progReq
  repeat' first
    | with_reducible exact PermitKept.rfl
    | with_reducible refine PermitKept.ite ?_ ?_
    | with_reducible intro _ _
    | with_reducible refine State.progEnter_permit _ _ _ _ ?_
    | split

theorem State.progTick_permit {s : State} (t : State) (t' : Nat) (h : PermitKept s t) :
    PermitKept s (t.progTick t') := by
  refine h.trans ?_
  unfold State.progTick
  repeat' first
    | with_reducible exact PermitKept.rfl
    | with_reducible refine PermitKept.ite ?_ ?_
    | with_reducible refine PermitKept.each ?_ ?_
    | with_reducible intro _ _
    | with_reducible refine State.discharge_permit _ _ ?_
    | with_reducible refine State.mEnergy_permit _ _ ?_
    | with_reducible refine State.mProg_permit _ _ ?_
    | with_reducible refine State.pauseCheck_permit _ ?_
    | with_reducible refine State.plenumLoop_permit _ _ ?_
    | with_reducible refine State.progEvent_permit _ _ ?_
    | with_reducible refine State.progOutputs_permit _ _ ?_
    | with_reducible refine State.progPermitLost_permit _ _ ?_
    | with_reducible refine State.progReq_permit _ _ _ ?_

theorem State.processTick_permit {s : State} (t : State) (t' : Nat) (h : PermitKept s t) :
    PermitKept s (t.processTick t') := by
  refine h.trans ?_
  unfold State.processTick
  repeat' first
    | with_reducible exact PermitKept.rfl
    | with_reducible intro _ _
    | with_reducible refine State.fanTables_permit _ _ ?_
    | with_reducible refine State.mClk_permit _ _ ?_
    | with_reducible refine State.progTick_permit _ _ ?_

theorem State.processHeld_permit {s : State} (t : State) (t' : Nat) (h : PermitKept s t) :
    PermitKept s (t.processHeld t') := by
  refine h.trans ?_
  unfold State.processHeld
  repeat' first
    | with_reducible exact PermitKept.rfl
    | with_reducible refine PermitKept.ite ?_ ?_
    | with_reducible intro _ _
    | with_reducible refine State.mSys_permit _ _ ?_
    | with_reducible refine State.processTick_permit _ _ ?_

theorem State.coreMs_permit {s : State} (t : State) (t' : Nat) (h : PermitKept s t) :
    PermitKept s (t.coreMs t') := by
  refine h.trans ?_
  unfold State.coreMs
  repeat' first
    | with_reducible exact PermitKept.rfl
    | with_reducible intro _ _
    | with_reducible refine State.convTick_permit _ ?_
    | with_reducible refine State.loopsTick_permit _ _ ?_
    | with_reducible refine State.pdReview_permit _ ?_
    | with_reducible refine State.processHeld_permit _ _ ?_

theorem State.fallbackTick_permit {s : State} (t : State) (h : PermitKept s t) :
    PermitKept s (t.fallbackTick) :=
  PermitKept.skip ((State.fallbackTick_only (l := [.sys, .pow, .ring, .frm, .log, .upd, .ho]) _ (Within.self _)).2 Only.rfl) (by decide) h

theorem State.hardMs_permit {s : State} (t : State) (t' : Nat) (held : Bool) (h : PermitKept s t) :
    PermitKept s (t.hardMs t' held) :=
  PermitKept.skip ((State.hardMs_only (l := [.fe, .loop, .drv, .fan, .free]) _ _ _ (Within.self _)).2 Only.rfl) (by decide) h

theorem State.hoTick_permit {s : State} (t : State) (t' : Nat) (h : PermitKept s t) :
    PermitKept s (t.hoTick t') :=
  PermitKept.skip ((State.hoTick_only (l := [.sys, .log, .cnt, .upd, .ho]) _ _ (Within.self _)).2 Only.rfl) (by decide) h

theorem State.mTab_permit {s : State} (t : State) (f : Tables → Tables) (h : PermitKept s t) :
    PermitKept s (t.mTab f) :=
  PermitKept.skip ((State.mTab_only (l := [.tab]) _ _ (Within.self _)).2 Only.rfl) (by decide) h

theorem mergeOne_permit {s : State} (t' : Nat) (k : List Placed) (a : State × State) (x : Placed × Nat) (c : PermitKept s a.1) :
    PermitKept s (mergeOne t' k a x).1 := by
  have ha : ∀ (u : State) (o : Order) (st : Status) (d : List Byte) (b : Bool), PermitKept s u → PermitKept s (u.answer o st d b) := fun u o st d b
    e =>
    PermitKept.skip ((State.answer_only (l := [.frm, .auth]) u o st d b (by decide)).2 Only.rfl) (by decide) e
  have hf : ∀ (u : State) (f : Frames → Frames), PermitKept s u → PermitKept s (u.mFrm f) := fun u f d =>
    PermitKept.skip ((State.mFrm_only (l := [.frm]) _ _ (by decide)).2 Only.rfl) (by decide) d
  unfold mergeOne
  dsimp only
  split
  · exact ha _ _ _ _ _ c
  · split
    · exact ha _ _ _ _ _ c
    · split
      · exact PermitKept.skip ((State.winAdmit_only (l := [.frm, .auth]) _ _ (by decide)).2 Only.rfl) (by decide) (PermitKept.free _ (hf _ _ c))
      · split
        · exact ha _ _ _ _ _ (PermitKept.free _ (hf _ _ c))
        · exact ha _ _ _ _ _ (PermitKept.free _ (hf _ _ c))

theorem addrAssign_permit {s : State} (serial : Nat) (addr : Nat) (pin : Nat) (q : Req) (k : Target → Bool) (t : State) (h : PermitKept s t) :
    PermitKept s ((addrAssign serial addr pin).run q k t).s :=
  PermitKept.skip ((addrAssign_run (l := [.ring]) _ _ _ _ _ _ (Within.self _)).2 Only.rfl) (by decide) h

theorem addrPin_permit {s : State} (pin : Nat) (q : Req) (k : Target → Bool) (t : State) (h : PermitKept s t) :
    PermitKept s ((addrPin pin).run q k t).s :=
  PermitKept.skip ((addrPin_run (l := [.ring]) _ _ _ _ (Within.self _)).2 Only.rfl) (by decide) h

theorem bindOff_permit {s : State} (flags : Nat) (q : Req) (k : Target → Bool) (t : State) (h : PermitKept s t) :
    PermitKept s ((bindOff flags).run q k t).s :=
  PermitKept.skip ((bindOff_run (l := [.pow, .ring]) _ _ _ _ (Within.self _)).2 Only.rfl) (by decide) h

theorem castOn_permit {s : State} (base : Nat) (mode : Nat) (q : Req) (k : Target → Bool) (t : State) (h : PermitKept s t) :
    PermitKept s ((castOn base mode).run q k t).s :=
  PermitKept.skip ((castOn_run (l := [.clk, .ring]) _ _ _ _ _ (Within.self _)).2 Only.rfl) (by decide) h

theorem keyLoadOf_permit {s : State} (p : List Byte) (q : Req) (k : Target → Bool) (t : State) (h : PermitKept s t) :
    PermitKept s ((keyLoadOf p).run q k t).s :=
  PermitKept.skip ((keyLoadOf_run (l := [.auth, .log]) _ _ _ _ (Within.self _)).2 Only.rfl) (by decide) h

theorem mossEnter_permit {s : State} (q : Req) (k : Target → Bool) (t : State) (h : PermitKept s t) :
    PermitKept s ((mossEnter).run q k t).s :=
  PermitKept.skip ((mossEnter_run (l := []) _ _ _ (Within.self _)).2 Only.rfl) (by decide) h

theorem pollResult_permit {s : State} (t0 : Nat) (q : Req) (k : Target → Bool) (t : State) (h : PermitKept s t) :
    PermitKept s ((pollResult t0).run q k t).s :=
  PermitKept.skip ((pollResult_run (l := [.auth]) _ _ _ _ (Within.self _)).2 Only.rfl) (by decide) h

theorem ringRate_permit {s : State} (rate : Nat) (bidx : Nat) (q : Req) (k : Target → Bool) (t : State) (h : PermitKept s t) :
    PermitKept s ((ringRate rate bidx).run q k t).s :=
  PermitKept.skip ((ringRate_run (l := [.ring]) _ _ _ _ _ (Within.self _)).2 Only.rfl) (by decide) h

theorem ringStatus_permit {s : State} (q : Req) (k : Target → Bool) (t : State) (h : PermitKept s t) :
    PermitKept s ((ringStatus).run q k t).s :=
  PermitKept.skip ((ringStatus_run (l := [.clk]) _ _ _ (Within.self _)).2 Only.rfl) (by decide) h

theorem sessionClose_permit {s : State} (q : Req) (k : Target → Bool) (t : State) (h : PermitKept s t) :
    PermitKept s ((sessionClose).run q k t).s :=
  PermitKept.skip ((sessionClose_run (l := []) _ _ _ (Within.self _)).2 Only.rfl) (by decide) h

theorem sessionOpen_permit {s : State} (slot : Nat) (nh : List Byte) (q : Req) (k : Target → Bool) (t : State) (h : PermitKept s t) :
    PermitKept s ((sessionOpen slot nh).run q k t).s :=
  PermitKept.skip ((sessionOpen_run (l := [.auth, .free]) _ _ _ _ _ (Within.self _)).2 Only.rfl) (by decide) h

theorem sweep_permit {s : State} (bidx : Nat) (q : Req) (k : Target → Bool) (t : State) (h : PermitKept s t) :
    PermitKept s ((sweep bidx).run q k t).s :=
  PermitKept.skip ((sweep_run (l := []) _ _ _ _ (Within.self _)).2 Only.rfl) (by decide) h

theorem sweepResume_permit {s : State} (bidx : Nat) (q : Req) (k : Target → Bool) (t : State) (h : PermitKept s t) :
    PermitKept s ((sweepResume bidx).run q k t).s :=
  PermitKept.skip ((sweepResume_run (l := []) _ _ _ _ (Within.self _)).2 Only.rfl) (by decide) h

theorem wakeSend_permit {s : State} (port : Nat) (q : Req) (k : Target → Bool) (t : State) (h : PermitKept s t) :
    PermitKept s ((wakeSend port).run q k t).s :=
  PermitKept.skip ((wakeSend_run (l := [.ring]) _ _ _ _ (Within.self _)).2 Only.rfl) (by decide) h

theorem ctrlOp0_permit {s : State} {opc : Nat} {p : List Byte} {o : Op} (e : ctrlOp0 opc p = some o) (q : Req) (k : Target → Bool) (t : State) (h :
    PermitKept s t) :
    PermitKept s (o.run q k t).s := by
  refine h.trans ?_
  unfold ctrlOp0 at e
  split at e <;> cases e
  all_goals repeat' first
    | with_reducible exact PermitKept.rfl
    | with_reducible refine addrAssign_permit _ _ _ _ _ _ ?_
    | with_reducible refine addrPin_permit _ _ _ _ ?_
    | with_reducible refine bindOff_permit _ _ _ _ ?_
    | with_reducible refine castOn_permit _ _ _ _ _ ?_
    | with_reducible refine keyLoadOf_permit _ _ _ _ ?_
    | with_reducible refine mossEnter_permit _ _ _ ?_
    | with_reducible refine needleGive_permit _ _ _ _ ?_
    | with_reducible refine needleTake_permit _ _ _ _ _ ?_
    | with_reducible refine pollResult_permit _ _ _ _ ?_
    | with_reducible refine ringRate_permit _ _ _ _ _ ?_
    | with_reducible refine ringStatus_permit _ _ _ ?_
    | with_reducible refine sessionClose_permit _ _ _ ?_
    | with_reducible refine sessionOpen_permit _ _ _ _ _ ?_
    | with_reducible refine sweep_permit _ _ _ _ ?_
    | with_reducible refine sweepResume_permit _ _ _ _ ?_
    | with_reducible refine wakeSend_permit _ _ _ _ ?_
    | dsimp only [Op.sized, Op.least, Op.noKind]

theorem safeConfigOf_permit {s : State} (p : List Byte) (q : Req) (k : Target → Bool) (t : State) (h : PermitKept s t) :
    PermitKept s ((safeConfigOf p).run q k t).s := by
  refine h.trans ?_
  dsimp only [safeConfigOf, Op.read, Op.readTagged, Op.order, Op.orderLen, Op.orderMem, Op.readMem, Op.sized, Op.least, Op.noKind]
  repeat' first
    | with_reducible exact PermitKept.rfl
    | with_reducible refine PermitKept.ite ?_ ?_
    | with_reducible intro _ _
    | with_reducible refine PermitKept.bad ?_
    | with_reducible refine PermitKept.ok ?_
    | with_reducible refine safeConfigConfirm_permit _ _ _ _ ?_
    | with_reducible refine safeConfigWrite_permit _ _ _ _ ?_
    | split

theorem safeConfigRead_permit {s : State} (which : Nat) (q : Req) (k : Target → Bool) (t : State) (h : PermitKept s t) :
    PermitKept s ((safeConfigRead which).run q k t).s :=
  PermitKept.skip ((safeConfigRead_run (l := []) _ _ _ _ (Within.self _)).2 Only.rfl) (by decide) h

theorem safeStatus_permit {s : State} (q : Req) (k : Target → Bool) (t : State) (h : PermitKept s t) :
    PermitKept s ((safeStatus).run q k t).s :=
  PermitKept.skip ((safeStatus_run (l := []) _ _ _ (Within.self _)).2 Only.rfl) (by decide) h

theorem ctrlOp4_permit {s : State} {opc : Nat} {p : List Byte} {o : Op} (e : ctrlOp4 opc p = some o) (q : Req) (k : Target → Bool) (t : State) (h :
    PermitKept s t) :
    PermitKept s (o.run q k t).s := by
  refine h.trans ?_
  unfold ctrlOp4 at e
  split at e <;> cases e
  all_goals repeat' first
    | with_reducible exact PermitKept.rfl
    | with_reducible refine permitDrop_permit _ _ _ ?_
    | with_reducible refine permitRequest_permit _ _ _ ?_
    | with_reducible refine proofTest_permit _ _ _ _ ?_
    | with_reducible refine safeConfigOf_permit _ _ _ _ ?_
    | with_reducible refine safeConfigRead_permit _ _ _ _ ?_
    | with_reducible refine safeReset_permit _ _ _ _ ?_
    | with_reducible refine safeStatus_permit _ _ _ ?_
    | dsimp only [Op.sized, Op.least, Op.noKind]

theorem baseOp_permit {s : State} {mem : Bool} {opc : Nat} {p : List Byte} {o : Op} (e : baseOp mem opc p = some o) (q : Req)
    (k : Target → Bool) (t : State) (h : PermitKept s t) : PermitKept s (o.run q k t).s := by
  unfold baseOp at e
  split at e
  · split at e
    · exact PermitKept.skip ((memOp0_run (l := [.clk, .sys, .pow, .ring, .frm, .auth, .run, .fe, .snap, .loop, .die, .drv, .fan, .prog, .conv,
    .stitch, .lich, .therm, .inj, .log, .se, .upd, .ho, .mem, .free]) e q k t (Within.self _)).2 Only.rfl) (by decide) h
    · exact PermitKept.skip ((memOp1_run (l := [.clk, .sys, .pow, .ring, .frm, .auth, .fe, .loop, .die, .drv, .fan, .prog, .conv, .stitch, .lich,
    .therm, .inj, .log, .se, .upd, .ho]) e q k t (Within.self _)).2 Only.rfl) (by decide) h
  · split at e
    · exact ctrlOp0_permit e q k t h
    · exact PermitKept.skip ((ctrlOp1_run (l := [.run, .tab, .lich, .therm]) e q k t (Within.self _)).2 Only.rfl) (by decide) h
    · exact PermitKept.skip ((ctrlOp1_run (l := [.run, .tab, .lich, .therm]) e q k t (Within.self _)).2 Only.rfl) (by decide) h
    · exact PermitKept.skip ((ctrlOp2_run (l := [.frm, .run, .fe, .die, .drv, .prog, .stitch, .inj, .log, .free]) e q k t (Within.self _)).2
        Only.rfl) (by decide) h
    · exact PermitKept.skip ((ctrlOp2_run (l := [.frm, .run, .fe, .die, .drv, .prog, .stitch, .inj, .log, .free]) e q k t (Within.self _)).2
        Only.rfl) (by decide) h
    · exact PermitKept.skip ((ctrlOp3_run (l := [.run, .loop, .drv, .fan, .prog, .conv, .stitch, .energy, .inj, .log, .free]) e q k t (Within.self
        _)).2 Only.rfl) (by decide) h
    · exact PermitKept.skip ((ctrlOp3_run (l := [.run, .loop, .drv, .fan, .prog, .conv, .stitch, .energy, .inj, .log, .free]) e q k t (Within.self
        _)).2 Only.rfl) (by decide) h
    · exact ctrlOp4_permit e q k t h

theorem opOf_permit {s : State} {mem : Bool} {opc : Nat} {p : List Byte} {o : Op} (e : opOf mem opc p = some o) (q : Req)
    (k : Target → Bool) (t : State) (h : PermitKept s t) : PermitKept s (o.run q k t).s := by
  unfold opOf at e
  split at e
  · exact baseOp_permit e q k t h
  · split at e
    · cases e; exact PermitKept.skip ((cfgRead_run (l := []) _ _ _ q k t (by decide)).2 Only.rfl) (by decide) h
    · cases e; exact PermitKept.skip ((cfgWrite_run (l := [.frm, .run, .fe, .loop, .die, .drv, .fan, .prog, .conv, .lich, .therm, .log, .se, .free])
    _ q k t (by decide)).2 Only.rfl) (by decide) h
    · cases e; exact PermitKept.skip ((cfgSave_run (l := [.frm, .cfgs]) _ q k t (by decide)).2 Only.rfl) (by decide) h
    · exact baseOp_permit e q k t h

theorem Order.run_permit {s t : State} {o : Order} {keep : Target → Bool} {us : Option Nat} (c : PermitKept s t) : PermitKept s (o.run keep us t).s
    := by
  unfold Order.run Order.op
  dsimp only
  unfold State.settled
  refine PermitKept.skip ((State.mFrm_only (l := [.frm]) _ _ (by decide)).2 Only.rfl) (by decide) ?_
  cases e : opOf o.mem o.opc o.payload with
  | none => exact PermitKept.skip ((State.mFrm_only (l := [.frm]) _ _ (by decide)).2 Only.rfl) (by decide) c
  | some op =>
    exact opOf_permit e o.q keep _ (PermitKept.skip ((State.mFrm_only (l := [.frm]) _ _ (by decide)).2 Only.rfl) (by decide) c)

theorem State.place_permit {s : State} (t : State) (k : List Order) (c : PermitKept s t) : PermitKept s (t.place k).1 := by
  unfold State.place
  refine PermitKept.foldl (g := fun a : State × List Placed => a.1) k ?_ _ c
  intro a o d
  dsimp only
  split
  · exact Order.run_permit d
  · split <;> exact d

theorem State.merge_permit {s : State} (t : State) (t' : Nat) (h : PermitKept s t) : PermitKept s (t.merge t') := by
  refine h.trans ?_
  unfold State.merge
  dsimp only
  refine PermitKept.foldl (g := fun a : State × State => a.1) _ (fun a x d => mergeOne_permit _ _ a x d) _ ?_
  refine State.place_permit _ _ ?_
  exact PermitKept.skip ((State.mLich_only (l := [.frm, .lich]) _ _ (by decide)).2 ((State.mFrm_only _ _ (by decide)).2 Only.rfl)) (by decide)
      PermitKept.rfl

theorem State.actsLive_permit {s : State} (t : State) (h : PermitKept s t) :
    PermitKept s (t.actsLive) :=
  PermitKept.skip ((State.actsLive_only (l := [.loop, .drv, .fan, .prog, .conv, .stitch, .lich, .inj, .log]) _ (Within.self _)).2 Only.rfl) (by
    decide) h

theorem State.applyOne_permit {s : State} (t : State) (t' : Nat) (x : Staged) (h : PermitKept s t) : PermitKept s (t.applyOne t' x) := by
  refine h.trans ?_
  have hf : ∀ (u v : State) (f : Frames → Frames), PermitKept v u → PermitKept v (u.mFrm f) := fun u v f d =>
    PermitKept.skip ((State.mFrm_only (l := [.frm]) _ _ (by decide)).2 Only.rfl) (by decide) d
  have hn : ∀ (u v : State) t st d, PermitKept v u → PermitKept v (u.finish t st d) := fun u v t st d e =>
    PermitKept.skip ((State.finish_only (l := [.frm]) _ _ _ _ (by decide)).2 Only.rfl) (by decide) e
  unfold State.applyOne
  dsimp only
  refine PermitKept.ite PermitKept.rfl (PermitKept.ite ?_ ?_)
  · exact PermitKept.free _ (hf _ _ _ (Order.run_permit (PermitKept.free _ (hf _ _ _ (hf _ _ _ PermitKept.rfl)))))
  · exact PermitKept.free _ (hf _ _ _ (hn _ _ _ _ _ (hf _ _ _ (Order.run_permit (PermitKept.free _ (hf _ _ _ (hf _ _ _ PermitKept.rfl)))))))

theorem State.cfgCapture_permit {s : State} (t : State) (h : PermitKept s t) :
    PermitKept s (t.cfgCapture) :=
  PermitKept.skip ((State.cfgCapture_only (l := [.cfgs]) _ (Within.self _)).2 Only.rfl) (by decide) h

theorem State.applyAll_permit {s : State} (t : State) (t' : Nat) (l' : List Staged) (h : PermitKept s t) :
    PermitKept s (t.applyAll t' l') := by
  refine h.trans ?_
  unfold State.applyAll
  repeat' first
    | with_reducible exact PermitKept.rfl
    | with_reducible refine PermitKept.each ?_ ?_
    | with_reducible intro _ _
    | with_reducible refine State.actsLive_permit _ ?_
    | with_reducible refine State.applyOne_permit _ _ _ ?_
    | with_reducible refine State.cfgCapture_permit _ ?_

theorem State.golive_permit {s : State} (t : State) (t' : Nat) (h : PermitKept s t) :
    PermitKept s (t.golive t') := by
  refine h.trans ?_
  unfold State.golive
  repeat' first
    | with_reducible exact PermitKept.rfl
    | with_reducible intro _ _
    | with_reducible refine State.applyAll_permit _ _ _ ?_
    | with_reducible refine State.mFrm_permit _ _ ?_

theorem State.missed_permit {s : State} (t : State) (h : PermitKept s t) :
    PermitKept s (t.missed) :=
  PermitKept.skip ((State.missed_only (l := [.sys, .ho]) _ (Within.self _)).2 Only.rfl) (by decide) h

theorem State.outputLatch_permit {s : State} (t : State) (t' : Nat) (h : PermitKept s t) :
    PermitKept s (t.outputLatch t') := by
  refine h.trans ?_
  unfold State.outputLatch
  repeat' first
    | with_reducible exact PermitKept.rfl
    | with_reducible refine PermitKept.ite ?_ ?_
    | with_reducible intro _ _
    | with_reducible refine State.golive_permit _ _ ?_
    | with_reducible refine State.mHo_permit _ _ ?_
    | with_reducible refine State.mSys_permit _ _ ?_
    | with_reducible refine State.missed_permit _ ?_

theorem State.seenMs_permit {s : State} (t : State) (h : PermitKept s t) :
    PermitKept s (t.seenMs) :=
  PermitKept.skip ((State.seenMs_only (l := [.frm, .loop]) _ (Within.self _)).2 Only.rfl) (by decide) h

theorem State.tickWork_permit {s : State} (t : State) (t' : Nat) (h : PermitKept s t) :
    PermitKept s (t.tickWork t') := by
  refine h.trans ?_
  unfold State.tickWork
  repeat' first
    | with_reducible exact PermitKept.rfl
    | with_reducible refine PermitKept.ite ?_ ?_
    | with_reducible intro _ _
    | with_reducible refine State.coreMs_permit _ _ ?_
    | with_reducible refine State.fallbackTick_permit _ ?_
    | with_reducible refine State.hardMs_permit _ _ _ ?_
    | with_reducible refine State.hoTick_permit _ _ ?_
    | with_reducible refine State.mSys_permit _ _ ?_
    | with_reducible refine State.mTab_permit _ _ ?_
    | with_reducible refine State.merge_permit _ _ ?_
    | with_reducible refine State.outputLatch_permit _ _ ?_
    | with_reducible refine State.seenMs_permit _ ?_

theorem State.controlTick_permit {s : State} (t : State) (l' : List Meas) (h : PermitKept s t) :
    PermitKept s (t.controlTick l') := by
  refine h.trans ?_
  unfold State.controlTick
  repeat' first
    | with_reducible exact PermitKept.rfl
    | with_reducible refine PermitKept.ite ?_ ?_
    | with_reducible refine PermitKept.each ?_ ?_
    | with_reducible intro _ _
    | with_reducible refine State.latchMeas_permit _ _ ?_
    | with_reducible refine State.mClk_permit _ _ ?_
    | with_reducible refine State.mLog_permit _ _ ?_
    | with_reducible refine State.tickWork_permit _ _ ?_

theorem execControlTick_permit (meas : List Meas) (s : State) : ∃ u, execControlTick meas s = .next u ∧ PermitKept s u := by
  refine ⟨_, rfl, ?_⟩
  repeat' first
    | with_reducible exact PermitKept.rfl
    | with_reducible intro _ _
    | with_reducible refine State.controlTick_permit _ _ ?_

theorem State.injEnd_permit {s : State} (t : State) (i : Fin 8) (h : PermitKept s t) :
    PermitKept s (t.injEnd i) :=
  PermitKept.skip ((State.injEnd_only (l := [.inj, .log]) _ _ (Within.self _)).2 Only.rfl) (by decide) h

theorem execCoreWatchdogFail_permit (dt : Nat) (s : State) : ∃ u, execCoreWatchdogFail dt s = .next u ∧ PermitKept s u := by
  refine ⟨_, rfl, ?_⟩
  repeat' first
    | with_reducible exact PermitKept.rfl
    | with_reducible refine PermitKept.ite ?_ ?_
    | with_reducible refine PermitKept.each ?_ ?_
    | with_reducible intro _ _
    | with_reducible refine State.advance_permit _ _ ?_
    | with_reducible refine State.detected_permit _ _ _ _ ?_
    | with_reducible refine State.injEnd_permit _ _ ?_
    | with_reducible refine State.removePermit_permit _ _ _ _ ?_

theorem State.cjAsk_permit {s : State} (t : State) (h : PermitKept s t) :
    PermitKept s (t.cjAsk) :=
  PermitKept.skip ((State.cjAsk_only (l := [.fe]) _ (Within.self _)).2 Only.rfl) (by decide) h

theorem execProcessTick_permit (s : State) : ∃ u, execProcessTick s = .next u ∧ PermitKept s u := by
  refine ⟨_, rfl, ?_⟩
  repeat' first
    | with_reducible exact PermitKept.rfl
    | with_reducible refine PermitKept.ite ?_ ?_
    | with_reducible intro _ _
    | with_reducible refine State.cjAsk_permit _ ?_
    | with_reducible refine State.mClk_permit _ _ ?_
    | with_reducible refine State.mSys_permit _ _ ?_
    | with_reducible refine State.processTick_permit _ _ ?_

theorem State.abortOn_permit {s : State} (t : State) (p : PortId) (f : TxFrame) (h : PermitKept s t) :
    PermitKept s (t.abortOn p f) :=
  PermitKept.skip ((State.abortOn_only (l := [.ring]) _ _ _ (Within.self _)).2 Only.rfl) (by decide) h

theorem State.crcFails_permit {s : State} (t : State) (p : PortId) (f : TxFrame) (h : PermitKept s t) :
    PermitKept s (t.crcFails p f) :=
  PermitKept.skip ((State.crcFails_only (l := [.ring]) _ _ _ (Within.self _)).2 Only.rfl) (by decide) h

theorem State.cutCopy_permit {s : State} (t : State) (p : PortId) (sent : List Byte) (n : Nat) (h : PermitKept s t) :
    PermitKept s (t.cutCopy p sent n) :=
  PermitKept.skip ((State.cutCopy_only (l := [.ring]) _ _ _ _ (Within.self _)).2 Only.rfl) (by decide) h

theorem State.dispatch_permit {s : State} (t : State) (f : Frame) (who : Sender) (x : Option Session) (h : PermitKept s t) :
    PermitKept s (t.dispatch f who x) := by
  refine h.trans ?_
  have hs : ∀ {u v : State}, Only [.frm, .auth] u v → PermitKept t u → PermitKept t v := fun o d => PermitKept.skip o (by decide) d
  unfold State.dispatch
  dsimp only
  split
  · exact hs (Only.ite ((State.countFull_only _ (by decide)).2 Only.rfl) ((State.served_only _ _ _ _ _ _ (by decide)).2 Only.rfl)) PermitKept.rfl
  · split
    · refine hs ((State.countFull_only _ (by decide)).2 ?_) PermitKept.rfl
      cases b : Op.barred _ (f.req who) t with
      | none => exact Only.rfl
      | some r => exact Op.barred_only (by decide) Only.rfl b
    · split
      · refine hs ((State.served_only _ _ _ _ _ _ (by decide)).2 ((State.mFrm_only _ _ (by decide)).2 ?_)) PermitKept.rfl
        exact Op.screen_only (by decide) ((State.mFrm_only _ _ (by decide)).2 Only.rfl) ‹_›
      · refine PermitKept.ite (hs ((State.mFrm_only _ _ (by decide)).2 Only.rfl) PermitKept.rfl) ?_
        exact hs ((State.served_only _ _ _ _ _ _ (by decide)).2 Only.rfl) (Order.run_permit PermitKept.rfl)

theorem State.mAuth_permit {s : State} (t : State) (f : Auth → Auth) (h : PermitKept s t) :
    PermitKept s (t.mAuth f) :=
  PermitKept.skip ((State.mAuth_only (l := [.auth]) _ _ (Within.self _)).2 Only.rfl) (by decide) h

theorem State.noteValid_permit {s : State} (t : State) (who : Sender) (h : PermitKept s t) :
    PermitKept s (t.noteValid who) :=
  PermitKept.skip ((State.noteValid_only (l := [.frm]) _ _ (Within.self _)).2 Only.rfl) (by decide) h

theorem State.reply_permit {s : State} (t : State) (who : Sender) (r : Reply) (h : PermitKept s t) :
    PermitKept s (t.reply who r) :=
  PermitKept.skip ((State.reply_only (l := [.frm]) _ _ _ (Within.self _)).2 Only.rfl) (by decide) h

theorem State.rateCount_permit {s : State} (t : State) (who : Sender) (h : PermitKept s t) :
    PermitKept s (t.rateCount who) :=
  PermitKept.skip ((State.rateCount_only (l := [.auth]) _ _ (Within.self _)).2 Only.rfl) (by decide) h

theorem State.refuse_permit {s : State} (t : State) (f : Frame) (who : Sender) (sess : Option Nat) (zero : Bool) (st : Status) (h : PermitKept s t) :
    PermitKept s (t.refuse f who sess zero st) :=
  PermitKept.skip ((State.refuse_only (l := [.frm]) _ _ _ _ _ _ (Within.self _)).2 Only.rfl) (by decide) h

theorem State.repeated_permit {s : State} (t : State) (f : Frame) (who : Sender) (sess : Option Nat) (e : WinEntry) (h : PermitKept s t) :
    PermitKept s (t.repeated f who sess e) :=
  PermitKept.skip ((State.repeated_only (l := [.frm]) _ _ _ _ _ (Within.self _)).2 Only.rfl) (by decide) h

theorem State.tagFailed_permit {s : State} (t : State) (who : Sender) (h : PermitKept s t) :
    PermitKept s (t.tagFailed who) :=
  PermitKept.skip ((State.tagFailed_only (l := [.auth, .log]) _ _ (Within.self _)).2 Only.rfl) (by decide) h

theorem State.winEnter_permit {s : State} (t : State) (who : Sender) (seq : Nat) (crc : Nat) (sess : Option Nat) (mctr : Nat) (h : PermitKept s t) :
    PermitKept s (t.winEnter who seq crc sess mctr) :=
  PermitKept.skip ((State.winEnter_only (l := [.frm, .auth]) _ _ _ _ _ _ (Within.self _)).2 Only.rfl) (by decide) h

theorem State.request_permit {s : State} (t : State) (l' : Lane) (b : List Byte) (h : PermitKept s t) : PermitKept s (t.request l' b) := by
  refine h.trans ?_
  unfold State.request
  repeat' first
    | with_reducible exact PermitKept.rfl
    | with_reducible refine PermitKept.ite ?_ ?_
    | with_reducible intro _ _
    | with_reducible refine State.dispatch_permit _ _ _ _ ?_
    | with_reducible refine State.mAuth_permit _ _ ?_
    | with_reducible refine State.mFrm_permit _ _ ?_
    | with_reducible refine State.noteValid_permit _ _ ?_
    | with_reducible refine State.reply_permit _ _ _ ?_
    | with_reducible refine State.rateCount_permit _ _ ?_
    | with_reducible refine State.refuse_permit _ _ _ _ _ _ ?_
    | with_reducible refine State.repeated_permit _ _ _ _ _ ?_
    | with_reducible refine State.tagFailed_permit _ _ ?_
    | with_reducible refine State.winEnter_permit _ _ _ _ _ _ ?_
    | split
    | dsimp only
  refine PermitKept.skip (l := [.auth]) (State.counterBad_only ‹_› (by decide) Only.rfl) (by decide) ?_
  refine PermitKept.ite ?_ ?_
  · exact PermitKept.skip ((State.rateCount_only (l := [.frm, .auth]) _ _ (by decide)).2 ((State.noteValid_only _ _ (by decide)).2 Only.rfl)) (by
      decide) PermitKept.rfl
  · exact PermitKept.skip ((State.noteValid_only (l := [.frm]) _ _ (by decide)).2 Only.rfl) (by decide) PermitKept.rfl

theorem State.deliver_permit {s : State} (t : State) (p : PortId) (b : List Byte) (h : PermitKept s t) :
    PermitKept s (t.deliver p b) := by
  refine h.trans ?_
  unfold State.deliver
  repeat' first
    | with_reducible exact PermitKept.rfl
    | with_reducible refine PermitKept.ite ?_ ?_
    | with_reducible intro _ _
    | with_reducible refine State.request_permit _ _ _ ?_
    | with_reducible refine State.scDone_permit _ _ ?_

theorem State.mInj_permit {s : State} (t : State) (f : Inject → Inject) (h : PermitKept s t) :
    PermitKept s (t.mInj f) :=
  PermitKept.skip ((State.mInj_only (l := [.inj]) _ _ (Within.self _)).2 Only.rfl) (by decide) h

theorem State.onward_permit {s : State} (t : State) (p : PortId) (body : List Byte) (h : PermitKept s t) :
    PermitKept s (t.onward p body) :=
  PermitKept.skip ((State.onward_only (l := [.ring]) _ _ _ (Within.self _)).2 Only.rfl) (by decide) h

theorem State.turnedOn_permit {s : State} (t : State) (p : PortId) (body : List Byte) (turn : List Byte) (h : PermitKept s t) :
    PermitKept s (t.turnedOn p body turn) :=
  PermitKept.skip ((State.turnedOn_only (l := [.ring]) _ _ _ _ (Within.self _)).2 Only.rfl) (by decide) h

theorem State.ringFrame_permit {s : State} (t : State) (p : PortId) (b : List Byte) (ending : Ending) (h : PermitKept s t) :
    PermitKept s (t.ringFrame p b ending) := by
  refine h.trans ?_
  unfold State.ringFrame
  repeat' first
    | with_reducible exact PermitKept.rfl
    | with_reducible refine PermitKept.ite ?_ ?_
    | with_reducible intro _ _
    | with_reducible refine State.abortOn_permit _ _ _ ?_
    | with_reducible refine State.crcFails_permit _ _ _ ?_
    | with_reducible refine State.cutCopy_permit _ _ _ _ ?_
    | with_reducible refine State.deliver_permit _ _ _ ?_
    | with_reducible refine State.detected_permit _ _ _ _ ?_
    | with_reducible refine State.mFrm_permit _ _ ?_
    | with_reducible refine State.mInj_permit _ _ ?_
    | with_reducible refine State.onward_permit _ _ _ ?_
    | with_reducible refine State.turnedOn_permit _ _ _ _ ?_
    | split

theorem State.svcFrame_permit {s : State} (t : State) (b : List Byte) (ending : Ending) (h : PermitKept s t) :
    PermitKept s (t.svcFrame b ending) := by
  refine h.trans ?_
  unfold State.svcFrame
  repeat' first
    | with_reducible exact PermitKept.rfl
    | with_reducible refine PermitKept.ite ?_ ?_
    | with_reducible intro _ _
    | with_reducible refine State.mFrm_permit _ _ ?_
    | with_reducible refine State.request_permit _ _ _ ?_
    | with_reducible refine State.scDone_permit _ _ ?_

theorem execFrameReceive_permit (dt : Nat) (lane : Lane) (body : List Byte) (hop : Nat) (ending : Ending) (s : State) : ∃ u, execFrameReceive dt
    lane body hop ending s = .next u ∧ PermitKept s u := by
  refine ⟨_, rfl, ?_⟩
  repeat' first
    | with_reducible exact PermitKept.rfl
    | with_reducible intro _ _
    | with_reducible refine State.advance_permit _ _ ?_
    | with_reducible refine State.ringFrame_permit _ _ _ _ ?_
    | with_reducible refine State.svcFrame_permit _ _ _ ?_
    | split

end Sys2Proof.Machine
end

