-- ==== Sys2Proof/Laws/Serve.lean ====
section
/-! SUPPORT. What serving an order alone comes to, once its sender is heard and its own checks pass. -/

namespace Sys2Proof.Machine

@[simp] theorem State.noteValid_replies (s : State) (w : Sender) : (s.noteValid w).frm.replies = s.frm.replies := rfl
@[simp] theorem State.noteValid_holder (s : State) (w : Sender) : (s.noteValid w).frm.holder = s.frm.holder := rfl
@[simp] theorem State.noteValid_ndlAuth (s : State) (w : Sender) : (s.noteValid w).frm.ndlAuth = s.frm.ndlAuth := rfl
@[simp] theorem State.noteValid_pow (s : State) (w : Sender) : (s.noteValid w).pow = s.pow := rfl
@[simp] theorem State.noteValid_auth (s : State) (w : Sender) : (s.noteValid w).auth = s.auth := rfl
@[simp] theorem State.noteValid_pendingOps (s : State) (w : Sender) : (s.noteValid w).pendingOps = s.pendingOps := rfl
@[simp] theorem State.noteValid_guarded (s : State) (w : Sender) : (s.noteValid w).guarded = s.guarded := rfl

@[simp] theorem State.countReply_replies (s : State) (st : Status) : (s.countReply st).frm.replies = s.frm.replies := by
  unfold State.countReply; split <;> rfl

@[simp] theorem decorate_opc (o : Op) (st : Status) (s : State) (d : List Byte) (r : Reply) : (decorate o st s d r).opc = r.opc := by
  unfold decorate; split_ifs <;> rfl
@[simp] theorem decorate_mem (o : Op) (st : Status) (s : State) (d : List Byte) (r : Reply) : (decorate o st s d r).mem = r.mem := by
  unfold decorate; split_ifs <;> rfl
@[simp] theorem decorate_seq (o : Op) (st : Status) (s : State) (d : List Byte) (r : Reply) : (decorate o st s d r).seq = r.seq := by
  unfold decorate; split_ifs <;> rfl
@[simp] theorem decorate_sweep (o : Op) (st : Status) (s : State) (d : List Byte) (r : Reply) : (decorate o st s d r).sweep = r.sweep := by
  unfold decorate; split_ifs <;> rfl
@[simp] theorem decorate_payload (o : Op) (st : Status) (s : State) (d : List Byte) (r : Reply) :
    (decorate o st s d r).payload = r.payload := by
  unfold decorate; split_ifs <;> rfl

/-- A running node with room for the reply, that trusts `q` as far as the opcode asks and lets it run: the order is run on the state that
has noted it, and its reply is queued. -/
theorem Op.serve_heard {o : Op} {q : Req} {s : State} (h : s.listens q = true) (hb : o.bcast = true ∨ q.bcast = false)
    (ht : o.prot = .free ∨ s.trusts q = true) (hl : o.lenOk = true)
    (hp : o.pends = false ∨ s.pendingOps < 4)
    (hm : o.needle = false ∨ s.frm.holder = senderHolder q.sender ∨ o.anyHolder (s.noteValid q.sender) = true) :
    o.serve q s =
      let r := o.run q (fun _ => true) (s.noteValid q.sender)
      if r.silent then r.s
      else (r.s.countReply r.status).pushReply q.sender
        (decorate o r.status (s.noteValid q.sender) r.data
          { replyOf o.mem o.opc q (s.sessionOf q) r.status r.data with unsync := r.unsync }) := by
  simp only [State.listens, Bool.and_eq_true, beq_iff_eq, decide_eq_true_eq] at h
  obtain ⟨hs, hr⟩ := h
  have ha : s.answers = true := by simp [State.answers, hs]
  have hk : o.lacksTag q (s.noteValid q.sender) = false := by
    unfold Op.lacksTag
    rcases ht with e | e
    · simp [e]
    · simp only [State.trusts, Bool.or_eq_true, Bool.not_eq_true'] at e
      rcases e with e | e <;> simp [e]
  have h1 : o.barred q (s.noteValid q.sender) = none := by rcases hb with hb | hb <;> simp [Op.barred, hb, hk]
  have h2 : o.unready (s.noteValid q.sender) = none := by
    unfold Op.unready
    rw [State.noteValid_pow, State.noteValid_pendingOps, hs, hl]
    rcases hp with e | e
    · simp [e]
    · simp [show ¬4 ≤ s.pendingOps by omega]
  have hc : o.screen q (s.noteValid q.sender) = none := by rw [Op.screen, h1, h2]; rfl
  have hu : o.mayRun q (s.noteValid q.sender) = true := by
    unfold Op.mayRun
    rcases hm with e | e | e <;> simp [e]
  have hn : (s.noteValid q.sender).queueFull q.sender = false := by
    simp only [State.queueFull, State.noteValid_replies]
    exact decide_eq_false (by omega)
  have hj : o.judge q (fun _ => true) (s.noteValid q.sender) = o.run q (fun _ => true) (s.noteValid q.sender) := by
    simp [Op.judge, hc, hu]
  unfold Op.serve
  simp only [ha, Bool.not_true, Bool.false_eq_true, if_false, hn, hj]
  rfl

theorem State.hears_listens {s : State} {q : Req} (h : s.hears q = true) : s.listens q = true ∧ q.bcast = false := by
  simpa [State.hears, State.listens] using h

/-- The same of a request to the node alone. -/
theorem Op.serve_run {o : Op} {q : Req} {s : State} (h : s.hears q = true) (ht : o.prot = .free ∨ s.trusts q = true) (hl : o.lenOk = true)
    (hp : o.pends = false ∨ s.pendingOps < 4) (hm : o.needle = false ∨ s.frm.holder = senderHolder q.sender ∨ o.anyHolder (s.noteValid q.sender) = true) :
    o.serve q s =
      let r := o.run q (fun _ => true) (s.noteValid q.sender)
      if r.silent then r.s
      else (r.s.countReply r.status).pushReply q.sender
        (decorate o r.status (s.noteValid q.sender) r.data
          { replyOf o.mem o.opc q (s.sessionOf q) r.status r.data with unsync := r.unsync }) :=
  Op.serve_heard (State.hears_listens h).1 (.inr (State.hears_listens h).2) ht hl hp hm

/-- What an order's own run leaves, the reply excepted: only the frames' part differs. -/
theorem Op.serve_rest {o : Op} {q : Req} {s : State} (h : s.hears q = true) (ht : o.prot = .free ∨ s.trusts q = true) (hl : o.lenOk = true)
    (hp : o.pends = false ∨ s.pendingOps < 4) (hm : o.needle = false ∨ s.frm.holder = senderHolder q.sender ∨ o.anyHolder (s.noteValid q.sender) = true) :
    Only [.frm] (o.run q (fun _ => true) (s.noteValid q.sender)).s (o.serve q s) := by
  rw [Op.serve_run h ht hl hp hm]
  exact Only.ite Only.rfl ((State.pushReply_only _ _ _ (by rfl)).2 ((State.countReply_only _ _ (by rfl)).2 Only.rfl))

/-- The reply that an order's own run gives is queued. -/
theorem Op.serve_answered {o : Op} {q : Req} {s : State} (h : s.listens q = true) (hb : o.bcast = true ∨ q.bcast = false)
    (ht : o.prot = .free ∨ s.trusts q = true) (hl : o.lenOk = true) (hp : o.pends = false ∨ s.pendingOps < 4)
    (hm : o.needle = false ∨ s.frm.holder = senderHolder q.sender ∨ o.anyHolder (s.noteValid q.sender) = true)
    {r : Res} (e : o.run q (fun _ => true) (s.noteValid q.sender) = r) (hs : r.silent = false) (hr : r.s.frm.replies = s.frm.replies) :
    Answered q o.mem o.opc r.status r.data s (o.serve q s) := by
  rw [Op.serve_heard h hb ht hl hp hm, e]
  refine ⟨decorate o r.status (s.noteValid q.sender) r.data
    { replyOf o.mem o.opc q (s.sessionOf q) r.status r.data with unsync := r.unsync }, by simp [replyOf], by simp [replyOf], by simp [replyOf],
    by simp [replyOf], by simp [replyOf], ?_⟩
  simp [hs, State.pushReply, State.mFrm, hr]

end Sys2Proof.Machine
end

