-- ==== Sys2Proof/Laws/State.lean ====
section
/-! SUPPORT. What each state update reads as afterwards: one lemma per field per update, true by unfolding. -/

namespace Sys2Proof.Machine

@[simp] theorem State.mClk_clk (s : State) (f : Clock → Clock) : (s.mClk f).clk = f s.clk := rfl
@[simp] theorem State.mClk_sys (s : State) (f : Clock → Clock) : (s.mClk f).sys = s.sys := rfl
@[simp] theorem State.mClk_pow (s : State) (f : Clock → Clock) : (s.mClk f).pow = s.pow := rfl
@[simp] theorem State.mClk_ring (s : State) (f : Clock → Clock) : (s.mClk f).ring = s.ring := rfl
@[simp] theorem State.mClk_frm (s : State) (f : Clock → Clock) : (s.mClk f).frm = s.frm := rfl
@[simp] theorem State.mClk_auth (s : State) (f : Clock → Clock) : (s.mClk f).auth = s.auth := rfl
@[simp] theorem State.mClk_run (s : State) (f : Clock → Clock) : (s.mClk f).run = s.run := rfl
@[simp] theorem State.mClk_cfgs (s : State) (f : Clock → Clock) : (s.mClk f).cfgs = s.cfgs := rfl
@[simp] theorem State.mClk_fe (s : State) (f : Clock → Clock) : (s.mClk f).fe = s.fe := rfl
@[simp] theorem State.mClk_tab (s : State) (f : Clock → Clock) : (s.mClk f).tab = s.tab := rfl
@[simp] theorem State.mClk_snap (s : State) (f : Clock → Clock) : (s.mClk f).snap = s.snap := rfl
@[simp] theorem State.mClk_loop (s : State) (f : Clock → Clock) : (s.mClk f).loop = s.loop := rfl
@[simp] theorem State.mClk_die (s : State) (f : Clock → Clock) : (s.mClk f).die = s.die := rfl
@[simp] theorem State.mClk_drv (s : State) (f : Clock → Clock) : (s.mClk f).drv = s.drv := rfl
@[simp] theorem State.mClk_fan (s : State) (f : Clock → Clock) : (s.mClk f).fan = s.fan := rfl
@[simp] theorem State.mClk_prog (s : State) (f : Clock → Clock) : (s.mClk f).prog = s.prog := rfl
@[simp] theorem State.mClk_conv (s : State) (f : Clock → Clock) : (s.mClk f).conv = s.conv := rfl
@[simp] theorem State.mClk_stitch (s : State) (f : Clock → Clock) : (s.mClk f).stitch = s.stitch := rfl
@[simp] theorem State.mClk_energy (s : State) (f : Clock → Clock) : (s.mClk f).energy = s.energy := rfl
@[simp] theorem State.mClk_lich (s : State) (f : Clock → Clock) : (s.mClk f).lich = s.lich := rfl
@[simp] theorem State.mClk_therm (s : State) (f : Clock → Clock) : (s.mClk f).therm = s.therm := rfl
@[simp] theorem State.mClk_safe (s : State) (f : Clock → Clock) : (s.mClk f).safe = s.safe := rfl
@[simp] theorem State.mClk_inj (s : State) (f : Clock → Clock) : (s.mClk f).inj = s.inj := rfl
@[simp] theorem State.mClk_log (s : State) (f : Clock → Clock) : (s.mClk f).log = s.log := rfl
@[simp] theorem State.mClk_cnt (s : State) (f : Clock → Clock) : (s.mClk f).cnt = s.cnt := rfl
@[simp] theorem State.mClk_se (s : State) (f : Clock → Clock) : (s.mClk f).se = s.se := rfl
@[simp] theorem State.mClk_upd (s : State) (f : Clock → Clock) : (s.mClk f).upd = s.upd := rfl
@[simp] theorem State.mClk_ho (s : State) (f : Clock → Clock) : (s.mClk f).ho = s.ho := rfl
@[simp] theorem State.mClk_dio (s : State) (f : Clock → Clock) : (s.mClk f).dio = s.dio := rfl
@[simp] theorem State.mClk_mem (s : State) (f : Clock → Clock) : (s.mClk f).mem = s.mem := rfl
@[simp] theorem State.mClk_free (s : State) (f : Clock → Clock) : (s.mClk f).free = s.free := rfl
@[simp] theorem State.mClk_pending (s : State) (f : Clock → Clock) : (s.mClk f).pending = s.pending := rfl
@[simp] theorem State.mSys_clk (s : State) (f : Sys → Sys) : (s.mSys f).clk = s.clk := rfl
@[simp] theorem State.mSys_sys (s : State) (f : Sys → Sys) : (s.mSys f).sys = f s.sys := rfl
@[simp] theorem State.mSys_pow (s : State) (f : Sys → Sys) : (s.mSys f).pow = s.pow := rfl
@[simp] theorem State.mSys_ring (s : State) (f : Sys → Sys) : (s.mSys f).ring = s.ring := rfl
@[simp] theorem State.mSys_frm (s : State) (f : Sys → Sys) : (s.mSys f).frm = s.frm := rfl
@[simp] theorem State.mSys_auth (s : State) (f : Sys → Sys) : (s.mSys f).auth = s.auth := rfl
@[simp] theorem State.mSys_run (s : State) (f : Sys → Sys) : (s.mSys f).run = s.run := rfl
@[simp] theorem State.mSys_cfgs (s : State) (f : Sys → Sys) : (s.mSys f).cfgs = s.cfgs := rfl
@[simp] theorem State.mSys_fe (s : State) (f : Sys → Sys) : (s.mSys f).fe = s.fe := rfl
@[simp] theorem State.mSys_tab (s : State) (f : Sys → Sys) : (s.mSys f).tab = s.tab := rfl
@[simp] theorem State.mSys_snap (s : State) (f : Sys → Sys) : (s.mSys f).snap = s.snap := rfl
@[simp] theorem State.mSys_loop (s : State) (f : Sys → Sys) : (s.mSys f).loop = s.loop := rfl
@[simp] theorem State.mSys_die (s : State) (f : Sys → Sys) : (s.mSys f).die = s.die := rfl
@[simp] theorem State.mSys_drv (s : State) (f : Sys → Sys) : (s.mSys f).drv = s.drv := rfl
@[simp] theorem State.mSys_fan (s : State) (f : Sys → Sys) : (s.mSys f).fan = s.fan := rfl
@[simp] theorem State.mSys_prog (s : State) (f : Sys → Sys) : (s.mSys f).prog = s.prog := rfl
@[simp] theorem State.mSys_conv (s : State) (f : Sys → Sys) : (s.mSys f).conv = s.conv := rfl
@[simp] theorem State.mSys_stitch (s : State) (f : Sys → Sys) : (s.mSys f).stitch = s.stitch := rfl
@[simp] theorem State.mSys_energy (s : State) (f : Sys → Sys) : (s.mSys f).energy = s.energy := rfl
@[simp] theorem State.mSys_lich (s : State) (f : Sys → Sys) : (s.mSys f).lich = s.lich := rfl
@[simp] theorem State.mSys_therm (s : State) (f : Sys → Sys) : (s.mSys f).therm = s.therm := rfl
@[simp] theorem State.mSys_safe (s : State) (f : Sys → Sys) : (s.mSys f).safe = s.safe := rfl
@[simp] theorem State.mSys_inj (s : State) (f : Sys → Sys) : (s.mSys f).inj = s.inj := rfl
@[simp] theorem State.mSys_log (s : State) (f : Sys → Sys) : (s.mSys f).log = s.log := rfl
@[simp] theorem State.mSys_cnt (s : State) (f : Sys → Sys) : (s.mSys f).cnt = s.cnt := rfl
@[simp] theorem State.mSys_se (s : State) (f : Sys → Sys) : (s.mSys f).se = s.se := rfl
@[simp] theorem State.mSys_upd (s : State) (f : Sys → Sys) : (s.mSys f).upd = s.upd := rfl
@[simp] theorem State.mSys_ho (s : State) (f : Sys → Sys) : (s.mSys f).ho = s.ho := rfl
@[simp] theorem State.mSys_dio (s : State) (f : Sys → Sys) : (s.mSys f).dio = s.dio := rfl
@[simp] theorem State.mSys_mem (s : State) (f : Sys → Sys) : (s.mSys f).mem = s.mem := rfl
@[simp] theorem State.mSys_free (s : State) (f : Sys → Sys) : (s.mSys f).free = s.free := rfl
@[simp] theorem State.mSys_pending (s : State) (f : Sys → Sys) : (s.mSys f).pending = s.pending := rfl
@[simp] theorem State.mPow_clk (s : State) (f : Power → Power) : (s.mPow f).clk = s.clk := rfl
@[simp] theorem State.mPow_sys (s : State) (f : Power → Power) : (s.mPow f).sys = s.sys := rfl
@[simp] theorem State.mPow_pow (s : State) (f : Power → Power) : (s.mPow f).pow = f s.pow := rfl
@[simp] theorem State.mPow_ring (s : State) (f : Power → Power) : (s.mPow f).ring = s.ring := rfl
@[simp] theorem State.mPow_frm (s : State) (f : Power → Power) : (s.mPow f).frm = s.frm := rfl
@[simp] theorem State.mPow_auth (s : State) (f : Power → Power) : (s.mPow f).auth = s.auth := rfl
@[simp] theorem State.mPow_run (s : State) (f : Power → Power) : (s.mPow f).run = s.run := rfl
@[simp] theorem State.mPow_cfgs (s : State) (f : Power → Power) : (s.mPow f).cfgs = s.cfgs := rfl
@[simp] theorem State.mPow_fe (s : State) (f : Power → Power) : (s.mPow f).fe = s.fe := rfl
@[simp] theorem State.mPow_tab (s : State) (f : Power → Power) : (s.mPow f).tab = s.tab := rfl
@[simp] theorem State.mPow_snap (s : State) (f : Power → Power) : (s.mPow f).snap = s.snap := rfl
@[simp] theorem State.mPow_loop (s : State) (f : Power → Power) : (s.mPow f).loop = s.loop := rfl
@[simp] theorem State.mPow_die (s : State) (f : Power → Power) : (s.mPow f).die = s.die := rfl
@[simp] theorem State.mPow_drv (s : State) (f : Power → Power) : (s.mPow f).drv = s.drv := rfl
@[simp] theorem State.mPow_fan (s : State) (f : Power → Power) : (s.mPow f).fan = s.fan := rfl
@[simp] theorem State.mPow_prog (s : State) (f : Power → Power) : (s.mPow f).prog = s.prog := rfl
@[simp] theorem State.mPow_conv (s : State) (f : Power → Power) : (s.mPow f).conv = s.conv := rfl
@[simp] theorem State.mPow_stitch (s : State) (f : Power → Power) : (s.mPow f).stitch = s.stitch := rfl
@[simp] theorem State.mPow_energy (s : State) (f : Power → Power) : (s.mPow f).energy = s.energy := rfl
@[simp] theorem State.mPow_lich (s : State) (f : Power → Power) : (s.mPow f).lich = s.lich := rfl
@[simp] theorem State.mPow_therm (s : State) (f : Power → Power) : (s.mPow f).therm = s.therm := rfl
@[simp] theorem State.mPow_safe (s : State) (f : Power → Power) : (s.mPow f).safe = s.safe := rfl
@[simp] theorem State.mPow_inj (s : State) (f : Power → Power) : (s.mPow f).inj = s.inj := rfl
@[simp] theorem State.mPow_log (s : State) (f : Power → Power) : (s.mPow f).log = s.log := rfl
@[simp] theorem State.mPow_cnt (s : State) (f : Power → Power) : (s.mPow f).cnt = s.cnt := rfl
@[simp] theorem State.mPow_se (s : State) (f : Power → Power) : (s.mPow f).se = s.se := rfl
@[simp] theorem State.mPow_upd (s : State) (f : Power → Power) : (s.mPow f).upd = s.upd := rfl
@[simp] theorem State.mPow_ho (s : State) (f : Power → Power) : (s.mPow f).ho = s.ho := rfl
@[simp] theorem State.mPow_dio (s : State) (f : Power → Power) : (s.mPow f).dio = s.dio := rfl
@[simp] theorem State.mPow_mem (s : State) (f : Power → Power) : (s.mPow f).mem = s.mem := rfl
@[simp] theorem State.mPow_free (s : State) (f : Power → Power) : (s.mPow f).free = s.free := rfl
@[simp] theorem State.mPow_pending (s : State) (f : Power → Power) : (s.mPow f).pending = s.pending := rfl
@[simp] theorem State.mRing_clk (s : State) (f : Ring → Ring) : (s.mRing f).clk = s.clk := rfl
@[simp] theorem State.mRing_sys (s : State) (f : Ring → Ring) : (s.mRing f).sys = s.sys := rfl
@[simp] theorem State.mRing_pow (s : State) (f : Ring → Ring) : (s.mRing f).pow = s.pow := rfl
@[simp] theorem State.mRing_ring (s : State) (f : Ring → Ring) : (s.mRing f).ring = f s.ring := rfl
@[simp] theorem State.mRing_frm (s : State) (f : Ring → Ring) : (s.mRing f).frm = s.frm := rfl
@[simp] theorem State.mRing_auth (s : State) (f : Ring → Ring) : (s.mRing f).auth = s.auth := rfl
@[simp] theorem State.mRing_run (s : State) (f : Ring → Ring) : (s.mRing f).run = s.run := rfl
@[simp] theorem State.mRing_cfgs (s : State) (f : Ring → Ring) : (s.mRing f).cfgs = s.cfgs := rfl
@[simp] theorem State.mRing_fe (s : State) (f : Ring → Ring) : (s.mRing f).fe = s.fe := rfl
@[simp] theorem State.mRing_tab (s : State) (f : Ring → Ring) : (s.mRing f).tab = s.tab := rfl
@[simp] theorem State.mRing_snap (s : State) (f : Ring → Ring) : (s.mRing f).snap = s.snap := rfl
@[simp] theorem State.mRing_loop (s : State) (f : Ring → Ring) : (s.mRing f).loop = s.loop := rfl
@[simp] theorem State.mRing_die (s : State) (f : Ring → Ring) : (s.mRing f).die = s.die := rfl
@[simp] theorem State.mRing_drv (s : State) (f : Ring → Ring) : (s.mRing f).drv = s.drv := rfl
@[simp] theorem State.mRing_fan (s : State) (f : Ring → Ring) : (s.mRing f).fan = s.fan := rfl
@[simp] theorem State.mRing_prog (s : State) (f : Ring → Ring) : (s.mRing f).prog = s.prog := rfl
@[simp] theorem State.mRing_conv (s : State) (f : Ring → Ring) : (s.mRing f).conv = s.conv := rfl
@[simp] theorem State.mRing_stitch (s : State) (f : Ring → Ring) : (s.mRing f).stitch = s.stitch := rfl
@[simp] theorem State.mRing_energy (s : State) (f : Ring → Ring) : (s.mRing f).energy = s.energy := rfl
@[simp] theorem State.mRing_lich (s : State) (f : Ring → Ring) : (s.mRing f).lich = s.lich := rfl
@[simp] theorem State.mRing_therm (s : State) (f : Ring → Ring) : (s.mRing f).therm = s.therm := rfl
@[simp] theorem State.mRing_safe (s : State) (f : Ring → Ring) : (s.mRing f).safe = s.safe := rfl
@[simp] theorem State.mRing_inj (s : State) (f : Ring → Ring) : (s.mRing f).inj = s.inj := rfl
@[simp] theorem State.mRing_log (s : State) (f : Ring → Ring) : (s.mRing f).log = s.log := rfl
@[simp] theorem State.mRing_cnt (s : State) (f : Ring → Ring) : (s.mRing f).cnt = s.cnt := rfl
@[simp] theorem State.mRing_se (s : State) (f : Ring → Ring) : (s.mRing f).se = s.se := rfl
@[simp] theorem State.mRing_upd (s : State) (f : Ring → Ring) : (s.mRing f).upd = s.upd := rfl
@[simp] theorem State.mRing_ho (s : State) (f : Ring → Ring) : (s.mRing f).ho = s.ho := rfl
@[simp] theorem State.mRing_dio (s : State) (f : Ring → Ring) : (s.mRing f).dio = s.dio := rfl
@[simp] theorem State.mRing_mem (s : State) (f : Ring → Ring) : (s.mRing f).mem = s.mem := rfl
@[simp] theorem State.mRing_free (s : State) (f : Ring → Ring) : (s.mRing f).free = s.free := rfl
@[simp] theorem State.mRing_pending (s : State) (f : Ring → Ring) : (s.mRing f).pending = s.pending := rfl
@[simp] theorem State.mFrm_clk (s : State) (f : Frames → Frames) : (s.mFrm f).clk = s.clk := rfl
@[simp] theorem State.mFrm_sys (s : State) (f : Frames → Frames) : (s.mFrm f).sys = s.sys := rfl
@[simp] theorem State.mFrm_pow (s : State) (f : Frames → Frames) : (s.mFrm f).pow = s.pow := rfl
@[simp] theorem State.mFrm_ring (s : State) (f : Frames → Frames) : (s.mFrm f).ring = s.ring := rfl
@[simp] theorem State.mFrm_frm (s : State) (f : Frames → Frames) : (s.mFrm f).frm = f s.frm := rfl
@[simp] theorem State.mFrm_auth (s : State) (f : Frames → Frames) : (s.mFrm f).auth = s.auth := rfl
@[simp] theorem State.mFrm_run (s : State) (f : Frames → Frames) : (s.mFrm f).run = s.run := rfl
@[simp] theorem State.mFrm_cfgs (s : State) (f : Frames → Frames) : (s.mFrm f).cfgs = s.cfgs := rfl
@[simp] theorem State.mFrm_fe (s : State) (f : Frames → Frames) : (s.mFrm f).fe = s.fe := rfl
@[simp] theorem State.mFrm_tab (s : State) (f : Frames → Frames) : (s.mFrm f).tab = s.tab := rfl
@[simp] theorem State.mFrm_snap (s : State) (f : Frames → Frames) : (s.mFrm f).snap = s.snap := rfl
@[simp] theorem State.mFrm_loop (s : State) (f : Frames → Frames) : (s.mFrm f).loop = s.loop := rfl
@[simp] theorem State.mFrm_die (s : State) (f : Frames → Frames) : (s.mFrm f).die = s.die := rfl
@[simp] theorem State.mFrm_drv (s : State) (f : Frames → Frames) : (s.mFrm f).drv = s.drv := rfl
@[simp] theorem State.mFrm_fan (s : State) (f : Frames → Frames) : (s.mFrm f).fan = s.fan := rfl
@[simp] theorem State.mFrm_prog (s : State) (f : Frames → Frames) : (s.mFrm f).prog = s.prog := rfl
@[simp] theorem State.mFrm_conv (s : State) (f : Frames → Frames) : (s.mFrm f).conv = s.conv := rfl
@[simp] theorem State.mFrm_stitch (s : State) (f : Frames → Frames) : (s.mFrm f).stitch = s.stitch := rfl
@[simp] theorem State.mFrm_energy (s : State) (f : Frames → Frames) : (s.mFrm f).energy = s.energy := rfl
@[simp] theorem State.mFrm_lich (s : State) (f : Frames → Frames) : (s.mFrm f).lich = s.lich := rfl
@[simp] theorem State.mFrm_therm (s : State) (f : Frames → Frames) : (s.mFrm f).therm = s.therm := rfl
@[simp] theorem State.mFrm_safe (s : State) (f : Frames → Frames) : (s.mFrm f).safe = s.safe := rfl
@[simp] theorem State.mFrm_inj (s : State) (f : Frames → Frames) : (s.mFrm f).inj = s.inj := rfl
@[simp] theorem State.mFrm_log (s : State) (f : Frames → Frames) : (s.mFrm f).log = s.log := rfl
@[simp] theorem State.mFrm_cnt (s : State) (f : Frames → Frames) : (s.mFrm f).cnt = s.cnt := rfl
@[simp] theorem State.mFrm_se (s : State) (f : Frames → Frames) : (s.mFrm f).se = s.se := rfl
@[simp] theorem State.mFrm_upd (s : State) (f : Frames → Frames) : (s.mFrm f).upd = s.upd := rfl
@[simp] theorem State.mFrm_ho (s : State) (f : Frames → Frames) : (s.mFrm f).ho = s.ho := rfl
@[simp] theorem State.mFrm_dio (s : State) (f : Frames → Frames) : (s.mFrm f).dio = s.dio := rfl
@[simp] theorem State.mFrm_mem (s : State) (f : Frames → Frames) : (s.mFrm f).mem = s.mem := rfl
@[simp] theorem State.mFrm_free (s : State) (f : Frames → Frames) : (s.mFrm f).free = s.free := rfl
@[simp] theorem State.mFrm_pending (s : State) (f : Frames → Frames) : (s.mFrm f).pending = s.pending := rfl
@[simp] theorem State.mAuth_clk (s : State) (f : Auth → Auth) : (s.mAuth f).clk = s.clk := rfl
@[simp] theorem State.mAuth_sys (s : State) (f : Auth → Auth) : (s.mAuth f).sys = s.sys := rfl
@[simp] theorem State.mAuth_pow (s : State) (f : Auth → Auth) : (s.mAuth f).pow = s.pow := rfl
@[simp] theorem State.mAuth_ring (s : State) (f : Auth → Auth) : (s.mAuth f).ring = s.ring := rfl
@[simp] theorem State.mAuth_frm (s : State) (f : Auth → Auth) : (s.mAuth f).frm = s.frm := rfl
@[simp] theorem State.mAuth_auth (s : State) (f : Auth → Auth) : (s.mAuth f).auth = f s.auth := rfl
@[simp] theorem State.mAuth_run (s : State) (f : Auth → Auth) : (s.mAuth f).run = s.run := rfl
@[simp] theorem State.mAuth_cfgs (s : State) (f : Auth → Auth) : (s.mAuth f).cfgs = s.cfgs := rfl
@[simp] theorem State.mAuth_fe (s : State) (f : Auth → Auth) : (s.mAuth f).fe = s.fe := rfl
@[simp] theorem State.mAuth_tab (s : State) (f : Auth → Auth) : (s.mAuth f).tab = s.tab := rfl
@[simp] theorem State.mAuth_snap (s : State) (f : Auth → Auth) : (s.mAuth f).snap = s.snap := rfl
@[simp] theorem State.mAuth_loop (s : State) (f : Auth → Auth) : (s.mAuth f).loop = s.loop := rfl
@[simp] theorem State.mAuth_die (s : State) (f : Auth → Auth) : (s.mAuth f).die = s.die := rfl
@[simp] theorem State.mAuth_drv (s : State) (f : Auth → Auth) : (s.mAuth f).drv = s.drv := rfl
@[simp] theorem State.mAuth_fan (s : State) (f : Auth → Auth) : (s.mAuth f).fan = s.fan := rfl
@[simp] theorem State.mAuth_prog (s : State) (f : Auth → Auth) : (s.mAuth f).prog = s.prog := rfl
@[simp] theorem State.mAuth_conv (s : State) (f : Auth → Auth) : (s.mAuth f).conv = s.conv := rfl
@[simp] theorem State.mAuth_stitch (s : State) (f : Auth → Auth) : (s.mAuth f).stitch = s.stitch := rfl
@[simp] theorem State.mAuth_energy (s : State) (f : Auth → Auth) : (s.mAuth f).energy = s.energy := rfl
@[simp] theorem State.mAuth_lich (s : State) (f : Auth → Auth) : (s.mAuth f).lich = s.lich := rfl
@[simp] theorem State.mAuth_therm (s : State) (f : Auth → Auth) : (s.mAuth f).therm = s.therm := rfl
@[simp] theorem State.mAuth_safe (s : State) (f : Auth → Auth) : (s.mAuth f).safe = s.safe := rfl
@[simp] theorem State.mAuth_inj (s : State) (f : Auth → Auth) : (s.mAuth f).inj = s.inj := rfl
@[simp] theorem State.mAuth_log (s : State) (f : Auth → Auth) : (s.mAuth f).log = s.log := rfl
@[simp] theorem State.mAuth_cnt (s : State) (f : Auth → Auth) : (s.mAuth f).cnt = s.cnt := rfl
@[simp] theorem State.mAuth_se (s : State) (f : Auth → Auth) : (s.mAuth f).se = s.se := rfl
@[simp] theorem State.mAuth_upd (s : State) (f : Auth → Auth) : (s.mAuth f).upd = s.upd := rfl
@[simp] theorem State.mAuth_ho (s : State) (f : Auth → Auth) : (s.mAuth f).ho = s.ho := rfl
@[simp] theorem State.mAuth_dio (s : State) (f : Auth → Auth) : (s.mAuth f).dio = s.dio := rfl
@[simp] theorem State.mAuth_mem (s : State) (f : Auth → Auth) : (s.mAuth f).mem = s.mem := rfl
@[simp] theorem State.mAuth_free (s : State) (f : Auth → Auth) : (s.mAuth f).free = s.free := rfl
@[simp] theorem State.mAuth_pending (s : State) (f : Auth → Auth) : (s.mAuth f).pending = s.pending := rfl
@[simp] theorem State.mRun_clk (s : State) (f : RunCfg → RunCfg) : (s.mRun f).clk = s.clk := rfl
@[simp] theorem State.mRun_sys (s : State) (f : RunCfg → RunCfg) : (s.mRun f).sys = s.sys := rfl
@[simp] theorem State.mRun_pow (s : State) (f : RunCfg → RunCfg) : (s.mRun f).pow = s.pow := rfl
@[simp] theorem State.mRun_ring (s : State) (f : RunCfg → RunCfg) : (s.mRun f).ring = s.ring := rfl
@[simp] theorem State.mRun_frm (s : State) (f : RunCfg → RunCfg) : (s.mRun f).frm = s.frm := rfl
@[simp] theorem State.mRun_auth (s : State) (f : RunCfg → RunCfg) : (s.mRun f).auth = s.auth := rfl
@[simp] theorem State.mRun_run (s : State) (f : RunCfg → RunCfg) : (s.mRun f).run = f s.run := rfl
@[simp] theorem State.mRun_cfgs (s : State) (f : RunCfg → RunCfg) : (s.mRun f).cfgs = s.cfgs := rfl
@[simp] theorem State.mRun_fe (s : State) (f : RunCfg → RunCfg) : (s.mRun f).fe = s.fe := rfl
@[simp] theorem State.mRun_tab (s : State) (f : RunCfg → RunCfg) : (s.mRun f).tab = s.tab := rfl
@[simp] theorem State.mRun_snap (s : State) (f : RunCfg → RunCfg) : (s.mRun f).snap = s.snap := rfl
@[simp] theorem State.mRun_loop (s : State) (f : RunCfg → RunCfg) : (s.mRun f).loop = s.loop := rfl
@[simp] theorem State.mRun_die (s : State) (f : RunCfg → RunCfg) : (s.mRun f).die = s.die := rfl
@[simp] theorem State.mRun_drv (s : State) (f : RunCfg → RunCfg) : (s.mRun f).drv = s.drv := rfl
@[simp] theorem State.mRun_fan (s : State) (f : RunCfg → RunCfg) : (s.mRun f).fan = s.fan := rfl
@[simp] theorem State.mRun_prog (s : State) (f : RunCfg → RunCfg) : (s.mRun f).prog = s.prog := rfl
@[simp] theorem State.mRun_conv (s : State) (f : RunCfg → RunCfg) : (s.mRun f).conv = s.conv := rfl
@[simp] theorem State.mRun_stitch (s : State) (f : RunCfg → RunCfg) : (s.mRun f).stitch = s.stitch := rfl
@[simp] theorem State.mRun_energy (s : State) (f : RunCfg → RunCfg) : (s.mRun f).energy = s.energy := rfl
@[simp] theorem State.mRun_lich (s : State) (f : RunCfg → RunCfg) : (s.mRun f).lich = s.lich := rfl
@[simp] theorem State.mRun_therm (s : State) (f : RunCfg → RunCfg) : (s.mRun f).therm = s.therm := rfl
@[simp] theorem State.mRun_safe (s : State) (f : RunCfg → RunCfg) : (s.mRun f).safe = s.safe := rfl
@[simp] theorem State.mRun_inj (s : State) (f : RunCfg → RunCfg) : (s.mRun f).inj = s.inj := rfl
@[simp] theorem State.mRun_log (s : State) (f : RunCfg → RunCfg) : (s.mRun f).log = s.log := rfl
@[simp] theorem State.mRun_cnt (s : State) (f : RunCfg → RunCfg) : (s.mRun f).cnt = s.cnt := rfl
@[simp] theorem State.mRun_se (s : State) (f : RunCfg → RunCfg) : (s.mRun f).se = s.se := rfl
@[simp] theorem State.mRun_upd (s : State) (f : RunCfg → RunCfg) : (s.mRun f).upd = s.upd := rfl
@[simp] theorem State.mRun_ho (s : State) (f : RunCfg → RunCfg) : (s.mRun f).ho = s.ho := rfl
@[simp] theorem State.mRun_dio (s : State) (f : RunCfg → RunCfg) : (s.mRun f).dio = s.dio := rfl
@[simp] theorem State.mRun_mem (s : State) (f : RunCfg → RunCfg) : (s.mRun f).mem = s.mem := rfl
@[simp] theorem State.mRun_free (s : State) (f : RunCfg → RunCfg) : (s.mRun f).free = s.free := rfl
@[simp] theorem State.mRun_pending (s : State) (f : RunCfg → RunCfg) : (s.mRun f).pending = s.pending := rfl
@[simp] theorem State.mCfgs_clk (s : State) (f : CfgStore → CfgStore) : (s.mCfgs f).clk = s.clk := rfl
@[simp] theorem State.mCfgs_sys (s : State) (f : CfgStore → CfgStore) : (s.mCfgs f).sys = s.sys := rfl
@[simp] theorem State.mCfgs_pow (s : State) (f : CfgStore → CfgStore) : (s.mCfgs f).pow = s.pow := rfl
@[simp] theorem State.mCfgs_ring (s : State) (f : CfgStore → CfgStore) : (s.mCfgs f).ring = s.ring := rfl
@[simp] theorem State.mCfgs_frm (s : State) (f : CfgStore → CfgStore) : (s.mCfgs f).frm = s.frm := rfl
@[simp] theorem State.mCfgs_auth (s : State) (f : CfgStore → CfgStore) : (s.mCfgs f).auth = s.auth := rfl
@[simp] theorem State.mCfgs_run (s : State) (f : CfgStore → CfgStore) : (s.mCfgs f).run = s.run := rfl
@[simp] theorem State.mCfgs_cfgs (s : State) (f : CfgStore → CfgStore) : (s.mCfgs f).cfgs = f s.cfgs := rfl
@[simp] theorem State.mCfgs_fe (s : State) (f : CfgStore → CfgStore) : (s.mCfgs f).fe = s.fe := rfl
@[simp] theorem State.mCfgs_tab (s : State) (f : CfgStore → CfgStore) : (s.mCfgs f).tab = s.tab := rfl
@[simp] theorem State.mCfgs_snap (s : State) (f : CfgStore → CfgStore) : (s.mCfgs f).snap = s.snap := rfl
@[simp] theorem State.mCfgs_loop (s : State) (f : CfgStore → CfgStore) : (s.mCfgs f).loop = s.loop := rfl
@[simp] theorem State.mCfgs_die (s : State) (f : CfgStore → CfgStore) : (s.mCfgs f).die = s.die := rfl
@[simp] theorem State.mCfgs_drv (s : State) (f : CfgStore → CfgStore) : (s.mCfgs f).drv = s.drv := rfl
@[simp] theorem State.mCfgs_fan (s : State) (f : CfgStore → CfgStore) : (s.mCfgs f).fan = s.fan := rfl
@[simp] theorem State.mCfgs_prog (s : State) (f : CfgStore → CfgStore) : (s.mCfgs f).prog = s.prog := rfl
@[simp] theorem State.mCfgs_conv (s : State) (f : CfgStore → CfgStore) : (s.mCfgs f).conv = s.conv := rfl
@[simp] theorem State.mCfgs_stitch (s : State) (f : CfgStore → CfgStore) : (s.mCfgs f).stitch = s.stitch := rfl
@[simp] theorem State.mCfgs_energy (s : State) (f : CfgStore → CfgStore) : (s.mCfgs f).energy = s.energy := rfl
@[simp] theorem State.mCfgs_lich (s : State) (f : CfgStore → CfgStore) : (s.mCfgs f).lich = s.lich := rfl
@[simp] theorem State.mCfgs_therm (s : State) (f : CfgStore → CfgStore) : (s.mCfgs f).therm = s.therm := rfl
@[simp] theorem State.mCfgs_safe (s : State) (f : CfgStore → CfgStore) : (s.mCfgs f).safe = s.safe := rfl
@[simp] theorem State.mCfgs_inj (s : State) (f : CfgStore → CfgStore) : (s.mCfgs f).inj = s.inj := rfl
@[simp] theorem State.mCfgs_log (s : State) (f : CfgStore → CfgStore) : (s.mCfgs f).log = s.log := rfl
@[simp] theorem State.mCfgs_cnt (s : State) (f : CfgStore → CfgStore) : (s.mCfgs f).cnt = s.cnt := rfl
@[simp] theorem State.mCfgs_se (s : State) (f : CfgStore → CfgStore) : (s.mCfgs f).se = s.se := rfl
@[simp] theorem State.mCfgs_upd (s : State) (f : CfgStore → CfgStore) : (s.mCfgs f).upd = s.upd := rfl
@[simp] theorem State.mCfgs_ho (s : State) (f : CfgStore → CfgStore) : (s.mCfgs f).ho = s.ho := rfl
@[simp] theorem State.mCfgs_dio (s : State) (f : CfgStore → CfgStore) : (s.mCfgs f).dio = s.dio := rfl
@[simp] theorem State.mCfgs_mem (s : State) (f : CfgStore → CfgStore) : (s.mCfgs f).mem = s.mem := rfl
@[simp] theorem State.mCfgs_free (s : State) (f : CfgStore → CfgStore) : (s.mCfgs f).free = s.free := rfl
@[simp] theorem State.mCfgs_pending (s : State) (f : CfgStore → CfgStore) : (s.mCfgs f).pending = s.pending := rfl
@[simp] theorem State.mFe_clk (s : State) (f : FrontEnd → FrontEnd) : (s.mFe f).clk = s.clk := rfl
@[simp] theorem State.mFe_sys (s : State) (f : FrontEnd → FrontEnd) : (s.mFe f).sys = s.sys := rfl
@[simp] theorem State.mFe_pow (s : State) (f : FrontEnd → FrontEnd) : (s.mFe f).pow = s.pow := rfl
@[simp] theorem State.mFe_ring (s : State) (f : FrontEnd → FrontEnd) : (s.mFe f).ring = s.ring := rfl
@[simp] theorem State.mFe_frm (s : State) (f : FrontEnd → FrontEnd) : (s.mFe f).frm = s.frm := rfl
@[simp] theorem State.mFe_auth (s : State) (f : FrontEnd → FrontEnd) : (s.mFe f).auth = s.auth := rfl
@[simp] theorem State.mFe_run (s : State) (f : FrontEnd → FrontEnd) : (s.mFe f).run = s.run := rfl
@[simp] theorem State.mFe_cfgs (s : State) (f : FrontEnd → FrontEnd) : (s.mFe f).cfgs = s.cfgs := rfl
@[simp] theorem State.mFe_fe (s : State) (f : FrontEnd → FrontEnd) : (s.mFe f).fe = f s.fe := rfl
@[simp] theorem State.mFe_tab (s : State) (f : FrontEnd → FrontEnd) : (s.mFe f).tab = s.tab := rfl
@[simp] theorem State.mFe_snap (s : State) (f : FrontEnd → FrontEnd) : (s.mFe f).snap = s.snap := rfl
@[simp] theorem State.mFe_loop (s : State) (f : FrontEnd → FrontEnd) : (s.mFe f).loop = s.loop := rfl
@[simp] theorem State.mFe_die (s : State) (f : FrontEnd → FrontEnd) : (s.mFe f).die = s.die := rfl
@[simp] theorem State.mFe_drv (s : State) (f : FrontEnd → FrontEnd) : (s.mFe f).drv = s.drv := rfl
@[simp] theorem State.mFe_fan (s : State) (f : FrontEnd → FrontEnd) : (s.mFe f).fan = s.fan := rfl
@[simp] theorem State.mFe_prog (s : State) (f : FrontEnd → FrontEnd) : (s.mFe f).prog = s.prog := rfl
@[simp] theorem State.mFe_conv (s : State) (f : FrontEnd → FrontEnd) : (s.mFe f).conv = s.conv := rfl
@[simp] theorem State.mFe_stitch (s : State) (f : FrontEnd → FrontEnd) : (s.mFe f).stitch = s.stitch := rfl
@[simp] theorem State.mFe_energy (s : State) (f : FrontEnd → FrontEnd) : (s.mFe f).energy = s.energy := rfl
@[simp] theorem State.mFe_lich (s : State) (f : FrontEnd → FrontEnd) : (s.mFe f).lich = s.lich := rfl
@[simp] theorem State.mFe_therm (s : State) (f : FrontEnd → FrontEnd) : (s.mFe f).therm = s.therm := rfl
@[simp] theorem State.mFe_safe (s : State) (f : FrontEnd → FrontEnd) : (s.mFe f).safe = s.safe := rfl
@[simp] theorem State.mFe_inj (s : State) (f : FrontEnd → FrontEnd) : (s.mFe f).inj = s.inj := rfl
@[simp] theorem State.mFe_log (s : State) (f : FrontEnd → FrontEnd) : (s.mFe f).log = s.log := rfl
@[simp] theorem State.mFe_cnt (s : State) (f : FrontEnd → FrontEnd) : (s.mFe f).cnt = s.cnt := rfl
@[simp] theorem State.mFe_se (s : State) (f : FrontEnd → FrontEnd) : (s.mFe f).se = s.se := rfl
@[simp] theorem State.mFe_upd (s : State) (f : FrontEnd → FrontEnd) : (s.mFe f).upd = s.upd := rfl
@[simp] theorem State.mFe_ho (s : State) (f : FrontEnd → FrontEnd) : (s.mFe f).ho = s.ho := rfl
@[simp] theorem State.mFe_dio (s : State) (f : FrontEnd → FrontEnd) : (s.mFe f).dio = s.dio := rfl
@[simp] theorem State.mFe_mem (s : State) (f : FrontEnd → FrontEnd) : (s.mFe f).mem = s.mem := rfl
@[simp] theorem State.mFe_free (s : State) (f : FrontEnd → FrontEnd) : (s.mFe f).free = s.free := rfl
@[simp] theorem State.mFe_pending (s : State) (f : FrontEnd → FrontEnd) : (s.mFe f).pending = s.pending := rfl
@[simp] theorem State.mTab_clk (s : State) (f : Tables → Tables) : (s.mTab f).clk = s.clk := rfl
@[simp] theorem State.mTab_sys (s : State) (f : Tables → Tables) : (s.mTab f).sys = s.sys := rfl
@[simp] theorem State.mTab_pow (s : State) (f : Tables → Tables) : (s.mTab f).pow = s.pow := rfl
@[simp] theorem State.mTab_ring (s : State) (f : Tables → Tables) : (s.mTab f).ring = s.ring := rfl
@[simp] theorem State.mTab_frm (s : State) (f : Tables → Tables) : (s.mTab f).frm = s.frm := rfl
@[simp] theorem State.mTab_auth (s : State) (f : Tables → Tables) : (s.mTab f).auth = s.auth := rfl
@[simp] theorem State.mTab_run (s : State) (f : Tables → Tables) : (s.mTab f).run = s.run := rfl
@[simp] theorem State.mTab_cfgs (s : State) (f : Tables → Tables) : (s.mTab f).cfgs = s.cfgs := rfl
@[simp] theorem State.mTab_fe (s : State) (f : Tables → Tables) : (s.mTab f).fe = s.fe := rfl
@[simp] theorem State.mTab_tab (s : State) (f : Tables → Tables) : (s.mTab f).tab = f s.tab := rfl
@[simp] theorem State.mTab_snap (s : State) (f : Tables → Tables) : (s.mTab f).snap = s.snap := rfl
@[simp] theorem State.mTab_loop (s : State) (f : Tables → Tables) : (s.mTab f).loop = s.loop := rfl
@[simp] theorem State.mTab_die (s : State) (f : Tables → Tables) : (s.mTab f).die = s.die := rfl
@[simp] theorem State.mTab_drv (s : State) (f : Tables → Tables) : (s.mTab f).drv = s.drv := rfl
@[simp] theorem State.mTab_fan (s : State) (f : Tables → Tables) : (s.mTab f).fan = s.fan := rfl
@[simp] theorem State.mTab_prog (s : State) (f : Tables → Tables) : (s.mTab f).prog = s.prog := rfl
@[simp] theorem State.mTab_conv (s : State) (f : Tables → Tables) : (s.mTab f).conv = s.conv := rfl
@[simp] theorem State.mTab_stitch (s : State) (f : Tables → Tables) : (s.mTab f).stitch = s.stitch := rfl
@[simp] theorem State.mTab_energy (s : State) (f : Tables → Tables) : (s.mTab f).energy = s.energy := rfl
@[simp] theorem State.mTab_lich (s : State) (f : Tables → Tables) : (s.mTab f).lich = s.lich := rfl
@[simp] theorem State.mTab_therm (s : State) (f : Tables → Tables) : (s.mTab f).therm = s.therm := rfl
@[simp] theorem State.mTab_safe (s : State) (f : Tables → Tables) : (s.mTab f).safe = s.safe := rfl
@[simp] theorem State.mTab_inj (s : State) (f : Tables → Tables) : (s.mTab f).inj = s.inj := rfl
@[simp] theorem State.mTab_log (s : State) (f : Tables → Tables) : (s.mTab f).log = s.log := rfl
@[simp] theorem State.mTab_cnt (s : State) (f : Tables → Tables) : (s.mTab f).cnt = s.cnt := rfl
@[simp] theorem State.mTab_se (s : State) (f : Tables → Tables) : (s.mTab f).se = s.se := rfl
@[simp] theorem State.mTab_upd (s : State) (f : Tables → Tables) : (s.mTab f).upd = s.upd := rfl
@[simp] theorem State.mTab_ho (s : State) (f : Tables → Tables) : (s.mTab f).ho = s.ho := rfl
@[simp] theorem State.mTab_dio (s : State) (f : Tables → Tables) : (s.mTab f).dio = s.dio := rfl
@[simp] theorem State.mTab_mem (s : State) (f : Tables → Tables) : (s.mTab f).mem = s.mem := rfl
@[simp] theorem State.mTab_free (s : State) (f : Tables → Tables) : (s.mTab f).free = s.free := rfl
@[simp] theorem State.mTab_pending (s : State) (f : Tables → Tables) : (s.mTab f).pending = s.pending := rfl
@[simp] theorem State.mSnap_clk (s : State) (f : Snaps → Snaps) : (s.mSnap f).clk = s.clk := rfl
@[simp] theorem State.mSnap_sys (s : State) (f : Snaps → Snaps) : (s.mSnap f).sys = s.sys := rfl
@[simp] theorem State.mSnap_pow (s : State) (f : Snaps → Snaps) : (s.mSnap f).pow = s.pow := rfl
@[simp] theorem State.mSnap_ring (s : State) (f : Snaps → Snaps) : (s.mSnap f).ring = s.ring := rfl
@[simp] theorem State.mSnap_frm (s : State) (f : Snaps → Snaps) : (s.mSnap f).frm = s.frm := rfl
@[simp] theorem State.mSnap_auth (s : State) (f : Snaps → Snaps) : (s.mSnap f).auth = s.auth := rfl
@[simp] theorem State.mSnap_run (s : State) (f : Snaps → Snaps) : (s.mSnap f).run = s.run := rfl
@[simp] theorem State.mSnap_cfgs (s : State) (f : Snaps → Snaps) : (s.mSnap f).cfgs = s.cfgs := rfl
@[simp] theorem State.mSnap_fe (s : State) (f : Snaps → Snaps) : (s.mSnap f).fe = s.fe := rfl
@[simp] theorem State.mSnap_tab (s : State) (f : Snaps → Snaps) : (s.mSnap f).tab = s.tab := rfl
@[simp] theorem State.mSnap_snap (s : State) (f : Snaps → Snaps) : (s.mSnap f).snap = f s.snap := rfl
@[simp] theorem State.mSnap_loop (s : State) (f : Snaps → Snaps) : (s.mSnap f).loop = s.loop := rfl
@[simp] theorem State.mSnap_die (s : State) (f : Snaps → Snaps) : (s.mSnap f).die = s.die := rfl
@[simp] theorem State.mSnap_drv (s : State) (f : Snaps → Snaps) : (s.mSnap f).drv = s.drv := rfl
@[simp] theorem State.mSnap_fan (s : State) (f : Snaps → Snaps) : (s.mSnap f).fan = s.fan := rfl
@[simp] theorem State.mSnap_prog (s : State) (f : Snaps → Snaps) : (s.mSnap f).prog = s.prog := rfl
@[simp] theorem State.mSnap_conv (s : State) (f : Snaps → Snaps) : (s.mSnap f).conv = s.conv := rfl
@[simp] theorem State.mSnap_stitch (s : State) (f : Snaps → Snaps) : (s.mSnap f).stitch = s.stitch := rfl
@[simp] theorem State.mSnap_energy (s : State) (f : Snaps → Snaps) : (s.mSnap f).energy = s.energy := rfl
@[simp] theorem State.mSnap_lich (s : State) (f : Snaps → Snaps) : (s.mSnap f).lich = s.lich := rfl
@[simp] theorem State.mSnap_therm (s : State) (f : Snaps → Snaps) : (s.mSnap f).therm = s.therm := rfl
@[simp] theorem State.mSnap_safe (s : State) (f : Snaps → Snaps) : (s.mSnap f).safe = s.safe := rfl
@[simp] theorem State.mSnap_inj (s : State) (f : Snaps → Snaps) : (s.mSnap f).inj = s.inj := rfl
@[simp] theorem State.mSnap_log (s : State) (f : Snaps → Snaps) : (s.mSnap f).log = s.log := rfl
@[simp] theorem State.mSnap_cnt (s : State) (f : Snaps → Snaps) : (s.mSnap f).cnt = s.cnt := rfl
@[simp] theorem State.mSnap_se (s : State) (f : Snaps → Snaps) : (s.mSnap f).se = s.se := rfl
@[simp] theorem State.mSnap_upd (s : State) (f : Snaps → Snaps) : (s.mSnap f).upd = s.upd := rfl
@[simp] theorem State.mSnap_ho (s : State) (f : Snaps → Snaps) : (s.mSnap f).ho = s.ho := rfl
@[simp] theorem State.mSnap_dio (s : State) (f : Snaps → Snaps) : (s.mSnap f).dio = s.dio := rfl
@[simp] theorem State.mSnap_mem (s : State) (f : Snaps → Snaps) : (s.mSnap f).mem = s.mem := rfl
@[simp] theorem State.mSnap_free (s : State) (f : Snaps → Snaps) : (s.mSnap f).free = s.free := rfl
@[simp] theorem State.mSnap_pending (s : State) (f : Snaps → Snaps) : (s.mSnap f).pending = s.pending := rfl
@[simp] theorem State.mLoop_clk (s : State) (f : Vector LoopOut 8 → Vector LoopOut 8) : (s.mLoop f).clk = s.clk := rfl
@[simp] theorem State.mLoop_sys (s : State) (f : Vector LoopOut 8 → Vector LoopOut 8) : (s.mLoop f).sys = s.sys := rfl
@[simp] theorem State.mLoop_pow (s : State) (f : Vector LoopOut 8 → Vector LoopOut 8) : (s.mLoop f).pow = s.pow := rfl
@[simp] theorem State.mLoop_ring (s : State) (f : Vector LoopOut 8 → Vector LoopOut 8) : (s.mLoop f).ring = s.ring := rfl
@[simp] theorem State.mLoop_frm (s : State) (f : Vector LoopOut 8 → Vector LoopOut 8) : (s.mLoop f).frm = s.frm := rfl
@[simp] theorem State.mLoop_auth (s : State) (f : Vector LoopOut 8 → Vector LoopOut 8) : (s.mLoop f).auth = s.auth := rfl
@[simp] theorem State.mLoop_run (s : State) (f : Vector LoopOut 8 → Vector LoopOut 8) : (s.mLoop f).run = s.run := rfl
@[simp] theorem State.mLoop_cfgs (s : State) (f : Vector LoopOut 8 → Vector LoopOut 8) : (s.mLoop f).cfgs = s.cfgs := rfl
@[simp] theorem State.mLoop_fe (s : State) (f : Vector LoopOut 8 → Vector LoopOut 8) : (s.mLoop f).fe = s.fe := rfl
@[simp] theorem State.mLoop_tab (s : State) (f : Vector LoopOut 8 → Vector LoopOut 8) : (s.mLoop f).tab = s.tab := rfl
@[simp] theorem State.mLoop_snap (s : State) (f : Vector LoopOut 8 → Vector LoopOut 8) : (s.mLoop f).snap = s.snap := rfl
@[simp] theorem State.mLoop_loop (s : State) (f : Vector LoopOut 8 → Vector LoopOut 8) : (s.mLoop f).loop = f s.loop := rfl
@[simp] theorem State.mLoop_die (s : State) (f : Vector LoopOut 8 → Vector LoopOut 8) : (s.mLoop f).die = s.die := rfl
@[simp] theorem State.mLoop_drv (s : State) (f : Vector LoopOut 8 → Vector LoopOut 8) : (s.mLoop f).drv = s.drv := rfl
@[simp] theorem State.mLoop_fan (s : State) (f : Vector LoopOut 8 → Vector LoopOut 8) : (s.mLoop f).fan = s.fan := rfl
@[simp] theorem State.mLoop_prog (s : State) (f : Vector LoopOut 8 → Vector LoopOut 8) : (s.mLoop f).prog = s.prog := rfl
@[simp] theorem State.mLoop_conv (s : State) (f : Vector LoopOut 8 → Vector LoopOut 8) : (s.mLoop f).conv = s.conv := rfl
@[simp] theorem State.mLoop_stitch (s : State) (f : Vector LoopOut 8 → Vector LoopOut 8) : (s.mLoop f).stitch = s.stitch := rfl
@[simp] theorem State.mLoop_energy (s : State) (f : Vector LoopOut 8 → Vector LoopOut 8) : (s.mLoop f).energy = s.energy := rfl
@[simp] theorem State.mLoop_lich (s : State) (f : Vector LoopOut 8 → Vector LoopOut 8) : (s.mLoop f).lich = s.lich := rfl
@[simp] theorem State.mLoop_therm (s : State) (f : Vector LoopOut 8 → Vector LoopOut 8) : (s.mLoop f).therm = s.therm := rfl
@[simp] theorem State.mLoop_safe (s : State) (f : Vector LoopOut 8 → Vector LoopOut 8) : (s.mLoop f).safe = s.safe := rfl
@[simp] theorem State.mLoop_inj (s : State) (f : Vector LoopOut 8 → Vector LoopOut 8) : (s.mLoop f).inj = s.inj := rfl
@[simp] theorem State.mLoop_log (s : State) (f : Vector LoopOut 8 → Vector LoopOut 8) : (s.mLoop f).log = s.log := rfl
@[simp] theorem State.mLoop_cnt (s : State) (f : Vector LoopOut 8 → Vector LoopOut 8) : (s.mLoop f).cnt = s.cnt := rfl
@[simp] theorem State.mLoop_se (s : State) (f : Vector LoopOut 8 → Vector LoopOut 8) : (s.mLoop f).se = s.se := rfl
@[simp] theorem State.mLoop_upd (s : State) (f : Vector LoopOut 8 → Vector LoopOut 8) : (s.mLoop f).upd = s.upd := rfl
@[simp] theorem State.mLoop_ho (s : State) (f : Vector LoopOut 8 → Vector LoopOut 8) : (s.mLoop f).ho = s.ho := rfl
@[simp] theorem State.mLoop_dio (s : State) (f : Vector LoopOut 8 → Vector LoopOut 8) : (s.mLoop f).dio = s.dio := rfl
@[simp] theorem State.mLoop_mem (s : State) (f : Vector LoopOut 8 → Vector LoopOut 8) : (s.mLoop f).mem = s.mem := rfl
@[simp] theorem State.mLoop_free (s : State) (f : Vector LoopOut 8 → Vector LoopOut 8) : (s.mLoop f).free = s.free := rfl
@[simp] theorem State.mLoop_pending (s : State) (f : Vector LoopOut 8 → Vector LoopOut 8) : (s.mLoop f).pending = s.pending := rfl
@[simp] theorem State.mDie_clk (s : State) (f : Probes → Probes) : (s.mDie f).clk = s.clk := rfl
@[simp] theorem State.mDie_sys (s : State) (f : Probes → Probes) : (s.mDie f).sys = s.sys := rfl
@[simp] theorem State.mDie_pow (s : State) (f : Probes → Probes) : (s.mDie f).pow = s.pow := rfl
@[simp] theorem State.mDie_ring (s : State) (f : Probes → Probes) : (s.mDie f).ring = s.ring := rfl
@[simp] theorem State.mDie_frm (s : State) (f : Probes → Probes) : (s.mDie f).frm = s.frm := rfl
@[simp] theorem State.mDie_auth (s : State) (f : Probes → Probes) : (s.mDie f).auth = s.auth := rfl
@[simp] theorem State.mDie_run (s : State) (f : Probes → Probes) : (s.mDie f).run = s.run := rfl
@[simp] theorem State.mDie_cfgs (s : State) (f : Probes → Probes) : (s.mDie f).cfgs = s.cfgs := rfl
@[simp] theorem State.mDie_fe (s : State) (f : Probes → Probes) : (s.mDie f).fe = s.fe := rfl
@[simp] theorem State.mDie_tab (s : State) (f : Probes → Probes) : (s.mDie f).tab = s.tab := rfl
@[simp] theorem State.mDie_snap (s : State) (f : Probes → Probes) : (s.mDie f).snap = s.snap := rfl
@[simp] theorem State.mDie_loop (s : State) (f : Probes → Probes) : (s.mDie f).loop = s.loop := rfl
@[simp] theorem State.mDie_die (s : State) (f : Probes → Probes) : (s.mDie f).die = f s.die := rfl
@[simp] theorem State.mDie_drv (s : State) (f : Probes → Probes) : (s.mDie f).drv = s.drv := rfl
@[simp] theorem State.mDie_fan (s : State) (f : Probes → Probes) : (s.mDie f).fan = s.fan := rfl
@[simp] theorem State.mDie_prog (s : State) (f : Probes → Probes) : (s.mDie f).prog = s.prog := rfl
@[simp] theorem State.mDie_conv (s : State) (f : Probes → Probes) : (s.mDie f).conv = s.conv := rfl
@[simp] theorem State.mDie_stitch (s : State) (f : Probes → Probes) : (s.mDie f).stitch = s.stitch := rfl
@[simp] theorem State.mDie_energy (s : State) (f : Probes → Probes) : (s.mDie f).energy = s.energy := rfl
@[simp] theorem State.mDie_lich (s : State) (f : Probes → Probes) : (s.mDie f).lich = s.lich := rfl
@[simp] theorem State.mDie_therm (s : State) (f : Probes → Probes) : (s.mDie f).therm = s.therm := rfl
@[simp] theorem State.mDie_safe (s : State) (f : Probes → Probes) : (s.mDie f).safe = s.safe := rfl
@[simp] theorem State.mDie_inj (s : State) (f : Probes → Probes) : (s.mDie f).inj = s.inj := rfl
@[simp] theorem State.mDie_log (s : State) (f : Probes → Probes) : (s.mDie f).log = s.log := rfl
@[simp] theorem State.mDie_cnt (s : State) (f : Probes → Probes) : (s.mDie f).cnt = s.cnt := rfl
@[simp] theorem State.mDie_se (s : State) (f : Probes → Probes) : (s.mDie f).se = s.se := rfl
@[simp] theorem State.mDie_upd (s : State) (f : Probes → Probes) : (s.mDie f).upd = s.upd := rfl
@[simp] theorem State.mDie_ho (s : State) (f : Probes → Probes) : (s.mDie f).ho = s.ho := rfl
@[simp] theorem State.mDie_dio (s : State) (f : Probes → Probes) : (s.mDie f).dio = s.dio := rfl
@[simp] theorem State.mDie_mem (s : State) (f : Probes → Probes) : (s.mDie f).mem = s.mem := rfl
@[simp] theorem State.mDie_free (s : State) (f : Probes → Probes) : (s.mDie f).free = s.free := rfl
@[simp] theorem State.mDie_pending (s : State) (f : Probes → Probes) : (s.mDie f).pending = s.pending := rfl
@[simp] theorem State.mDrv_clk (s : State) (f : Drivers → Drivers) : (s.mDrv f).clk = s.clk := rfl
@[simp] theorem State.mDrv_sys (s : State) (f : Drivers → Drivers) : (s.mDrv f).sys = s.sys := rfl
@[simp] theorem State.mDrv_pow (s : State) (f : Drivers → Drivers) : (s.mDrv f).pow = s.pow := rfl
@[simp] theorem State.mDrv_ring (s : State) (f : Drivers → Drivers) : (s.mDrv f).ring = s.ring := rfl
@[simp] theorem State.mDrv_frm (s : State) (f : Drivers → Drivers) : (s.mDrv f).frm = s.frm := rfl
@[simp] theorem State.mDrv_auth (s : State) (f : Drivers → Drivers) : (s.mDrv f).auth = s.auth := rfl
@[simp] theorem State.mDrv_run (s : State) (f : Drivers → Drivers) : (s.mDrv f).run = s.run := rfl
@[simp] theorem State.mDrv_cfgs (s : State) (f : Drivers → Drivers) : (s.mDrv f).cfgs = s.cfgs := rfl
@[simp] theorem State.mDrv_fe (s : State) (f : Drivers → Drivers) : (s.mDrv f).fe = s.fe := rfl
@[simp] theorem State.mDrv_tab (s : State) (f : Drivers → Drivers) : (s.mDrv f).tab = s.tab := rfl
@[simp] theorem State.mDrv_snap (s : State) (f : Drivers → Drivers) : (s.mDrv f).snap = s.snap := rfl
@[simp] theorem State.mDrv_loop (s : State) (f : Drivers → Drivers) : (s.mDrv f).loop = s.loop := rfl
@[simp] theorem State.mDrv_die (s : State) (f : Drivers → Drivers) : (s.mDrv f).die = s.die := rfl
@[simp] theorem State.mDrv_drv (s : State) (f : Drivers → Drivers) : (s.mDrv f).drv = f s.drv := rfl
@[simp] theorem State.mDrv_fan (s : State) (f : Drivers → Drivers) : (s.mDrv f).fan = s.fan := rfl
@[simp] theorem State.mDrv_prog (s : State) (f : Drivers → Drivers) : (s.mDrv f).prog = s.prog := rfl
@[simp] theorem State.mDrv_conv (s : State) (f : Drivers → Drivers) : (s.mDrv f).conv = s.conv := rfl
@[simp] theorem State.mDrv_stitch (s : State) (f : Drivers → Drivers) : (s.mDrv f).stitch = s.stitch := rfl
@[simp] theorem State.mDrv_energy (s : State) (f : Drivers → Drivers) : (s.mDrv f).energy = s.energy := rfl
@[simp] theorem State.mDrv_lich (s : State) (f : Drivers → Drivers) : (s.mDrv f).lich = s.lich := rfl
@[simp] theorem State.mDrv_therm (s : State) (f : Drivers → Drivers) : (s.mDrv f).therm = s.therm := rfl
@[simp] theorem State.mDrv_safe (s : State) (f : Drivers → Drivers) : (s.mDrv f).safe = s.safe := rfl
@[simp] theorem State.mDrv_inj (s : State) (f : Drivers → Drivers) : (s.mDrv f).inj = s.inj := rfl
@[simp] theorem State.mDrv_log (s : State) (f : Drivers → Drivers) : (s.mDrv f).log = s.log := rfl
@[simp] theorem State.mDrv_cnt (s : State) (f : Drivers → Drivers) : (s.mDrv f).cnt = s.cnt := rfl
@[simp] theorem State.mDrv_se (s : State) (f : Drivers → Drivers) : (s.mDrv f).se = s.se := rfl
@[simp] theorem State.mDrv_upd (s : State) (f : Drivers → Drivers) : (s.mDrv f).upd = s.upd := rfl
@[simp] theorem State.mDrv_ho (s : State) (f : Drivers → Drivers) : (s.mDrv f).ho = s.ho := rfl
@[simp] theorem State.mDrv_dio (s : State) (f : Drivers → Drivers) : (s.mDrv f).dio = s.dio := rfl
@[simp] theorem State.mDrv_mem (s : State) (f : Drivers → Drivers) : (s.mDrv f).mem = s.mem := rfl
@[simp] theorem State.mDrv_free (s : State) (f : Drivers → Drivers) : (s.mDrv f).free = s.free := rfl
@[simp] theorem State.mDrv_pending (s : State) (f : Drivers → Drivers) : (s.mDrv f).pending = s.pending := rfl
@[simp] theorem State.mFan_clk (s : State) (f : Fans → Fans) : (s.mFan f).clk = s.clk := rfl
@[simp] theorem State.mFan_sys (s : State) (f : Fans → Fans) : (s.mFan f).sys = s.sys := rfl
@[simp] theorem State.mFan_pow (s : State) (f : Fans → Fans) : (s.mFan f).pow = s.pow := rfl
@[simp] theorem State.mFan_ring (s : State) (f : Fans → Fans) : (s.mFan f).ring = s.ring := rfl
@[simp] theorem State.mFan_frm (s : State) (f : Fans → Fans) : (s.mFan f).frm = s.frm := rfl
@[simp] theorem State.mFan_auth (s : State) (f : Fans → Fans) : (s.mFan f).auth = s.auth := rfl
@[simp] theorem State.mFan_run (s : State) (f : Fans → Fans) : (s.mFan f).run = s.run := rfl
@[simp] theorem State.mFan_cfgs (s : State) (f : Fans → Fans) : (s.mFan f).cfgs = s.cfgs := rfl
@[simp] theorem State.mFan_fe (s : State) (f : Fans → Fans) : (s.mFan f).fe = s.fe := rfl
@[simp] theorem State.mFan_tab (s : State) (f : Fans → Fans) : (s.mFan f).tab = s.tab := rfl
@[simp] theorem State.mFan_snap (s : State) (f : Fans → Fans) : (s.mFan f).snap = s.snap := rfl
@[simp] theorem State.mFan_loop (s : State) (f : Fans → Fans) : (s.mFan f).loop = s.loop := rfl
@[simp] theorem State.mFan_die (s : State) (f : Fans → Fans) : (s.mFan f).die = s.die := rfl
@[simp] theorem State.mFan_drv (s : State) (f : Fans → Fans) : (s.mFan f).drv = s.drv := rfl
@[simp] theorem State.mFan_fan (s : State) (f : Fans → Fans) : (s.mFan f).fan = f s.fan := rfl
@[simp] theorem State.mFan_prog (s : State) (f : Fans → Fans) : (s.mFan f).prog = s.prog := rfl
@[simp] theorem State.mFan_conv (s : State) (f : Fans → Fans) : (s.mFan f).conv = s.conv := rfl
@[simp] theorem State.mFan_stitch (s : State) (f : Fans → Fans) : (s.mFan f).stitch = s.stitch := rfl
@[simp] theorem State.mFan_energy (s : State) (f : Fans → Fans) : (s.mFan f).energy = s.energy := rfl
@[simp] theorem State.mFan_lich (s : State) (f : Fans → Fans) : (s.mFan f).lich = s.lich := rfl
@[simp] theorem State.mFan_therm (s : State) (f : Fans → Fans) : (s.mFan f).therm = s.therm := rfl
@[simp] theorem State.mFan_safe (s : State) (f : Fans → Fans) : (s.mFan f).safe = s.safe := rfl
@[simp] theorem State.mFan_inj (s : State) (f : Fans → Fans) : (s.mFan f).inj = s.inj := rfl
@[simp] theorem State.mFan_log (s : State) (f : Fans → Fans) : (s.mFan f).log = s.log := rfl
@[simp] theorem State.mFan_cnt (s : State) (f : Fans → Fans) : (s.mFan f).cnt = s.cnt := rfl
@[simp] theorem State.mFan_se (s : State) (f : Fans → Fans) : (s.mFan f).se = s.se := rfl
@[simp] theorem State.mFan_upd (s : State) (f : Fans → Fans) : (s.mFan f).upd = s.upd := rfl
@[simp] theorem State.mFan_ho (s : State) (f : Fans → Fans) : (s.mFan f).ho = s.ho := rfl
@[simp] theorem State.mFan_dio (s : State) (f : Fans → Fans) : (s.mFan f).dio = s.dio := rfl
@[simp] theorem State.mFan_mem (s : State) (f : Fans → Fans) : (s.mFan f).mem = s.mem := rfl
@[simp] theorem State.mFan_free (s : State) (f : Fans → Fans) : (s.mFan f).free = s.free := rfl
@[simp] theorem State.mFan_pending (s : State) (f : Fans → Fans) : (s.mFan f).pending = s.pending := rfl
@[simp] theorem State.mProg_clk (s : State) (f : Prog → Prog) : (s.mProg f).clk = s.clk := rfl
@[simp] theorem State.mProg_sys (s : State) (f : Prog → Prog) : (s.mProg f).sys = s.sys := rfl
@[simp] theorem State.mProg_pow (s : State) (f : Prog → Prog) : (s.mProg f).pow = s.pow := rfl
@[simp] theorem State.mProg_ring (s : State) (f : Prog → Prog) : (s.mProg f).ring = s.ring := rfl
@[simp] theorem State.mProg_frm (s : State) (f : Prog → Prog) : (s.mProg f).frm = s.frm := rfl
@[simp] theorem State.mProg_auth (s : State) (f : Prog → Prog) : (s.mProg f).auth = s.auth := rfl
@[simp] theorem State.mProg_run (s : State) (f : Prog → Prog) : (s.mProg f).run = s.run := rfl
@[simp] theorem State.mProg_cfgs (s : State) (f : Prog → Prog) : (s.mProg f).cfgs = s.cfgs := rfl
@[simp] theorem State.mProg_fe (s : State) (f : Prog → Prog) : (s.mProg f).fe = s.fe := rfl
@[simp] theorem State.mProg_tab (s : State) (f : Prog → Prog) : (s.mProg f).tab = s.tab := rfl
@[simp] theorem State.mProg_snap (s : State) (f : Prog → Prog) : (s.mProg f).snap = s.snap := rfl
@[simp] theorem State.mProg_loop (s : State) (f : Prog → Prog) : (s.mProg f).loop = s.loop := rfl
@[simp] theorem State.mProg_die (s : State) (f : Prog → Prog) : (s.mProg f).die = s.die := rfl
@[simp] theorem State.mProg_drv (s : State) (f : Prog → Prog) : (s.mProg f).drv = s.drv := rfl
@[simp] theorem State.mProg_fan (s : State) (f : Prog → Prog) : (s.mProg f).fan = s.fan := rfl
@[simp] theorem State.mProg_prog (s : State) (f : Prog → Prog) : (s.mProg f).prog = f s.prog := rfl
@[simp] theorem State.mProg_conv (s : State) (f : Prog → Prog) : (s.mProg f).conv = s.conv := rfl
@[simp] theorem State.mProg_stitch (s : State) (f : Prog → Prog) : (s.mProg f).stitch = s.stitch := rfl
@[simp] theorem State.mProg_energy (s : State) (f : Prog → Prog) : (s.mProg f).energy = s.energy := rfl
@[simp] theorem State.mProg_lich (s : State) (f : Prog → Prog) : (s.mProg f).lich = s.lich := rfl
@[simp] theorem State.mProg_therm (s : State) (f : Prog → Prog) : (s.mProg f).therm = s.therm := rfl
@[simp] theorem State.mProg_safe (s : State) (f : Prog → Prog) : (s.mProg f).safe = s.safe := rfl
@[simp] theorem State.mProg_inj (s : State) (f : Prog → Prog) : (s.mProg f).inj = s.inj := rfl
@[simp] theorem State.mProg_log (s : State) (f : Prog → Prog) : (s.mProg f).log = s.log := rfl
@[simp] theorem State.mProg_cnt (s : State) (f : Prog → Prog) : (s.mProg f).cnt = s.cnt := rfl
@[simp] theorem State.mProg_se (s : State) (f : Prog → Prog) : (s.mProg f).se = s.se := rfl
@[simp] theorem State.mProg_upd (s : State) (f : Prog → Prog) : (s.mProg f).upd = s.upd := rfl
@[simp] theorem State.mProg_ho (s : State) (f : Prog → Prog) : (s.mProg f).ho = s.ho := rfl
@[simp] theorem State.mProg_dio (s : State) (f : Prog → Prog) : (s.mProg f).dio = s.dio := rfl
@[simp] theorem State.mProg_mem (s : State) (f : Prog → Prog) : (s.mProg f).mem = s.mem := rfl
@[simp] theorem State.mProg_free (s : State) (f : Prog → Prog) : (s.mProg f).free = s.free := rfl
@[simp] theorem State.mProg_pending (s : State) (f : Prog → Prog) : (s.mProg f).pending = s.pending := rfl
@[simp] theorem State.mConv_clk (s : State) (f : Conveyor → Conveyor) : (s.mConv f).clk = s.clk := rfl
@[simp] theorem State.mConv_sys (s : State) (f : Conveyor → Conveyor) : (s.mConv f).sys = s.sys := rfl
@[simp] theorem State.mConv_pow (s : State) (f : Conveyor → Conveyor) : (s.mConv f).pow = s.pow := rfl
@[simp] theorem State.mConv_ring (s : State) (f : Conveyor → Conveyor) : (s.mConv f).ring = s.ring := rfl
@[simp] theorem State.mConv_frm (s : State) (f : Conveyor → Conveyor) : (s.mConv f).frm = s.frm := rfl
@[simp] theorem State.mConv_auth (s : State) (f : Conveyor → Conveyor) : (s.mConv f).auth = s.auth := rfl
@[simp] theorem State.mConv_run (s : State) (f : Conveyor → Conveyor) : (s.mConv f).run = s.run := rfl
@[simp] theorem State.mConv_cfgs (s : State) (f : Conveyor → Conveyor) : (s.mConv f).cfgs = s.cfgs := rfl
@[simp] theorem State.mConv_fe (s : State) (f : Conveyor → Conveyor) : (s.mConv f).fe = s.fe := rfl
@[simp] theorem State.mConv_tab (s : State) (f : Conveyor → Conveyor) : (s.mConv f).tab = s.tab := rfl
@[simp] theorem State.mConv_snap (s : State) (f : Conveyor → Conveyor) : (s.mConv f).snap = s.snap := rfl
@[simp] theorem State.mConv_loop (s : State) (f : Conveyor → Conveyor) : (s.mConv f).loop = s.loop := rfl
@[simp] theorem State.mConv_die (s : State) (f : Conveyor → Conveyor) : (s.mConv f).die = s.die := rfl
@[simp] theorem State.mConv_drv (s : State) (f : Conveyor → Conveyor) : (s.mConv f).drv = s.drv := rfl
@[simp] theorem State.mConv_fan (s : State) (f : Conveyor → Conveyor) : (s.mConv f).fan = s.fan := rfl
@[simp] theorem State.mConv_prog (s : State) (f : Conveyor → Conveyor) : (s.mConv f).prog = s.prog := rfl
@[simp] theorem State.mConv_conv (s : State) (f : Conveyor → Conveyor) : (s.mConv f).conv = f s.conv := rfl
@[simp] theorem State.mConv_stitch (s : State) (f : Conveyor → Conveyor) : (s.mConv f).stitch = s.stitch := rfl
@[simp] theorem State.mConv_energy (s : State) (f : Conveyor → Conveyor) : (s.mConv f).energy = s.energy := rfl
@[simp] theorem State.mConv_lich (s : State) (f : Conveyor → Conveyor) : (s.mConv f).lich = s.lich := rfl
@[simp] theorem State.mConv_therm (s : State) (f : Conveyor → Conveyor) : (s.mConv f).therm = s.therm := rfl
@[simp] theorem State.mConv_safe (s : State) (f : Conveyor → Conveyor) : (s.mConv f).safe = s.safe := rfl
@[simp] theorem State.mConv_inj (s : State) (f : Conveyor → Conveyor) : (s.mConv f).inj = s.inj := rfl
@[simp] theorem State.mConv_log (s : State) (f : Conveyor → Conveyor) : (s.mConv f).log = s.log := rfl
@[simp] theorem State.mConv_cnt (s : State) (f : Conveyor → Conveyor) : (s.mConv f).cnt = s.cnt := rfl
@[simp] theorem State.mConv_se (s : State) (f : Conveyor → Conveyor) : (s.mConv f).se = s.se := rfl
@[simp] theorem State.mConv_upd (s : State) (f : Conveyor → Conveyor) : (s.mConv f).upd = s.upd := rfl
@[simp] theorem State.mConv_ho (s : State) (f : Conveyor → Conveyor) : (s.mConv f).ho = s.ho := rfl
@[simp] theorem State.mConv_dio (s : State) (f : Conveyor → Conveyor) : (s.mConv f).dio = s.dio := rfl
@[simp] theorem State.mConv_mem (s : State) (f : Conveyor → Conveyor) : (s.mConv f).mem = s.mem := rfl
@[simp] theorem State.mConv_free (s : State) (f : Conveyor → Conveyor) : (s.mConv f).free = s.free := rfl
@[simp] theorem State.mConv_pending (s : State) (f : Conveyor → Conveyor) : (s.mConv f).pending = s.pending := rfl
@[simp] theorem State.mStitch_clk (s : State) (f : Stitches → Stitches) : (s.mStitch f).clk = s.clk := rfl
@[simp] theorem State.mStitch_sys (s : State) (f : Stitches → Stitches) : (s.mStitch f).sys = s.sys := rfl
@[simp] theorem State.mStitch_pow (s : State) (f : Stitches → Stitches) : (s.mStitch f).pow = s.pow := rfl
@[simp] theorem State.mStitch_ring (s : State) (f : Stitches → Stitches) : (s.mStitch f).ring = s.ring := rfl
@[simp] theorem State.mStitch_frm (s : State) (f : Stitches → Stitches) : (s.mStitch f).frm = s.frm := rfl
@[simp] theorem State.mStitch_auth (s : State) (f : Stitches → Stitches) : (s.mStitch f).auth = s.auth := rfl
@[simp] theorem State.mStitch_run (s : State) (f : Stitches → Stitches) : (s.mStitch f).run = s.run := rfl
@[simp] theorem State.mStitch_cfgs (s : State) (f : Stitches → Stitches) : (s.mStitch f).cfgs = s.cfgs := rfl
@[simp] theorem State.mStitch_fe (s : State) (f : Stitches → Stitches) : (s.mStitch f).fe = s.fe := rfl
@[simp] theorem State.mStitch_tab (s : State) (f : Stitches → Stitches) : (s.mStitch f).tab = s.tab := rfl
@[simp] theorem State.mStitch_snap (s : State) (f : Stitches → Stitches) : (s.mStitch f).snap = s.snap := rfl
@[simp] theorem State.mStitch_loop (s : State) (f : Stitches → Stitches) : (s.mStitch f).loop = s.loop := rfl
@[simp] theorem State.mStitch_die (s : State) (f : Stitches → Stitches) : (s.mStitch f).die = s.die := rfl
@[simp] theorem State.mStitch_drv (s : State) (f : Stitches → Stitches) : (s.mStitch f).drv = s.drv := rfl
@[simp] theorem State.mStitch_fan (s : State) (f : Stitches → Stitches) : (s.mStitch f).fan = s.fan := rfl
@[simp] theorem State.mStitch_prog (s : State) (f : Stitches → Stitches) : (s.mStitch f).prog = s.prog := rfl
@[simp] theorem State.mStitch_conv (s : State) (f : Stitches → Stitches) : (s.mStitch f).conv = s.conv := rfl
@[simp] theorem State.mStitch_stitch (s : State) (f : Stitches → Stitches) : (s.mStitch f).stitch = f s.stitch := rfl
@[simp] theorem State.mStitch_energy (s : State) (f : Stitches → Stitches) : (s.mStitch f).energy = s.energy := rfl
@[simp] theorem State.mStitch_lich (s : State) (f : Stitches → Stitches) : (s.mStitch f).lich = s.lich := rfl
@[simp] theorem State.mStitch_therm (s : State) (f : Stitches → Stitches) : (s.mStitch f).therm = s.therm := rfl
@[simp] theorem State.mStitch_safe (s : State) (f : Stitches → Stitches) : (s.mStitch f).safe = s.safe := rfl
@[simp] theorem State.mStitch_inj (s : State) (f : Stitches → Stitches) : (s.mStitch f).inj = s.inj := rfl
@[simp] theorem State.mStitch_log (s : State) (f : Stitches → Stitches) : (s.mStitch f).log = s.log := rfl
@[simp] theorem State.mStitch_cnt (s : State) (f : Stitches → Stitches) : (s.mStitch f).cnt = s.cnt := rfl
@[simp] theorem State.mStitch_se (s : State) (f : Stitches → Stitches) : (s.mStitch f).se = s.se := rfl
@[simp] theorem State.mStitch_upd (s : State) (f : Stitches → Stitches) : (s.mStitch f).upd = s.upd := rfl
@[simp] theorem State.mStitch_ho (s : State) (f : Stitches → Stitches) : (s.mStitch f).ho = s.ho := rfl
@[simp] theorem State.mStitch_dio (s : State) (f : Stitches → Stitches) : (s.mStitch f).dio = s.dio := rfl
@[simp] theorem State.mStitch_mem (s : State) (f : Stitches → Stitches) : (s.mStitch f).mem = s.mem := rfl
@[simp] theorem State.mStitch_free (s : State) (f : Stitches → Stitches) : (s.mStitch f).free = s.free := rfl
@[simp] theorem State.mStitch_pending (s : State) (f : Stitches → Stitches) : (s.mStitch f).pending = s.pending := rfl
@[simp] theorem State.mEnergy_clk (s : State) (f : Energy → Energy) : (s.mEnergy f).clk = s.clk := rfl
@[simp] theorem State.mEnergy_sys (s : State) (f : Energy → Energy) : (s.mEnergy f).sys = s.sys := rfl
@[simp] theorem State.mEnergy_pow (s : State) (f : Energy → Energy) : (s.mEnergy f).pow = s.pow := rfl
@[simp] theorem State.mEnergy_ring (s : State) (f : Energy → Energy) : (s.mEnergy f).ring = s.ring := rfl
@[simp] theorem State.mEnergy_frm (s : State) (f : Energy → Energy) : (s.mEnergy f).frm = s.frm := rfl
@[simp] theorem State.mEnergy_auth (s : State) (f : Energy → Energy) : (s.mEnergy f).auth = s.auth := rfl
@[simp] theorem State.mEnergy_run (s : State) (f : Energy → Energy) : (s.mEnergy f).run = s.run := rfl
@[simp] theorem State.mEnergy_cfgs (s : State) (f : Energy → Energy) : (s.mEnergy f).cfgs = s.cfgs := rfl
@[simp] theorem State.mEnergy_fe (s : State) (f : Energy → Energy) : (s.mEnergy f).fe = s.fe := rfl
@[simp] theorem State.mEnergy_tab (s : State) (f : Energy → Energy) : (s.mEnergy f).tab = s.tab := rfl
@[simp] theorem State.mEnergy_snap (s : State) (f : Energy → Energy) : (s.mEnergy f).snap = s.snap := rfl
@[simp] theorem State.mEnergy_loop (s : State) (f : Energy → Energy) : (s.mEnergy f).loop = s.loop := rfl
@[simp] theorem State.mEnergy_die (s : State) (f : Energy → Energy) : (s.mEnergy f).die = s.die := rfl
@[simp] theorem State.mEnergy_drv (s : State) (f : Energy → Energy) : (s.mEnergy f).drv = s.drv := rfl
@[simp] theorem State.mEnergy_fan (s : State) (f : Energy → Energy) : (s.mEnergy f).fan = s.fan := rfl
@[simp] theorem State.mEnergy_prog (s : State) (f : Energy → Energy) : (s.mEnergy f).prog = s.prog := rfl
@[simp] theorem State.mEnergy_conv (s : State) (f : Energy → Energy) : (s.mEnergy f).conv = s.conv := rfl
@[simp] theorem State.mEnergy_stitch (s : State) (f : Energy → Energy) : (s.mEnergy f).stitch = s.stitch := rfl
@[simp] theorem State.mEnergy_energy (s : State) (f : Energy → Energy) : (s.mEnergy f).energy = f s.energy := rfl
@[simp] theorem State.mEnergy_lich (s : State) (f : Energy → Energy) : (s.mEnergy f).lich = s.lich := rfl
@[simp] theorem State.mEnergy_therm (s : State) (f : Energy → Energy) : (s.mEnergy f).therm = s.therm := rfl
@[simp] theorem State.mEnergy_safe (s : State) (f : Energy → Energy) : (s.mEnergy f).safe = s.safe := rfl
@[simp] theorem State.mEnergy_inj (s : State) (f : Energy → Energy) : (s.mEnergy f).inj = s.inj := rfl
@[simp] theorem State.mEnergy_log (s : State) (f : Energy → Energy) : (s.mEnergy f).log = s.log := rfl
@[simp] theorem State.mEnergy_cnt (s : State) (f : Energy → Energy) : (s.mEnergy f).cnt = s.cnt := rfl
@[simp] theorem State.mEnergy_se (s : State) (f : Energy → Energy) : (s.mEnergy f).se = s.se := rfl
@[simp] theorem State.mEnergy_upd (s : State) (f : Energy → Energy) : (s.mEnergy f).upd = s.upd := rfl
@[simp] theorem State.mEnergy_ho (s : State) (f : Energy → Energy) : (s.mEnergy f).ho = s.ho := rfl
@[simp] theorem State.mEnergy_dio (s : State) (f : Energy → Energy) : (s.mEnergy f).dio = s.dio := rfl
@[simp] theorem State.mEnergy_mem (s : State) (f : Energy → Energy) : (s.mEnergy f).mem = s.mem := rfl
@[simp] theorem State.mEnergy_free (s : State) (f : Energy → Energy) : (s.mEnergy f).free = s.free := rfl
@[simp] theorem State.mEnergy_pending (s : State) (f : Energy → Energy) : (s.mEnergy f).pending = s.pending := rfl
@[simp] theorem State.mLich_clk (s : State) (f : Lichen → Lichen) : (s.mLich f).clk = s.clk := rfl
@[simp] theorem State.mLich_sys (s : State) (f : Lichen → Lichen) : (s.mLich f).sys = s.sys := rfl
@[simp] theorem State.mLich_pow (s : State) (f : Lichen → Lichen) : (s.mLich f).pow = s.pow := rfl
@[simp] theorem State.mLich_ring (s : State) (f : Lichen → Lichen) : (s.mLich f).ring = s.ring := rfl
@[simp] theorem State.mLich_frm (s : State) (f : Lichen → Lichen) : (s.mLich f).frm = s.frm := rfl
@[simp] theorem State.mLich_auth (s : State) (f : Lichen → Lichen) : (s.mLich f).auth = s.auth := rfl
@[simp] theorem State.mLich_run (s : State) (f : Lichen → Lichen) : (s.mLich f).run = s.run := rfl
@[simp] theorem State.mLich_cfgs (s : State) (f : Lichen → Lichen) : (s.mLich f).cfgs = s.cfgs := rfl
@[simp] theorem State.mLich_fe (s : State) (f : Lichen → Lichen) : (s.mLich f).fe = s.fe := rfl
@[simp] theorem State.mLich_tab (s : State) (f : Lichen → Lichen) : (s.mLich f).tab = s.tab := rfl
@[simp] theorem State.mLich_snap (s : State) (f : Lichen → Lichen) : (s.mLich f).snap = s.snap := rfl
@[simp] theorem State.mLich_loop (s : State) (f : Lichen → Lichen) : (s.mLich f).loop = s.loop := rfl
@[simp] theorem State.mLich_die (s : State) (f : Lichen → Lichen) : (s.mLich f).die = s.die := rfl
@[simp] theorem State.mLich_drv (s : State) (f : Lichen → Lichen) : (s.mLich f).drv = s.drv := rfl
@[simp] theorem State.mLich_fan (s : State) (f : Lichen → Lichen) : (s.mLich f).fan = s.fan := rfl
@[simp] theorem State.mLich_prog (s : State) (f : Lichen → Lichen) : (s.mLich f).prog = s.prog := rfl
@[simp] theorem State.mLich_conv (s : State) (f : Lichen → Lichen) : (s.mLich f).conv = s.conv := rfl
@[simp] theorem State.mLich_stitch (s : State) (f : Lichen → Lichen) : (s.mLich f).stitch = s.stitch := rfl
@[simp] theorem State.mLich_energy (s : State) (f : Lichen → Lichen) : (s.mLich f).energy = s.energy := rfl
@[simp] theorem State.mLich_lich (s : State) (f : Lichen → Lichen) : (s.mLich f).lich = f s.lich := rfl
@[simp] theorem State.mLich_therm (s : State) (f : Lichen → Lichen) : (s.mLich f).therm = s.therm := rfl
@[simp] theorem State.mLich_safe (s : State) (f : Lichen → Lichen) : (s.mLich f).safe = s.safe := rfl
@[simp] theorem State.mLich_inj (s : State) (f : Lichen → Lichen) : (s.mLich f).inj = s.inj := rfl
@[simp] theorem State.mLich_log (s : State) (f : Lichen → Lichen) : (s.mLich f).log = s.log := rfl
@[simp] theorem State.mLich_cnt (s : State) (f : Lichen → Lichen) : (s.mLich f).cnt = s.cnt := rfl
@[simp] theorem State.mLich_se (s : State) (f : Lichen → Lichen) : (s.mLich f).se = s.se := rfl
@[simp] theorem State.mLich_upd (s : State) (f : Lichen → Lichen) : (s.mLich f).upd = s.upd := rfl
@[simp] theorem State.mLich_ho (s : State) (f : Lichen → Lichen) : (s.mLich f).ho = s.ho := rfl
@[simp] theorem State.mLich_dio (s : State) (f : Lichen → Lichen) : (s.mLich f).dio = s.dio := rfl
@[simp] theorem State.mLich_mem (s : State) (f : Lichen → Lichen) : (s.mLich f).mem = s.mem := rfl
@[simp] theorem State.mLich_free (s : State) (f : Lichen → Lichen) : (s.mLich f).free = s.free := rfl
@[simp] theorem State.mLich_pending (s : State) (f : Lichen → Lichen) : (s.mLich f).pending = s.pending := rfl
@[simp] theorem State.mTherm_clk (s : State) (f : Therm → Therm) : (s.mTherm f).clk = s.clk := rfl
@[simp] theorem State.mTherm_sys (s : State) (f : Therm → Therm) : (s.mTherm f).sys = s.sys := rfl
@[simp] theorem State.mTherm_pow (s : State) (f : Therm → Therm) : (s.mTherm f).pow = s.pow := rfl
@[simp] theorem State.mTherm_ring (s : State) (f : Therm → Therm) : (s.mTherm f).ring = s.ring := rfl
@[simp] theorem State.mTherm_frm (s : State) (f : Therm → Therm) : (s.mTherm f).frm = s.frm := rfl
@[simp] theorem State.mTherm_auth (s : State) (f : Therm → Therm) : (s.mTherm f).auth = s.auth := rfl
@[simp] theorem State.mTherm_run (s : State) (f : Therm → Therm) : (s.mTherm f).run = s.run := rfl
@[simp] theorem State.mTherm_cfgs (s : State) (f : Therm → Therm) : (s.mTherm f).cfgs = s.cfgs := rfl
@[simp] theorem State.mTherm_fe (s : State) (f : Therm → Therm) : (s.mTherm f).fe = s.fe := rfl
@[simp] theorem State.mTherm_tab (s : State) (f : Therm → Therm) : (s.mTherm f).tab = s.tab := rfl
@[simp] theorem State.mTherm_snap (s : State) (f : Therm → Therm) : (s.mTherm f).snap = s.snap := rfl
@[simp] theorem State.mTherm_loop (s : State) (f : Therm → Therm) : (s.mTherm f).loop = s.loop := rfl
@[simp] theorem State.mTherm_die (s : State) (f : Therm → Therm) : (s.mTherm f).die = s.die := rfl
@[simp] theorem State.mTherm_drv (s : State) (f : Therm → Therm) : (s.mTherm f).drv = s.drv := rfl
@[simp] theorem State.mTherm_fan (s : State) (f : Therm → Therm) : (s.mTherm f).fan = s.fan := rfl
@[simp] theorem State.mTherm_prog (s : State) (f : Therm → Therm) : (s.mTherm f).prog = s.prog := rfl
@[simp] theorem State.mTherm_conv (s : State) (f : Therm → Therm) : (s.mTherm f).conv = s.conv := rfl
@[simp] theorem State.mTherm_stitch (s : State) (f : Therm → Therm) : (s.mTherm f).stitch = s.stitch := rfl
@[simp] theorem State.mTherm_energy (s : State) (f : Therm → Therm) : (s.mTherm f).energy = s.energy := rfl
@[simp] theorem State.mTherm_lich (s : State) (f : Therm → Therm) : (s.mTherm f).lich = s.lich := rfl
@[simp] theorem State.mTherm_therm (s : State) (f : Therm → Therm) : (s.mTherm f).therm = f s.therm := rfl
@[simp] theorem State.mTherm_safe (s : State) (f : Therm → Therm) : (s.mTherm f).safe = s.safe := rfl
@[simp] theorem State.mTherm_inj (s : State) (f : Therm → Therm) : (s.mTherm f).inj = s.inj := rfl
@[simp] theorem State.mTherm_log (s : State) (f : Therm → Therm) : (s.mTherm f).log = s.log := rfl
@[simp] theorem State.mTherm_cnt (s : State) (f : Therm → Therm) : (s.mTherm f).cnt = s.cnt := rfl
@[simp] theorem State.mTherm_se (s : State) (f : Therm → Therm) : (s.mTherm f).se = s.se := rfl
@[simp] theorem State.mTherm_upd (s : State) (f : Therm → Therm) : (s.mTherm f).upd = s.upd := rfl
@[simp] theorem State.mTherm_ho (s : State) (f : Therm → Therm) : (s.mTherm f).ho = s.ho := rfl
@[simp] theorem State.mTherm_dio (s : State) (f : Therm → Therm) : (s.mTherm f).dio = s.dio := rfl
@[simp] theorem State.mTherm_mem (s : State) (f : Therm → Therm) : (s.mTherm f).mem = s.mem := rfl
@[simp] theorem State.mTherm_free (s : State) (f : Therm → Therm) : (s.mTherm f).free = s.free := rfl
@[simp] theorem State.mTherm_pending (s : State) (f : Therm → Therm) : (s.mTherm f).pending = s.pending := rfl
@[simp] theorem State.mSafe_clk (s : State) (f : Safe → Safe) : (s.mSafe f).clk = s.clk := rfl
@[simp] theorem State.mSafe_sys (s : State) (f : Safe → Safe) : (s.mSafe f).sys = s.sys := rfl
@[simp] theorem State.mSafe_pow (s : State) (f : Safe → Safe) : (s.mSafe f).pow = s.pow := rfl
@[simp] theorem State.mSafe_ring (s : State) (f : Safe → Safe) : (s.mSafe f).ring = s.ring := rfl
@[simp] theorem State.mSafe_frm (s : State) (f : Safe → Safe) : (s.mSafe f).frm = s.frm := rfl
@[simp] theorem State.mSafe_auth (s : State) (f : Safe → Safe) : (s.mSafe f).auth = s.auth := rfl
@[simp] theorem State.mSafe_run (s : State) (f : Safe → Safe) : (s.mSafe f).run = s.run := rfl
@[simp] theorem State.mSafe_cfgs (s : State) (f : Safe → Safe) : (s.mSafe f).cfgs = s.cfgs := rfl
@[simp] theorem State.mSafe_fe (s : State) (f : Safe → Safe) : (s.mSafe f).fe = s.fe := rfl
@[simp] theorem State.mSafe_tab (s : State) (f : Safe → Safe) : (s.mSafe f).tab = s.tab := rfl
@[simp] theorem State.mSafe_snap (s : State) (f : Safe → Safe) : (s.mSafe f).snap = s.snap := rfl
@[simp] theorem State.mSafe_loop (s : State) (f : Safe → Safe) : (s.mSafe f).loop = s.loop := rfl
@[simp] theorem State.mSafe_die (s : State) (f : Safe → Safe) : (s.mSafe f).die = s.die := rfl
@[simp] theorem State.mSafe_drv (s : State) (f : Safe → Safe) : (s.mSafe f).drv = s.drv := rfl
@[simp] theorem State.mSafe_fan (s : State) (f : Safe → Safe) : (s.mSafe f).fan = s.fan := rfl
@[simp] theorem State.mSafe_prog (s : State) (f : Safe → Safe) : (s.mSafe f).prog = s.prog := rfl
@[simp] theorem State.mSafe_conv (s : State) (f : Safe → Safe) : (s.mSafe f).conv = s.conv := rfl
@[simp] theorem State.mSafe_stitch (s : State) (f : Safe → Safe) : (s.mSafe f).stitch = s.stitch := rfl
@[simp] theorem State.mSafe_energy (s : State) (f : Safe → Safe) : (s.mSafe f).energy = s.energy := rfl
@[simp] theorem State.mSafe_lich (s : State) (f : Safe → Safe) : (s.mSafe f).lich = s.lich := rfl
@[simp] theorem State.mSafe_therm (s : State) (f : Safe → Safe) : (s.mSafe f).therm = s.therm := rfl
@[simp] theorem State.mSafe_safe (s : State) (f : Safe → Safe) : (s.mSafe f).safe = f s.safe := rfl
@[simp] theorem State.mSafe_inj (s : State) (f : Safe → Safe) : (s.mSafe f).inj = s.inj := rfl
@[simp] theorem State.mSafe_log (s : State) (f : Safe → Safe) : (s.mSafe f).log = s.log := rfl
@[simp] theorem State.mSafe_cnt (s : State) (f : Safe → Safe) : (s.mSafe f).cnt = s.cnt := rfl
@[simp] theorem State.mSafe_se (s : State) (f : Safe → Safe) : (s.mSafe f).se = s.se := rfl
@[simp] theorem State.mSafe_upd (s : State) (f : Safe → Safe) : (s.mSafe f).upd = s.upd := rfl
@[simp] theorem State.mSafe_ho (s : State) (f : Safe → Safe) : (s.mSafe f).ho = s.ho := rfl
@[simp] theorem State.mSafe_dio (s : State) (f : Safe → Safe) : (s.mSafe f).dio = s.dio := rfl
@[simp] theorem State.mSafe_mem (s : State) (f : Safe → Safe) : (s.mSafe f).mem = s.mem := rfl
@[simp] theorem State.mSafe_free (s : State) (f : Safe → Safe) : (s.mSafe f).free = s.free := rfl
@[simp] theorem State.mSafe_pending (s : State) (f : Safe → Safe) : (s.mSafe f).pending = s.pending := rfl
@[simp] theorem State.mInj_clk (s : State) (f : Inject → Inject) : (s.mInj f).clk = s.clk := rfl
@[simp] theorem State.mInj_sys (s : State) (f : Inject → Inject) : (s.mInj f).sys = s.sys := rfl
@[simp] theorem State.mInj_pow (s : State) (f : Inject → Inject) : (s.mInj f).pow = s.pow := rfl
@[simp] theorem State.mInj_ring (s : State) (f : Inject → Inject) : (s.mInj f).ring = s.ring := rfl
@[simp] theorem State.mInj_frm (s : State) (f : Inject → Inject) : (s.mInj f).frm = s.frm := rfl
@[simp] theorem State.mInj_auth (s : State) (f : Inject → Inject) : (s.mInj f).auth = s.auth := rfl
@[simp] theorem State.mInj_run (s : State) (f : Inject → Inject) : (s.mInj f).run = s.run := rfl
@[simp] theorem State.mInj_cfgs (s : State) (f : Inject → Inject) : (s.mInj f).cfgs = s.cfgs := rfl
@[simp] theorem State.mInj_fe (s : State) (f : Inject → Inject) : (s.mInj f).fe = s.fe := rfl
@[simp] theorem State.mInj_tab (s : State) (f : Inject → Inject) : (s.mInj f).tab = s.tab := rfl
@[simp] theorem State.mInj_snap (s : State) (f : Inject → Inject) : (s.mInj f).snap = s.snap := rfl
@[simp] theorem State.mInj_loop (s : State) (f : Inject → Inject) : (s.mInj f).loop = s.loop := rfl
@[simp] theorem State.mInj_die (s : State) (f : Inject → Inject) : (s.mInj f).die = s.die := rfl
@[simp] theorem State.mInj_drv (s : State) (f : Inject → Inject) : (s.mInj f).drv = s.drv := rfl
@[simp] theorem State.mInj_fan (s : State) (f : Inject → Inject) : (s.mInj f).fan = s.fan := rfl
@[simp] theorem State.mInj_prog (s : State) (f : Inject → Inject) : (s.mInj f).prog = s.prog := rfl
@[simp] theorem State.mInj_conv (s : State) (f : Inject → Inject) : (s.mInj f).conv = s.conv := rfl
@[simp] theorem State.mInj_stitch (s : State) (f : Inject → Inject) : (s.mInj f).stitch = s.stitch := rfl
@[simp] theorem State.mInj_energy (s : State) (f : Inject → Inject) : (s.mInj f).energy = s.energy := rfl
@[simp] theorem State.mInj_lich (s : State) (f : Inject → Inject) : (s.mInj f).lich = s.lich := rfl
@[simp] theorem State.mInj_therm (s : State) (f : Inject → Inject) : (s.mInj f).therm = s.therm := rfl
@[simp] theorem State.mInj_safe (s : State) (f : Inject → Inject) : (s.mInj f).safe = s.safe := rfl
@[simp] theorem State.mInj_inj (s : State) (f : Inject → Inject) : (s.mInj f).inj = f s.inj := rfl
@[simp] theorem State.mInj_log (s : State) (f : Inject → Inject) : (s.mInj f).log = s.log := rfl
@[simp] theorem State.mInj_cnt (s : State) (f : Inject → Inject) : (s.mInj f).cnt = s.cnt := rfl
@[simp] theorem State.mInj_se (s : State) (f : Inject → Inject) : (s.mInj f).se = s.se := rfl
@[simp] theorem State.mInj_upd (s : State) (f : Inject → Inject) : (s.mInj f).upd = s.upd := rfl
@[simp] theorem State.mInj_ho (s : State) (f : Inject → Inject) : (s.mInj f).ho = s.ho := rfl
@[simp] theorem State.mInj_dio (s : State) (f : Inject → Inject) : (s.mInj f).dio = s.dio := rfl
@[simp] theorem State.mInj_mem (s : State) (f : Inject → Inject) : (s.mInj f).mem = s.mem := rfl
@[simp] theorem State.mInj_free (s : State) (f : Inject → Inject) : (s.mInj f).free = s.free := rfl
@[simp] theorem State.mInj_pending (s : State) (f : Inject → Inject) : (s.mInj f).pending = s.pending := rfl
@[simp] theorem State.mLog_clk (s : State) (f : Log → Log) : (s.mLog f).clk = s.clk := rfl
@[simp] theorem State.mLog_sys (s : State) (f : Log → Log) : (s.mLog f).sys = s.sys := rfl
@[simp] theorem State.mLog_pow (s : State) (f : Log → Log) : (s.mLog f).pow = s.pow := rfl
@[simp] theorem State.mLog_ring (s : State) (f : Log → Log) : (s.mLog f).ring = s.ring := rfl
@[simp] theorem State.mLog_frm (s : State) (f : Log → Log) : (s.mLog f).frm = s.frm := rfl
@[simp] theorem State.mLog_auth (s : State) (f : Log → Log) : (s.mLog f).auth = s.auth := rfl
@[simp] theorem State.mLog_run (s : State) (f : Log → Log) : (s.mLog f).run = s.run := rfl
@[simp] theorem State.mLog_cfgs (s : State) (f : Log → Log) : (s.mLog f).cfgs = s.cfgs := rfl
@[simp] theorem State.mLog_fe (s : State) (f : Log → Log) : (s.mLog f).fe = s.fe := rfl
@[simp] theorem State.mLog_tab (s : State) (f : Log → Log) : (s.mLog f).tab = s.tab := rfl
@[simp] theorem State.mLog_snap (s : State) (f : Log → Log) : (s.mLog f).snap = s.snap := rfl
@[simp] theorem State.mLog_loop (s : State) (f : Log → Log) : (s.mLog f).loop = s.loop := rfl
@[simp] theorem State.mLog_die (s : State) (f : Log → Log) : (s.mLog f).die = s.die := rfl
@[simp] theorem State.mLog_drv (s : State) (f : Log → Log) : (s.mLog f).drv = s.drv := rfl
@[simp] theorem State.mLog_fan (s : State) (f : Log → Log) : (s.mLog f).fan = s.fan := rfl
@[simp] theorem State.mLog_prog (s : State) (f : Log → Log) : (s.mLog f).prog = s.prog := rfl
@[simp] theorem State.mLog_conv (s : State) (f : Log → Log) : (s.mLog f).conv = s.conv := rfl
@[simp] theorem State.mLog_stitch (s : State) (f : Log → Log) : (s.mLog f).stitch = s.stitch := rfl
@[simp] theorem State.mLog_energy (s : State) (f : Log → Log) : (s.mLog f).energy = s.energy := rfl
@[simp] theorem State.mLog_lich (s : State) (f : Log → Log) : (s.mLog f).lich = s.lich := rfl
@[simp] theorem State.mLog_therm (s : State) (f : Log → Log) : (s.mLog f).therm = s.therm := rfl
@[simp] theorem State.mLog_safe (s : State) (f : Log → Log) : (s.mLog f).safe = s.safe := rfl
@[simp] theorem State.mLog_inj (s : State) (f : Log → Log) : (s.mLog f).inj = s.inj := rfl
@[simp] theorem State.mLog_log (s : State) (f : Log → Log) : (s.mLog f).log = f s.log := rfl
@[simp] theorem State.mLog_cnt (s : State) (f : Log → Log) : (s.mLog f).cnt = s.cnt := rfl
@[simp] theorem State.mLog_se (s : State) (f : Log → Log) : (s.mLog f).se = s.se := rfl
@[simp] theorem State.mLog_upd (s : State) (f : Log → Log) : (s.mLog f).upd = s.upd := rfl
@[simp] theorem State.mLog_ho (s : State) (f : Log → Log) : (s.mLog f).ho = s.ho := rfl
@[simp] theorem State.mLog_dio (s : State) (f : Log → Log) : (s.mLog f).dio = s.dio := rfl
@[simp] theorem State.mLog_mem (s : State) (f : Log → Log) : (s.mLog f).mem = s.mem := rfl
@[simp] theorem State.mLog_free (s : State) (f : Log → Log) : (s.mLog f).free = s.free := rfl
@[simp] theorem State.mLog_pending (s : State) (f : Log → Log) : (s.mLog f).pending = s.pending := rfl
@[simp] theorem State.mCnt_clk (s : State) (f : Counters → Counters) : (s.mCnt f).clk = s.clk := rfl
@[simp] theorem State.mCnt_sys (s : State) (f : Counters → Counters) : (s.mCnt f).sys = s.sys := rfl
@[simp] theorem State.mCnt_pow (s : State) (f : Counters → Counters) : (s.mCnt f).pow = s.pow := rfl
@[simp] theorem State.mCnt_ring (s : State) (f : Counters → Counters) : (s.mCnt f).ring = s.ring := rfl
@[simp] theorem State.mCnt_frm (s : State) (f : Counters → Counters) : (s.mCnt f).frm = s.frm := rfl
@[simp] theorem State.mCnt_auth (s : State) (f : Counters → Counters) : (s.mCnt f).auth = s.auth := rfl
@[simp] theorem State.mCnt_run (s : State) (f : Counters → Counters) : (s.mCnt f).run = s.run := rfl
@[simp] theorem State.mCnt_cfgs (s : State) (f : Counters → Counters) : (s.mCnt f).cfgs = s.cfgs := rfl
@[simp] theorem State.mCnt_fe (s : State) (f : Counters → Counters) : (s.mCnt f).fe = s.fe := rfl
@[simp] theorem State.mCnt_tab (s : State) (f : Counters → Counters) : (s.mCnt f).tab = s.tab := rfl
@[simp] theorem State.mCnt_snap (s : State) (f : Counters → Counters) : (s.mCnt f).snap = s.snap := rfl
@[simp] theorem State.mCnt_loop (s : State) (f : Counters → Counters) : (s.mCnt f).loop = s.loop := rfl
@[simp] theorem State.mCnt_die (s : State) (f : Counters → Counters) : (s.mCnt f).die = s.die := rfl
@[simp] theorem State.mCnt_drv (s : State) (f : Counters → Counters) : (s.mCnt f).drv = s.drv := rfl
@[simp] theorem State.mCnt_fan (s : State) (f : Counters → Counters) : (s.mCnt f).fan = s.fan := rfl
@[simp] theorem State.mCnt_prog (s : State) (f : Counters → Counters) : (s.mCnt f).prog = s.prog := rfl
@[simp] theorem State.mCnt_conv (s : State) (f : Counters → Counters) : (s.mCnt f).conv = s.conv := rfl
@[simp] theorem State.mCnt_stitch (s : State) (f : Counters → Counters) : (s.mCnt f).stitch = s.stitch := rfl
@[simp] theorem State.mCnt_energy (s : State) (f : Counters → Counters) : (s.mCnt f).energy = s.energy := rfl
@[simp] theorem State.mCnt_lich (s : State) (f : Counters → Counters) : (s.mCnt f).lich = s.lich := rfl
@[simp] theorem State.mCnt_therm (s : State) (f : Counters → Counters) : (s.mCnt f).therm = s.therm := rfl
@[simp] theorem State.mCnt_safe (s : State) (f : Counters → Counters) : (s.mCnt f).safe = s.safe := rfl
@[simp] theorem State.mCnt_inj (s : State) (f : Counters → Counters) : (s.mCnt f).inj = s.inj := rfl
@[simp] theorem State.mCnt_log (s : State) (f : Counters → Counters) : (s.mCnt f).log = s.log := rfl
@[simp] theorem State.mCnt_cnt (s : State) (f : Counters → Counters) : (s.mCnt f).cnt = f s.cnt := rfl
@[simp] theorem State.mCnt_se (s : State) (f : Counters → Counters) : (s.mCnt f).se = s.se := rfl
@[simp] theorem State.mCnt_upd (s : State) (f : Counters → Counters) : (s.mCnt f).upd = s.upd := rfl
@[simp] theorem State.mCnt_ho (s : State) (f : Counters → Counters) : (s.mCnt f).ho = s.ho := rfl
@[simp] theorem State.mCnt_dio (s : State) (f : Counters → Counters) : (s.mCnt f).dio = s.dio := rfl
@[simp] theorem State.mCnt_mem (s : State) (f : Counters → Counters) : (s.mCnt f).mem = s.mem := rfl
@[simp] theorem State.mCnt_free (s : State) (f : Counters → Counters) : (s.mCnt f).free = s.free := rfl
@[simp] theorem State.mCnt_pending (s : State) (f : Counters → Counters) : (s.mCnt f).pending = s.pending := rfl
@[simp] theorem State.mSe_clk (s : State) (f : Stream → Stream) : (s.mSe f).clk = s.clk := rfl
@[simp] theorem State.mSe_sys (s : State) (f : Stream → Stream) : (s.mSe f).sys = s.sys := rfl
@[simp] theorem State.mSe_pow (s : State) (f : Stream → Stream) : (s.mSe f).pow = s.pow := rfl
@[simp] theorem State.mSe_ring (s : State) (f : Stream → Stream) : (s.mSe f).ring = s.ring := rfl
@[simp] theorem State.mSe_frm (s : State) (f : Stream → Stream) : (s.mSe f).frm = s.frm := rfl
@[simp] theorem State.mSe_auth (s : State) (f : Stream → Stream) : (s.mSe f).auth = s.auth := rfl
@[simp] theorem State.mSe_run (s : State) (f : Stream → Stream) : (s.mSe f).run = s.run := rfl
@[simp] theorem State.mSe_cfgs (s : State) (f : Stream → Stream) : (s.mSe f).cfgs = s.cfgs := rfl
@[simp] theorem State.mSe_fe (s : State) (f : Stream → Stream) : (s.mSe f).fe = s.fe := rfl
@[simp] theorem State.mSe_tab (s : State) (f : Stream → Stream) : (s.mSe f).tab = s.tab := rfl
@[simp] theorem State.mSe_snap (s : State) (f : Stream → Stream) : (s.mSe f).snap = s.snap := rfl
@[simp] theorem State.mSe_loop (s : State) (f : Stream → Stream) : (s.mSe f).loop = s.loop := rfl
@[simp] theorem State.mSe_die (s : State) (f : Stream → Stream) : (s.mSe f).die = s.die := rfl
@[simp] theorem State.mSe_drv (s : State) (f : Stream → Stream) : (s.mSe f).drv = s.drv := rfl
@[simp] theorem State.mSe_fan (s : State) (f : Stream → Stream) : (s.mSe f).fan = s.fan := rfl
@[simp] theorem State.mSe_prog (s : State) (f : Stream → Stream) : (s.mSe f).prog = s.prog := rfl
@[simp] theorem State.mSe_conv (s : State) (f : Stream → Stream) : (s.mSe f).conv = s.conv := rfl
@[simp] theorem State.mSe_stitch (s : State) (f : Stream → Stream) : (s.mSe f).stitch = s.stitch := rfl
@[simp] theorem State.mSe_energy (s : State) (f : Stream → Stream) : (s.mSe f).energy = s.energy := rfl
@[simp] theorem State.mSe_lich (s : State) (f : Stream → Stream) : (s.mSe f).lich = s.lich := rfl
@[simp] theorem State.mSe_therm (s : State) (f : Stream → Stream) : (s.mSe f).therm = s.therm := rfl
@[simp] theorem State.mSe_safe (s : State) (f : Stream → Stream) : (s.mSe f).safe = s.safe := rfl
@[simp] theorem State.mSe_inj (s : State) (f : Stream → Stream) : (s.mSe f).inj = s.inj := rfl
@[simp] theorem State.mSe_log (s : State) (f : Stream → Stream) : (s.mSe f).log = s.log := rfl
@[simp] theorem State.mSe_cnt (s : State) (f : Stream → Stream) : (s.mSe f).cnt = s.cnt := rfl
@[simp] theorem State.mSe_se (s : State) (f : Stream → Stream) : (s.mSe f).se = f s.se := rfl
@[simp] theorem State.mSe_upd (s : State) (f : Stream → Stream) : (s.mSe f).upd = s.upd := rfl
@[simp] theorem State.mSe_ho (s : State) (f : Stream → Stream) : (s.mSe f).ho = s.ho := rfl
@[simp] theorem State.mSe_dio (s : State) (f : Stream → Stream) : (s.mSe f).dio = s.dio := rfl
@[simp] theorem State.mSe_mem (s : State) (f : Stream → Stream) : (s.mSe f).mem = s.mem := rfl
@[simp] theorem State.mSe_free (s : State) (f : Stream → Stream) : (s.mSe f).free = s.free := rfl
@[simp] theorem State.mSe_pending (s : State) (f : Stream → Stream) : (s.mSe f).pending = s.pending := rfl
@[simp] theorem State.mUpd_clk (s : State) (f : Update → Update) : (s.mUpd f).clk = s.clk := rfl
@[simp] theorem State.mUpd_sys (s : State) (f : Update → Update) : (s.mUpd f).sys = s.sys := rfl
@[simp] theorem State.mUpd_pow (s : State) (f : Update → Update) : (s.mUpd f).pow = s.pow := rfl
@[simp] theorem State.mUpd_ring (s : State) (f : Update → Update) : (s.mUpd f).ring = s.ring := rfl
@[simp] theorem State.mUpd_frm (s : State) (f : Update → Update) : (s.mUpd f).frm = s.frm := rfl
@[simp] theorem State.mUpd_auth (s : State) (f : Update → Update) : (s.mUpd f).auth = s.auth := rfl
@[simp] theorem State.mUpd_run (s : State) (f : Update → Update) : (s.mUpd f).run = s.run := rfl
@[simp] theorem State.mUpd_cfgs (s : State) (f : Update → Update) : (s.mUpd f).cfgs = s.cfgs := rfl
@[simp] theorem State.mUpd_fe (s : State) (f : Update → Update) : (s.mUpd f).fe = s.fe := rfl
@[simp] theorem State.mUpd_tab (s : State) (f : Update → Update) : (s.mUpd f).tab = s.tab := rfl
@[simp] theorem State.mUpd_snap (s : State) (f : Update → Update) : (s.mUpd f).snap = s.snap := rfl
@[simp] theorem State.mUpd_loop (s : State) (f : Update → Update) : (s.mUpd f).loop = s.loop := rfl
@[simp] theorem State.mUpd_die (s : State) (f : Update → Update) : (s.mUpd f).die = s.die := rfl
@[simp] theorem State.mUpd_drv (s : State) (f : Update → Update) : (s.mUpd f).drv = s.drv := rfl
@[simp] theorem State.mUpd_fan (s : State) (f : Update → Update) : (s.mUpd f).fan = s.fan := rfl
@[simp] theorem State.mUpd_prog (s : State) (f : Update → Update) : (s.mUpd f).prog = s.prog := rfl
@[simp] theorem State.mUpd_conv (s : State) (f : Update → Update) : (s.mUpd f).conv = s.conv := rfl
@[simp] theorem State.mUpd_stitch (s : State) (f : Update → Update) : (s.mUpd f).stitch = s.stitch := rfl
@[simp] theorem State.mUpd_energy (s : State) (f : Update → Update) : (s.mUpd f).energy = s.energy := rfl
@[simp] theorem State.mUpd_lich (s : State) (f : Update → Update) : (s.mUpd f).lich = s.lich := rfl
@[simp] theorem State.mUpd_therm (s : State) (f : Update → Update) : (s.mUpd f).therm = s.therm := rfl
@[simp] theorem State.mUpd_safe (s : State) (f : Update → Update) : (s.mUpd f).safe = s.safe := rfl
@[simp] theorem State.mUpd_inj (s : State) (f : Update → Update) : (s.mUpd f).inj = s.inj := rfl
@[simp] theorem State.mUpd_log (s : State) (f : Update → Update) : (s.mUpd f).log = s.log := rfl
@[simp] theorem State.mUpd_cnt (s : State) (f : Update → Update) : (s.mUpd f).cnt = s.cnt := rfl
@[simp] theorem State.mUpd_se (s : State) (f : Update → Update) : (s.mUpd f).se = s.se := rfl
@[simp] theorem State.mUpd_upd (s : State) (f : Update → Update) : (s.mUpd f).upd = f s.upd := rfl
@[simp] theorem State.mUpd_ho (s : State) (f : Update → Update) : (s.mUpd f).ho = s.ho := rfl
@[simp] theorem State.mUpd_dio (s : State) (f : Update → Update) : (s.mUpd f).dio = s.dio := rfl
@[simp] theorem State.mUpd_mem (s : State) (f : Update → Update) : (s.mUpd f).mem = s.mem := rfl
@[simp] theorem State.mUpd_free (s : State) (f : Update → Update) : (s.mUpd f).free = s.free := rfl
@[simp] theorem State.mUpd_pending (s : State) (f : Update → Update) : (s.mUpd f).pending = s.pending := rfl
@[simp] theorem State.mHo_clk (s : State) (f : Handover → Handover) : (s.mHo f).clk = s.clk := rfl
@[simp] theorem State.mHo_sys (s : State) (f : Handover → Handover) : (s.mHo f).sys = s.sys := rfl
@[simp] theorem State.mHo_pow (s : State) (f : Handover → Handover) : (s.mHo f).pow = s.pow := rfl
@[simp] theorem State.mHo_ring (s : State) (f : Handover → Handover) : (s.mHo f).ring = s.ring := rfl
@[simp] theorem State.mHo_frm (s : State) (f : Handover → Handover) : (s.mHo f).frm = s.frm := rfl
@[simp] theorem State.mHo_auth (s : State) (f : Handover → Handover) : (s.mHo f).auth = s.auth := rfl
@[simp] theorem State.mHo_run (s : State) (f : Handover → Handover) : (s.mHo f).run = s.run := rfl
@[simp] theorem State.mHo_cfgs (s : State) (f : Handover → Handover) : (s.mHo f).cfgs = s.cfgs := rfl
@[simp] theorem State.mHo_fe (s : State) (f : Handover → Handover) : (s.mHo f).fe = s.fe := rfl
@[simp] theorem State.mHo_tab (s : State) (f : Handover → Handover) : (s.mHo f).tab = s.tab := rfl
@[simp] theorem State.mHo_snap (s : State) (f : Handover → Handover) : (s.mHo f).snap = s.snap := rfl
@[simp] theorem State.mHo_loop (s : State) (f : Handover → Handover) : (s.mHo f).loop = s.loop := rfl
@[simp] theorem State.mHo_die (s : State) (f : Handover → Handover) : (s.mHo f).die = s.die := rfl
@[simp] theorem State.mHo_drv (s : State) (f : Handover → Handover) : (s.mHo f).drv = s.drv := rfl
@[simp] theorem State.mHo_fan (s : State) (f : Handover → Handover) : (s.mHo f).fan = s.fan := rfl
@[simp] theorem State.mHo_prog (s : State) (f : Handover → Handover) : (s.mHo f).prog = s.prog := rfl
@[simp] theorem State.mHo_conv (s : State) (f : Handover → Handover) : (s.mHo f).conv = s.conv := rfl
@[simp] theorem State.mHo_stitch (s : State) (f : Handover → Handover) : (s.mHo f).stitch = s.stitch := rfl
@[simp] theorem State.mHo_energy (s : State) (f : Handover → Handover) : (s.mHo f).energy = s.energy := rfl
@[simp] theorem State.mHo_lich (s : State) (f : Handover → Handover) : (s.mHo f).lich = s.lich := rfl
@[simp] theorem State.mHo_therm (s : State) (f : Handover → Handover) : (s.mHo f).therm = s.therm := rfl
@[simp] theorem State.mHo_safe (s : State) (f : Handover → Handover) : (s.mHo f).safe = s.safe := rfl
@[simp] theorem State.mHo_inj (s : State) (f : Handover → Handover) : (s.mHo f).inj = s.inj := rfl
@[simp] theorem State.mHo_log (s : State) (f : Handover → Handover) : (s.mHo f).log = s.log := rfl
@[simp] theorem State.mHo_cnt (s : State) (f : Handover → Handover) : (s.mHo f).cnt = s.cnt := rfl
@[simp] theorem State.mHo_se (s : State) (f : Handover → Handover) : (s.mHo f).se = s.se := rfl
@[simp] theorem State.mHo_upd (s : State) (f : Handover → Handover) : (s.mHo f).upd = s.upd := rfl
@[simp] theorem State.mHo_ho (s : State) (f : Handover → Handover) : (s.mHo f).ho = f s.ho := rfl
@[simp] theorem State.mHo_dio (s : State) (f : Handover → Handover) : (s.mHo f).dio = s.dio := rfl
@[simp] theorem State.mHo_mem (s : State) (f : Handover → Handover) : (s.mHo f).mem = s.mem := rfl
@[simp] theorem State.mHo_free (s : State) (f : Handover → Handover) : (s.mHo f).free = s.free := rfl
@[simp] theorem State.mHo_pending (s : State) (f : Handover → Handover) : (s.mHo f).pending = s.pending := rfl
@[simp] theorem State.mDio_clk (s : State) (f : Dio → Dio) : (s.mDio f).clk = s.clk := rfl
@[simp] theorem State.mDio_sys (s : State) (f : Dio → Dio) : (s.mDio f).sys = s.sys := rfl
@[simp] theorem State.mDio_pow (s : State) (f : Dio → Dio) : (s.mDio f).pow = s.pow := rfl
@[simp] theorem State.mDio_ring (s : State) (f : Dio → Dio) : (s.mDio f).ring = s.ring := rfl
@[simp] theorem State.mDio_frm (s : State) (f : Dio → Dio) : (s.mDio f).frm = s.frm := rfl
@[simp] theorem State.mDio_auth (s : State) (f : Dio → Dio) : (s.mDio f).auth = s.auth := rfl
@[simp] theorem State.mDio_run (s : State) (f : Dio → Dio) : (s.mDio f).run = s.run := rfl
@[simp] theorem State.mDio_cfgs (s : State) (f : Dio → Dio) : (s.mDio f).cfgs = s.cfgs := rfl
@[simp] theorem State.mDio_fe (s : State) (f : Dio → Dio) : (s.mDio f).fe = s.fe := rfl
@[simp] theorem State.mDio_tab (s : State) (f : Dio → Dio) : (s.mDio f).tab = s.tab := rfl
@[simp] theorem State.mDio_snap (s : State) (f : Dio → Dio) : (s.mDio f).snap = s.snap := rfl
@[simp] theorem State.mDio_loop (s : State) (f : Dio → Dio) : (s.mDio f).loop = s.loop := rfl
@[simp] theorem State.mDio_die (s : State) (f : Dio → Dio) : (s.mDio f).die = s.die := rfl
@[simp] theorem State.mDio_drv (s : State) (f : Dio → Dio) : (s.mDio f).drv = s.drv := rfl
@[simp] theorem State.mDio_fan (s : State) (f : Dio → Dio) : (s.mDio f).fan = s.fan := rfl
@[simp] theorem State.mDio_prog (s : State) (f : Dio → Dio) : (s.mDio f).prog = s.prog := rfl
@[simp] theorem State.mDio_conv (s : State) (f : Dio → Dio) : (s.mDio f).conv = s.conv := rfl
@[simp] theorem State.mDio_stitch (s : State) (f : Dio → Dio) : (s.mDio f).stitch = s.stitch := rfl
@[simp] theorem State.mDio_energy (s : State) (f : Dio → Dio) : (s.mDio f).energy = s.energy := rfl
@[simp] theorem State.mDio_lich (s : State) (f : Dio → Dio) : (s.mDio f).lich = s.lich := rfl
@[simp] theorem State.mDio_therm (s : State) (f : Dio → Dio) : (s.mDio f).therm = s.therm := rfl
@[simp] theorem State.mDio_safe (s : State) (f : Dio → Dio) : (s.mDio f).safe = s.safe := rfl
@[simp] theorem State.mDio_inj (s : State) (f : Dio → Dio) : (s.mDio f).inj = s.inj := rfl
@[simp] theorem State.mDio_log (s : State) (f : Dio → Dio) : (s.mDio f).log = s.log := rfl
@[simp] theorem State.mDio_cnt (s : State) (f : Dio → Dio) : (s.mDio f).cnt = s.cnt := rfl
@[simp] theorem State.mDio_se (s : State) (f : Dio → Dio) : (s.mDio f).se = s.se := rfl
@[simp] theorem State.mDio_upd (s : State) (f : Dio → Dio) : (s.mDio f).upd = s.upd := rfl
@[simp] theorem State.mDio_ho (s : State) (f : Dio → Dio) : (s.mDio f).ho = s.ho := rfl
@[simp] theorem State.mDio_dio (s : State) (f : Dio → Dio) : (s.mDio f).dio = f s.dio := rfl
@[simp] theorem State.mDio_mem (s : State) (f : Dio → Dio) : (s.mDio f).mem = s.mem := rfl
@[simp] theorem State.mDio_free (s : State) (f : Dio → Dio) : (s.mDio f).free = s.free := rfl
@[simp] theorem State.mDio_pending (s : State) (f : Dio → Dio) : (s.mDio f).pending = s.pending := rfl
@[simp] theorem State.mMem_clk (s : State) (f : List Host.Cell → List Host.Cell) : (s.mMem f).clk = s.clk := rfl
@[simp] theorem State.mMem_sys (s : State) (f : List Host.Cell → List Host.Cell) : (s.mMem f).sys = s.sys := rfl
@[simp] theorem State.mMem_pow (s : State) (f : List Host.Cell → List Host.Cell) : (s.mMem f).pow = s.pow := rfl
@[simp] theorem State.mMem_ring (s : State) (f : List Host.Cell → List Host.Cell) : (s.mMem f).ring = s.ring := rfl
@[simp] theorem State.mMem_frm (s : State) (f : List Host.Cell → List Host.Cell) : (s.mMem f).frm = s.frm := rfl
@[simp] theorem State.mMem_auth (s : State) (f : List Host.Cell → List Host.Cell) : (s.mMem f).auth = s.auth := rfl
@[simp] theorem State.mMem_run (s : State) (f : List Host.Cell → List Host.Cell) : (s.mMem f).run = s.run := rfl
@[simp] theorem State.mMem_cfgs (s : State) (f : List Host.Cell → List Host.Cell) : (s.mMem f).cfgs = s.cfgs := rfl
@[simp] theorem State.mMem_fe (s : State) (f : List Host.Cell → List Host.Cell) : (s.mMem f).fe = s.fe := rfl
@[simp] theorem State.mMem_tab (s : State) (f : List Host.Cell → List Host.Cell) : (s.mMem f).tab = s.tab := rfl
@[simp] theorem State.mMem_snap (s : State) (f : List Host.Cell → List Host.Cell) : (s.mMem f).snap = s.snap := rfl
@[simp] theorem State.mMem_loop (s : State) (f : List Host.Cell → List Host.Cell) : (s.mMem f).loop = s.loop := rfl
@[simp] theorem State.mMem_die (s : State) (f : List Host.Cell → List Host.Cell) : (s.mMem f).die = s.die := rfl
@[simp] theorem State.mMem_drv (s : State) (f : List Host.Cell → List Host.Cell) : (s.mMem f).drv = s.drv := rfl
@[simp] theorem State.mMem_fan (s : State) (f : List Host.Cell → List Host.Cell) : (s.mMem f).fan = s.fan := rfl
@[simp] theorem State.mMem_prog (s : State) (f : List Host.Cell → List Host.Cell) : (s.mMem f).prog = s.prog := rfl
@[simp] theorem State.mMem_conv (s : State) (f : List Host.Cell → List Host.Cell) : (s.mMem f).conv = s.conv := rfl
@[simp] theorem State.mMem_stitch (s : State) (f : List Host.Cell → List Host.Cell) : (s.mMem f).stitch = s.stitch := rfl
@[simp] theorem State.mMem_energy (s : State) (f : List Host.Cell → List Host.Cell) : (s.mMem f).energy = s.energy := rfl
@[simp] theorem State.mMem_lich (s : State) (f : List Host.Cell → List Host.Cell) : (s.mMem f).lich = s.lich := rfl
@[simp] theorem State.mMem_therm (s : State) (f : List Host.Cell → List Host.Cell) : (s.mMem f).therm = s.therm := rfl
@[simp] theorem State.mMem_safe (s : State) (f : List Host.Cell → List Host.Cell) : (s.mMem f).safe = s.safe := rfl
@[simp] theorem State.mMem_inj (s : State) (f : List Host.Cell → List Host.Cell) : (s.mMem f).inj = s.inj := rfl
@[simp] theorem State.mMem_log (s : State) (f : List Host.Cell → List Host.Cell) : (s.mMem f).log = s.log := rfl
@[simp] theorem State.mMem_cnt (s : State) (f : List Host.Cell → List Host.Cell) : (s.mMem f).cnt = s.cnt := rfl
@[simp] theorem State.mMem_se (s : State) (f : List Host.Cell → List Host.Cell) : (s.mMem f).se = s.se := rfl
@[simp] theorem State.mMem_upd (s : State) (f : List Host.Cell → List Host.Cell) : (s.mMem f).upd = s.upd := rfl
@[simp] theorem State.mMem_ho (s : State) (f : List Host.Cell → List Host.Cell) : (s.mMem f).ho = s.ho := rfl
@[simp] theorem State.mMem_dio (s : State) (f : List Host.Cell → List Host.Cell) : (s.mMem f).dio = s.dio := rfl
@[simp] theorem State.mMem_mem (s : State) (f : List Host.Cell → List Host.Cell) : (s.mMem f).mem = f s.mem := rfl
@[simp] theorem State.mMem_free (s : State) (f : List Host.Cell → List Host.Cell) : (s.mMem f).free = s.free := rfl
@[simp] theorem State.mMem_pending (s : State) (f : List Host.Cell → List Host.Cell) : (s.mMem f).pending = s.pending := rfl

end Sys2Proof.Machine
end

