-- ==== Sys2Proof/Laws/Basics.lean ====
section
/-! SUPPORT. What a state reads as after time has passed, and the forms that completion claims are proved in. -/

namespace Sys2Proof.Machine

/-- A command completes where its next state, its frame and what holds of it are known. -/
theorem Completes.of {i : Instr} {s : State} {l : List Part} {p : State → Prop} (u : State) (e : exec i s = .next u) (o : Only l s u) (h : p u) :
    Completes i s l p := ⟨u, e, o, h⟩

theorem Completes.mono {i : Instr} {s : State} {l : List Part} {p q : State → Prop} (h : Completes i s l p) (k : ∀ t, Only l s t → p t → q t) :
    Completes i s l q := by
  obtain ⟨t, e, o, h⟩ := h
  exact ⟨t, e, o, k t o h⟩

@[simp] theorem Clock.advance_up (c : Clock) (n : Nat) : (c.advance n).upNs = c.upNs + n := by
  unfold Clock.advance; dsimp only; split <;> exact Eq.refl _

@[simp] theorem State.advance_clk (s : State) (n : Nat) : (s.advance n).clk = s.clk.advance n := Eq.refl _
@[simp] theorem State.advance_sys (s : State) (n : Nat) : (s.advance n).sys = s.sys := Eq.refl _
@[simp] theorem State.advance_pow (s : State) (n : Nat) : (s.advance n).pow = s.pow := Eq.refl _
@[simp] theorem State.advance_ring (s : State) (n : Nat) : (s.advance n).ring = s.ring := Eq.refl _
@[simp] theorem State.advance_frm (s : State) (n : Nat) : (s.advance n).frm = s.frm := Eq.refl _
@[simp] theorem State.advance_auth (s : State) (n : Nat) : (s.advance n).auth = s.auth := Eq.refl _
@[simp] theorem State.advance_run (s : State) (n : Nat) : (s.advance n).run = s.run := Eq.refl _
@[simp] theorem State.advance_cfgs (s : State) (n : Nat) : (s.advance n).cfgs = s.cfgs := Eq.refl _
@[simp] theorem State.advance_fe (s : State) (n : Nat) : (s.advance n).fe = s.fe := Eq.refl _
@[simp] theorem State.advance_tab (s : State) (n : Nat) : (s.advance n).tab = s.tab := Eq.refl _
@[simp] theorem State.advance_snap (s : State) (n : Nat) : (s.advance n).snap = s.snap := Eq.refl _
@[simp] theorem State.advance_loop (s : State) (n : Nat) : (s.advance n).loop = s.loop := Eq.refl _
@[simp] theorem State.advance_die (s : State) (n : Nat) : (s.advance n).die = s.die := Eq.refl _
@[simp] theorem State.advance_drv (s : State) (n : Nat) : (s.advance n).drv = s.drv := Eq.refl _
@[simp] theorem State.advance_fan (s : State) (n : Nat) : (s.advance n).fan = s.fan := Eq.refl _
@[simp] theorem State.advance_prog (s : State) (n : Nat) : (s.advance n).prog = s.prog := Eq.refl _
@[simp] theorem State.advance_conv (s : State) (n : Nat) : (s.advance n).conv = s.conv := Eq.refl _
@[simp] theorem State.advance_stitch (s : State) (n : Nat) : (s.advance n).stitch = s.stitch := Eq.refl _
@[simp] theorem State.advance_energy (s : State) (n : Nat) : (s.advance n).energy = s.energy := Eq.refl _
@[simp] theorem State.advance_lich (s : State) (n : Nat) : (s.advance n).lich = s.lich := Eq.refl _
@[simp] theorem State.advance_therm (s : State) (n : Nat) : (s.advance n).therm = s.therm := Eq.refl _
@[simp] theorem State.advance_safe (s : State) (n : Nat) : (s.advance n).safe = s.safe := Eq.refl _
@[simp] theorem State.advance_inj (s : State) (n : Nat) : (s.advance n).inj = s.inj := Eq.refl _
@[simp] theorem State.advance_log (s : State) (n : Nat) : (s.advance n).log = s.log := Eq.refl _
@[simp] theorem State.advance_cnt (s : State) (n : Nat) : (s.advance n).cnt = s.cnt := Eq.refl _
@[simp] theorem State.advance_se (s : State) (n : Nat) : (s.advance n).se = s.se := Eq.refl _
@[simp] theorem State.advance_upd (s : State) (n : Nat) : (s.advance n).upd = s.upd := Eq.refl _
@[simp] theorem State.advance_ho (s : State) (n : Nat) : (s.advance n).ho = s.ho := Eq.refl _
@[simp] theorem State.advance_dio (s : State) (n : Nat) : (s.advance n).dio = s.dio := Eq.refl _
@[simp] theorem State.advance_mem (s : State) (n : Nat) : (s.advance n).mem = s.mem := Eq.refl _
@[simp] theorem State.advance_free (s : State) (n : Nat) : (s.advance n).free = s.free := Eq.refl _
@[simp] theorem State.advance_pending (s : State) (n : Nat) : (s.advance n).pending = s.pending := Eq.refl _
@[simp] theorem State.advance_injOn (s : State) (n a b : Nat) : (s.advance n).injOn a b = s.injOn a b := Eq.refl _
@[simp] theorem State.advance_awake (s : State) (n : Nat) : (s.advance n).awake = s.awake := Eq.refl _
@[simp] theorem State.advance_ctrlRuns (s : State) (n : Nat) : (s.advance n).ctrlRuns = s.ctrlRuns := Eq.refl _
@[simp] theorem State.advance_since (s : State) (n u : Nat) : (s.advance n).since u = s.clk.upNs + n - u := by simp [State.since]

/-- The detector of an injection that does not act records nothing. -/
theorem State.detected_off {s : State} {id tgt k : Nat} (h : s.injOn id tgt = false) : s.detected id tgt k = s := by
  unfold State.detected
  split
  · rename_i o
    have : s.firing id tgt = none := by
      unfold State.firing
      rw [List.find?_eq_none]
      intro i _ hc
      simp only [State.injOn, o, Bool.true_and] at h
      rw [← Bool.not_eq_true, List.any_eq_true] at h
      simp only [Bool.and_eq_true] at hc
      exact h ⟨s.inj.slots[i], by simp, by simpa using hc.1⟩
    rw [this]
  · exact Eq.refl _

end Sys2Proof.Machine
end

