-- ==== Sys2Proof/WellFormed.lean ====
section
/-! DEFINITION. Which terms of `Instr` are a row of the table as the spec draws it: fields in the ranges that the frame can carry (Tables
4.1 and 4.2), payloads of the length of their form, ports, domains and addresses that exist. A command that fails the check has a meaning all
the same: the node turns it away, or nothing happens. -/

namespace Sys2Proof

/-- The request's part of a frame: SEQ and SWEEP have 16 bits, HOP 8 (Table 4.1); a broadcast on the ring carries no tag (Table 4.4 step 6). -/
def Req.wf (q : Req) : Bool := q.seq < 65536 && q.sweep < 65536 && q.hop < 256 && !(q.bcast && q.auth && q.sender != .svc)

/-- A TURN trailer is KIND, ADDR, POS, REASON and CHK (R108). -/
def Ending.wf (e : Ending) : Bool :=
  match e with
  | .turned t => t.length == 5
  | _ => true

/-- The command is a row of the table as the spec draws it. -/
def Instr.wf (i : Instr) : Bool :=
  match i with
  | .vsLogicPowerUp _ => true
  | .sporeSample _ _ => true
  | .smStart _ _ => true
  | .ringReady _ _ _ => true
  | .ctrlRunning _ => true
  | .vsLogicPowerDown _ => true
  | .vsLogicRecoverInPowerDown _ => true
  | .vsPowerUndervoltage _ => true
  | .vsPowerOvervoltage _ => true
  | .vsPowerRestored _ => true
  | .pdOnTimeout _ pd => pd < 68
  | .domainOffAfterRelease _ pd => pd < 68
  | .clkFault _ => true
  | .fullReset _ => true
  | .avsAdjust _ _ => true
  | .mossShutdown _ => true
  | .wakeSymbolRx _ _ => true
  | .di00Wake _ _ => true
  | .svcWake _ => true
  | .controlTick _ => true
  | .tickCommit _ => true
  | .coreWatchdogFail _ => true
  | .stbyWriteDropped _ => true
  | .processTick => true
  | .snapshotPublish => true
  | .markReceive _ _ mark cyc => mark.length == 12 && cyc < 10000
  | .markSourceTimeout _ => true
  | .markHoldover _ => true
  | .ctSaturate _ => true
  | .frameReceive _ _ body hop ending => body.length ≤ 1052 && hop < 256 && ending.wf
  | .replySend _ _ => true
  | .keptFrameRelease _ _ => true
  | .linkIdSend _ _ => true
  | .linkIdReceive _ _ bytes => bytes.length == 4
  | .eqAdapt _ _ best eye pe => best < 32 && eye < 256 && pe < 8
  | .marginLowDetect _ _ => true
  | .rangeRequestSend _ _ => true
  | .rangeReceive _ _ bytes _ => 3 ≤ bytes.length && bytes.length ≤ 4
  | .lossOfLock _ _ _ _ _ => true
  | .relock _ _ => true
  | .turnaroundExit _ _ => true
  | .rateSearchSwitch _ _ => true
  | .ringRateSwitch _ => true
  | .wakeSymbolSend _ _ => true
  | .wakeSeen _ _ => true
  | .ringStatus q => q.wf
  | .castOn q _ _ => q.wf
  | .addrAssign q _ _ _ => q.wf
  | .addrPin q _ => q.wf
  | .bindOff q _ => q.wf
  | .ringRate q _ _ => q.wf
  | .wakeSend q _ => q.wf
  | .sweepResume q _ => q.wf
  | .sweep q _ => q.wf
  | .needleTake q _ _ => q.wf
  | .needleGiveRelease q => q.wf
  | .needleGiveLichen q => q.wf
  | .pollResult q _ => q.wf
  | .resultExpire _ ticket => 1 ≤ ticket && ticket ≤ 0xFFFF
  | .mossEnter q => q.wf
  | .identify q => q.wf
  | .statusRead q => q.wf
  | .reset q _ => q.wf
  | .hostTimeoutExpire => true
  | .cfgRead q _ _ _ => q.wf
  | .cfgWrite q _ _ _ item => q.wf && item.length ≤ 1020
  | .cfgSave q _ => q.wf
  | .cfgSaveDone _ _ => true
  | .sessionOpen q _ nonceH => q.wf && nonceH.length == 8
  | .sessionClose q => q.wf
  | .keyLoadPlain q _ _ key => q.wf && key.length == 16
  | .keyLoadWrapped q _ _ wrapped => q.wf && wrapped.length == 16
  | .keyLoadErase q _ _ => q.wf
  | .sessionStatus q => q.wf
  | .pendingSessionExpire _ _ => true
  | .scanStart _ _ => true
  | .checkSlotEnd _ _ _ _ => true
  | .conversionEnd _ _ _ _ => true
  | .cjSampleEnd _ _ _ _ => true
  | .ovdTrip _ _ _ => true
  | .ovdClear _ _ => true
  | .chConfig q item => q.wf && item.length == 12
  | .chStatus q _ _ => q.wf
  | .scanConfig q _ _ _ => q.wf
  | .tableRead q _ => q.wf
  | .tableWrite q _ image => q.wf && image.length == 20 + 8 * (image.getD 1 0).toNat
  | .tableErase q _ => q.wf
  | .readResults q _ _ _ => q.wf
  | .readResultsFull q _ _ _ => q.wf
  | .loopConfig q item => q.wf && item.length == 16
  | .loopSetSet q _ _ => q.wf
  | .loopSetClose q _ _ => q.wf
  | .loopSetResume q _ _ => q.wf
  | .loopStatus q _ _ => q.wf
  | .loopOpenDetect _ _ => true
  | .loopShortDetect _ _ => true
  | .loopDevDetect _ _ => true
  | .probeCycleStart _ => true
  | .probeMeasureEnd _ _ _ _ _ _ _ _ => true
  | .probeReadSnapshot q _ _ _ => q.wf
  | .probeReadConfig q _ _ => q.wf
  | .probeReadCrop q _ => q.wf
  | .probeConfigPort q _ _ _ _ _ => q.wf
  | .probeConfigCrop q _ image => q.wf && image.length ≤ 1020
  | .probeConfigCropErase q _ => q.wf
  | .probeConfigCycle q _ _ => q.wf
  | .probeCalAir q _ => q.wf
  | .probeCalSample q _ _ _ _ => q.wf
  | .probeCalApply q _ => q.wf
  | .probeCalReset q _ => q.wf
  | .probeCalDiscard q _ => q.wf
  | .drvCmdOn q _ _ _ => q.wf
  | .drvCmdPulse q _ _ _ => q.wf
  | .drvCmdRelease q _ _ _ => q.wf
  | .drvCmdSetI q _ _ _ => q.wf
  | .drvCmdLatchA q _ _ _ => q.wf
  | .drvCmdLatchB q _ _ _ => q.wf
  | .drvCmdReleaseMask q _ _ _ => q.wf
  | .drvProfile q item => q.wf && item.length == 32
  | .drvStatus q _ _ => q.wf
  | .drvEnergy q _ _ => q.wf
  | .drvPair q _ => q.wf
  | .drvUnpair q _ => q.wf
  | .drvBudget q _ => q.wf
  | .risePeakReached _ _ _ _ => true
  | .tBoostMaxExpire _ _ _ _ _ _ => true
  | .dwellEnd _ _ _ _ => true
  | .decayEnd _ _ => true
  | .pulseEnd _ _ => true
  | .tHoldMaxExpire _ _ => true
  | .releaseEnd _ _ _ => true
  | .pairReverseRise _ _ => true
  | .reservoirCharged _ _ _ => true
  | .boostOrderReview _ => true
  | .offStateSample _ _ _ _ => true
  | .drvShortSupDetect _ _ _ => true
  | .drvShortLoadDetect _ _ _ => true
  | .drvShortGndDetect _ _ _ => true
  | .drvOpenDetect _ _ _ _ _ => true
  | .boostWaitReady _ _ _ => true
  | .tBoostWaitExpire _ _ => true
  | .drvOvertemp _ _ _ => true
  | .drvOvertempRecover _ _ _ => true
  | .legConflictDetect _ _ => true
  | .drvRetryTimer _ _ => true
  | .drvRetryRestore _ _ => true
  | .drvDiagConfig q _ _ _ _ _ _ => q.wf
  | .drvDiagDirect q _ _ _ => q.wf
  | .directDriveEnd _ _ _ => true
  | .drvFaultClear q _ _ => q.wf
  | .fanTargetForm _ => true
  | .fanSpinUpEnd _ _ => true
  | .fanStallDetect _ _ => true
  | .fanRetryTimer _ _ => true
  | .fanRetryRestore _ _ => true
  | .fanElectricalFault _ _ _ => true
  | .fanOvertempRecover _ _ _ => true
  | .fanFailoverExit _ _ => true
  | .airOkUpdate _ => true
  | .shootBlockDetect _ _ => true
  | .fanCmdSet q _ _ _ => q.wf
  | .fanCmdFailover q _ _ _ => q.wf
  | .fanCmdResume q _ _ _ => q.wf
  | .fanConfig q item => q.wf && item.length == 32
  | .fanTable q _ image => q.wf && image.length == 12 + 8 * (image.getD 1 0).toNat
  | .fanGroup q _ _ _ _ _ _ => q.wf
  | .fanStatus q _ _ => q.wf
  | .fanRetry q _ _ => q.wf
  | .progLoad q _ count items => q.wf && items.length == 6 * count.toNat
  | .progStartStart q => q.wf
  | .progStartResume q => q.wf
  | .progStopOrderly q => q.wf
  | .progStopHold q => q.wf
  | .progStopAbort q => q.wf
  | .progStatusSummary q => q.wf
  | .progStatusParcels q _ _ => q.wf
  | .progSet q count items => q.wf && items.length == 6 * count.toNat
  | .dischargeStroke _ => true
  | .parcelStore _ => true
  | .aerationDecision _ => true
  | .convCmdStart q _ => q.wf
  | .convCmdStopUpstream q _ => q.wf
  | .convCmdStopNow q _ => q.wf
  | .convCmdReset q _ => q.wf
  | .convConfigStage q item => q.wf && item.length == 12
  | .convConfigLine q item => q.wf && item.length == 7
  | .stageStartDelay _ _ => true
  | .stageClearDelay _ _ => true
  | .stageProveTimeout _ _ => true
  | .diFilterChange _ _ _ _ => true
  | .stitchWrite q _ count entries => q.wf && entries.length == 16 * count.toNat
  | .stitchClear q _ _ => q.wf
  | .stitchStatus q _ _ => q.wf
  | .stitchExecute _ => true
  | .energyRead q => q.wf
  | .energyReadRestart q => q.wf
  | .lichenConfig q item => q.wf && item.length == 12
  | .lichenHeatExpire _ => true
  | .thermSample _ _ => true
  | .ts7PeriodTimer _ => true
  | .ts7SampleEnd _ _ => true
  | .ts7Stale _ => true
  | .thermalShutdown _ => true
  | .shutdownExit _ => true
  | .thermRead q _ => q.wf
  | .thermReadSample q _ => q.wf
  | .thermConfig q _ _ _ => q.wf
  | .smCycle _ _ _ _ => true
  | .testOutputPulse _ _ _ _ => true
  | .siDiscrepancy _ _ => true
  | .hpTestPulse _ _ _ => true
  | .hpOpenDetect _ _ _ _ => true
  | .airflowLoss _ => true
  | .airOkDisagree _ _ => true
  | .flameOffTimeout _ => true
  | .flameProveTimeout _ => true
  | .smLockstepMismatch _ => true
  | .smEccError _ => true
  | .smWatchdogMiss _ _ => true
  | .hpBEnableStatic _ => true
  | .scrcRecheck _ _ => true
  | .safeStatus q => q.wf
  | .permitRequest q => q.wf
  | .permitDrop q => q.wf
  | .safeConfigWrite q image => q.wf && image.length == 40
  | .safeConfigConfirm q _ => q.wf
  | .safeConfigExpire _ => true
  | .safeConfigRead q _ => q.wf
  | .proofTestPermit q => q.wf
  | .proofTestRelease q => q.wf
  | .proofTestReport q => q.wf
  | .proofTestDone _ _ _ _ => true
  | .safeReset q _ => q.wf
  | .ptAgeDay _ => true
  | .testOpen q _ _ => q.wf
  | .inject q _ _ _ _ => q.wf
  | .injectClear q _ => q.wf
  | .testClose q => q.wf
  | .injectExpire _ _ => true
  | .testTimeout _ => true
  | .flagClear q _ _ => q.wf
  | .logRead q _ _ => q.wf
  | .logInfo q => q.wf
  | .countersRead q => q.wf
  | .logEntryWrite _ _ => true
  | .memRead q _ _ => q.wf
  | .memWrite q _ bytes => q.wf && 1 ≤ bytes.length && bytes.length ≤ 1016
  | .registerWrite _ addr _ strobes => 0x40000000 ≤ addr && addr < 0x400B0000 && addr % 4 == 0 && strobes != 0
  | .rbRdWrite _ _ _ => true
  | .ctLoRead _ => true
  | .scConfigDescriptor q _ desc => q.wf && desc.length == 32
  | .scConfigTimer q _ _ _ => q.wf
  | .scConfigRing q _ _ _ _ _ => q.wf
  | .scConfigChannel q _ _ => q.wf
  | .scStartArm q _ => q.wf
  | .scStartRunNow q _ => q.wf
  | .scStartResume q _ => q.wf
  | .scStartRestart q _ => q.wf
  | .scStopChainEnd q _ => q.wf
  | .scStopBurstEnd q _ => q.wf
  | .scStatus q _ _ => q.wf
  | .streamTimerFire _ _ => true
  | .descriptorDone _ ch => 8 ≤ ch.val
  | .burstBusError _ ch offset addr => 8 ≤ ch.val && offset < 65536 && addr < 0x100000000
  | .burstRetry _ ch => 8 ≤ ch.val
  | .snapDeadline _ ch => 8 ≤ ch.val
  | .updateBegin q payload => q.wf && payload.length == 260
  | .updateBeginChecked _ => true
  | .flashEraseDone _ _ => true
  | .updateBlock q payload => q.wf && payload.length ≤ 1024
  | .programComplete _ words _ => 0 < words
  | .updateVerify q _ => q.wf
  | .verifyDone _ => true
  | .updateCommit q _ => q.wf
  | .updateAbort q _ => q.wf
  | .updateStatus q => q.wf
  | .handoverBootDone _ _ _ => true
  | .handoverBootTimeout _ => true
  | .catchupTimeout _ => true
  | .selfCheckReport _ _ => true
  | .trialWindowEnd _ => true
  | .smRestartDone _ _ => true
  | .portReload _ => true
  | .portLockTimeout _ => true
  | .imageInfo q => q.wf
  | .handoverStatus q => q.wf
  | .sporeEnter q _ => q.wf
  | .tachEdge _ _ => true
  | .domainOnReached _ pd => pd < 68
  | .sramEccError _ => true
  | .estopPathOpen _ => true

end Sys2Proof
end

