-- ==== Sys2Proof/Tests/Slice0.lean ====
section
/-! SUPPORT. Tests of single steps on small states, and for each statement a witness: states and operands that meet the hypotheses of each
of its clauses (`witness_<statement>`, in parts where a statement has many clauses). -/

namespace Sys2Proof.Tests

set_option Elab.async false   -- one theorem at a time: their evaluations side by side would need too much memory

open Sys2Proof.Machine

/-- The node with CTRL and SM running, its supplies up, and host A holding the needle. -/
def live : State :=
  { State.reset with pow := { State.reset.pow with stage := .running, smUp := true, vlOk := true, vpOk := true, bypassOpen := true },
                     frm := { State.reset.frm with holder := .hostA } }

/-- A plain request of host A. -/
def q0 : Req := { sender := .hostA, auth := false, bcast := false, seq := 1, sweep := 0, hop := 0 }

/-- The same from host B. -/
def qB : Req := { q0 with sender := .hostB }

/-- An empty queue: the node idles. -/
theorem test_idle : State.reset.pending = [] := by decide

/-! ### Witnesses: chapters 1 and 2 -/

theorem witness_BootStagesComplete :
    let boot := State.reset.mPow fun p => { p with stage := .boot }
    boot.pow.stage = .boot ∧ boot.pow.smUp = false ∧ boot.passes 1 = true ∧ boot.domDead 64 = false ∧
      (boot.mPow fun p => { p with smUp := true }).pow.smUp = true ∧ (boot.mPow fun p => { p with pdDead := 1 <<< 64 }).domDead 64 = true ∧
      (boot.mUpd fun u => { u with dir := Vector.replicate 8 {} }).passes 1 = false ∧ boot.pow.bypassOpen = false ∧ boot.passes 2 = true ∧
      boot.domDead 59 = false ∧ boot.domDead 60 = false ∧ (boot.mPow fun p => { p with stage := .ringReady }).pow.stage = .ringReady := by
  decide

theorem witness_VsPowerLossTurnsOutputsOff : live.awake = true ∧ (live.mSafe fun x => { x with permit := .on }).awake = true := by decide

theorem witness_StartsAndWakes :
    let down := State.reset.mPow fun p => { p with stage := .powerDown, downUp := 5 }
    let due := live.mSys fun y => { y with resetDue := some (7, 5) }
    let moss := State.reset.mPow fun p => { p with stage := .moss }
    let going := live.mPow fun p => { p with mossAt := some 0, mossWake := 4 }
    State.reset.pow.stage = .off ∧ down.pow.stage = .powerDown ∧ down.clk.upNs + 3000004 < down.pow.downUp + 3000000 ∧
      due.sys.resetDue = some (7, 5) ∧ 7 ≤ due.clk.upNs + 7 ∧ moss.pow.stage = .moss ∧ bitOf moss.pow.wakeCfg 0 = true ∧
      bitOf moss.pow.wakeCfg 1 = true ∧ true = (!bitOf moss.pow.wakeCfg 3) ∧ bitOf moss.pow.wakeCfg 2 = true ∧
      going.pow.mossAt = some 0 ∧ 0 + 3000 ≤ (going.advance 3000000).ctUs ∧ going.pow.mossWake ≠ 0 ∧
      (going.mPow fun p => { p with mossWake := 0 }).pow.mossWake = 0 := by
  decide

theorem witness_SupplyAndDomains :
    let dark := live.mPow fun p => { p with vpOk := false }
    let coming := live.mPow fun p => { p with pdReq := 1 <<< 13, pdReqUp := p.pdReqUp.set 13 (some 7) }
    let dead := (coming.mPow fun p => { p with pdDead := 1 <<< 13 }).mDrvCh 0 fun d => { d with phase := .unavailable }
    let going := live.mPow fun p => { p with pdOff := 1 <<< 13, pdOn := 1 <<< 13 }
    let io := live.mPow fun p => { p with pdOn := 1 <<< 67, ioVpUp := some 3 }
    dark.pow.vpOk = false ∧ dark.injOn 0x0001 0 = false ∧ live.awake = true ∧ coming.domComing 13 = true ∧ coming.injOn 2 13 = false ∧
      dead.domComing 13 = true ∧ dead.domDead 13 = true ∧ (dead.drv.ch[0]).phase = .unavailable ∧ coming.pow.asked 13 = some 7 ∧
      (if vpFed 13 then max 7 coming.pow.vpUp else 7) + 1000000 ≤ coming.clk.upNs + 1000007 ∧ going.pow.pdOff.getLsbD 13 = true ∧
      going.domActive 13 = false ∧ io.ioComing = true ∧ io.injOn 2 67 = false ∧ io.pow.ioVpUp = some 3 ∧
      max 3 io.pow.vpUp + 1000000 ≤ io.clk.upNs + 1000003 := by
  decide

theorem witness_ClockAndCoreSupply :
    let early := live.mSys fun y => { y with lastAvs := some 1 }
    let top := live.mSys fun y => { y with vcore := 0x32 }
    live.awake = true ∧ live.sys.resetDue = none ∧ (live.mSys fun y => { y with resetDue := some (7, 5) }).sys.resetDue = some (7, 5) ∧
      live.injOn 3 0 = false ∧ live.sys.vcore ≤ 0x32 ∧ early.sys.lastAvs = some 1 ∧ early.clk.upNs + 100000 < 1 + 100000 ∧ live.sys.lastAvs = none ∧ 1 + 100000 ≤ early.clk.upNs + 100001 ∧
      live.sys.vcore < 0x32 ∧ top.sys.vcore = 0x32 ∧ top.injOn 3 0 = false := by
  decide

theorem witness_ControlTick :
    let s := live.mSys fun y => { y with tickOpen := true }
    let done := s.mSys fun y => { y with commit := true }
    let trial := s.mHo fun h => { h with phase := .trial, typ := some .ctrl }
    let fourth := trial.mSys fun y => { y with missRun := 4 }
    let ninth := trial.mHo fun h => { h with overruns := 9 }
    let switch := s.mHo fun h => { h with phase := .switch, typ := some .ctrl }
    let stuck := s.mSys fun y => { y with missRun := 20, stbyUp := true }
    let ready := fun (s : State) => s.pow.stage = .running ∧ s.frm.window = [] ∧ s.frm.staged = [] ∧ s.lich.actsDue = 0 ∧ s.ho.fbDue = none ∧
      s.ho.switched = false ∧ s.sys.tickOpen = true ∧ s.clk.ctNs + 1000000 < ctMax * 1000
    ready done ∧ done.sys.commit = true ∧ done.ho.phase = .none ∧ ready s ∧ s.sys.commit = false ∧ s.ho.phase = .none ∧
      ready fourth ∧ fourth.sys.commit = false ∧ fourth.ho.phase = .trial ∧ fourth.ho.typ = some .ctrl ∧ fourth.sys.missRun = 4 ∧
      ready ninth ∧ ninth.ho.phase = .trial ∧ ninth.sys.missRun < 4 ∧ ninth.ho.overruns = 9 ∧ ready switch ∧ switch.ho.phase = .switch ∧
      s.injOn 0x0907 0 = false ∧ State.reset.pow.stage ≠ .running ∧ stuck.sys.stbyUp = true ∧ s.sys.stbyUp = false ∧
      stuck.pow.stage = .running ∧ stuck.sys.missRun = 20 ∧ stuck.inHandover = false ∧ stuck.pow.smUp = true ∧
      (stuck.safe.latch[4]).set = false ∧ s.sys.missRun ≠ 20 := by
  decide

/-! ### Witnesses: chapter 3 -/

/-- The running node with port CA locked. -/
def locked : State := live.mRing fun r => { r with ca := { r.ca with lock := true } }

theorem witness_LinkEngineComplete :
    let low := locked.mRing fun r => { r with ca := { r.ca with eyeLow := some 0, linkUp := some 0, eqUp := some 0, rangeUp := some 0, peReqUp := some 0 } }
    let again := locked.mRing fun r => { r with ca := { r.ca with rangeOnce := true } }
    live.linkRuns = true ∧ (low.port .ca).linkUp = some 0 ∧ 0 + 1000000 ≤ low.clk.upNs + 1000000 ∧ (low.port .ca).txEnd ≤ low.clk.upNs ∧
      (low.port .ca).peReqUp = some 0 ∧ low.clk.upNs + 99999999 < 0 + 100000000 ∧ 0 + 100000000 ≤ low.clk.upNs + 100000000 ∧
      (again.port .ca).rangeOnce = true ∧ (again.port .ca).lock = true ∧
      linkIdOf [1, 0, 2, 3] ≠ none ∧ linkIdOf [1, 0, 2, 4] = none ∧ (low.port .ca).eq ≤ 31 ∧ (low.port .ca).eqUp = some 0 ∧
      (low.port .ca).eyeLow = some 0 ∧ 0 + 1000000000 ≤ low.clk.upNs + 1000000000 ∧ (low.port .ca).eyeDone = false ∧
      (locked.port .ca).lock = true ∧ (locked.port .ca).ranged = false ∧ (low.port .ca).rangeUp = some 0 ∧
      rangeOf [2, 5, 0, 7] = some (2, 5) ∧ rangeOf [1, 0, 0, 1] = some (1, 0) := by
  decide

theorem witness_CastOnGivesAddress :
    let free := live.mFrm fun f => { f with holder := .none }
    let pinned := live.mRing fun r => { r with pinStore := some 9 }
    live.listens q0 = true ∧ (0 : Byte).toNat ≤ 1 ∧ (1 : Byte).toNat ≤ 1 ∧ live.trusts q0 = true ∧ free.frm.holder = .none ∧
      live.frm.holder = senderHolder q0.sender ∧ (0 : Byte).toNat = 0 ∧ pinned.ring.pinStore = some 9 ∧ (1 : Byte).toNat = 1 ∧
      live.ring.pinStore = none ∧ (0x3C : Byte).toNat + q0.hop ≤ 0x3C ∧ 0x3C < (0x3D : Byte).toNat + q0.hop ∧
      live.frm.holder ≠ .none ∧ live.frm.holder ≠ senderHolder qB.sender ∧ live.listens qB = true := by
  decide

theorem witness_LossAndRelock :
    let turning := locked.mRing fun r => { r with ca := { r.ca with turn := true, ranged := true, lockUp := some 0, losses := [1, 2, 3] } }
    let two := locked.mRing fun r => { r with ca := { r.ca with turn := true, ranged := true, lockUp := some 0, losses := [1, 2] } }
    let due := live.mRing fun r => { r with rateDue := some (0, 1), ca := { r.ca with wakeDue := true } }
    let sending := live.mRing fun r => { r with ca := { r.ca with txEnd := 8 } }
    locked.linkRuns = true ∧ (locked.port .ca).lock = true ∧ lossMade .linkDown 0 0 = true ∧ lossMade .silence 1 0 = false ∧
      locked.injOn 0x0101 (portIx .ca) = false ∧ (live.port .ca).everLocked = false ∧ (due.port .ca).txEnd ≤ due.clk.upNs ∧
      sending.clk.upNs + 7 < (sending.port .ca).txEnd ∧ (live.port .ca).lock = false ∧
      live.injOn 0x0101 (portIx .ca) = false ∧ (turning.port .ca).turn = true ∧ (turning.port .ca).lock = true ∧
      (turning.port .ca).ranged = true ∧ (turning.port .ca).lockUp = some 0 ∧ 3 ≤ (turning.port .ca).losses.length ∧
      0 + 1000000000 ≤ turning.clk.upNs + 1000000000 ∧ ¬ 3 ≤ (two.port .ca).losses.length ∧ 0 + 10000000 ≤ two.clk.upNs + 10000000 ∧
      (two.mRing fun r => { r with ca := { r.ca with ranged := false } }).ring.ca.ranged = false ∧
      (live.port .ca).rateUp + 100000000 ≤ live.clk.upNs + 100000000 ∧ due.ring.rateDue = some (0, 1) ∧ 0 ≤ (due.advance 0).ctUs ∧
      due.ring.rate ≠ 1 ∧ (due.port .ca).wakeDue = true := by
  decide

theorem witness_RingOrders :
    live.listens q0 = true ∧ live.hears q0 = true ∧ live.trusts q0 = true ∧ live.frm.holder = senderHolder q0.sender ∧
      inR 1 (1 : Byte).toNat 0x3C = true ∧ inR 1 (0x3C : Byte).toNat 0x3C = true ∧ (1 : Byte).toNat ≤ 1 ∧ Config.serial + 1 ≠ Config.serial ∧
      q0.bcast = false ∧ (0 : Byte).toNat ≠ 1 ∧ (live.mRing fun r => { r with addr := 1 }).ring.addr ≠ 0 ∧ (3 : Byte).toNat ≤ 3 ∧
      live.mossRefused = false ∧ (live.mSafe fun x => { x with permit := .on }).mossRefused = true ∧ (1 : Byte).toNat = portIx .cb ∧
      (2 : Nat) = ((2 : Word).toNat + 2 ^ 32 - live.crcUs / 10000 % 2 ^ 32) % 2 ^ 32 ∧
      (1 : Nat) = ((1 : Word).toNat + 2 ^ 32 - live.crcUs / 10000 % 2 ^ 32) % 2 ^ 32 ∧
      (2 : Nat) ^ 31 = ((0x80000000 : Word).toNat + 2 ^ 32 - live.crcUs / 10000 % 2 ^ 32) % 2 ^ 32 := by
  have h : Config.serial + 1 ≠ Config.serial := by simp
  refine ⟨by decide, by decide, by decide, by decide, by decide, by decide, by decide, h, ?_⟩
  decide +kernel

/-- A MARK of host A for boundary `t` µs (Table 3.2) without accumulated delay. -/
def markOf (t : Nat) : List Byte :=
  let b := leBytes 6 t ++ leBytes 3 0 ++ [0, 0]
  b ++ leBytes 1 (crc8 b)

theorem witness_Marks :
    let valid := live.mClk fun c => { c with ctValid := true }
    let far := valid.mClk fun c => { c with judgedBad := some true }
    let one := live.mClk fun c => { c with bnd := some { time := 10000, b := some { place := 0, cyc := 0, dly := 999999 } } }
    let end_ := live.mClk fun c => { c with ctNs := (2 ^ 48 - 1) * 1000 }
    live.linkRuns = true ∧ (Mark.ofBytes (markOf 0)).valid = true ∧ (Mark.ofBytes (markOf 0)).adly + (live.port .ca).segDly < 1000000 ∧
      (Mark.ofBytes (markOf 0)).srcB = (live.clk.primary == 1) ∧ live.clk.bnd = none ∧ live.clk.ctValid = false ∧ valid.clk.ctValid = true ∧
      ((((Mark.ofBytes (markOf 0)).time * 1000 : Nat) : Int) - ((valid.advance 100000).clk.ctNs : Int)).natAbs = 100000 ∧
      (Mark.ofBytes (markOf 10000)).valid = true ∧ 100000 < ((((Mark.ofBytes (markOf 10000)).time * 1000 : Nat) : Int) -
        ((valid.advance 0).clk.ctNs : Int)).natAbs ∧ valid.clk.judgedBad ≠ some true ∧ far.clk.judgedBad = some true ∧
      (Mark.ofBytes (markOf 10001)).valid = false ∧ (one.clk.bnd.map fun b => b.decided) = some false ∧
      (one.clk.bnd.bind fun b => b.b.map fun x => x.dly) = some 999999 ∧ one.clk.primary ≠ 1 ∧ (0 : Int) + 1000000 ≤ (one.clk.upNs + 1000000 : Nat) ∧
      (one.clk.upNs + 999999 : Nat) < (0 : Int) + 1000000 ∧ (valid.mSys fun y => { y with trimUp := some 0 }).sys.trimUp = some 0 ∧
      valid.clk.upNs + 9999999 < 0 + 10000000 ∧ 0xFFFFFF < (Mark.ofBytes (markOf 0)).adly + 0x1000000 ∧ (Mark.ofBytes (markOf 10001)).chk = true ∧
      (Mark.ofBytes ((markOf 0).set 11 1)).chk = false ∧
      live.clk.lastMark + 100000000 ≤ live.clk.upNs + 100000000 ∧ 2 ^ 48 - 1 ≤ (end_.advance 0).ctUs ∧ 0x800 - 1000 ≤ 0x418 ∧
      0xBE8 ≤ 0x800 + 1000 := by
  decide +kernel

/-! ### Witnesses: chapter 4 -/

/-- A request frame (Table 4.1) of `src` to `dest` with SEQ 1, its CRC matching; `tail` stands between payload and CRC. -/
def frameOf (dest src opc flg : Nat) (payload tail : List Byte) : List Byte :=
  let b := leBytes 1 dest ++ leBytes 1 src ++ leBytes 2 1 ++ leBytes 1 opc ++ leBytes 1 flg ++ leBytes 2 payload.length ++ leBytes 2 0 ++
    [0, 0] ++ payload ++ tail
  b ++ leBytes 4 (crc32 b)

/-- A state in which the service port's window holds entry `e`. -/
def seen (e : WinEntry) : State := live.mFrm fun f => { f with win := #v[[], [], [e]] }

theorem witness_FrameChecksInOrder :
    let plain := frameOf 0 0xF8 0x10 0 [] []
    let bad := frameOf 0 0xF8 0x10 4 [] []
    let tagged := frameOf 0 0xF8 0x10 1 [] (List.replicate 12 0)
    let long := frameOf 0 0xF8 0x10 0 [] [0]
    let strange := frameOf 0 0xF8 0x7F 0 [] []
    let needle := frameOf 0 0xF8 0x14 0 [1] []
    let old : WinEntry := { seq := 1, crc := (Frame.ofBytes plain).crc }
    forNode .svc (frameOf 0 0xF0 0x10 0 [] []) live = true ∧ senderOn .svc (Frame.ofBytes (frameOf 0 0xF0 0x10 0 [] [])).src = none ∧
      plain.set 10 (BitVec.ofNat 8 0) = plain ∧ forNode .svc plain live = true ∧ senderOn .svc (Frame.ofBytes plain).src = some .svc ∧
      8 ≤ ((live.mFrm fun f => { f with replies := #v[[], [], List.replicate 8 { opc := 0, payload := [] }] }).frm.replies[senderIx .svc]).length ∧
      (live.frm.replies[senderIx .svc]).length < 8 ∧ forNode .svc long live = true ∧ (Frame.ofBytes long).lengthOk long = false ∧
      forNode .svc bad live = true ∧ (Frame.ofBytes bad).lengthOk bad = true ∧ headerBad .svc (Frame.ofBytes bad) = true ∧
      live.winFind .svc (Frame.ofBytes bad) = none ∧ forNode .svc tagged live = true ∧ (Frame.ofBytes tagged).lengthOk tagged = true ∧
      headerBad .svc (Frame.ofBytes tagged) = false ∧ (Frame.ofBytes tagged).auth = true ∧
      live.tagSession .svc (Frame.ofBytes tagged) tagged = none ∧ (Frame.ofBytes plain).lengthOk plain = true ∧
      headerBad .svc (Frame.ofBytes plain) = false ∧ (Frame.ofBytes plain).auth = false ∧
      (seen { old with crc := 0 }).winFind .svc (Frame.ofBytes plain) = some { old with crc := 0 } ∧ (0 : Nat) ≠ (Frame.ofBytes plain).crc ∧
      (seen old).winFind .svc (Frame.ofBytes plain) = some old ∧ old.crc = (Frame.ofBytes plain).crc ∧ old.pending = true ∧
      (seen { old with pending := false }).winFind .svc (Frame.ofBytes plain) = some { old with pending := false } ∧
      forNode .svc strange live = true ∧ (opOf (Frame.ofBytes strange).mem (Frame.ofBytes strange).opc (Frame.ofBytes strange).payload).isNone = true ∧
      forNode .svc needle live = true ∧ (Frame.ofBytes needle).lengthOk needle = true ∧ live.winFind .svc (Frame.ofBytes needle) = none ∧
      ((opOf (Frame.ofBytes needle).mem (Frame.ofBytes needle).opc (Frame.ofBytes needle).payload).map fun o => (o.needle, o.lenOk, o.pends)) =
        some (true, true, false) ∧ live.pow.stage = .running ∧ live.guarded = false ∧ (Frame.ofBytes needle).dest ≠ 0xFF := by
  decide +kernel

/-- The running node at address 3, port CA locked, port CB locked and out of turnaround, its partner host B where `last`. -/
def middle (last : Bool) : State :=
  locked.mRing fun r => { r with addr := 3, cb := { r.cb with lock := true, linkId := some { type := if last then 3 else 1, addr := 4, lcfg := 2 } } }

theorem witness_FramesAndReplies :
    let past := frameOf 7 0xF0 0x10 0 [] []
    let up := frameOf 0xF0 7 0x90 0 [] []
    let broken := (middle false).mRing fun r => { r with cb := { r.cb with turn := true } }
    let r0 : Reply := { opc := 0x14, seq := 1, payload := [0], resetAfter := some 5 }
    let moss : Reply := { opc := 0x0F, seq := 1, payload := [0], mossAfter := true }
    let close : Reply := { opc := 0x0A, seq := 1, payload := [0], endOpen := true }
    let svc := fun (r : Reply) => live.mFrm fun f => { f with replies := #v[[], [], [r]] }
    let turned := locked.mRing fun r => { r with ca := { r.ca with ownQ := [{ body := past, turn := [2, 3, 1, 0x81, 0] }] } }
    (middle false).linkRuns = true ∧ ((middle false).port .ca).lock = true ∧ past.set 10 (BitVec.ofNat 8 0) = past ∧ (past.take 15).length < 16 ∧
      16 ≤ past.length ∧ (middle false).crcSlot (portIx .ca) = none ∧ crcOk (past.set 15 1) = false ∧ crcOk past = true ∧
      (middle true).consumes (Frame.ofBytes past) = false ∧ (middle true).copies (Frame.ofBytes past) = false ∧
      isHostAddr (past.headD 0) = false ∧ (middle true).laneEnd .cb = true ∧ (middle false).laneEnd .cb = false ∧
      isHostAddr (up.headD 0) = true ∧ crcOk up = true ∧ (broken.port .cb).turn = true ∧ ((middle false).port .cb).turn = false ∧
      ((middle false).port .cb).held = [] ∧ past.length ≤ 1052 ∧ live.answers = true ∧
      (svc r0).frm.replies[senderIx .svc] = r0 :: [] ∧ r0.resetAfter = some 5 ∧ (svc moss).frm.replies[senderIx .svc] = moss :: [] ∧
      moss.mossAfter = true ∧ (svc close).frm.replies[senderIx .svc] = close :: [] ∧ close.endOpen = true ∧
      live.clk.upNs + 0 < (live.port .ca).txEnd + 8 * symNs (live.port .ca).rate ∧
      (live.port .ca).txEnd + 8 * symNs (live.port .ca).rate ≤ live.clk.upNs + 8 * symNs 0 ∧ (live.port .ca).turn = false ∧
      (turned.port .ca).ownQ ≠ [] ∧ (live.port .ca).ownQ = [] ∧
      (live.mFrm fun f => { f with replies := #v[[r0], [], []] }).frm.replies[senderIx (portSender .ca)] = r0 :: [] := by
  decide +kernel

theorem witness_FramesAndReplies_copies :
    let past := frameOf 7 0xF0 0x10 0 [] []
    let mine := frameOf 3 0xF0 0x10 0 [] []
    let cast := frameOf 0xFF 0xF0 0x07 0 [1, 0, 0, 0] []
    let m := middle false
    let broken := m.mRing fun r => { r with cb := { r.cb with turn := true } }
    let busy := m.mRing fun r =>
      { r with cb := { r.cb with txEnd := 10 ^ 7, held := [{ body := List.replicate 1052 0, startNs := 10 ^ 7 }, { body := List.replicate 990 0, startNs := 10 ^ 7 }] } }
    let r0 : Reply := { opc := 0x11, seq := 1, payload := [0] }
    let waits := (m.mRing fun r => { r with ca := { r.ca with turn := true } }).mFrm fun f => { f with replies := #v[[r0], [], []] }
    let turned := broken.mRing fun r => { r with cb := { r.cb with ownQ := [{ body := past, turn := [2, 3, 1, 0x81, 0] }] } }
    Ending.done ≠ .abort ∧ (past.take 12).length < 16 ∧ (m.port .cb).turn = false ∧ m.laneEnd .cb = false ∧ (m.port .cb).held = [] ∧
      past.length ≤ 1052 ∧ (turnOf (.turned [1, 2, 3, 4, 5])).length ≤ 5 ∧ (broken.port .cb).turn = true ∧ crcOk (past.set 15 1) = false ∧
      (isHostAddr (past.headD 0) = false ∧ (middle true).laneEnd .cb = true) ∧ crcOk mine = true ∧ m.consumes (Frame.ofBytes mine) = true ∧
      (m.port .cb).txEnd + (mine.length + 2) * symNs (m.port .cb).rate ≤ m.clk.upNs + 10 ^ 6 + forwardNs (m.port .cb).rate ∧
      crcOk cast = true ∧ m.consumes (Frame.ofBytes cast) = false ∧ m.copies (Frame.ofBytes cast) = true ∧
      m.consumes (Frame.ofBytes past) = false ∧ m.copies (Frame.ofBytes past) = false ∧
      busy.clk.upNs + 0 + forwardNs (busy.port .cb).rate < (busy.port .cb).txEnd + (past.length + 2) * symNs (busy.port .cb).rate ∧
      2048 < (((busy.port .cb).flow (busy.clk.upNs + 0)).held.map TxFrame.symbols).sum + past.length + 2 ∧
      (turned.port .cb).ownQ ≠ [] ∧ (turned.port .cb).txEnd + 8 * symNs (turned.port .cb).rate ≤ turned.clk.upNs + 6400 ∧
      (waits.port .ca).turn = true ∧ (waits.port .ca).ownQ = [] ∧ waits.frm.replies[senderIx (portSender .ca)] = r0 :: [] := by
  decide +kernel

/-- The running node with four operations pending. -/
def fourPend : State :=
  live.mFrm fun f => { f with pend := List.replicate 4 { ticket := 1, opc := 0, sender := .hostA, auth := false, est := 0 } }

/-- The running node at GUARDED: a key in RK0. -/
def keyed : State := live.mAuth fun a => { a with keyVer := #v[1, 0, 0], key := #v[List.replicate 16 7, [], []] }

theorem witness_OrdersScreened :
    live.answers = true ∧ 8 ≤ ((live.mFrm fun f => { f with replies := Vector.replicate 3 (List.replicate 8 { opc := 0, payload := [] }) }).frm.replies[
        senderIx .hostA]).length ∧ (live.frm.replies[senderIx .hostA]).length < 8 ∧ { q0 with bcast := true }.bcast = true ∧
      identify.bcast = false ∧ q0.bcast = false ∧ (resetOp 1).lacksTag q0 (keyed.noteValid .hostA) = true ∧
      (resetOp 1).lacksTag q0 (live.noteValid .hostA) = false ∧ (chConfig []).early = false ∧ (chConfig []).inSpore = false ∧
      (live.mPow fun p => { p with stage := .ringReady }).answers = true ∧ (live.mPow fun p => { p with stage := .spore }).answers = true ∧
      (sessionOpen 0 []).lenOk = false ∧ live.pow.stage = .running ∧ (resetOp 1).lenOk = true ∧
      (resetOp 1).mayRun qB (live.noteValid .hostB) = false ∧ (updateVerify 1).pends = true ∧ 4 ≤ fourPend.pendingOps ∧
      fourPend.pow.stage = .running ∧ (resetOp 1).pends = false := by
  decide +kernel

theorem witness_MergeWinner :
    let o : Order := { q := q0, mem := false, opc := 0, payload := [] }
    let l : List Placed := [{ o := o, holder := false, targets := [(.drv 0, false)] }, { o := o, holder := false, targets := [(.drv 0, true)] },
      { o := o, holder := true, targets := [(.drv 0, true), (.drv 1, true)] }, { o := o, holder := true, targets := [(.drv 2, false)] }]
    (2, true, true) ∈ claims l (.drv 0) ∧ claims (l.take 2) (.drv 0) = [(0, false, false), (1, true, false)] ∧
      claims l (.drv 2) = [(3, false, true)] ∧ claims l (.drv 3) = [] := by
  decide

theorem witness_NodeOrdersComplete :
    let hot := live.mSafe fun x => { x with permit := .on }
    let going := live.mHo fun h => { h with phase := .boot }
    let op : PendOp := { ticket := 1, opc := 0x22, sender := .hostA, auth := false, est := 4 }
    live.obeys q0 = true ∧ (1 : Byte).toNat = 1 ∧ live.permitOn = false ∧ live.inHandover = false ∧ (0 : Byte).toNat ≠ 1 ∧
      hot.obeys q0 = true ∧ hot.permitOn = true ∧ going.obeys q0 = true ∧ going.inHandover = true ∧ live.ho.phase ≠ .fallback ∧
      (live.mHo fun h => { h with phase := .fallback }).ho.phase = .fallback ∧ live.pow.wakeCfg % 8 ≠ 0 ∧
      live.mossRefused = false ∧ (live.mPow fun p => { p with wakeCfg := 8 }).pow.wakeCfg % 8 = 0 ∧ hot.mossRefused = true ∧
      live.hears q0 = true ∧ (live.mFrm fun f => { f with statusRec := List.replicate 32 0 }).frm.statusRec ≠ [] ∧
      (live.mFrm fun f => { f with pend := [op] }).frm.pend.find? (fun p => p.ticket == (1 : Half).toNat && p.sender == q0.sender) = some op ∧
      op.auth = false ∧ live.frm.pend = [] := by
  decide

theorem witness_NeedleMoves :
    let held := fun (h : Holder) => live.mFrm fun f => { f with holder := h }
    let tick := (held .hostB).mClk fun c => { c with lastTick := some 0 }
    live.hears q0 = true ∧ live.trusts q0 = true ∧ (held .none).frm.holder = .none ∧ (held .lichen).frm.holder = .lichen ∧
      live.frm.holder = senderHolder q0.sender ∧ (held .hostB).frm.holder ≠ senderHolder q0.sender ∧ (held .hostB).frm.holder ≠ .none ∧
      (held .hostB).frm.holder ≠ .lichen ∧ bitOf (1 : Byte).toNat 0 = true ∧ bitOf (0 : Byte).toNat 0 = false ∧ (1 : Byte).toNat ≤ 1 ∧
      (0 : Half).toNat = 0 ∧ 2 ≤ (2 : Half).toNat ∧ (600 : Half).toNat ≤ 600 ∧ (1 : Half).toNat = 1 ∧ 600 < (601 : Half).toNat ∧
      live.obeys q0 = true ∧ tick.atTick = true ∧ tick.frm.holder ≠ .lichen ∧ tick.quietNs < tick.frm.hostTo * 100000000 ∧
      (tick.mFrm fun f => { f with hostTo := 0 }).frm.hostTo * 100000000 ≤ tick.quietNs := by
  decide

theorem witness_SnapshotReadsComplete :
    let x : Snap := { slot := 0, bidx := 0, btime := 0, image := List.replicate 2048 0, stampHi := List.replicate 64 0 }
    let s := live.mSnap fun n => { n with hist := [x] }
    let d := fun (b : Word) => (b.toNat + 2 ^ 32 - live.nextDue % 2 ^ 32) % 2 ^ 32
    live.listens q0 = true ∧ live.hears q0 = true ∧ d 1 < 2 ^ 31 ∧ d 1 = 0 ∧ 2 ^ 31 ≤ d 0 ∧ live.snap.hist = [] ∧ s.nextDue = live.nextDue ∧
      s.snap.hist.find? (fun x => x.bidx == (0 : Word).toNat) = some x ∧ (0 : Word).toNat ≠ 0xFFFFFFFF ∧ (0xFFFFFFFF : Word).toNat = 0xFFFFFFFF ∧
      (live.mPow fun p => { p with stage := .ringReady }).pow.stage = .ringReady ∧ (live.mPow fun p => { p with stage := .spore }).pow.stage = .spore ∧
      (live.frm.replies[senderIx q0.sender]).length < 8 ∧ s.snap.hist.head? = some x ∧ 1 ≤ (1 : Byte).toNat ∧ (63 : Byte).toNat + (1 : Byte).toNat ≤ 64 ∧ (56 : Byte).toNat ≤ 56 ∧
      (7 : Byte).toNat + (1 : Byte).toNat ≤ 8 ∧ (0 : Byte).toNat = 0 ∧ 64 < (64 : Byte).toNat + (1 : Byte).toNat := by
  decide +kernel

theorem witness_ConfigItemsComplete :
    let going := live.mHo fun h => { h with phase := .boot }
    let saving := live.mCfgs fun c => { c with saving := some (1, RunCfg.factory) }
    let budget := leBytes 2 1000
    live.hears q0 = true ∧ live.trusts q0 = true ∧ live.obeys q0 = true ∧
      ((itemClass 0x07).map fun k => (k.has 0x07 0, k.mem, k.opc, k.size)) = some (true, false, 0x45, 2) ∧ (1 : Byte).toNat ≤ 1 ∧
      (itemClass 0).isNone = true ∧ 1 < (2 : Byte).toNat ∧ ((baseOp false 0x45 budget).map fun o => o.lenOk) = some true ∧ budget.length = 2 ∧
      itemAgrees 0x07 0 budget = true ∧
      ((baseOp false 0x45 budget).map fun o => (o.run q0 (fun _ => true) (live.noteValid q0.sender)).silent) = some false ∧
      live.cfgs.capture = none ∧ (1 : Byte).toNat = 1 ∧ live.inHandover = false ∧ live.cfgs.saving = none ∧ live.pendingOps < 4 ∧
      (0 : Byte).toNat ≠ 1 ∧ going.inHandover = true ∧ saving.cfgs.saving.isSome = true ∧
      4 ≤ fourPend.pendingOps ∧ fourPend.obeys q0 = true ∧ fourPend.cfgs.capture = none := by
  decide +kernel

/-! ### Witnesses: chapters 5 to 7 -/

theorem witness_SessionsAndKeys :
    let x : Session := { id := 1, slot := 0, kReq := [], kRep := [], kWrap := List.replicate 16 3 }
    let sent := { x with replied := true }
    let born := keyed.mAuth fun a => { a with pendS := #v[some sent, none, some { x with nonce := 5 }] }
    let reply : Reply := { opc := 0x09, payload := [0, 5, 0, 0, 0] }
    let told := born.mFrm fun f => { f with replies := #v[[], [], [reply]] }
    let inSess := keyed.mAuth fun a => { a with openS := #v[some x, none, none], pendS := #v[some x, none, none] }
    let qA := { q0 with auth := true }
    live.hears q0 = true ∧ (0 : Byte).toNat = (0 : Fin 3).val ∧ (2 : Byte).toNat = (2 : Fin 3).val ∧ { q0 with sender := .svc }.sender = .svc ∧
      (List.replicate 8 (1 : Byte)).length = 8 ∧ keyed.hears q0 = true ∧ keyed.auth.keyVer[(0 : Fin 3)] ≠ 0 ∧
      keyed.auth.nonceCnt < 0xFFFFFFFF ∧ (keyed.mAuth fun a => { a with nonceCnt := 0xFFFFFFFE }).auth.nonceCnt < 0xFFFFFFFF ∧
      (keyed.auth.opened.filter fun u => decide (keyed.clk.upNs - u < 1000000000)).length < 10 ∧ live.auth.keyVer[(0 : Fin 3)] = 0 ∧
      inSess.hears qA = true ∧ inSess.trusts qA = true ∧ (inSess.auth.openS[senderIx qA.sender]).isSome = true ∧ live.trusts q0 = true ∧
      live.auth.openS[senderIx q0.sender] = none ∧ inSess.auth.pendS[senderIx .hostA] = some x ∧
      x.replied = false ∧ born.auth.pendS[senderIx .hostA] = some sent ∧ sent.replied = true ∧ sent.bornUp + 10000000000 ≤ born.clk.upNs + 10000000000 ∧
      born.clk.upNs + 9999999999 < sent.bornUp + 10000000000 ∧ told.auth.pendS[senderIx .svc] = some { x with nonce := 5 } ∧
      told.answers = true ∧ told.frm.replies[senderIx .svc] = reply :: [] ∧ reply.opc = 0x09 ∧ reply.mem = false ∧ fieldAt reply.payload 0 1 = 0 ∧
      fieldAt reply.payload 1 4 = 5 ∧ reply.sess = none ∧ reply.endOpen = false ∧ reply.endSlot = none ∧
      (inSess.mFrm fun f => { f with orderCarrier := some x }).frm.orderCarrier = some x ∧ inSess.frm.orderCarrier = none ∧
      keyed.frm.orderCarrier = none ∧ live.frm.orderCarrier = none ∧
      inSess.obeys qA = true ∧ inSess.frm.orderSess = none ∧ (List.replicate 16 (0 : Byte)).length = 16 ∧ qA.auth = true ∧
      inSess.auth.openS[senderIx qA.sender] = some x ∧ (1 : Half).toNat ≠ 0 ∧ inSess.auth.keyVer[(1 : Fin 3)] = 0 ∧
      inSess.auth.keyVer[(2 : Fin 3)] = 0 ∧ live.obeys q0 = true ∧ live.frm.orderSess = none ∧ q0.auth = false ∧ keyed.obeys qA = true ∧
      keyed.auth.openS[senderIx qA.sender] = none ∧ (0 : Half).toNat = 0 := by
  decide +kernel

theorem witness_PlainKeyOnlyAtOpen :
    live.obeys q0 = true ∧ (2 : Byte).toNat = (2 : Fin 3).val ∧ (1 : Half).toNat ≠ 0 ∧ (List.replicate 16 (9 : Byte)).length = 16 ∧
      live.guarded = false ∧ keyed.obeys { q0 with auth := true } = true ∧ keyed.guarded = true := by
  decide +kernel

/-- The CH_CONFIG payload of channel `n`: a type K thermocouple for safety use. -/
def tcSafe (n : Nat) : List Byte := leBytes 1 n ++ [2, 0, 4, 0, 2, 0, 0, 0, 0, 0xFF, 1]

/-- The running node with that channel 0 configured and in effect. -/
def warm : State :=
  (live.mRun fun r => { r with chan := r.chan.set (0 : Fin 64) (ChCfg.ofBytes (tcSafe 0)) }).mFe fun f =>
    { f with ch := vmod f.ch (0 : Fin 64) fun c => { c with cfg := ChCfg.ofBytes (tcSafe 0) } }

/-- `warm` inside a scan of group 0 whose check slot has ended. -/
def scanning : State := warm.mFe fun f => { f with grp := vmod f.grp (0 : Fin 4) fun g => { g with inScan := true, checkDone := true } }

theorem witness_ScanStartsWithAcceptedConfig :
    (warm.advance 0).scanMay 0 = true ∧ (warm.advance 0).scanMay 1 = false ∧ (scanning.advance 0).scanMay 0 = false ∧
      (warm.fe.ch[(0 : Fin 64)]).cfg = warm.run.chan[(0 : Fin 64)] ∧
      ((warm.mRun fun r => { r with chan := r.chan.set (0 : Fin 64) {} }).fe.ch[(0 : Fin 64)]).cfg ≠ {} ∧
      ((warm.mCh 0 fun c => { c with changed := true }).fe.ch[(0 : Fin 64)]).changed = true ∧ (warm.fe.ch[(0 : Fin 64)]).changed = false := by
  decide +kernel

theorem witness_CheckSlotsColdJunctionsOverloads :
    let s := warm.mFe fun f => { f with grp := vmod f.grp (0 : Fin 4) fun g => { g with inScan := true } }
    let seen := s.mFe fun f => { f with grp := vmod f.grp (0 : Fin 4) fun g => { g with cjSeen := true } }
    let due := live.mFe fun f => { f with grp := vmod f.grp (3 : Fin 4) fun g => { g with cjDue := true } }
    let out := (live.mFe fun f => { f with ch := vmod f.ch (63 : Fin 64) fun c => { c with ovdOut := true } }).mPow fun p =>
      { p with pdOn := 1 <<< 7 }
    (s.fe.grp[(0 : Fin 4)]).inScan = true ∧ (s.fe.grp[(0 : Fin 4)]).checkDone = false ∧ live.pow.stage = .running ∧ live.inj.isOpen = false ∧
      (7 : Fin 8).val = 2 * (3 : Fin 4).val + 1 ∧ (-4500 : Int) ≤ -4500 ∧ (-4500 : Int) ≤ 10500 ∧ (-4501 : Int) < -4500 ∧ (10500 : Int) < 10501 ∧
      (s.fe.grp[(0 : Fin 4)]).cjSeen = false ∧ (seen.fe.grp[(0 : Fin 4)]).cjSeen = true ∧ (seen.fe.grp[(0 : Fin 4)]).inScan = true ∧
      (seen.fe.grp[(0 : Fin 4)]).checkDone = false ∧ (due.fe.grp[(3 : Fin 4)]).cjDue = true ∧ (live.fe.grp[(3 : Fin 4)]).cjDue = false ∧
      due.pow.stage = .running ∧ due.inj.isOpen = false ∧ (63 : Fin 64).val / 8 = 7 ∧ out.domOn 7 = true ∧ live.domOn 7 = false ∧
      (out.fe.ch[(63 : Fin 64)]).ovdOut = true := by
  decide +kernel

theorem witness_ConversionFormsRecord :
    let held := scanning.mFe fun f => { f with ch := vmod f.ch (0 : Fin 64) fun c => { c with hold := some true, ovdOut := true } }
    let third := scanning.mFe fun f => { f with ch := vmod f.ch (0 : Fin 64) fun c => { c with posRun := 2 } }
    let c := scanning.fe.ch[(0 : Fin 64)]
    let burnt := scanning.mCh 0 fun c => { c with burnout := true }
    (burnt.fe.ch[(0 : Fin 64)]).burnout = true ∧ (burnt.advance 0).nextSlot (groupOf 0) = some 0 ∧ ((scanning.advance 0).cjFor 0).t = none ∧
      (tableIn (scanning.tab.settle (scanning.advance 0).ctUs).eff c.cfg.tableNo).isSome = true ∧ scanning.inj.isOpen = false ∧ (scanning.fe.grp[groupOf 0]).inScan = true ∧ (scanning.fe.grp[groupOf 0]).checkDone = true ∧
      (scanning.advance 0).nextSlot (groupOf 0) = some 0 ∧ c.cfg.primary = false ∧ c.cfg.typ ≠ 0x0C ∧
      (liveCfgs scanning.run.chan (groupOf 0)).isEmpty = false ∧ (scanning.advance 0).ovdClear 0 (convUs c.cfg.conv) = true ∧
      (tableIn scanning.tab.eff c.cfg.tableNo).isSome = true ∧ (held.advance 0).ovdClear 0 (convUs c.cfg.conv) = false ∧
      (held.advance 0).nextSlot (groupOf 0) = some 0 ∧ (third.fe.ch[(0 : Fin 64)]).posRun = 2 ∧ c.cfg.burn ≠ 0 ∧ c.burnout = false := by
  decide +kernel

theorem witness_ChannelConfigComplete :
    let img := tcSafe 0
    let off : List Byte := leBytes 1 0 ++ List.replicate 9 0 ++ [0xFF, 0]
    let free : List Byte := leBytes 1 0 ++ [2, 0, 4, 0, 2, 0, 0, 0, 0, 0xFF, 0]
    let slow : List Byte := leBytes 1 0 ++ [2, 0, 4, 5, 2, 0, 0, 0, 0, 0xFF, 1]
    let pt : List Byte := leBytes 1 2 ++ [5, 1, 1, 0, 0, 0, 0, 0, 0, 0xFF, 0]
    let hot := warm.mSafe fun x => { x with permit := .on }
    let high := warm.mSafe fun x => { x with cfg := { x.cfg with hlA := 0 } }
    let crowd := live.mRun fun r => { r with chan := r.chan.set (3 : Fin 64) (ChCfg.ofBytes (tcSafe 3)) }
    let quick := warm.mRun fun r => { r with chan := r.chan.set (1 : Fin 64) { typ := 1, gain := 4, conv := 5 } }
    live.obeys q0 = true ∧ img.length = 12 ∧ fieldAt img 0 1 = (0 : Fin 64).val ∧ live.chanCodesOk img = true ∧
      live.chanCodesOk (leBytes 1 0 ++ List.replicate 11 0x3F) = false ∧ crowd.chanCodesOk pt = true ∧ fieldAt pt 0 1 = (2 : Fin 64).val ∧
      crowd.pairBad 2 (ChCfg.ofBytes pt) = true ∧ live.pairBad 2 (ChCfg.ofBytes pt) = false ∧ (ChCfg.ofBytes pt).primary = true ∧
      live.pairBad 0 (ChCfg.ofBytes img) = false ∧ high.obeys q0 = true ∧ high.chanCodesOk free = true ∧ high.chanCodesOk off = true ∧
      high.pairBad 0 (ChCfg.ofBytes free) = false ∧ (high.run.chan[(0 : Fin 64)]).safety = true ∧ (ChCfg.ofBytes free).safety = false ∧
      (high.safe.hlIx 0).isSome = true ∧ hot.obeys q0 = true ∧ hot.safe.hlIx 0 = none ∧ hot.permitOn = true ∧
      (hot.run.chan[(0 : Fin 64)]).safety = true ∧ hot.run.chan[(0 : Fin 64)] ≠ ChCfg.ofBytes free ∧ (ChCfg.ofBytes img).safety = true ∧
      hot.run.chan[(0 : Fin 64)] = ChCfg.ofBytes img ∧ live.chanCodesOk slow = true ∧
      timingOk (withChan live.run.chan 0 (ChCfg.ofBytes slow)) live.run.scan[groupOf 0] (groupOf 0) = false ∧
      timingOk (withChan live.run.chan 0 (ChCfg.ofBytes img)) live.run.scan[groupOf 0] (groupOf 0) = true ∧
      timingOk (withChan live.run.chan 2 (ChCfg.ofBytes pt)) live.run.scan[groupOf 2] (groupOf 2) = true ∧
      (0 : Byte).toNat = (0 : Fin 4).val ∧ 1 < (2 : Byte).toNat ∧ 6 < (7 : Byte).toNat ∧ (1 : Byte).toNat ≤ 1 ∧ (6 : Byte).toNat ≤ 6 ∧
      (liveCfgs hot.run.chan 0).any (fun x => x.safety) = true ∧ live.permitOn = false ∧ quick.obeys q0 = true ∧
      quick.permitOn = false ∧ timingOk quick.run.chan { mode := 1, period := 0 } 0 = false ∧
      timingOk live.run.chan { mode := 1, period := 6 } 0 = true ∧ (0 : Byte).toNat = 0 ∧ 64 < (63 : Byte).toNat + (2 : Byte).toNat ∧
      1 ≤ (1 : Byte).toNat ∧ (63 : Byte).toNat + (1 : Byte).toNat ≤ 64 ∧
      (liveCfgs (withChan live.run.chan 0 (ChCfg.ofBytes img)) (groupOf 0)).isEmpty = false := by
  decide +kernel

theorem witness_InterpolationExact :
    risesX [(0, 0), (2, 3), (5, 3)] = true ∧ [(0, 0), (2, 3), (5, 3)] = [] ++ (0, 0) :: (2, 3) :: [((5 : Int), (3 : Int))] ∧ (0 : Int) ≤ 0 ∧
      (2 : Int) ≤ 2 ∧ (-1 : Int) < 0 ∧ [(0, 0), (2, 3), (5, 3)] = [(0, 0), (2, 3)] ++ [((5 : Int), (3 : Int))] ∧ (5 : Int) < 6 := by
  decide

/-- A user table of two breakpoints, from µV to °C. -/
def userTable : List Byte := tableImage 1 1 0 7 [] [(0, 0), (1000, 50)]

theorem witness_TablesComplete :
    let img := userTable
    let full := live.mTab fun x => { x with stored := x.stored.set (0 : Fin 24) img }
    let used := full.mRun fun r => { r with chan := r.chan.set (0 : Fin 64) { typ := 1, gain := 4, table := 8, safety := true } }
    let hot := used.mSafe fun x => { x with permit := .on }
    let other := tableImage 1 2 0 7 [] [(0, 0), (1000, 50)]
    let due : Tables := { due := (Vector.replicate 24 none).set (23 : Fin 24) (some 10000) }
    full.obeys q0 = true ∧ full.tableUsed 8 = false ∧
      live.hears q0 = true ∧ live.trusts q0 = true ∧ 31 < (32 : Byte).toNat ∧ (7 : Byte).toNat < 8 ∧ (8 : Byte).toNat = 8 + (0 : Fin 24).val ∧
      (31 : Byte).toNat = 8 + (23 : Fin 24).val ∧ live.tab.stored[(0 : Fin 24)] = [] ∧ full.tab.stored[(0 : Fin 24)] ≠ [] ∧
      live.obeys q0 = true ∧ [0, 2].length ≠ 20 + 8 * fieldAt [0, 2] 1 1 ∧ img.length = 20 + 8 * fieldAt img 1 1 ∧ tableOk 8 img = true ∧
      tableOk 7 img = false ∧ used.obeys q0 = true ∧ used.tableUsed 8 = true ∧ other.length = 20 + 8 * fieldAt other 1 1 ∧
      tableOk 8 other = true ∧ (Table.ofImage used.tab.stored[(0 : Fin 24)]).xunit ≠ fieldAt other 3 1 ∧
      (Table.ofImage used.tab.stored[(0 : Fin 24)]).xunit = fieldAt img 3 1 ∧ hot.obeys q0 = true ∧ hot.permitOn = true ∧
      hot.tableSafety 8 = true ∧ live.permitOn = false ∧ live.tableUsed 8 = false ∧ due.due[(23 : Fin 24)] = some 10000 ∧ 10000 ≤ 10000 ∧
      9999 < 10000 ∧ due.due[(0 : Fin 24)] = none := by
  decide +kernel

theorem witness_SnapshotPublished :
    (live.mClk fun c => { c with ctNs := 10080000 }).pubNow = some 1 ∧ live.pubNow = none ∧
      (live.mClk fun c => { c with ctNs := 10081000 }).pubNow = none := by
  decide +kernel

theorem witness_LoopOutputs :
    let img : List Byte := [7, 2, 0, 3] ++ List.replicate 8 0 ++ leBytes 2 4000 ++ [0, 0]
    let set := fun (c : LoopCfg) => live.mRun fun r => { r with loop := r.loop.set (7 : Fin 8) c }
    let manual := set { mode := 2 }
    let heat := set (LoopCfg.ofBytes img)
    let on := fun (s : State) => s.mSafe fun x => { x with permit := .on }
    let shut := fun (s : State) => s.mLo 7 fun o => { o with closed := true }
    let owned := manual.mProg fun p => { p with kind := 1, state := .run, items := [(0x0200, 2), (0x0201, 7)] }
    let held := (on owned).mLo 7 fun o => { o with closed := true, permitHold := true }
    let run := (live.mLo 7 fun o => { o with now := 4000, read := 3499, vterm := 24 }).mPow fun p => { p with vsPower := 1200 }
    let spell : Spell := { since := some 0, done := false }
    let opening := run.mLo 7 fun o => { o with sOpen := spell, sShort := spell }
    let drift := run.mLo 7 fun o => { o with read := 3759, vterm := 25, sDev := spell }
    let seenOpen := run.mLo 7 fun o => { o with sOpen := { spell with done := true } }
    live.obeys q0 = true ∧ img.length = 16 ∧ fieldAt img 0 1 = (7 : Fin 8).val ∧ loopCfgOk img = true ∧
      loopCfgOk (img.set 3 (2 : Byte)) = false ∧ (on live).obeys q0 = true ∧ (on live).permitOn = true ∧ (LoopCfg.ofBytes img).heat = true ∧
      (live.run.loop[(7 : Fin 8)]).heat = false ∧ live.permitOn = false ∧ (live.run.loop[(7 : Fin 8)]).mode ≠ (LoopCfg.ofBytes img).mode ∧
      live.loLost 7 = false ∧ (LoopCfg.ofBytes img).mode ≠ 0 ∧ (7 : Byte).toNat = (7 : Fin 8).val ∧ manual.obeys q0 = true ∧
      (24000 : Half).toNat ≤ 24000 ∧ (manual.loCfg 7).mode = 2 ∧ (manual.loCfg 7).heat = false ∧ manual.therm.shut = false ∧
      manual.loopOwned 7 = false ∧ manual.loLost 7 = false ∧ (manual.loop[(7 : Fin 8)]).wantClose = false ∧ 24000 < (24001 : Half).toNat ∧
      (live.loCfg 7).mode ≠ 2 ∧ (heat.loCfg 7).heat = true ∧ heat.permitOn = false ∧ (on heat).permitOn = true ∧ (on heat).obeys q0 = true ∧
      ((shut (on heat)).loop[(7 : Fin 8)]).closed = true ∧ (shut (on heat)).obeys q0 = true ∧ (shut (on heat)).loopOwned 7 = false ∧
      owned.loopOwned 7 = true ∧ owned.obeys q0 = true ∧ (owned.loop[(7 : Fin 8)]).permitShut = false ∧ (held.loop[(7 : Fin 8)]).closed = true ∧
      (held.loop[(7 : Fin 8)]).permitShut = true ∧ held.obeys q0 = true ∧ held.permitOn = true ∧ (0 : Half).toNat = 0 ∧
      (manual.loop[(7 : Fin 8)]).closed = false ∧ heat.hears q0 = true ∧ (heat.loCfg 7).mode ≠ 0 ∧ heat.loLost 7 = false ∧
      (0 : Byte).toNat = 0 ∧ 8 < (7 : Byte).toNat + (2 : Byte).toNat ∧ 1 ≤ (1 : Byte).toNat ∧ (7 : Byte).toNat + (1 : Byte).toNat ≤ 8 ∧
      opening.loOpenNow 7 = true ∧ (opening.loop[(7 : Fin 8)]).sOpen = { since := some 0, done := false } ∧
      0 + 20000000 ≤ opening.clk.upNs + 20000000 ∧ opening.clk.upNs + 19999999 < 0 + 20000000 ∧ opening.loShortNow 7 = true ∧
      (opening.loop[(7 : Fin 8)]).sShort = { since := some 0, done := false } ∧ 0 + 100000000 ≤ opening.clk.upNs + 100000000 ∧
      drift.loDevNow 7 = true ∧ (drift.loop[(7 : Fin 8)]).sDev = { since := some 0, done := false } ∧
      (seenOpen.loop[(7 : Fin 8)]).sOpen.done = true ∧ seenOpen.loOpenNow 7 = true ∧ live.loOpenNow 7 = false := by
  decide +kernel

/-! ### Witnesses: chapters 8 to 10 -/

/-- A crop image (Table 8.3) with two moisture and two temperature breakpoints. -/
def cropBytes : List Byte :=
  let b := [2, 2, 2, 0] ++ List.replicate 14 0 ++ leBytes 2 1000 ++ List.replicate 8 0 ++ leBytes 8 0 ++ leBytes 4 1000000 ++ leBytes 4 30000 ++
    leBytes 4 0 ++ leBytes 4 1000000 ++ leBytes 4 50000 ++ leBytes 4 900000
  b ++ leBytes 4 (crc32 b)

/-- `live` with port 7 set so. -/
def probe (p : ProbePort) : State := live.mPort 7 fun _ => p

theorem witness_ProbeCycleMeasures :
    let p : ProbePort := { en := true, c0 := 10000, cropIm := cropBytes, started := some 0, tBad := false, tch := 63 }
    let idle := (probe p).mDie fun d => { d with period := 0, cycPeriod := 0 }
    let run := (probe p).mDie fun d => { d with run := true, act := 7 }
    let two := run.mPort 0 fun x => { x with en := true }
    let first := (two.mDie fun d => { d with act := 0 }).mPort 0 fun _ => p
    let air := run.mPort 7 fun x => { x with airNow := true, airTicket := some 1 }
    let r : ProbeRaw := { c := #v[10000, 10000, 10000], g := #v[0, 0, 0], guardBad := false }
    let far : ProbeRaw := { c := #v[10000, 10000, 30001], g := #v[0, 0, 0], guardBad := false }
    ((run.advance 30999000).ctUs : Int) < run.die.actUs + 31000 ∧ run.die.actUs + 31000 ≤ ((run.advance 31000000).ctUs : Int) ∧
      idle.pow.stage = .running ∧ idle.die.run = false ∧ idle.domDead 12 = false ∧ (idle.die.port[(7 : Fin 8)]).en = true ∧
      (idle.die.port[(6 : Fin 8)]).en = false ∧ 1000 * idle.die.cycOfs ≤ (idle.advance 0).ctUs ∧
      ((idle.advance 0).ctUs - 1000 * idle.die.cycOfs) % (1000 * probePeriodMs idle.die.cycPeriod) = 0 ∧
      ((idle.advance 999000).ctUs - 1000 * idle.die.cycOfs) % (1000 * probePeriodMs idle.die.cycPeriod) ≠ 0 ∧
      (idle.die.port[(7 : Fin 8)]).tch = (63 : Fin 64).val ∧ (idle.die.port[(7 : Fin 8)]).crop = (0 : Fin 8).val ∧
      run.die.run = true ∧ run.die.act = (7 : Fin 8).val ∧ (run.die.port[(7 : Fin 8)]).started = some 0 ∧ run.inj.isOpen = false ∧
      ¬ 2 * (r.c[2] - p.cStray[2]) < p.c0 ∧ 2 * ((4999 : Int) - p.cStray[2]) < p.c0 ∧ r.shorted = false ∧ r.beyond = false ∧ p.airNow = false ∧
      (air.die.port[(7 : Fin 8)]).airNow = true ∧ (air.die.port[(7 : Fin 8)]).airTicket = some 1 ∧ airOk p.c0 r = true ∧ airOk p.c0 far = false ∧
      first.die.act = (0 : Fin 8).val ∧ (first.die.port[(7 : Fin 8)]).en = true ∧ (first.die.port[(6 : Fin 8)]).en = false ∧
      (first.die.port[(0 : Fin 8)]).started = some 0 := by
  decide +kernel

theorem witness_ProbeOrders :
    let temp := live.mRun fun r => { r with chan := r.chan.set (63 : Fin 64) { typ := 1, gain := 4 } }
    let crop := temp.mDie fun d => { d with crop := d.crop.set (7 : Fin 8) cropBytes }
    let p : ProbePort := { en := true, c0 := 10000, crop := 7, tch := 63 }
    let on := crop.mPort 7 fun _ => p
    let pts : List (Int × Int) := [(12000, 12100), (10000, 10050)]
    let fitted := crop.mPort 7 fun _ => { p with pts := pts }
    let off := crop.mPort 7 fun _ => { p with pts := [(10000, 30000)] }
    let many := crop.mPort 7 fun _ => { p with pts := List.replicate 8 (0, 0) }
    let busy := crop.mPort 7 fun _ => { p with airTicket := some 1 }
    crop.obeys q0 = true ∧ (7 : Byte).toNat = (7 : Fin 8).val ∧ (1 : Byte).toNat ≤ 1 ∧ crop.tchOk 63 = true ∧ inR 2000 (2000 : Half).toNat 50000 = true ∧
      inR 2000 (50000 : Half).toNat 50000 = true ∧ cycleFits crop.die.period crop.die.startOfs 1 = true ∧ inR 2000 (1999 : Half).toNat 50000 = false ∧
      temp.die.crop[(7 : Fin 8)] = [] ∧ temp.obeys q0 = true ∧ crop.die.crop[(7 : Fin 8)] ≠ [] ∧ (0 : Byte).toNat ≠ 1 ∧
      (on.die.port[(7 : Fin 8)]).crop = (7 : Byte).toNat ∧ (on.die.port[(7 : Fin 8)]).c0 = (10000 : Half).toNat ∧
      (on.die.port[(7 : Fin 8)]).c0 ≠ (2000 : Half).toNat ∧ [2, 2, 2].length ≠ 32 + 8 * (fieldAt [2, 2, 2] 1 1 + fieldAt [2, 2, 2] 2 1) ∧
      cropBytes.length = 32 + 8 * (fieldAt cropBytes 1 1 + fieldAt cropBytes 2 1) ∧ cropOk cropBytes = true ∧
      cropOk (cropBytes.set 0 (1 : Byte)) = false ∧ (on.die.port[(7 : Fin 8)]).en = true ∧ (crop.die.port[(7 : Fin 8)]).en = false ∧
      (5 : Byte).toNat ≤ 5 ∧ (59999 : Half).toNat ≤ 59999 ∧ (59999 : Half).toNat + 31 * (crop.die.portsFrom 0).length ≤ probePeriodMs 5 ∧
      ¬ (60000 : Half).toNat ≤ 59999 ∧ crop.hears q0 = true ∧ (0 : Byte).toNat = 0 ∧ 8 < (7 : Byte).toNat + (2 : Byte).toNat ∧
      1 ≤ (1 : Byte).toNat ∧ (7 : Byte).toNat + (1 : Byte).toNat ≤ 8 ∧ 8 ≤ (8 : Byte).toNat ∧ on.obeys q0 = true ∧
      (on.die.port[(7 : Fin 8)]).airTicket = none ∧ on.pendingOps < 4 ∧ (busy.die.port[(7 : Fin 8)]).airTicket ≠ none ∧
      60000 < (60001 : Word).toNat ∧ (60000 : Word).toNat ≤ 60000 ∧ (on.die.port[(7 : Fin 8)]).calgen ≠ (1 : Byte).toNat ∧
      (on.die.port[(7 : Fin 8)]).calgen = (0 : Byte).toNat ∧ 8 ≤ (many.die.port[(7 : Fin 8)]).pts.length ∧
      (on.die.port[(7 : Fin 8)]).pts = [] ∧ (fitted.die.port[(7 : Fin 8)]).pts ≠ [] ∧
      (let len := pts.length
       let sx := (pts.map fun x => x.1).sum
       let sy := (pts.map fun x => x.2).sum
       let d := len * (pts.map fun x => x.1 * x.1).sum - sx * sx
       let gain := roundDiv ((len * (pts.map fun x => x.1 * x.2).sum - sx * sy) * p.gain) d.toNat
       8000 ≤ gain ∧ gain ≤ 12500 ∧ (2000 : Int) ≤ 12000 - 10000 ∧ d ≠ 0) ∧
      5000 < roundDiv (0 * 1 + (30000 - 10000)) 1 ∧ (off.die.port[(7 : Fin 8)]).pts = [((10000 : Int), (30000 : Int))] := by
  decide +kernel

/-- `live` with driver channel 0 set so. -/
def coil (p : Profile) (d : Driver) (g : Diag := {}) : State :=
  ((live.mRun fun r => { r with prof := r.prof.set (0 : Fin 32) p }).mDrvCh 0 fun _ => d).mDiag 0 fun _ => g

/-- A profile of mode COIL. -/
def coilProf : Profile := { mode := 1 }

/-- The even channel of the pair 0. -/
def pair (d : Driver) : State := (coil coilProf d).mRun fun r => { r with pair := r.pair.set (0 : Fin 16) true }

/-- Channel 0 takes `code` from host A. -/
def takes (s : State) (code : Nat) : Bool :=
  s.obeys q0 && s.actAllowed 0 code && decide ((s.drv.ch[(0 : Fin 32)]).phase ≠ .fault) && decide ((s.drv.ch[(0 : Fin 32)]).phase ≠ .unavailable) &&
    (!s.isHeat 0 || s.permitOn) && s.pow.vpOk && !s.clockDown && !s.therm.shut && !s.estopHeld && !s.drvOwned 0

theorem witness_DriverCommandsComplete :
    let hot := (coil { coilProf with heat := true } { phase := .hold }).mSafe fun x => { x with permit := .on }
    let heat := fun (p : Phase) => coil { coilProf with heat := true } { phase := p }
    takes (coil coilProf {}) 1 = true ∧ takes (coil coilProf { phase := .wait }) 2 = true ∧ takes (coil coilProf { phase := .hold }) 2 = true ∧ takes hot 1 = true ∧
      (0 : Byte).toNat = (0 : Fin 32).val ∧ 1 ≤ (1 : Half).toNat ∧ (60000 : Half).toNat ≤ 60000 ∧
      (coil coilProf { vRes := 89, vTgt := 100 }).lowBoost 0 0 = true ∧ (coil coilProf { vRes := 90, vTgt := 100 }).lowBoost 0 0 = false ∧
      (coil coilProf {}).paired 0 = false ∧ (coil coilProf { phase := .wait, act := { dirB := true } }).obeys q0 = true ∧
      takes (coil { mode := 2 } {}) 4 = true ∧ takes (coil { mode := 2 } { phase := .prop, propNow := 5 }) 4 = true ∧ (3000 : Half).toNat ≤ ({ mode := 2 } : Profile).propMax ∧
      takes (pair {}) 5 = true ∧ takes (pair {}) 6 = true ∧ (pair {}).lowBoost 0 (oddCh 0) = false ∧
      takes (pair { phase := .dwell }) 6 = true ∧ ((pair { phase := .dwell }).drv.ch[(0 : Fin 32)]).act.dirB ≠ true ∧ (heat .hold).hears qB = true ∧
      (heat .hold).paired 0 = false ∧ ((heat .hold).prof 0).mode = 1 ∧ (heat .hold).isHeat 0 = true ∧ (heat .idle).isHeat 0 = true ∧
      ((coil coilProf {}).isHeat 0 = false) ∧ (coil coilProf {}).drvOwned 0 = false ∧ (31 : Byte).toNat < 32 ∧ (1 : Word) ≠ 0 ∧
      (∀ n : Fin 32, (1 : Word).getLsbD n.val = true → (heat .hold).isHeat n = true ∧ ((heat .hold).drv.ch[n]).phase ≠ .fault ∧
        ((heat .hold).drv.ch[n]).phase ≠ .unavailable ∧ (heat .hold).paired n = false) ∧ 32 ≤ (32 : Byte).toNat ∧
      (heat .idle).permitOn = false ∧ (heat .idle).obeys q0 = true ∧ (live.mPow fun p => { p with vpOk := false }).obeys q0 = true ∧
      ((live.mSafe fun x => { x with clockDue := some true }).mSys fun x => { x with resetDue := some (5, 3) }).clockDown = true ∧
      ((live.mSafe fun x => { x with clockDue := some true }).mSys fun x => { x with resetDue := some (5, 3) }).obeys q0 = true ∧
      ((coil coilProf { phase := .fault }).drv.ch[(0 : Fin 32)]).phase = .fault ∧ (live.prof 0).mode ≠ 1 := by
  decide +kernel

theorem witness_DriverConfigurationComplete :
    let img : List Byte := leBytes 1 31 ++ [1, 2, 0, 40, 0] ++ leBytes 2 32 ++ leBytes 2 16 ++ leBytes 2 500 ++ leBytes 2 1000 ++ leBytes 2 1000 ++
      [28, 60, 20, 20] ++ leBytes 2 0 ++ [0, 0] ++ leBytes 2 0 ++ leBytes 2 3000 ++ List.replicate 4 0
    let hot := live.mSafe fun x => { x with permit := .on }
    let pairable := coil coilProf {}
    live.seqCh 31 = 31 ∧ (pair {}).seqCh 0 = 0 ∧ (pair {}).paired 0 = true ∧ ((pair {}).prof 0).mode ≠ 3 ∧ (Profile.ofBytes (img.set 0 (0 : Byte))).mode = 1 ∧
      live.obeys q0 = true ∧ img.length = 32 ∧ fieldAt img 0 1 = (31 : Fin 32).val ∧ profileOk img = true ∧ profileOk (img.set 1 (3 : Byte)) = false ∧
      (Profile.ofBytes img).heat = false ∧ (live.drv.ch[(31 : Fin 32)]).phase = .idle ∧ (live.prof 31).mode ≠ 3 ∧ live.paired 31 = false ∧
      (coil coilProf { phase := .hold }).obeys q0 = true ∧ ((coil coilProf { phase := .hold }).drv.ch[(0 : Fin 32)]).phase = .hold ∧
      profileOk (img.set 0 (0 : Byte)) = true ∧ hot.obeys q0 = true ∧ hot.permitOn = true ∧ profileOk (img.set 2 (3 : Byte)) = true ∧
      (Profile.ofBytes (img.set 2 (3 : Byte))).heat = true ∧ live.permitOn = false ∧ (0 : Byte).toNat = (0 : Fin 32).val ∧
      (0 : Fin 32).val = 2 * (0 : Fin 16).val ∧ (1 : Fin 32).val = (0 : Fin 32).val + 1 ∧ (30 : Fin 32).val = 2 * (15 : Fin 16).val ∧
      pairable.obeys q0 = true ∧ (pairable.drv.ch[(0 : Fin 32)]).phase = .idle ∧ (pairable.drv.ch[(1 : Fin 32)]).phase = .idle ∧
      (pairable.prof 0).mode = 1 ∧ (pairable.prof 0).heat = false ∧ (pairable.prof 1).mode = 0 ∧ (live.prof 0).mode ≠ 1 ∧
      (pair {}).run.pair[(0 : Fin 16)] = true ∧ (pair {}).obeys q0 = true ∧ ((pair { phase := .hold }).drv.ch[(0 : Fin 32)]).phase ≠ .idle ∧
      (1 : Byte).toNat % 2 = 1 ∧ 32 ≤ (32 : Byte).toNat ∧ (999 : Half).toNat < 1000 ∧ 25000 < (25001 : Half).toNat ∧ 1000 ≤ (1000 : Half).toNat ∧
      (25000 : Half).toNat ≤ 25000 ∧ live.hears q0 = true ∧ (0 : Byte).toNat = 0 ∧ 32 < (31 : Byte).toNat + (2 : Byte).toNat ∧
      1 ≤ (16 : Byte).toNat ∧ (16 : Byte).toNat + (16 : Byte).toNat ≤ 32 ∧ (16 : Byte).toNat ≤ 16 := by
  decide +kernel

theorem witness_DriverPhasesMove :
    let s := fun (d : Driver) => coil coilProf d
    let fits := fun (s : State) => s.inj.isOpen = false ∧ s.paired 0 = false
    fits (s { phase := .rise }) ∧ ¬ (true = true ∧ live.clk.upNs + 20000 < 0 + 20000) ∧ live.clk.upNs + 19999 < 0 + 20000 ∧
      ({ } : Actuation).fromLow = true ∧ ({ } : Actuation).riseUp ≤ live.clk.upNs ∧ 0 + ((s {}).prof 0).tBoostMax * 10000 ≤ live.clk.upNs + 10000000 ∧
      fits (s { phase := .dwell }) ∧ 0 + ((s {}).prof 0).tPeak * 10000 ≤ live.clk.upNs + 10000000 ∧ fits (s { phase := .decay }) ∧
      ((s { phase := .hold, act := { pulseEnd := some 7 } }).drv.ch[(0 : Fin 32)]).act.pulseEnd = some 7 ∧ 7 ≤ live.clk.upNs + 7 ∧
      fits (s { phase := .wait, act := { pulseEnd := some 7 } }) ∧ ((coil { coilProf with tHoldMax := 1 } { phase := .hold }).prof 0).tHoldMax ≠ 0 ∧
      0 + sec 1 ≤ live.clk.upNs + sec 1 ∧ fits (coil { coilProf with tHoldMax := 1 } { phase := .hold }) ∧ fits (s { phase := .release }) ∧
      ((s {}).drv.dg[(0 : Fin 32)]).pfRun < ((s {}).run.diag[(0 : Fin 32)]).pfLimit ∧
      ((s { phase := .release, toFault := .open_ }).drv.ch[(0 : Fin 32)]).toFault ≠ .none ∧ (pair { phase := .decay }).paired 0 = true ∧
      ((pair { phase := .release, act := { reverse := true } }).drv.ch[(0 : Fin 32)]).act.reverse = true ∧ live.drv.boostOn = true := by
  decide +kernel

/-- `coil` whose domains 13 and 66 are on, its reservoir empty. -/
def charging : State := (coil coilProf { vTgt := 2800 }).mPow fun p => { p with pdOn := (1 <<< 13) ||| (1 <<< 66) }

theorem witness_DriverPhasesMove_charge :
    let s := charging.mDrv fun x => { x with chgOn := true, chgCh := 0 }
    s.drv.chgOn = true ∧ s.drv.chgCh = (0 : Fin 32).val ∧ (s.drv.ch[(0 : Fin 32)]).vTgt ≤ 2750 + 50 ∧ 2850 ≤ (s.drv.ch[(0 : Fin 32)]).vTgt + 50 ∧ 2850 ≤ 6000 ∧
      ¬ (s.drv.ch[(0 : Fin 32)]).vTgt ≤ 2749 + 50 := by
  decide +kernel

theorem witness_DriverPhasesMove_switches :
    let s := fun (d : Driver) => (coil coilProf d).mPow fun p => { p with pdOn := 1 <<< 13 }
    let both := (s {}).mRun fun r => { r with pair := r.pair.set (0 : Fin 16) true }
    let legs := (both.mDiag 0 fun g => { g with direct := some (5, 9) }).mPow fun p => { p with pdOn := 3 <<< 13 }
    let hot := coil { coilProf with heat := true } {}
    hot.isHeat 0 = true ∧ hot.permitOn = false ∧ (live.mPow fun p => { p with vpOk := false }).pow.vpOk = false ∧ legs.contradictory 0 = true ∧
      live.domOn (13 + (31 : Fin 32).val) = false ∧ (s {}).paired 0 = false ∧ ((s {}).drv.dg[(0 : Fin 32)]).direct = none ∧ (s {}).pow.vpOk = true ∧
      (s {}).domOn (13 + (0 : Fin 32).val) = true ∧ (s {}).safe.estopLines = false ∧ (s {}).ho.safeTrip = false ∧ (s {}).isHeat 0 = false ∧
      ((s { phase := .release, relFast := true }).drv.ch[(0 : Fin 32)]).relFast = true := by
  decide +kernel

theorem witness_DriverPhasesMove_boost : charging.drv.boostOn = true ∧ charging.wantsCharge 0 = true ∧ (∀ m : Fin 32, m ≠ 0 → charging.wantsCharge m = false) := by
  decide +kernel

theorem witness_DriverFindingsComplete :
    let s := fun (d : Driver) (g : Diag) => (coil coilProf d g).mRun fun r => { r with diag := r.diag.set (0 : Fin 32) { offEn := true, retryMode := 1, retryMax := 2 } }
    let fits := fun (s : State) => s.inj.isOpen = false ∧ s.paired 0 = false
    let off := s {} { offSince := some 0 }
    let ninth := s {} { offSince := some 0, offLast := .open_, offRun := 9 }
    let hot := (coil { coilProf with heat := true } { phase := .hold }).mSafe fun x => { x with permit := .on }
    let driven := s {} { direct := some (5, 3), legRun := 2 }
    let left := s { phase := .fault } { fcode := .shortLoad, retryAt := some 7, retryLeft := 1 }
    fits off ∧ (off.advance 2000000).offConditions 0 = true ∧ (off.drv.dg[(0 : Fin 32)]).offSince = some ((off.advance 2000000).offStart 0) ∧
      (off.advance 2000000).offStart 0 + 2000000 ≤ off.clk.upNs + 2000000 ∧ classify 300 0 = .open_ ∧ (off.drv.dg[(0 : Fin 32)]).offRun + 1 ≠ 10 ∧
      fits ninth ∧ (ninth.advance 2000000).offConditions 0 = true ∧ (ninth.drv.dg[(0 : Fin 32)]).offRun + 1 = 10 ∧
      (ninth.drv.dg[(0 : Fin 32)]).checking = false ∧ classify 480 300 = .healthy ∧ classify 481 300 = .leak ∧ classify 99 0 = .shortGnd ∧
      classify 601 0 = .shortSup ∧ ninth.isHeat 0 = false ∧ fits hot ∧ Phase.hold.active = true ∧ Phase.idle.active = false ∧
      ((coil coilProf {}).drv.dg[(0 : Fin 32)]).direct = none ∧ hot.isHeat 0 = true ∧ hot.safe.permit = .on ∧ hot.safe.relBad = false ∧
      (s { phase := .prop, propNow := 1 } {}).paired 0 = false ∧ 9 * 100 ≤ 10 * 90 ∧ 10 * 89 < 9 * 100 ∧ fits (s { phase := .wait, vTgt := 100 } {}) ∧
      0 ≤ live.clk.upNs ∧ (1700 : Int) ≤ 1700 ∧ (1400 : Int) ≤ 1400 ∧ fits (s { phase := .fault } { fcode := .overtemp }) ∧ fits driven ∧
      (driven.drv.dg[(0 : Fin 32)]).direct ≠ none ∧ fits left ∧ 7 ≤ left.clk.upNs + 7 ∧
      (left.run.diag[(0 : Fin 32)]).retryMode ≠ 0 ∧ (left.drv.dg[(0 : Fin 32)]).retryLeft ≠ 0 ∧ FCode.shortLoad.retries = true ∧
      (s { phase := .fault } { retryAt := some 7, retryLeft := 0 }).paired 0 = false ∧ 0 + sec 3600 ≤ live.clk.upNs + sec 3600 ∧
      (driven.drv.dg[(0 : Fin 32)]).direct = some (5, 3) ∧ 5 ≤ driven.clk.upNs + 5 := by
  decide +kernel

theorem witness_DriverFindingsComplete_legs_senses :
    let driven := coil coilProf {} { direct := some (5, 3) }
    let hot := (coil { coilProf with heat := true } { phase := .hold }).mSafe fun x => { x with permit := .on }
    let cross := fun (g : Diag) => ((pair {}).mDiag 0 fun _ => { g with direct := some (5, 9) }).mPow fun p => { p with pdOn := 3 <<< 13 }
    let legs := cross { legRun := 2 }
    let tooMuch : Sense := { hs := 0, ls := 60000, hsOn := false, ns := 0, vRes := 0, hsv := 0 }
    let gnd : Sense := { hs := 60000, ls := 0, hsOn := true, ns := 0, vRes := 0, hsv := 0 }
    let load : Sense := { hs := 60000, ls := 60000, hsOn := true, ns := 0, vRes := 0, hsv := 0 }
    let calm : Sense := { hs := 0, ls := 0, hsOn := true, ns := 0, vRes := 0, hsv := 0 }
    let hold := coil coilProf { phase := .hold }
    let heatWait := coil { coilProf with heat := true } { phase := .wait }
    legs.inj.isOpen = false ∧ (legs.advance 0).contradictory 0 = true ∧ (live.advance 0).contradictory 0 = false ∧
      (legs.drv.ch[evenCh 0]).phase ≠ .fault ∧ (legs.drv.dg[evenCh 0]).legRun = 2 ∧ (legs.drv.dg[evenCh 0]).legUp ≤ legs.clk.upNs ∧
      legs.clk.upNs + 0 < (legs.drv.dg[evenCh 0]).legUp + 2 * (1000000 / max 1 (legs.prof (evenCh 0)).chop) ∧
      ((cross {}).advance 0).contradictory 1 = true ∧ ((cross {}).drv.dg[evenCh 1]).legRun < 2 ∧
      hold.shortSeen 0 .shortSup tooMuch = true ∧ hold.shortSeen 0 .shortGnd gnd = true ∧ hold.shortSeen 0 .shortLoad load = true ∧
      hold.shortSeen 0 .shortSup calm = false ∧ hold.shortSeen 0 .shortGnd calm = false ∧ hold.shortSeen 0 .shortLoad calm = false ∧
      driven.shortSeen 0 .shortLoad load = true ∧ hot.shortSeen 0 .shortSup tooMuch = true ∧ 2 * 0 * 1000 < hold.runsUa 0 ∧
      ¬ 2 * 30000 * 1000 < hold.runsUa 0 ∧ heatWait.inj.isOpen = false ∧ heatWait.paired 0 = false ∧ heatWait.isHeat 0 = true ∧
      heatWait.permitOn = false ∧ (heatWait.drv.ch[(0 : Fin 32)]).phase = .wait := by
  decide +kernel

theorem witness_DriverDiagnosticOrdersComplete :
    let test := live.mInj fun x => { x with isOpen := true }
    let hot := test.mSafe fun x => { x with permit := .on }
    let down := coil coilProf { phase := .fault } { fcode := .overtemp, tj := 1401 }
    let cool := coil coilProf { phase := .fault } { fcode := .overtemp, tj := 1400 }
    live.obeys q0 = true ∧ (31 : Byte).toNat = (31 : Fin 32).val ∧ (1 : Byte).toNat ≤ 1 ∧ (2 : Byte).toNat ≤ 2 ∧ (15 : Byte).toNat ≤ 15 ∧
      (1 : Byte) ≠ 0 ∧ live.isHeat 31 = false ∧ 32 ≤ (32 : Byte).toNat ∧ 1 < (2 : Byte).toNat ∧ 2 < (3 : Byte).toNat ∧ 15 < (16 : Byte).toNat ∧
      (coil { coilProf with heat := true } {}).isHeat 0 = true ∧ 100 < (101 : Byte).toNat ∧ (100 : Byte).toNat ≤ 100 ∧ live.inj.isOpen = false ∧
      test.obeys q0 = true ∧ test.inj.isOpen = true ∧ (test.drv.ch[(0 : Fin 32)]).phase = .idle ∧ (test.drv.dg[(0 : Fin 32)]).direct = none ∧
      test.isHeat 0 = false ∧ hot.permitOn = true ∧ hot.obeys q0 = true ∧ test.permitOn = false ∧ 7 < (8 : Byte).toNat ∧ (7 : Byte).toNat ≤ 7 ∧
      (1 : Word) ≠ 0 ∧ (1 : Word).getLsbD 0 = true ∧ (1 : Word).getLsbD 31 = false ∧ down.clearRefused 0 = true ∧ cool.clearRefused 0 = false ∧
      down.obeys q0 = true ∧ cool.obeys q0 = true ∧ (cool.drv.ch[(0 : Fin 32)]).phase = .fault ∧ bitOf (1 : Byte).toNat 0 = true ∧
      bitOf (6 : Byte).toNat 0 = false ∧ bitOf (2 : Byte).toNat 1 = true := by
  decide +kernel

/-! ### Witnesses: chapters 11 and 12 -/

/-- `live` with fan channel `n` set so. -/
def fan (n : Fin 12) (c : FanCfg) (f : Fan) : State := (live.mRun fun r => { r with fan := r.fan.set n c }).mFanCh n fun _ => f

theorem witness_FansRun :
    let c : FanCfg := { mode := 1, ramp := 0 }
    let s := fun (f : Fan) => fan 0 c f
    let tach := fun (f : Fan) => fan 11 { mode := 1, dmin := 500 } f
    let want := fun (st : FanState) => s { state := st, manual := 200 }
    let lifted := (s { state := .stopped, foCmd := true }).mTherm fun x => { x with step := 1 }
    let member := (tach { state := .running, lowUp := some 0 }).mRun fun r => { r with fgrp := r.fgrp.set (3 : Fin 4) { members := 0x800, nAir := 1, foHold := 1 } }
    let failed := member.mFanGrp 3 fun g => { g with failover := true }
    let well := failed.mFanCh 11 fun f => { f with okUp := some 0 }
    let on := fun (s : State) => s.mPow fun p => { p with pdOn := 0xFFF <<< 45 }
    let leaving := (on (want .running)).mPow fun p => { p with pdOff := 1 <<< 45 }
    (on (want .stopped)).domOn 45 = true ∧ (on (want .stopped)).pow.pdOff.getLsbD 45 = false ∧ leaving.pow.pdOff.getLsbD 45 = true ∧
      (want .stopped).domOn 45 = false ∧ 4400 < 4401 ∧ 100000000 ≤ 100000000 ∧ 2200 < 2201 ∧ 99999999 < 100000000 ∧
      5000 * 0 < ({ duty := 500000 } : Fan).dutyOut * 2400 ∧ 2 * 0 < 2400 ∧ 1000000 ≤ 1000000 ∧ (1700 : Int) ≤ 1700 ∧ (1699 : Int) < 1700 ∧
      live.fan.lastForm ≠ some ((live.clk.upNs + 0) / 1000000) ∧ (want .stopped).fanStageOff = false ∧ (want .stopped).domDead 45 = false ∧
      FanState.stopped.able = true ∧ (want .stopped).fanGroupOf 0 = none ∧ ((want .stopped).fanCfg 0).dmin ≤ (want .stopped).fanTarget 0 ∧
      (s { state := .stopped, manual := 199 }).fanTarget 0 < c.dmin ∧ ((want .running).fan.ch[(0 : Fin 12)]).state = .running ∧
      (s { state := .running }).fanTarget 0 < c.dmin ∧ ({ mode := 1 } : FanCfg).ramp ≠ 0 ∧ (live.fanCfg 0).mode = 0 ∧ c.mode ≠ 0 ∧
      (lifted.fan.ch[(0 : Fin 12)]).foCmd = true ∧ (0 : Fin 12).val < 6 ∧ 6 ≤ (6 : Fin 12).val ∧ live.inj.isOpen = false ∧
      0 + sec (((s { state := .spinUp }).fanCfg 0).tSpin) ≤ live.clk.upNs + sec 10 ∧ (s { state := .spinUp }).runOkNow 0 = true ∧
      (fan 0 { c with senseEn := false } { state := .spinUp }).inj.isOpen = false ∧ ((tach { state := .running }).fanCfg 11).senseEn = true ∧
      (tach { state := .spinUp }).runOkNow 11 = false ∧ (member.fan.ch[(11 : Fin 12)]).lowUp = some 0 ∧
      0 + ms (100 * (member.fanCfg 11).stallT) ≤ member.clk.upNs + ms 2000 ∧ member.fanGroupOf 11 = some 3 ∧
      0 + sec ((tach { state := .retryWait, manual := 500 }).fanCfg 11).retryInt ≤ live.clk.upNs + sec 30 ∧
      ((tach { state := .retryWait, manual := 500 }).fanCfg 11).dmin ≤ (tach { state := .retryWait, manual := 500 }).fanTarget 11 ∧
      (tach { state := .retryWait, manual := 499 }).fanTarget 11 < ((tach {}).fanCfg 11).dmin ∧ 0 + sec 3600 ≤ live.clk.upNs + sec 3600 ∧
      (1400 : Int) ≤ 1400 ∧ ((tach { state := .fault, fcode := .overtemp }).fan.ch[(11 : Fin 12)]).fcode = .overtemp ∧
      0 ≤ live.clk.upNs ∧ live.clk.upNs + 9999 < 0 + 10000 ∧ ((s { state := .running, shootRun := 2 }).fan.ch[(0 : Fin 12)]).shootRun = 2 ∧
      ((s { state := .running, shootRun := 1 }).fan.ch[(0 : Fin 12)]).shootRun < 2 ∧
      ((tach {}).mPow fun p => { p with pdOn := 1 <<< 56 }).domOn (45 + (11 : Fin 12).val) = true ∧ ((tach {}).fanCfg 11).ppr ≤ 1 + 1 ∧
      0 + 1 < ((tach {}).fanCfg 11).ppr ∧ (failed.fan.grp[(3 : Fin 4)]).failover = true ∧
      (∀ n : Fin 12, bitOf (well.run.fgrp[(3 : Fin 4)]).members n.val = true → (well.fan.ch[n]).okUp = some 0) ∧
      0 + sec (well.run.fgrp[(3 : Fin 4)]).foHold ≤ well.clk.upNs + sec 1 ∧ bitOf (failed.run.fgrp[(3 : Fin 4)]).members 11 = true ∧
      (failed.fanCfg 11).mode ≠ 0 ∧ (failed.fan.ch[(11 : Fin 12)]).okUp = none := by
  decide +kernel

/-- A fan-table image (Table 11.3) of two points. -/
def fanTableBytes : List Byte :=
  let b := [3, 2, 5, 0] ++ leBytes 2 0 ++ leBytes 2 1 ++ leBytes 4 0 ++ leBytes 2 0 ++ leBytes 2 0 ++ leBytes 4 1000 ++ leBytes 2 1000 ++ leBytes 2 0
  b ++ leBytes 4 (crc32 b)

theorem witness_FanOrdersComplete :
    let manual := fan 11 { mode := 1 } {}
    let img := FanCfg.toBytes 11 { mode := 1, table := 0 }
    let byTable := FanCfg.toBytes 11 { mode := 2, table := 0, src := #v[63, 0xFF, 0xFF, 0xFF] }
    let deaf := FanCfg.toBytes 11 { mode := 1, table := 0, senseEn := false }
    let member := live.mRun fun r => { r with fgrp := r.fgrp.set (3 : Fin 4) { members := 0x800, nAir := 1 } }
    let air := (member.mSafe fun x => { x with permit := .on, cfg := { x.cfg with airGrp := 8 } })
    manual.obeys q0 = true ∧ (11 : Byte).toNat = (11 : Fin 12).val ∧ (1000 : Half).toNat ≤ 1000 ∧ (manual.fanCfg 11).mode = 1 ∧
      manual.therm.shut = false ∧ manual.fanOwned 11 = false ∧ 1000 < (1001 : Half).toNat ∧ (live.fanCfg 11).mode ≠ 1 ∧ live.obeys q0 = true ∧
      (0xFFF : Half) ≠ 0 ∧ (0xFFF : Half).toNat < 4096 ∧ live.hears qB = true ∧ img.length = 32 ∧ fieldAt img 0 1 = (11 : Fin 12).val ∧
      fanCfgOk img = true ∧ fanCfgOk (img.set 1 (4 : Byte)) = false ∧ (FanCfg.ofBytes byTable).mode = 2 ∧ fanCfgOk byTable = true ∧
      (FanCfg.ofBytes byTable).table = (0 : Fin 8).val ∧ live.fan.tbl[(0 : Fin 8)] = [] ∧ live.badSource (FanCfg.ofBytes byTable).src[(0 : Fin 4)] = true ∧
      (FanCfg.ofBytes img).mode ≠ 2 ∧ (∀ i : Fin 4, live.badSource (FanCfg.ofBytes img).src[i] = false) ∧ fanCfgOk deaf = true ∧
      (FanCfg.ofBytes deaf).senseEn = false ∧ member.obeys q0 = true ∧ (member.fanGroupOf 11).isSome = true ∧ (FanCfg.ofBytes img).senseEn = true ∧
      air.obeys q0 = true ∧ air.permitOn = true ∧ air.fanGroupOf 11 = some 3 ∧ bitOf air.safe.cfg.airGrp 3 = true ∧ live.permitOn = false ∧
      (manual.fanCfg 11).mode ≠ 0 ∧ (live.fanCfg 11).mode = 0 ∧ live.fanDown 11 = false ∧ (manual.fanCfg 11).mode = (FanCfg.ofBytes img).mode := by
  decide +kernel

theorem witness_FanOrdersComplete_tables_groups_status :
    let hot := fan 0 { mode := 1 } { state := .fault, fcode := .overtemp, tj := 1401 }
    let cool := fan 0 { mode := 1 } { state := .fault, fcode := .overtemp, tj := 1400 }
    [3, 2].length ≠ 12 + 8 * fieldAt [3, 2] 1 1 ∧ fanTableBytes.length = 12 + 8 * fieldAt fanTableBytes 1 1 ∧ fanTableOk 7 fanTableBytes = true ∧ fanTableOk 8 fanTableBytes = false ∧
      (7 : Byte).toNat = (7 : Fin 8).val ∧ (3 : Byte).toNat = (3 : Fin 4).val ∧ (0x800 : Half).toNat < 4096 ∧ (1 : Byte) ≠ 0 ∧ (0x800 : Half) ≠ 0 ∧
      1 ≤ (1 : Byte).toNat ∧ (1 : Byte).toNat ≤ ((List.finRange 12).filter fun n => (0x800 : Half).getLsbD n.val).length ∧
      ¬ (2 : Byte).toNat ≤ ((List.finRange 12).filter fun n => (0x800 : Half).getLsbD n.val).length ∧
      ((fan 11 { mode := 1, senseEn := false } {}).fanCfg 11).senseEn = false ∧ (∀ n : Fin 12, (live.fanCfg n).senseEn = true ∧ live.fanGroupOf n.val = none) ∧
      bitOf live.safe.cfg.airGrp 3 = false ∧ (0 : Byte).toNat = 0 ∧ 12 < (11 : Byte).toNat + (2 : Byte).toNat ∧ (11 : Byte).toNat + (1 : Byte).toNat ≤ 12 ∧
      4096 ≤ (0x1000 : Half).toNat ∧ 7 < (8 : Byte).toNat ∧ (7 : Byte).toNat ≤ 7 ∧ (hot.fan.ch[(0 : Fin 12)]).state = .fault ∧
      1400 < hot.fanTj 0 ∧ ¬ 1400 < cool.fanTj 0 ∧ cool.obeys q0 = true ∧ bitOf (1 : Byte).toNat 0 = true ∧ bitOf (6 : Byte).toNat 0 = false := by
  decide +kernel

/-- `live` with a programme so. -/
def prog (p : Prog) : State := live.mProg fun _ => p

theorem witness_ProgrammeOrdersComplete :
    let items := leBytes 2 0x0101 ++ leBytes 4 900
    let l : List (Nat × Int) := [(0x0101, 900)]
    let fixed := leBytes 2 0x0104 ++ leBytes 4 10
    let lf : List (Nat × Int) := [(0x0104, 10)]
    let st := fun (p : PState) (k : Nat) => prog { kind := k, state := p }
    let warm := prog { kind := 2, state := .hold, items := [(0x0200, 2), (0x0201, 7)] }
    let held := warm.mLo 7 fun o => { o with closed := true, permitHold := true }
    live.obeys q0 = true ∧ [0].length ≠ 6 * (1 : Byte).toNat ∧ items.length = 6 * (1 : Byte).toNat ∧ (0 : Byte).toNat = 0 ∧ 5 < (6 : Byte).toNat ∧
      itemPairs 1 (leBytes 2 0x0116 ++ leBytes 4 0) = none ∧ 1 ≤ (1 : Byte).toNat ∧ (5 : Byte).toNat ≤ 5 ∧ itemPairs 1 items = some l ∧
      itemsOk 5 (l.foldl (fun a x => putItem x a) []) l = true ∧ (st .run 5).prog.state.ended = false ∧ (st .run 5).obeys q0 = true ∧
      live.prog.state.ended = true ∧ ((l.map fun x => x.1).Pairwise (fun a b => a ≠ b)) ∧ itemsOk (st .run 5).prog.kind (l.foldl (fun a x => putItem x a)
        (st .run 5).prog.items) l = true ∧ itemPairs 1 fixed = some lf ∧ itemsOk 5 (lf.foldl (fun a x => putItem x a) []) lf = true ∧
      (itemRow 0x0104).map (fun r => r.live) = some false ∧ (itemRow 0x0101).map (fun r => r.live) = some true ∧
      ((warm.prog.items.map fun x => x.1).Pairwise (fun a b => a < b)) ∧ live.prog.kind = 0 ∧ (st .idle 5).prog.kind ≠ 0 ∧
      (st .idle 5).startBad = false ∧ (prog { kind := 5, items := [(0x0100, 1)] }).startBad = true ∧ (st .done 5).obeys q0 = true ∧ (st .run 5).prog.state ≠ .hold ∧
      warm.heating = true ∧ warm.item 0x0200 = 2 ∧ warm.itemN 0x0201 = (7 : Fin 8).val ∧ (held.loop[(7 : Fin 8)]).permitShut = true ∧
      held.obeys q0 = true ∧ (st .heatLock 5).heating = false ∧ (st .idle 5).prog.state = .idle ∧ (st .run 5).heating = false ∧ live.hears q0 = true ∧
      60 < (61 : Byte).toNat ∧ live.itemN 0x030A < (32 : Byte).toNat + (1 : Byte).toNat ∧ (31 : Byte).toNat + (1 : Byte).toNat ≤ live.itemN 0x030A ∧
      ((prog { parcels := List.replicate 32 {} }).prog.parcels[31]?).isSome = true := by
  decide +kernel

/-- `prog` with a process tick due. -/
def ticking (p : Prog) : State := (prog p).mClk fun c => { c with lastTick := some 0 }

/-- A °C record on channel 0 that ended at chain time `t` µs. -/
def measured (s : State) (t : Nat) (v : Int) : State :=
  (s.mRun fun r => { r with chan := r.chan.set (0 : Fin 64) { typ := 1, gain := 4 } }).mCh 0 fun c =>
    { c with cfg := { typ := 1, gain := 4 }, past := [(t, { value := v })] }

/-- A process tick is due, and nothing waits for it. -/
def quiet (s : State) : Bool := s.procDue && s.prog.lostPermit.isNone && s.prog.reqs.isEmpty && s.prog.kind != 0

theorem witness_ProgrammeRuns :
    let heat : List (Nat × Int) := [(0x0200, 2), (0x0201, 7), (0x0202, 0xFFFFFF00), (0x0203, 1)]
    let up := fun (p : Prog) (n : Nat) => ((ticking p).mClk fun c => { c with upNs := n })
    let later := fun (p : Prog) => (measured (ticking p) 99999 60000).mClk fun c => { c with ctNs := 100000000, lastTick := some 100 }
    let loop := (later { kind := 2, state := .run, items := heat }).mRun fun r => { r with loop := r.loop.set (7 : Fin 8) { mode := 3, heat := true } }
    let dis : List (Nat × Int) := [(0x0300, 2), (0x0301, 0xFFFFFF1F)]
    let gate := (prog { kind := 2, state := .run, items := dis, q := 600000 }).mRun fun r => { r with prof := r.prof.set (31 : Fin 32) coilProf }
    let aer := fun (k : Nat) => (measured (prog { kind := k, state := .run, items := [(0x0400, 0xFFFFFF00), (0x0401, 0)] }) 0 20000)
    let waits := (ticking { kind := 2 }).mSys fun x => { x with held := true }
    waits.procDue = true ∧ waits.sys.held = true ∧ (ticking { kind := 2 }).sys.held = false ∧ live.procDue = false ∧ (ticking { kind := 2, state := .run, items := heat, lostPermit := some false }).procDue = true ∧
      (ticking { kind := 2, state := .start, items := heat }).heating = true ∧ (ticking { kind := 5, state := .run, reqs := [.abort] }).procDue = true ∧
      quiet (ticking { kind := 1, state := .fill, items := [(0x0500, 0xFFFF0100)] }) = true ∧
      (ticking { kind := 1, state := .fill, items := [(0x0500, 0xFFFF0100)] }).inputReads 0x0500 = true ∧
      quiet (up { kind := 2, state := .start, items := heat } (sec 60)) = true ∧ live.permitOn = false ∧
      0 + sec ((up { kind := 2, state := .start, items := heat } (sec 60)).itemN 0x0104) ≤ sec 60 ∧
      quiet (up { kind := 1, state := .run } (sec 28800)) = true ∧ 0 + sec (60 * (up { kind := 1, state := .run } 0).itemN 0x0502) ≤ sec 28800 ∧
      (up { kind := 2, state := .cooldown } (sec 7200)).grainCool 0 = true ∧ quiet (up { kind := 1, state := .cooldown } (sec 7200)) = true ∧
      (ticking { kind := 1, state := .unload, items := [(0x0501, 0xFFFF0100)] }).inputReads 0x0501 = true ∧
      (ticking { kind := 1, state := .unload }).item 0x0503 = 0 ∧ (ticking { kind := 1, state := .unload, items := [(0x0503, 1)] }).item 0x0503 = 1 ∧
      (ticking { kind := 1, state := .unload }).inputReads 0x0501 = false ∧ sec (60 * (ticking {}).itemN 0x0504) ≤ sec 3600 ∧
      quiet (ticking { kind := 2, state := .run, items := heat }) = true ∧ (ticking { kind := 2, state := .run, items := heat }).discharges = false ∧
      (ticking { kind := 2, state := .run, items := heat }).progEventTo 0 = none ∧ (ticking { kind := 2, state := .run, items := heat }).plenum600 0 = none ∧
      quiet (ticking { kind := 2, state := .hold }) = true ∧ quiet loop = true ∧ loop.heating = true ∧ loop.discharges = false ∧ loop.progEventTo loop.ctUs = none ∧
      loop.plenum600 loop.ctUs = some 36000000 ∧ loop.prog.ePrev = none ∧ loop.item 0x0200 = 2 ∧ loop.itemN 0x0201 = (7 : Fin 8).val ∧
      0 ≤ loop.item 0x0208 ∧ loop.item 0x0208 ≤ loop.item 0x0209 ∧ 0 < loop.item 0x0207 ∧ (loop.loCfg 7).mode = 3 ∧
      gate.progOn = true ∧ gate.discharges = true ∧ gate.item 0x0300 = 2 ∧ gate.itemByte 0x0301 0 = (31 : Fin 32).val ∧ gate.itemByte 0x0301 1 = 0xFF ∧
      gate.prog.q ≠ 0 ∧ 0 ≤ gate.clk.upNs ∧ gate.clk.upNs + 0 < 0 + ms gate.strokeMs ∧ gate.drvRefuses 31 2 = false ∧
      (gate.drv.ch[(31 : Fin 32)]).phase = .idle ∧ gate.lowBoost 31 31 = false ∧ live.pow.stage = .running ∧ 0 + sec 60 ≤ live.clk.upNs + sec 60 ∧
      (aer 4).prog.state = .run ∧ (aer 3).prog.aerLast = none ∧ (aer 4).prog.aerUp = none ∧ peakOf ((aer 4).validVals 0x0400 1) = some 20000 ∧
      (aer 4).validVal ((aer 4).itemN 0x0401) 1 = some 20000 := by
  decide +kernel

theorem witness_ConveyorComplete :
    let en := fun (s : State) (k : Fin 8) => s.mRun fun r => { r with stage := vmod r.stage k fun c => { c with en := true, out := k.val, tStart := 1, tProve := 1, tClear := 1 } }
    let two := en (en live 3) 7
    let st := fun (s : State) (l : LState) (k : Fin 8) (x : ConvStage) => (s.mConv fun c => { c with lstate := l }).mStage k fun _ => x
    let broken := st two .idle 0 { fault := some .motion }
    let runs := st two .running 7 { running := true, moved := true }
    let starting := st two .starting 7 { running := true, moved := true }
    let clears := (st (st two .stopping 3 {}) .stopping 7 { running := true })
    let img : List Byte := [1, 7, 1, 31, 0xFF, 0, 0xFF, 0, 1, 60] ++ leBytes 2 600
    let line : List Byte := [2, 0xFF, 0xFF, 0xFF, 15, 0, 1]
    two.obeys q0 = true ∧ (7 : Byte).toNat < 8 ∧ two.conv.lstate = .idle ∧ two.conv.running = [] ∧ two.conv.faultMask = 0 ∧ two.levelHigh = false ∧
      (3 : Byte).toNat ≤ (7 : Fin 8).val ∧ (two.run.stage[(7 : Fin 8)]).en = true ∧ (two.run.stage[(3 : Fin 8)]).en = true ∧
      ((en live 3).run.stage[(7 : Fin 8)]).en = false ∧ ((en live 3).run.stage[(3 : Fin 8)]).out = (3 : Fin 32).val ∧
      ((two.mRun fun r => { r with prof := r.prof.set (7 : Fin 32) coilProf }).drvRefuses 7 1) = false ∧ two.lowBoost 7 7 = false ∧
      8 ≤ (8 : Byte).toNat ∧ broken.conv.faultMask ≠ 0 ∧ broken.obeys q0 = true ∧ runs.conv.lstate ≠ .faultStop ∧ runs.conv.running ≠ [] ∧
      (st two .faultStop 0 {}).conv.running = [] ∧ (st two .faultStop 0 {}).conv.lstate = .faultStop ∧ (st two .faultStop 0 {}).obeys q0 = true ∧
      (st two .stopping 0 {}).conv.lstate ≠ .idle ∧ 2999999 < 3000000 ∧ 3000000 ≤ 3000000 ∧ live.awake = true ∧ State.reset.awake = false ∧ runs.hears qB = true ∧ runs.conv.running = 7 :: [] ∧ fieldAt img 0 1 = 1 ∧ img.length = 12 ∧
      fieldAt img 1 1 = (7 : Fin 8).val ∧ stageOk img = true ∧ stageOk (img.set 9 (61 : Byte)) = false ∧ live.stageConflict 7 31 = false ∧
      two.stageConflict 7 3 = true ∧ fieldAt line 0 1 = 2 ∧ line.length = 7 ∧ lineOk line = true ∧ lineOk (line.set 4 (16 : Byte)) = false ∧
      starting.conv.lstate = .starting ∧ starting.conv.goal ≤ (3 : Fin 8).val ∧ (starting.conv.stage[(3 : Fin 8)]).running = false ∧
      starting.below 3 = some 7 ∧ (starting.conv.stage[(7 : Fin 8)]).moved = true ∧ 0 + ms (100 * (starting.run.stage[(3 : Fin 8)]).tStart) ≤
        starting.clk.upNs + ms 100 ∧ starting.clk.upNs + (ms 100 - 1) < 0 + ms (100 * (starting.run.stage[(3 : Fin 8)]).tStart) ∧
      clears.above 7 = some 3 ∧ (clears.conv.stage[(7 : Fin 8)]).running = true ∧ (clears.conv.stage[(3 : Fin 8)]).running = false ∧
      0 + sec (clears.run.stage[(7 : Fin 8)]).tClear ≤ clears.clk.upNs + sec 1 ∧ (clears.conv.stage[(7 : Fin 8)]).fault = none ∧
      (clears.conv.stage[(7 : Fin 8)]).moved = false ∧ 0 + sec (clears.run.stage[(7 : Fin 8)]).tProve ≤ clears.clk.upNs + sec 1 := by
  decide +kernel

theorem witness_StitchAndEnergyComplete :
    let entry := fun (t : Nat) => leBytes 6 t ++ [0x10, 11] ++ leBytes 2 1000 ++ [0, 0] ++ leBytes 4 0
    let s := fan 11 { mode := 1 } {}
    let owned := s.mProg fun _ => { kind := 5, state := .run, items := [(0x0100, 0x800)] }
    let x : Stitch := { time := 10, kind := 0x10, tgt := 11, arg := 5, state := .pending }
    let put := fun (s : State) (x : Stitch) => s.mEntry 255 fun _ => x
    let heat := put (live.mRun fun r => { r with loop := r.loop.set (7 : Fin 8) { mode := 2, heat := true } }) { x with kind := 0x20, tgt := 7 }
    live.obeys q0 = true ∧ [0].length ≠ 16 * (1 : Byte).toNat ∧ (entry 1000).length = 16 * (1 : Byte).toNat ∧ 32 < (33 : Byte).toNat ∧
      256 < (255 : Byte).toNat + (2 : Byte).toNat ∧ live.stitchOk (entry 1000) = false ∧ 1 ≤ (1 : Byte).toNat ∧ (32 : Byte).toNat ≤ 32 ∧
      (255 : Byte).toNat + (1 : Byte).toNat ≤ 256 ∧ (∀ x ∈ entriesOf 255 1 (entry 1000), s.stitchOk x.2 = true) ∧ s.obeys q0 = true ∧
      owned.stitchOk (entry 1000) = true ∧ owned.stitchConflict (Stitch.ofBytes (entry 1000)) = true ∧
      (∀ x ∈ entriesOf 255 1 (entry 1000), s.stitchConflict (Stitch.ofBytes x.2) = false) ∧ ¬ (Stitch.ofBytes (entry 1000)).time < s.applyAt + 1000 ∧
      (Stitch.ofBytes (entry 999)).time < s.applyAt + 1000 ∧ (256 : Half).toNat ≤ 256 ∧ 256 < (0 : Byte).toNat + (257 : Half).toNat ∧
      56 < (57 : Byte).toNat ∧ (56 : Byte).toNat ≤ 56 ∧ live.hears q0 = true ∧ (live.stitch.e.toList.all fun x => decide (x.state ≠ .pending)) = true ∧
      ((put s x).stitch.e[(255 : Fin 256)]).state = .pending ∧
      (∀ j : Fin 256, ((put s x).stitch.e[j]).state = .pending → x.time = ((put s x).stitch.e[j]).time ∧ 255 ≤ j) ∧
      ((put s x).advance 9999).ctUs < x.time ∧ x.time < ((put s x).advance 11000).ctUs ∧ x.time = ((put s x).advance 10000).ctUs ∧
      ((put s x).advance 10000).tickFirst = false ∧ (put s x).ctrlRuns = true ∧ State.reset.ctrlRuns = false ∧ ((put s x).fanCfg 11).mode = 1 ∧
      (put s x).therm.shut = false ∧ ((put live x).fanCfg 11).mode ≠ 1 ∧ (put live { x with kind := 6, tgt := 31 }).drvRefuses 31 6 = true ∧
      (heat.loCfg 7).heat = true ∧ heat.permitOn = false := by
  decide +kernel

/-! ### Witnesses: chapters 13 to 16 -/

/-- `live` with a permit that is on. -/
def heated : State := live.mSafe fun x => { x with permit := .on }

theorem witness_LichenHeatPolicy :
    let b : List Byte := [1] ++ leBytes 3 0 ++ leBytes 2 1000 ++ [0, 0] ++ leBytes 4 0
    let allowed := heated.mSafe fun x => { x with cfg := { x.cfg with unattEn := true, heatMax := 1 } }
    let silent := heated.mClk fun c => { c with lastTick := some 2000, ctNs := 2000000000, upNs := 2000000000 }
    let timed := heated.mSafe fun x => { x with lichenTmr := some 60 }
    let off := live.mSafe fun x => { x with lichenTmr := some 60 }
    live.obeys q0 = true ∧ [0].length ≠ 12 ∧ b.length = 12 ∧ 2 ≤ fieldAt (b.set 0 (2 : Byte)) 0 1 ∧ fieldAt (b.set 7 (1 : Byte)) 7 1 ≠ 0 ∧
      1000 < fieldAt (b.set 4 (0xE9 : Byte)) 4 2 ∧ bitsOf (fieldAt (b.set 3 (0xC0 : Byte)) 1 3) (2 * (11 : Fin 12).val) 2 = 3 ∧ fieldAt b 0 1 < 2 ∧
      fieldAt b 7 1 = 0 ∧ fieldAt b 4 2 ≤ 1000 ∧ (∀ n : Fin 12, bitsOf (fieldAt b 1 3) (2 * n.val) 2 ≠ 3) ∧ allowed.obeys q0 = true ∧
      allowed.safe.permit = .on ∧ allowed.safe.cfg.unattEn = true ∧ allowed.safe.cfg.heatMax ≠ 0 ∧ silent.atTick = true ∧ silent.frm.holder ≠ .lichen ∧
      silent.frm.hostTo * 100000000 ≤ silent.quietNs ∧ silent.safe.permit = .on ∧ silent.safe.cfg.unattEn = false ∧ live.safe.permit ≠ .on ∧
      live.safe.lichenTmr = none ∧ timed.safe.lichenTmr = some 60 ∧ timed.clk.upNs + 59 < 60 ∧ 60 ≤ timed.clk.upNs + 60 ∧
      off.safe.lichenTmr = some 60 ∧ off.safe.permit ≠ .on ∧ timed.safe.permit = .on := by
  decide +kernel

theorem witness_ThermalManagement :
    let cold : Vector Int 7 := Vector.replicate 7 250
    let bad := fun (n : Nat) => live.mTherm fun x => { x with ts := ((x.ts.set 0 { badRun := 3 }).set 6 { badRun := n }) }
    let moved := live.mTherm fun x => { x with stepUps := 1, step := 1 }
    let hot := heated.mTherm fun x => { x with ts := x.ts.set 6 { hotRun := 10 } }
    let down := live.mTherm fun x => { x with shut := true, coolUp := some 0 }
    let timed := live.mTherm fun x => { x with cfg := { x.cfg with ts7Period := 10 }, ts7Start := some 0, ts7Fresh := true, ts7Bad := 3 }
    20000000 ≤ live.clk.upNs + 20000000 ∧ (∀ i : Fin 7, live.injOn 0x0801 i.val = false ∧ live.injOn 0x0802 i.val = false) ∧
      (∀ i : Fin 7, (live.therm.ts[i]).invalid = false) ∧ live.therm.shut = false ∧ (∀ i : Fin 7, -550 ≤ cold[i] ∧ cold[i] ≤ 2000) ∧
      live.therm.stepUps = 0 ∧ live.therm.step < 8 ∧ 0 < moved.therm.step ∧ live.clk.upNs + 20000000 < moved.therm.stepUp + 2000000000 ∧
      moved.therm.stepUps ≠ 0 ∧ 10 * ((live.therm.cfg.tStart + 3 * 0 : Nat) : Int) ≤ 1200 ∧ (1149 : Int) < 10 * ((moved.therm.cfg.tStart + 3 * (1 - 1) : Nat) : Int) - 50 ∧
      3 ≤ ((bad 0).therm.ts[(0 : Fin 7)]).badRun ∧ (-551 : Int) < -550 ∧ (2000 : Int) < 2001 ∧ (∀ i : Fin 7, ((bad 3).therm.ts[i]).invalid = false) ∧
      3 ≤ ((bad 3).therm.ts[(6 : Fin 7)]).badRun ∧ (bad 3).therm.shut = false ∧ hot.therm.shut = false ∧ 10 ≤ (hot.therm.ts[(6 : Fin 7)]).hotRun ∧
      hot.safe.permit = .on ∧ down.therm.shut = true ∧ (∀ i : Fin 7, (live.therm.ts[i]).hotRun < 10) ∧ down.therm.coolUp = some 0 ∧
      0 + 10000000000 ≤ down.clk.upNs + 10000000000 ∧ live.therm.coolUp = none ∧ timed.therm.cfg.ts7Period ≠ 0 ∧
      timed.therm.ts7Timer + 1000000000 * timed.therm.cfg.ts7Period ≤ timed.clk.upNs + 10000000000 ∧ live.therm.cfg.ts7Period = 0 ∧
      timed.therm.ts7Start = some 0 ∧ 0 + 2000000 ≤ timed.clk.upNs + 2000000 ∧ timed.injOn 0x0803 0 = false ∧ timed.therm.ts7Inv = false ∧
      3 ≤ timed.therm.ts7Bad ∧ timed.therm.ts7Fresh = true ∧ timed.therm.ts7Up + 10000000000 ≤ timed.clk.upNs + 10000000000 ∧
      live.clk.upNs + 9999999999 < live.therm.ts7Up + 10000000000 ∧ live.hears q0 = true ∧ 1 < (2 : Byte).toNat ∧ (1 : Byte).toNat ≤ 1 ∧
      (0 : Byte).toNat = 0 ∧ live.obeys q0 = true ∧ (99 : Byte).toNat < 100 ∧ 120 < (121 : Byte).toNat ∧ (9 : Half).toNat < 10 ∧
      3600 < (3601 : Half).toNat ∧ 100 ≤ (100 : Byte).toNat ∧ (120 : Byte).toNat ≤ 120 ∧ 10 ≤ (10 : Half).toNat ∧ (3600 : Half).toNat ≤ 3600 := by
  decide +kernel

/-- `live` where SM's filters have seen every input closed but SI2's, SI1 proves airflow since 10 s, and CTRL requests heat. -/
def steady : State :=
  let c : SiChan := { fresh := false, raw := true, filt := true }
  let o : SiChan := { fresh := false }
  (live.mClk fun k => { k with upNs := 10000000001 }).mSafe fun x =>
    { x with cfg := { x.cfg with heatEn := true, siEn := 0xF, airSrc := 1 }, ctrlReq := true, airUp := some 0, permit := .armed,
             si := #v[{ a := c, b := c }, { a := c, b := c }, { a := o, b := o }, { a := c, b := c }] }

theorem witness_SmCycleGrantsAndRemoves :
    let on := steady.mSafe fun x => { x with permit := .on }
    let set := fun (f : Safe → Safe) => on.mSafe f
    let opened0 := on.mSafe fun x => { x with si := vmod x.si (0 : Fin 4) fun i => { i with a := { i.a with raw := false } } }
    let opened := opened0.mSafe fun x => { x with si := vmod x.si (3 : Fin 4) fun i => { i with b := { i.b with raw := false } } }
    let down := (steady.mSafe fun x => { x with clockDue := some true }).mSys fun x => { x with resetDue := some (5, 3) }
    steadyInputs 0xCF steady ∧ steadyInputs 0xCF on ∧ steady.clockDown = false ∧ down.clockDown = true ∧ down.safe.permit = .armed ∧ steady.pow.smUp = true ∧ (steady.advance 0).missing = 0 ∧ steady.safe.permit = .armed ∧ 600 ≤ 600 ∧
      steady.safe.cfg.patternD = false ∧ ((steady.mSafe fun x => { x with ctrlReq := false }).advance 0).missing ≠ 0 ∧ steady.safe.proof = none ∧
      (∀ i : Fin 4, steady.siHit i = false) ∧ on.safe.permit = .on ∧ on.siHit 0 = false ∧ on.siHit 3 = false ∧
      (set fun x => { x with ctrlReq := false }).safe.ctrlReq = false ∧ on.safe.ctrlReq = true ∧
      (set fun x => { x with cfg := { x.cfg with heatLo := 1 } }).heatMapBad = true ∧ on.heatMapBad = false ∧
      (set fun x => { x with cfg := { x.cfg with hlA := 0 } }).hlBad 0 = true ∧ on.hlBad 0 = false ∧ on.hlBad 1 = false ∧ on.inj.isOpen = false ∧
      on.siOn 0 = true ∧ on.siOn 3 = true ∧ (0xCE : BitVec 8).getLsbD (2 * 0 + 0) = false ∧ (0x4F : BitVec 8).getLsbD (2 * 3 + 1) = false ∧
      (opened.safe.si[(0 : Fin 4)]).a.fresh = false ∧ (opened.safe.si[(0 : Fin 4)]).a.raw = false ∧ (opened.safe.si[(3 : Fin 4)]).b.raw = false ∧
      (opened.safe.si[(0 : Fin 4)]).a.rawUp + ms opened.safe.cfg.siFilt ≤ opened.clk.upNs + 0 ∧ (opened.safe.si[(0 : Fin 4)]).demand = false ∧
      (opened.safe.si[(3 : Fin 4)]).diag = false ∧ State.reset.pow.smUp = false := by
  refine ⟨by unfold steadyInputs; decide +kernel, by unfold steadyInputs; decide +kernel, ?_⟩
  decide +kernel

theorem witness_SafetyDetectors :
    let on := steady.mSafe fun x => { x with permit := .on }
    let late := on.mSafe fun x => { x with noAirUp := some 0, airXUp := x.airXUp.set 3 (some 0), removedUp := some 0,
                                           cfg := { x.cfg with flameT := 1 } }
    let flame := late.mSafe fun x => { x with si := vmod x.si (2 : Fin 4) fun i => { i with demand := true } }
    let apart0 := on.mSafe fun x => { x with si := vmod x.si (3 : Fin 4) fun i => { i with diffUp := some 0 } }
    let apart := apart0.mSafe fun x => { x with si := vmod x.si (0 : Fin 4) fun i => { i with a := { i.a with noPulse := 2 } } }
    let cold := on.mPow fun p => { p with smUp := false }
    on.clk.upNs + 50250000 - on.safe.grantUp = 50250000 + (on.clk.upNs - on.safe.grantUp) ∧ on.safe.grantUp ≤ on.clk.upNs ∧
      50250000 % 50000000 = 250000 ∧ 75250000 % 50000000 = 250000 + 25000000 ∧ 50250001 % 50000000 ≠ 250000 ∧ cold.pow.smUp = false ∧
      499999 < 500000 ∧ 2000000 < 2000001 ∧ 4999 < 5000 ∧ ¬ 5000 < 5000 ∧
      on.safe.permit = .on ∧ on.pow.smUp = true ∧ on.inj.isOpen = false ∧ on.safe.relBad = false ∧ live.safe.permit ≠ .on ∧
      late.safe.noAirUp = some 0 ∧ max 0 late.safe.grantUp + ms late.safe.cfg.airFilt ≤ late.clk.upNs ∧ on.safe.noAirUp = none ∧
      late.safe.airXUp[(3 : Fin 4)] = some 0 ∧ 0 + 100000000 ≤ late.clk.upNs ∧ late.safe.removedUp = some 0 ∧
      0 + ms (100 * late.safe.cfg.flameOffT) ≤ late.clk.upNs ∧ flame.siHit 2 = true ∧ late.siHit 2 = false ∧ late.safe.cfg.flameT ≠ 0 ∧
      late.safe.flamed = false ∧ late.safe.grantUp + sec late.safe.cfg.flameT ≤ late.clk.upNs ∧ on.siOn 3 = true ∧
      (apart.safe.si[(3 : Fin 4)]).diag = false ∧ (apart.safe.si[(3 : Fin 4)]).diffUp = some 0 ∧ 0 + ms (apart.safe.cfg.siDisc + 1) ≤ apart.clk.upNs ∧
      apart.siOssd 0 = false ∧ 2 ≤ (apart.safe.si[(0 : Fin 4)]).a.noPulse ∧ (1 : BitVec 4).getLsbD 0 = true ∧
      (apart.safe.si[(0 : Fin 4)]).b.raw = true ∧ (0 : BitVec 4).getLsbD 0 = false ∧ (∀ i : Fin 4, live.siOn i.val = false) := by
  decide +kernel

theorem witness_SafetyOrders :
    let ready := live.mSafe fun x => { x with cfg := { x.cfg with heatEn := true } }
    let latched := ready.mSafe fun x => { x with latch := x.latch.set 0 { set := true } }
    let img := SafeCfg.toBytes {}
    let c : SafeCfg := {}
    let pend := live.mSafe fun x => { x with pendCfg := some (c, 0) }
    let hot := pend.mSafe fun x => { x with permit := .on }
    let other : SafeCfg := { hlA := 0 }
    let cold := live.mSafe fun x => { x with pendCfg := some (other, 0) }
    let stitched := live.mEntry 255 fun _ => { kind := 1, tgt := 0, state := .pending }
    let heat := stitched.mRun fun r => { r with prof := r.prof.set (0 : Fin 32) { mode := 1, heat := true } }
    let p : Proof := { ticket := 1, kind := 2, startUp := 0 }
    let tests := live.mSafe fun x => { x with proof := some p, ptOk := #v[true, false] }
    live.obeys q0 = true ∧ live.safe.cfg.heatEn = false ∧ latched.obeys q0 = true ∧ latched.safe.cfg.heatEn = true ∧ latched.safe.anyLatch = true ∧
      ready.safe.anyLatch = false ∧ ready.obeys q0 = true ∧ live.hears qB = true ∧ heated.safe.permit = .on ∧ live.safe.permit = .off ∧
      (heat.stitch.e[(255 : Fin 256)]).state = .pending ∧ cancelledKind 1 = true ∧ heat.stitchHeat heat.stitch.e[(255 : Fin 256)] = true ∧
      [0].length ≠ 40 ∧ img.length = 40 ∧ safeImageOk img = true ∧ safeImageOk (img.set 0 (5 : Byte)) = false ∧ heated.obeys q0 = true ∧
      live.safe.permit ≠ .on ∧ live.safe.pendCfg = none ∧ pend.safe.pendCfg = some (c, 0) ∧ pend.obeys q0 = true ∧
      (BitVec.ofNat 32 c.scrc).toNat = c.scrc ∧ (BitVec.ofNat 32 (c.scrc + 1)).toNat ≠ c.scrc ∧ hot.safe.permit = .on ∧ hot.obeys q0 = true ∧
      pend.clk.upNs - 0 < 60000000000 ∧ 60000000000 ≤ (pend.mClk fun x => { x with upNs := 60000000000 }).clk.upNs - 0 ∧
      (pend.mClk fun x => { x with upNs := 60000000000 }).obeys q0 = true ∧ 4 ≤ fourPend.pendingOps ∧
      fourPend.obeys q0 = true ∧ tests.pendingOps < 4 ∧
      cold.confirmOk other = false ∧ pend.confirmOk c = true ∧ 0 + 60000000000 ≤ pend.clk.upNs + 60000000000 ∧
      pend.clk.upNs + 59999999999 < 0 + 60000000000 ∧ live.trusts q0 = true ∧ 1 < (2 : Byte).toNat ∧ live.safe.ctrlReq = false ∧
      live.inj.isOpen = false ∧ tests.safe.proof.isSome = true ∧ live.safe.proof = none ∧ live.pendingOps < 4 ∧
      (∀ n : Fin 32, (live.drv.ch[n]).phase = .idle) ∧ ((coil coilProf { phase := .hold }).drv.ch[(0 : Fin 32)]).phase ≠ .idle ∧
      tests.safe.proof = some p ∧ p.kind = 2 ∧ live.safe.dayUp + 86400000000000 ≤ live.clk.upNs + 86400000000000 ∧
      live.clk.upNs + 86399999999999 < live.safe.dayUp + 86400000000000 ∧ 2 ^ 14 ≤ (0x4000 : Word).toNat ∧ (0x3FBF : Word).toNat < 2 ^ 14 ∧
      bitOf (0x3FBF : Word).toNat 6 = false := by
  decide +kernel

theorem witness_TestSessionsComplete :
    let open_ := live.mInj fun x => { x with isOpen := true, safety := true, owner := .hostA, timeout := 10 }
    let full := open_.mInj fun x => { x with slots := Vector.replicate 8 { act := true, id := 1, tgt := 0, dur := 1 } }
    let plain := open_.mInj fun x => { x with safety := false }
    let air := (open_.mSafe fun x => { x with cfg := { x.cfg with airGrp := 8 } }).mRun fun r =>
      { r with fgrp := r.fgrp.set (3 : Fin 4) { members := 0x800, nAir := 1 } }
    air.obeys q0 = true ∧ (0x0501 : Half).toNat / 256 = 5 ∧ bitOf air.safe.cfg.airGrp (3 : Fin 4).val = true ∧
      bitOf (air.run.fgrp[(3 : Fin 4)]).members (11 : Byte).toNat = true ∧
      live.obeys q0 = true ∧ 1 < (2 : Byte).toNat ∧ (9 : Half).toNat < 10 ∧ 3600 < (3601 : Half).toNat ∧ (1 : Byte).toNat ≤ 1 ∧ 10 ≤ (10 : Half).toNat ∧
      (3600 : Half).toNat ≤ 3600 ∧ heated.obeys q0 = true ∧ heated.safe.permit = .on ∧ live.safe.permit ≠ .on ∧ open_.inj.isOpen = true ∧
      open_.obeys q0 = true ∧ live.inj.isOpen = false ∧ live.safe.proof = none ∧ live.inHandover = false ∧ live.safe.ctrlReq = false ∧
      live.injListed 0x0003 0 0 0 = true ∧ (60000 : Half).toNat ≤ 60000 ∧ live.injListed 0xFFFF 0 0 0 = false ∧ open_.inj.owner = q0.sender ∧
      open_.inj.owner ≠ qB.sender ∧ open_.injReady 0x0003 0 = true ∧ open_.injSafety 0x0003 0 = false ∧ open_.injListed 0x0903 1 0 0 = true ∧
      plain.injSafety 0x0903 1 = true ∧ plain.inj.safety = false ∧ plain.obeys q0 = true ∧ full.slotFor 0x0003 0 = none ∧ full.obeys q0 = true ∧
      open_.slotFor 0x0003 0 = some 0 ∧ 8 ≤ (8 : Byte).toNat ∧ (8 : Byte).toNat ≠ 0xFF ∧ (7 : Byte).toNat < 8 ∧ (0xFF : Byte).toNat = 0xFF ∧
      (full.inj.slots[(7 : Fin 8)]).act = true ∧ (full.inj.slots[(7 : Fin 8)]).dur ≠ 0 ∧
      (full.inj.slots[(7 : Fin 8)]).startUp + ms (full.inj.slots[(7 : Fin 8)]).dur ≤ full.clk.upNs + 1000000 ∧
      (open_.inj.slots[(0 : Fin 8)]).act = false ∧ open_.inj.lastUp + sec open_.inj.timeout ≤ open_.clk.upNs + 10000000000 := by
  decide +kernel

theorem witness_FieldLogComplete :
    let x : LogEntry := { cls := 1, code := 1 }
    let with_ := fun (l : Log → Log) => live.mLog l
    let one := with_ fun g => { g with queue := [x] }
    let burst := with_ fun g => { g with queue := [x], accepted := 10 }
    let full := with_ fun g => { g with queue := [x], entries := List.replicate 2048 { x with good := true, eno := 5 } }
    let kept := with_ fun g => { g with entries := [{ x with good := true, eno := 5 }], eno := 6 }
    let read := kept.mLog fun g => { g with readMark := some 5 }
    live.log.queue = [] ∧ one.log.queue = x :: [] ∧ one.log.accepted < 10 ∧ one.log.entries.length < 2048 ∧ burst.log.queue = x :: [] ∧
      10 ≤ burst.log.accepted ∧ x.cls ≠ 9 ∧ full.log.queue = x :: [] ∧ full.log.entries.length = 2048 ∧
      (full.log.entries.getLast?.map fun e => e.good) = some true ∧ live.hears q0 = true ∧ live.trusts q0 = true ∧ 31 < (32 : Byte).toNat ∧
      1 ≤ (1 : Byte).toNat ∧ (31 : Byte).toNat ≤ 31 ∧ (0xFFFFFFFF : Word).toNat = 0xFFFFFFFF ∧ (5 : Word).toNat ≠ 0xFFFFFFFF ∧ live.log.held = [] ∧
      kept.log.held ≠ [] ∧ later (5 : Word).toNat kept.log.newest = false ∧ later (6 : Word).toNat kept.log.newest = true ∧
      kept.hears { q0 with auth := true } = true ∧ kept.log.readMark = none ∧ read.log.readMark = some 5 ∧
      ((kept.log.held.reverse.filter fun x => !later 5 x.eno).take 1).getLast? = some { x with good := true, eno := 5 } := by
  decide +kernel

/-! ### Witnesses: chapters 17 to 19, and what every step keeps -/

/-- A register's W1C bits and fields are as given. -/
def regIs (a w1c wo fields : Nat) : Bool :=
  match regInfo a with
  | some r => r.w1c == w1c && r.wo == wo && r.fields == fields
  | none => false

theorem witness_MemoryAndFlagsComplete :
    let pub := live.mClk fun c => { c with ctNs := 10000000 }
    let erasing := live.mUpd fun u => { u with state := .erasing, bank := 1 }
    let ring := (live.mRun fun r => { r with rb := r.rb.set (3 : Fin 4) { size := 64 } }).mRb 3 fun r => { r with fill := 10 }
    let reader := ring.mRun fun r => { r with first := r.first.set (7 : Fin 8) 16, desc := r.desc.set (0 : Fin 48) (leBytes 12 0 ++ leBytes 2 0x32 ++
      [0, 1, 0xFF] ++ List.replicate 15 0) }
    live.hears q0 = true ∧ live.trusts q0 = true ∧ (1017 : Half).toNat > 1016 ∧ 1 ≤ (1 : Half).toNat ∧ (1016 : Half).toNat ≤ 1016 ∧
      (∀ r ∈ regions, ¬(r.1 ≤ 0x1FFFF ∧ 0x1FFFF + 2 ≤ r.2)) ∧ 0x2003F000 < 0x2003F000 + 1 ∧ 0x50000000 ≤ 0x500007FF ∧ 0x800 < 0x500007FF % 0x800 + 2 ∧
      0x40000000 + 4 ≤ 0x400B0000 ∧ 0x40000002 % 4 ≠ 0 ∧ 0x1007FFFF + 1 ≤ 0x10080000 ∧ 0x40000000 % 4 = 0 ∧ 0x40000000 ≠ 0x40010080 ∧
      0x50003800 % 0x800 + 0x3F8 ≤ 0x800 ∧ live.pubNow = none ∧ pub.pubNow ≠ none ∧ erasing.flashBusy 0x30180000 1 = true ∧ live.obeys q0 = true ∧
      1016 < (List.replicate 1017 (0 : Byte)).length ∧ (List.replicate 1017 (0 : Byte)).length < 65536 ∧ [(1 : Byte)].length = 1 ∧
      ¬(0x10070000 ≤ 0x1006FFFF) ∧ 0x1006FFFF < 0x40000000 ∧ memWf live.mem = true ∧ regIs 0x40000014 0x2 0x1 0x1FFF03 = true ∧
      regIs 0x40000064 0 0 0xF = true ∧ 1 &&& 0x1 ≠ 0 ∧ 0x4 &&& 0x1 = 0 ∧ 0x4 &&& 0x1FFF03 ≠ 0x4 ∧ 0x2 &&& 0x1FFF03 = 0x2 ∧ rdRing 0x40000014 = none ∧
      0x4007026C = 0x4007020C + 0x20 * (3 : Fin 4).val ∧ (ring.run.rb[(3 : Fin 4)]).size = 64 ∧ 64 ≤ leNat (leBytes 4 64) ∧
      (ring.se.rb[(3 : Fin 4)]).fill < (11 + 64 - (ring.se.rb[(3 : Fin 4)]).rd) % 64 ∧ (10 + 64 - (ring.se.rb[(3 : Fin 4)]).rd) % 64 ≤ (ring.se.rb[(3 : Fin 4)]).fill ∧
      reader.run.readsRing 3 = true ∧ reader.obeys q0 = true ∧ ring.obeys q0 = true ∧ ring.run.readsRing 3 = false ∧
      (∀ m : Fin 8, (ring.scOf m).state ≠ .armed) ∧ regInfo 0x40000000 = none ∧ 0x40000000 ∉ ([0x40000040, 0x40000044, 0x40000048] : List Nat) ∧
      0x4 &&& 0x2 ≠ 0x4 ∧ 0x2 &&& 0x2 = 0x2 ∧ State.reset.awake = false ∧ live.awake = true ∧ (1 : Word).getLsbD 0 = true ∧
      (1 : Word).getLsbD 1 = false ∧ (1 : BitVec 4).getLsbD 0 = true ∧ live.injOn 0x0907 0 = false := by
  decide +kernel

/-- A descriptor (Table 17.9) with its DCRC. -/
def descOf (src dst len xctl pr trig next : Nat) : List Byte :=
  let b := leBytes 4 src ++ leBytes 4 dst ++ leBytes 4 len ++ leBytes 2 xctl ++ leBytes 1 pr ++ leBytes 1 trig ++ leBytes 1 next ++ List.replicate 11 0
  b ++ leBytes 4 (crc32 b)

/-- `live` with slot 16 holding `d`, the first of channel 15, which stands so. -/
def chained (d : List Byte) (c : ScChan) : State :=
  (live.mRun fun r => { r with first := r.first.set (7 : Fin 8) 16, desc := r.desc.set (0 : Fin 48) d }).mSc (hostChan 7) fun _ => c

theorem witness_StreamEngine_orders :
    let copy := descOf 0x10070000 0x1007FFFC 4 0 0 0x13 0xFF
    let far := descOf 0x10070000 0x1007FFFD 4 0 0 0x13 0xFF
    let st := fun (x : ScState) => chained copy { state := x, cur := 16 }
    let snap := descOf 0 0x10070000 4 3 0 1 0xFF
    let toRing := descOf 0x10070000 0 4 8 0 1 0xFF
    let timed := live.mRun fun r => { r with rb := r.rb.set (3 : Fin 4) {} }
    live.obeys q0 = true ∧ copy.length = 32 ∧ (15 : Byte).toNat < 16 ∧ 63 < (64 : Byte).toNat ∧ dOk (copy.set 28 (0 : Byte) |>.set 29 (1 : Byte)) = false ∧
      (16 : Byte).toNat = (0 : Fin 48).val + 16 ∧ (63 : Byte).toNat = (47 : Fin 48).val + 16 ∧ dOk copy = true ∧
      { live.run with desc := live.run.desc.set (47 : Fin 48) copy }.streamOk = true ∧ dOk far = true ∧ dDstOk far = false ∧ dSrcOk copy = true ∧
      dDstOk copy = true ∧ ((st .armed).scOf 7).state ≠ .idle ∧ 16 ∈ (st .armed).run.chain 7 ∧ (st .armed).obeys q0 = true ∧
      (∀ n : Fin 8, (live.scOf n).state = .idle) ∧ 3 < (4 : Byte).toNat ∧ (99 : Word).toNat < 100 ∧ 60000000 < (60000001 : Word).toNat ∧
      (3 : Byte).toNat = (3 : Fin 4).val ∧ 100 ≤ (100 : Word).toNat ∧ (60000000 : Word).toNat ≤ 60000000 ∧ (99 : Word).toNat < (100 : Word).toNat ∧
      (0x1007FFC0 : Word).toNat % 4 = 0 ∧ 64 ≤ (64 : Word).toNat ∧ (65536 : Word).toNat ≤ 65536 ∧ (64 : Word).toNat % 4 = 0 ∧
      (0 : Word).toNat < (64 : Word).toNat ∧ { live.run with rb := live.run.rb.set (3 : Fin 4) { base := 0x1007FFC0, size := 64, hi := 64 } }.streamOk = true ∧
      ¬(0x10070000 ≤ 0x1006FFFC) ∧ 0x1007FFC0 + 64 ≤ 0x10080000 ∧ (live.run.rb[(3 : Fin 4)]).size = 0 ∧ (timed.run.rb[(3 : Fin 4)]).size = 0 ∧
      (7 : Byte).toNat < 8 ∧ 15 < (16 : Byte).toNat ∧ (15 : Byte).toNat = (7 : Fin 8).val + 8 ∧ (0xFF : Byte).toNat = 0xFF ∧
      { live.run with first := live.run.first.set (7 : Fin 8) 0xFF }.streamOk = true ∧ ((st .idle).scOf 7).state = .idle ∧
      (st .idle).run.wellFormed 7 = true ∧ (st .idle).obeys q0 = true ∧ live.run.wellFormed 7 = false ∧ (st .armed).run.wellFormed 7 = true ∧
      (∀ b : Fin 4, (st .armed).run.ringNeed 7 b ≤ ((st .armed).run.rb[b]).size - ((st .armed).se.rb[b]).fill) ∧
      dCrcOk ((st .armed).run.slot (st .armed).run.first[(7 : Fin 8)]) = true ∧ (chained toRing {}).run.wellFormed 7 = true ∧
      ¬ ((chained toRing {}).run.ringNeed 7 0 ≤ ((chained toRing {}).run.rb[(0 : Fin 4)]).size) ∧ (chained toRing {}).run.descs 7 = toRing :: [] ∧
      (chained copy { state := .halt, cur := 16, ecode := 1 }).snapLeft 7 16 = false ∧
      (chained snap { state := .halt, cur := 16, ecode := 1, snapSlot := some 0 }).snapLeft 7 16 = true ∧ live.snap.hist = [] ∧
      live.hears q0 = true ∧ (15 : Byte).toNat ≤ 15 ∧ 16 < (15 : Byte).toNat + (2 : Byte).toNat ∧ (15 : Byte).toNat + (1 : Byte).toNat ≤ 16 := by
  decide +kernel

theorem witness_StreamEngine_runs :
    let copy := descOf 0x10070000 0x1007FFFC 4 0 0 0x13 0xFF
    let two := (chained (descOf 0x10070000 0x1007FFFC 4 0 0 1 17) { state := .run, cur := 16 }).mRun fun r => { r with desc := r.desc.set (1 : Fin 48) copy }
    let broken := chained (descOf 0x10070000 0x1007FFFC 4 0 0 1 18) { state := .run, cur := 16 }
    let clock := fun (s : State) (p : Nat) => s.mRun fun r => { r with tmr := r.tmr.set (3 : Fin 4) { period := p } }
    let run := chained copy { state := .run, cur := 16 }
    let again := chained (descOf 0x10070000 0x1007FFFC 4 0 4 1 0xFF) { state := .run, cur := 16 }
    let wait := chained copy { state := .run, cur := 16, failUp := some 0 }
    let snap := chained (descOf 0 0x10070000 4 3 0 1 0xFF) { state := .run, cur := 16 }
    let toRing := (chained (descOf 0x10070000 0 4 8 0 1 0xFF) { state := .run, cur := 16 }).mRun fun r => { r with rb := r.rb.set (0 : Fin 4) { size := 64, hi := 4 } }
    live.run.tmr[(3 : Fin 4)].period = 0 ∧ ((clock run 100).advance 2000).ctUs % 100 = 2 ∧ (clock run 100).se.tmrLast[(3 : Fin 4)] ≠ some 0 ∧
      (clock run 100).run.descs 7 = copy :: [] ∧ dTrig copy = 0x10 + (3 : Fin 4).val ∧ dDmode copy ≠ 2 ∧ dCrcOk copy = true ∧
      (∀ m : Fin 8, m ≠ 7 → run.run.descs m = []) ∧ ((chained copy { state := .armed }).scOf 7).state = .armed ∧ (run.scOf 7).state = .run ∧
      ((chained copy {}).scOf 7).state = .idle ∧ (7 : Fin 16).val < 8 ∧ (run.scOf 7).failUp = none ∧ run.snapLeft 7 16 = false ∧ memWf run.mem = true ∧
      dSmode (run.curDesc 7) = 0 ∧ dDmode (run.curDesc 7) = 0 ∧ 0x10070000 ≤ dSrc (run.curDesc 7) ∧
      dSrc (run.curDesc 7) + dLen (run.curDesc 7) ≤ 0x10080000 ∧ (run.scOf 7).offset = 0 ∧ dNext (two.curDesc 7) ≠ 0xFF ∧
      dCrcOk (two.run.slot (dNext (two.curDesc 7))) = true ∧ two.snapLeft 7 16 = false ∧ dNext (broken.curDesc 7) ≠ 0xFF ∧
      dCrcOk (broken.run.slot (dNext (broken.curDesc 7))) = false ∧ broken.snapLeft 7 16 = false ∧ dNext (run.curDesc 7) = 0xFF ∧
      (run.scOf 7).wrPend = Vector.replicate 4 0 ∧ (run.scOf 7).rdPend = Vector.replicate 4 0 ∧ dTrig copy ≠ 0x48 + 7 ∧
      dDmode (toRing.curDesc 7) = 2 ∧ dDrb (toRing.curDesc 7) = 0 ∧ 0 < dLen (toRing.curDesc 7) ∧ 0 < (toRing.run.rb[(0 : Fin 4)]).size ∧
      (∀ m : Fin 8, (toRing.scOf m).state ≠ .armed) ∧ dRearm (toRing.curDesc 7) = false ∧ toRing.snapLeft 7 16 = false ∧
      (again.scOf 7).offset < dLen (again.curDesc 7) ∧ wordsOnly (again.curDesc 7) = false ∧ (again.scOf 7).retries < dRetry (again.curDesc 7) ∧
      dRetry (run.curDesc 7) ≤ (run.scOf 7).retries ∧ (wait.scOf 7).failUp = some 0 ∧ wait.snapLeft 7 16 = false ∧ 0 + 1000 ≤ wait.clk.upNs + 1000 ∧
      wait.clk.upNs + 999 < 0 + 1000 ∧ (snap.scOf 7).state = .run ∧ snap.snapLeft 7 16 = true ∧ (snap.scOf 7).trigUp + 20000 ≤ snap.clk.upNs + 20000 ∧
      snap.clk.upNs + 19999 < (snap.scOf 7).trigUp + 20000 := by
  decide +kernel

/-- A skein header (Table 18.3) of a PORT image of four bytes and this version. -/
def header (version : Nat) : List Byte :=
  skeinMagic ++ [1, 3, 0, 0] ++ leBytes 2 256 ++ leBytes 2 0x6A41 ++ leBytes 2 4 ++ [0, 0] ++ leBytes 4 version ++ leBytes 12 0 ++ leBytes 4 4 ++
    leBytes 4 4 ++ List.replicate 216 0

/-- `live` with a transfer so. -/
def transfer (u : Update) : State := live.mUpd fun _ => u

theorem witness_UpdateTransfer_begin :
    let p := leBytes 4 0 ++ header 0x01060000
    let other := p.set 14 (0 : Byte)
    let up := fun (x : XferState) => transfer { state := x }
    let four := live.mFrm fun f => { f with pend := List.replicate 4 { ticket := 1, opc := 0, sender := .hostA, auth := false, est := 0 } }
    let hdr := Skein.ofBytes (header 0x01060000)
    let er := fun (k : Skein) (f : Nat) => transfer { state := .erasing, hdr := k, bank := 1, fused := f }
    let old := Skein.ofBytes (header 0x01050000)
    live.obeys q0 = true ∧ [(0 : Byte)].length ≠ 260 ∧ p.length = 260 ∧ fieldAt p 0 1 ≤ 1 ∧ fieldAt p 1 3 = 0 ∧ skeinOk (p.drop 4) = true ∧
      skeinOk ((p.set 4 (0 : Byte)).drop 4) = false ∧ live.upd.state = .idle ∧ live.ho.phase = .none ∧ (up .erasing).upd.state = .erasing ∧
      (up .erasing).obeys q0 = true ∧ fieldAt (p.set 0 (1 : Byte)) 0 1 = 1 ∧ (up .receiving).upd.state = .receiving ∧ 4 ≤ four.pendingOps ∧
      four.obeys q0 = true ∧ live.pendingOps < 4 ∧ skeinBinds (other.drop 4) = false ∧ skeinOk (other.drop 4) = true ∧ skeinBinds (p.drop 4) = true ∧
      live.therm.shut = false ∧ live.pow.vlOk = true ∧ (live.mTherm fun x => { x with shut := true }).therm.shut = true ∧
      (er hdr 0).upd.state = .erasing ∧ (er hdr 0).upd.checked = false ∧ (er hdr 0).upd.abortDue = false ∧ hdr.epoch < (er hdr 1).upd.fused ∧
      (er hdr 0).upd.fused ≤ hdr.epoch ∧ (er hdr 0).bankOf hdr.typ.ix = some 4 ∧ old.version < ((er old 0).upd.dir[(4 : Fin 8)]).version ∧
      old.downgrade = false ∧ ((er hdr 0).upd.dir[(4 : Fin 8)]).version ≤ hdr.version ∧ { hdr with delta := true }.delta = true ∧
      ((er hdr 0).upd.dir[(4 : Fin 8)]).version ≠ hdr.srcVer ∧ hdr.delta = false ∧ (er hdr 0).admits hdr.typ hdr.minver hdr.version = true ∧
      (er { hdr with minver := #v[0x04000000, 0, 0, 0] } 0).admits .port #v[0x04000000, 0, 0, 0] hdr.version = false ∧
      (transfer { state := .erasing, checked := true }).upd.checked = true ∧ (transfer { state := .erasing, checked := true, abortDue := true }).upd.abortDue = true := by
  decide +kernel

/-- `header 0x01060000` signed with the private key of RFC 6979, A.2.5: r and s, most significant byte first, in its last 64 bytes. -/
def signed : List Byte :=
  (header 0x01060000).take 192 ++ (leBytes 32 0xEFD48B2AACB6A8FD1140DD9CD45E81D69D2C877B56AAF991C34D0EA84EAF3716).reverse ++
    (leBytes 32 0xA1C3F3AEEACE0CC295AB809C3C0DF6E1F34C0B6AD98348957CC5C4632B0B7731).reverse

/-- The public key of RFC 6979, A.2.5. -/
def rfcKey : Nat × Nat :=
  (0x60FED4BA255A9D31C961EB74C6356D68C049B8923B61FA6CE669622E60F29FB6, 0x7903FE1008B8BC99A41AE9E95628BC64F2F1B20C2D7E9F5177A3C294D4462299)

theorem signed_valid : ecdsaValid rfcKey (sha256 (signed.take 192)) (beNat ((signed.drop 192).take 32)) (beNat ((signed.drop 224).take 32)) = true := by
  decide +kernel

/-- Where the node's ROM holds that key under KEYID 0, which no rule excludes (log entry 142), a header passes the check of SIG; one without
a signature never does. -/
theorem witness_UpdateTransfer_signature (h : Config.updateKey 0 = rfcKey) :
    skeinSigned (transfer { state := .erasing, header := signed }).upd.header = true ∧
      skeinSigned (transfer { state := .erasing, header := header 0x01060000 }).upd.header = false := by
  refine ⟨?_, by decide +kernel⟩
  have k : fieldAt signed 14 1 = 0 := by decide +kernel
  show ecdsaValid (Config.updateKey (fieldAt signed 14 1)) _ _ _ = true
  rw [k, h]; exact signed_valid

theorem witness_UpdateTransfer_blocks :
    let k : Skein := { typ := .port, imgLen := 16, payLen := 16 }
    let at_ := fun (ofs : Nat) => leBytes 2 1 ++ leBytes 2 0 ++ leBytes 4 ofs
    let p := at_ 12 ++ [1, 2, 3, 4]
    let u : Update := { state := .receiving, hdr := k, bank := 1, tid := 1 }
    let had := { u with ledger := [(0, 4)] }
    let delta := { had with hdr := { k with delta := true } }
    let many := { u with hdr := { k with payLen := 4096 }, ledger := (List.range 64).map fun i => (8 * i, 8 * i + 4) }
    let wrong := at_ 4 ++ [5, 0, 0, 0]
    let a := bankBase 5
    let dirty := (transfer u).mMem fun _ => [(a + 12, 0)]
    (transfer u).obeys q0 = true ∧ ¬ (4 ≤ [(1 : Byte)].length) ∧ 4 ≤ (p.drop 8).length ∧ (p.drop 8).length % 4 = 0 ∧ fieldAt p 0 2 = u.tid ∧
      fieldAt p 2 2 = 0 ∧ fieldAt p 4 4 % 4 = 0 ∧ fieldAt p 4 4 + (p.drop 8).length ≤ u.hdr.payLen ∧ fieldAt (p.set 0 (2 : Byte)) 0 2 ≠ u.tid ∧
      (transfer { u with state := .tainted }).obeys q0 = true ∧ ({ u with state := .verified } : Update).state ≠ .receiving ∧
      131072 < (({ u with queue := [(a, List.replicate 131073 0)] } : Update).queue.map fun x => x.2.length).sum ∧ (u.queue.map fun x => x.2.length).sum ≤ 131072 ∧
      (∃ x ∈ ({ u with ledger := [(12, 14)] } : Update).ledger, x.1 < 16 ∧ 12 < x.2) ∧ (∃ x ∈ had.ledger, x.1 ≤ 0 ∧ 0 + 4 ≤ x.2) ∧
      had.hdr.delta = false ∧ had.queue = [] ∧ memSpan (transfer had).mem a 4 = [0xFF, 0xFF, 0xFF, 0xFF] ∧ delta.hdr.delta = true ∧
      0 < ledgerEnd delta.ledger - delta.buf.length ∧ 12 ≠ ledgerEnd delta.ledger ∧ (∀ x ∈ had.ledger, ¬ (x.1 < 16 ∧ 12 < x.2)) ∧
      64 < (ledgerAdd many.ledger (512, 516)).length ∧ (ledgerAdd u.ledger (12, 16)).length ≤ 64 ∧ memGet dirty.mem (a + 12) ≠ 0xFF ∧
      (∀ i : Fin 4, memGet (transfer u).mem (a + 12 + i.val) = 0xFF) ∧ 4 = ledgerEnd delta.ledger ∧
      ((transfer delta).deltaBlock (wrong.drop 8)).2.2 = some 4 := by
  decide +kernel

theorem witness_UpdateTransfer_runs :
    let k : Skein := { typ := .port, imgLen := 16, payLen := 16 }
    let u : Update := { state := .receiving, hdr := k, bank := 1, tid := 1 }
    let a := bankBase 5
    let prog := transfer { u with queue := [(a, [1, 2, 3, 4] ++ [5, 6, 7, 8])] }
    let whole := transfer { u with ledger := [(0, 16)] }
    let four := whole.mFrm fun f => { f with pend := List.replicate 4 { ticket := 1, opc := 0, sender := .hostA, auth := false, est := 0 } }
    let check := transfer { u with state := .verifying, hdr := { k with imgLen := 4, imgHash := sha256 [0xFF, 0xFF, 0xFF, 0xFF] } }
    let bad := transfer { u with state := .verifying, hdr := { k with imgLen := 4 } }
    prog.upd.state = .receiving ∧ prog.upd.queue = [(a, [1, 2, 3, 4] ++ [5, 6, 7, 8])] ∧
      [(1 : Byte), 2, 3, 4].length = 4 ∧ [(5 : Byte), 6, 7, 8].length % 4 = 0 ∧ memWf prog.mem = true ∧ live.upd.state ≠ .receiving ∧
      live.upd.state ≠ .verifying ∧ whole.obeys q0 = true ∧ (1 : Half).toNat = whole.upd.tid ∧ (2 : Half).toNat ≠ whole.upd.tid ∧
      whole.upd.ledger = [(0, whole.upd.hdr.payLen)] ∧ whole.upd.hdr.delta = false ∧ 4 ≤ four.pendingOps ∧ whole.pendingOps < 4 ∧ four.obeys q0 = true ∧
      (transfer { u with state := .tainted }).pendingOps < 4 ∧ (transfer { u with state := .tainted }).obeys q0 = true ∧
      (0xFFFF : Half).toNat = 0xFFFF ∧ check.upd.state = .verifying ∧ check.upd.queue = [] ∧ check.upd.abortDue = false ∧
      sha256 (check.bankSpan check.xferBank 0 check.upd.hdr.imgLen) = check.upd.hdr.imgHash ∧
      sha256 (bad.bankSpan bad.xferBank 0 bad.upd.hdr.imgLen) ≠ bad.upd.hdr.imgHash ∧ live.hears q0 = true ∧ (2 : Nat) ^ 32 - 1 < 2 ^ 32 ∧
      65535 < 65536 ∧ 4 < (5 : Byte).toNat := by
  decide +kernel

/-- `live` in an activation so. -/
def activation (u : Update) (h : Handover) : State := (transfer u).mHo fun _ => h

theorem witness_ActivationStarts :
    let k : Skein := { typ := .port, version := 0x01060000, minver := #v[0x03040000, 0, 0, 0] }
    let u : Update := { state := .verified, hdr := k, bank := 1, tid := 1 }
    let idle := activation u {}
    let safe := activation { u with hdr := { k with typ := .safe } } {}
    let hot := safe.mSafe fun x => { x with permit := .on }
    let four := idle.mFrm fun f => { f with pend := List.replicate 4 { ticket := 1, opc := 0, sender := .hostA, auth := false, est := 0 } }
    let boot := activation {} { phase := .boot, typ := some .ctrl }
    idle.obeys q0 = true ∧ (1 : Half).toNat = idle.upd.tid ∧ (2 : Half).toNat ≠ idle.upd.tid ∧ idle.upd.state = .verified ∧
      (activation { u with state := .tainted } {}).obeys q0 = true ∧ ({ u with state := .receiving } : Update).state ≠ .verified ∧ hot.obeys q0 = true ∧
      hot.upd.hdr.typ = .safe ∧ hot.safe.permit = .on ∧ idle.upd.hdr.typ ≠ .safe ∧ idle.admits k.typ k.minver k.version = true ∧
      idle.admits k.typ k.minver 0 = false ∧ idle.ho.phase = .none ∧ (activation u { phase := .trial }).ho.phase ≠ .none ∧
      (activation u { phase := .trial }).obeys q0 = true ∧ four.pendingOps = 4 ∧ four.obeys q0 = true ∧ idle.pendingOps < 4 ∧ live.ho.phase ≠ .boot ∧
      boot.ho.phase = .boot ∧ boot.ho.typ = some .ctrl ∧ boot.hashPasses boot.xferBank = true ∧ boot.clk.upNs + 400000000 ≤ boot.ho.applied + 400000000 ∧
      boot.clk.upNs + 399999999 < boot.ho.applied + 400000000 ∧ (activation {} { phase := .snapshot }).ho.phase = .snapshot ∧
      (activation {} { phase := .catchup, passed := false }).ho.passed = false ∧
      (activation {} { phase := .catchup }).ho.applied + 2000000000 ≤ live.clk.upNs + 2000000000 ∧ live.ho.phase ≠ .snapshot ∧
      (activation {} { safePath := true }).ho.safePath = true ∧ live.ho.safePath = false := by
  decide +kernel

theorem witness_TrialAndFallback :
    let ctrl := fun (p : HoPhase) => activation {} { phase := p, typ := some .ctrl }
    let port := fun (p : HoPhase) => activation {} { phase := p, typ := some .port }
    let safe := (activation {} { phase := .boot, typ := some .safe, safeTrip := true }).mPow fun p => { p with smUp := false }
    let both := (port .trial).mRing fun r => { r with ca := { r.ca with lock := true }, cb := { r.cb with lock := true } }
    let busy := live.mInj fun x => { x with isOpen := true }
    (ctrl .switch).ho.typ = some .ctrl ∧ (ctrl .switch).ho.phase = .switch ∧ (activation {} { phase := .catchup, passed := true }).ho.ticks = 0 ∧
      (ctrl .catchup).ho.passed = false ∧ (ctrl .snapshot).ho.phase = .snapshot ∧
      (activation {} { typ := some .ctrl, phase := .fallback, fbDue := some 5 }).ho.fbDue = some 5 ∧ (0 : Fin 8).val < 2 ∧
      (live.upd.dir[(0 : Fin 8)]).trial = false ∧ (ctrl .trial).ho.phase = .trial ∧ live.ho.phase ≠ .trial ∧ (port .trial).ho.typ = some .port ∧
      (port .trial).ho.phaseUp + 100000000 ≤ live.clk.upNs + 100000000 ∧ (port .trial).ring.ca.lock = false ∧ both.ring.ca.lock = true ∧
      both.ring.cb.lock = true ∧ (ctrl .trial).ho.passed = false ∧ (ctrl .trial).ho.phaseUp + 10000000000 ≤ live.clk.upNs + 10000000000 ∧
      (activation {} { phase := .trial, typ := some .ctrl, passed := true }).bankOf 0 = some 0 ∧
      live.clk.upNs + 9999999999 < (ctrl .trial).ho.phaseUp + 10000000000 ∧ (port .boot).ho.phaseUp + 1000000 ≤ live.clk.upNs + 1000000 ∧
      (port .fallback).ho.fbDue = none ∧ (port .fallback).ho.phase = .fallback ∧ live.ho.typ ≠ some .port ∧ live.pow.smUp = true ∧ safe.pow.smUp = false ∧
      safe.ho.typ = some .safe ∧ safe.ho.phase = .boot ∧ safe.ho.safeTrip = true ∧ live.hears q0 = true ∧ live.obeys q0 = true ∧
      (0x5351 : Half).toNat ≠ 0x5350 ∧ (0x5350 : Half).toNat = 0x5350 ∧ heated.obeys q0 = true ∧ heated.safe.permit = .on ∧ busy.obeys q0 = true ∧
      busy.safe.permit ≠ .on ∧ busy.inj.isOpen = true ∧ live.updOpen = false ∧ live.ho.phase = .none ∧ live.inj.isOpen = false := by
  decide +kernel

/-- What `p` says of the state that step answers. -/
def stepped (s : State) (p : State → Bool) : Bool :=
  match step s with
  | .next t => p t
  | _ => false

theorem witness_MemoryStaysCanonical : memWf live.mem = true ∧
    stepped { live with pending := [.memWrite q0 0x10070000 [1, 0, 2]] } (fun t => memWf t.mem && t.mem == [(0x10070000, 1), (0x10070002, 2)]) = true := by
  decide +kernel

theorem witness_PermitOnlyFromSm :
    steady.safe.permit ≠ .on ∧ stepped { steady with pending := [.smCycle 0 0xCF 0 0] } (fun t => t.safe.permit == .on) = true := by
  decide +kernel

theorem witness_ActiveOnlyAtTick :
    let s := (activation {} { phase := .switch, typ := some .ctrl }).mClk fun c => { c with ctNs := 999000 }
    stepped { s with pending := [.controlTick []] } (fun t => t.sys.active != s.sys.active) = true := by
  decide +kernel

theorem witness_StepRunsFront : stepped { live with pending := [.ctLoRead 0, .clkFault 0] } (fun t => t.pending == [.clkFault 0]) = true := by
  decide +kernel

/-! ### Worked examples of the spec, and the test values of the standards that it names -/

def digits : List Byte := [0x31, 0x32, 0x33, 0x34, 0x35, 0x36, 0x37, 0x38, 0x39]

/-- Table 4.3 and R837: the check values over "123456789". -/
theorem test_check_values : crc32 digits = 0xCBF43926 ∧ crc8 digits = 0xF4 := by decide +kernel

/-- The TURN trailer of chapter 3's example ends in the XOR of the bytes before it (R837). -/
theorem test_turn_check : xor8 [0x02, 0x06, 0x06, 0x81] = 0x83 := by decide

/-- FIPS 197, appendix B: the standard of R205. -/
theorem test_aes128 :
    aes128 [0x2B, 0x7E, 0x15, 0x16, 0x28, 0xAE, 0xD2, 0xA6, 0xAB, 0xF7, 0x15, 0x88, 0x09, 0xCF, 0x4F, 0x3C]
      [0x32, 0x43, 0xF6, 0xA8, 0x88, 0x5A, 0x30, 0x8D, 0x31, 0x31, 0x98, 0xA2, 0xE0, 0x37, 0x07, 0x34] =
    [0x39, 0x25, 0x84, 0x1D, 0x02, 0xDC, 0x09, 0xFB, 0xDC, 0x11, 0x85, 0x97, 0x19, 0x6A, 0x0B, 0x32] := by decide +kernel

/-- NIST SP 800-38B, example 2 of AES-128-CMAC: one whole block (R219). -/
theorem test_cmac :
    cmac [0x2B, 0x7E, 0x15, 0x16, 0x28, 0xAE, 0xD2, 0xA6, 0xAB, 0xF7, 0x15, 0x88, 0x09, 0xCF, 0x4F, 0x3C]
      [0x6B, 0xC1, 0xBE, 0xE2, 0x2E, 0x40, 0x9F, 0x96, 0xE9, 0x3D, 0x7E, 0x11, 0x73, 0x93, 0x17, 0x2A] =
    [0x07, 0x0A, 0x16, 0xB4, 0x6B, 0x4D, 0x41, 0x44, 0xF7, 0x9B, 0xDD, 0x9D, 0xD0, 0x4A, 0x28, 0x7C] := by decide +kernel

/-- FIPS 180-4: SHA-256 of "abc" (R735). -/
theorem test_sha256 :
    (sha256 [0x61, 0x62, 0x63]).take 8 = [0xBA, 0x78, 0x16, 0xBF, 0x8F, 0x01, 0xCF, 0xEA] := by decide +kernel

/-- Chapter 7: table PLEN_DP at 11.2 mA, and a broken transmitter loop (R301, R302). -/
theorem test_table_example :
    interp [(4000000, 0), (20000000, 2500000)] 11200000 = (1125000, false) ∧ interp [(4000000, 0), (20000000, 2500000)] 0 = (0, true) := by
  decide +kernel

/-- Chapter 7: LO1 repeats 84.950 °C and 85.214 °C (R324), and its fault level is upscale (R327). -/
theorem test_loop_map_example :
    let c : LoopCfg := { mode := 1, val4 := 0, val20 := 150000, ramp := 1000 }
    c.mapUa 84950 = 13061 ∧ c.mapUa 85214 = 13089 ∧ c.faultUa = 21000 := by decide +kernel

/-- The parts of crop set CR0 of chapter 8's example. -/
def wheat : List Byte :=
  [2, 2, 2, 0] ++ leBytes 2 1 ++ leBytes 2 500 ++ leBytes 2 20 ++ leBytes 2 800 ++ leBytes 2 100 ++ leBytes 2 300 ++ leBytes 2 100 ++ leBytes 2 1500 ++
    List.replicate 8 0x20 ++ leBytes 4 3400 ++ leBytes 4 12800 ++ leBytes 4 3800 ++ leBytes 4 15000 ++
    leBytes 4 20000 ++ leBytes 4 1000000 ++ leBytes 4 40000 ++ leBytes 4 1040000 ++ leBytes 4 0

/-- Chapter 8: the measurement of DP0 gives the record that host port A reads, but for its newest bytes (Table 8.2, Table 8.5). -/
theorem test_probe_example :
    let p : ProbePort := { c0 := 10000, cStray := #v[1800, 1800, 1800], ofs := -150, calgen := 3, tVal := 38200, tBad := false, cropIm := wheat, pseq := 0x04C2 }
    let r : ProbeRaw := { c := #v[49600, 44800, 43000], g := #v[16336, 56549, 389557], guardBad := false }
    let f : ProbeFaults := { open_ := false, short := false, guard := false, range := false, temp := false }
    p.moist r wheat = (14471, 3867, false, false) ∧ p.record r f false false 3605000000 =
      [0x87, 0x38, 0x00, 0x00, 0x38, 0x95, 0x00, 0x00, 0x1B, 0x0F, 0xDE, 0x01, 0xAE, 0x01, 0x9C, 0x01,
       0x04, 0x01, 0x2D, 0x00, 0x1F, 0x00, 0x00, 0x00, 0xC2, 0x04, 0x00, 0x03, 0xC0, 0x2D, 0xE0, 0xD6] := by decide +kernel

/-- Chapter 9: the target search of D04's coil, 16 Ω and 3.000 ms, ends at 32.5 V (R405); without a fit V_TGT is V_CEIL. -/
theorem test_boost_target_example :
    let p : Profile := { mode := 1, iPeak := 48, iHold := 28, iFloor := 20, tGoal := 400, tBoostMax := 600, vFloor := 28, vCeil := 48 }
    vTarget p (some { r := 16 * 2 ^ 32, tau := 3 * 2 ^ 32 }) 470000 = (3250, false) ∧ vTarget p none 470000 = (4800, false) := by decide +kernel

/-- Chapter 9: the samples of the first actuation give a fit of 16.00 Ω. -/
theorem test_fit_example :
    let p : Profile := { mode := 1, iPeak := 48, iHold := 28, iFloor := 20, tGoal := 400, tBoostMax := 600, vFloor := 28, vCeil := 48 }
    (fitOf p (16 * 2 ^ 32) 3170 4790 10996 4690).map (fun f => (f.r, f.tau * 100 / 2 ^ 32)) = some (16 * 2 ^ 32, 300) := by decide +kernel

/-- Chapter 11: FT0 at 16.400 °C gives 575; at 15.8 °C tref stays, at 15.3 °C it becomes 16.300 °C and the duty 569 (R487, R488). -/
theorem test_fan_table_example :
    let pts : List (Int × Int) := [(10000, 0), (12000, 300), (20000, 800), (25000, 1000)]
    (interp pts 16400).1 = 575 ∧ trefNext none 16400 10 = 16400 ∧ trefNext (some 16400) 15800 10 = 16400 ∧ trefNext (some 16400) 15300 10 = 16300 ∧
      (interp pts 16300).1 = 569 := by decide +kernel

/-- Chapter 12: KDRY after the exit of parcel 0 (R530). -/
theorem test_kdry_example :
    let s := prog { kind := 2, items := [(0x030E, 1), (0x030F, 1000000), (0x0310, 100)], kdry := 48000 }
    s.kdryAfter { mIn := 19800, expo := 112500 * 432000 } 14471 = 47937 := by decide +kernel

/-- Chapter 17: descriptor DS16 of the trend is SNAP to ring RB0, 6 bytes, with BURST 15, RETRY 3, TRIG TMR0, NEXT 17 and REARM (Table 17.9). -/
theorem test_descriptor_example :
    let d : List Byte := [4, 0, 0, 0, 0, 0, 0, 0, 6, 0, 0, 0, 0x0B, 0x0F, 0x0D, 0x10, 0x11, 1, 0, 0, 0, 0, 0, 0, 0, 0, 0, 0, 0, 0, 0, 0]
    dSmode d = 3 ∧ dDmode d = 2 ∧ dSrb d = 0 ∧ dDrb d = 0 ∧ dBurst d = 15 ∧ dRetry d = 3 ∧ dTrig d = 0x10 ∧ dNext d = 17 ∧ dRearm d = true ∧
      dLen d = 6 := by decide +kernel

/-- Chapter 18: the fields of the skein header. -/
theorem test_skein_example :
    let h : List Byte := [0x53, 0x4B, 0x4E, 0x31, 1, 1, 1, 0, 0, 1, 0x41, 0x6A, 4, 0, 0, 2, 3, 0, 4, 3, 2, 0, 4, 3, 0, 0, 0, 0, 0, 0, 0, 0,
      0, 8, 0x14, 0, 0, 0xA1, 0, 0]
    let k := Skein.ofBytes h
    h.take 4 = skeinMagic ∧ k.typ = .ctrl ∧ k.delta = true ∧ k.version = 0x03040003 ∧ k.imgLen = 1312768 ∧ k.payLen = 41216 := by decide +kernel

/-- Chapter 4: host port A takes the needle; the reply carries OK, HOLDER 0xF0, PREV 0x00 and TIMEOUT 0x0014 (R179). -/
theorem test_needle_example :
    (match exec (.needleTake q0 0 0x14) (live.mFrm fun f => { f with holder := .none }) with
      | .next t => (t.frm.replies[(0 : Fin 3)]).map fun r => r.payload
      | _ => []) = [[0x00, 0xF0, 0x00, 0x14, 0x00]] := by decide +kernel

/-- Chapter 13: SYS.LCH_STAT after the lichen period of node 1 (Table 13.2). -/
theorem test_lichen_register_example :
    let s := live.mLich fun l => { l with cause := 1, entry := { set := true, cnt := 1 }, heatEnd := { set := true, cnt := 1 } }
    s.regLichen 0 = 0x00010132 := by decide +kernel

/-- Chapter 11: FAN.CH_STAT7 after the last stall of F7 (Table 11.8). -/
theorem test_fan_register_example :
    let s := live.mFanCh 7 fun _ => { state := .fault, stall := { set := true, cnt := 4 }, fcode := .stall, retryLeft := 0 }
    s.regFanCh 7 0 = 0x00010105 := by decide +kernel

/-! ### `Instr.wf`: a term that each of its checks refuses, and terms that it takes -/

/-- A broadcast on the ring that carries a tag. -/
def qTagged : Req := { q0 with bcast := true, auth := true }

theorem test_wf_refuses_requests :
    ([{ q0 with seq := 65536 }, { q0 with sweep := 65536 }, { q0 with hop := 256 }, qTagged].all fun q => !q.wf) = true ∧
      q0.wf = true ∧ { qTagged with sender := .svc }.wf = true ∧ { q0 with seq := 65535, sweep := 65535, hop := 255 }.wf = true := by decide

theorem test_wf_refuses_events :
    ([.pdOnTimeout 0 68, .domainOffAfterRelease 0 68, .domainOnReached 0 68, .markReceive 0 .ca (List.replicate 11 0) 0,
      .markReceive 0 .ca (List.replicate 12 0) 10000, .frameReceive 0 .ca (List.replicate 1053 0) 0 .done, .frameReceive 0 .ca [] 256 .done,
      .frameReceive 0 .ca [] 0 (.turned [0]), .linkIdReceive 0 .ca [0, 0, 0], .eqAdapt 0 .ca 32 9 2, .eqAdapt 0 .ca 9 256 2, .eqAdapt 0 .ca 9 9 8,
      .rangeReceive 0 .ca [0, 0] 0,
      .rangeReceive 0 .ca [0, 0, 0, 0, 0] 0, .resultExpire 0 0, .resultExpire 0 0x10000, .registerWrite 0 0x3FFFFFFC 0 1,
      .registerWrite 0 0x400B0000 0 1, .registerWrite 0 0x40000002 0 1, .registerWrite 0 0x40000000 0 0, .descriptorDone 0 7, .burstBusError 0 7 0 0,
      .burstBusError 0 8 65536 0, .burstBusError 0 8 0 0x100000000, .burstRetry 0 7, .snapDeadline 0 7, .programComplete 0 0 true].all
      fun (i : Instr) => !i.wf) = true := by decide +kernel

theorem test_wf_refuses_payloads :
    ([.cfgWrite q0 1 0 0 (List.replicate 1021 0), .sessionOpen q0 0 [0], .keyLoadPlain q0 0 1 [0], .keyLoadWrapped q0 0 1 [0], .chConfig q0 [],
      .tableWrite q0 8 [1, 2], .loopConfig q0 [], .probeConfigCrop q0 0 (List.replicate 1021 0), .drvProfile q0 [], .fanConfig q0 [],
      .fanTable q0 0 [1, 2], .progLoad q0 1 1 [0], .progSet q0 1 [0], .convConfigStage q0 [], .convConfigLine q0 [], .stitchWrite q0 0 1 [0],
      .lichenConfig q0 [], .safeConfigWrite q0 [], .memWrite q0 0x20000000 [], .memWrite q0 0x20000000 (List.replicate 1017 0),
      .scConfigDescriptor q0 16 [], .updateBegin q0 [], .updateBlock q0 (List.replicate 1025 0)].all fun (i : Instr) => !i.wf) = true := by
  decide +kernel

theorem test_wf_takes :
    ([.pdOnTimeout 0 67, .markReceive 0 .ca (List.replicate 12 0) 9999, .frameReceive 0 .svc (List.replicate 1052 0) 255 (.turned (List.replicate 5 0)),
      .linkIdReceive 0 .cb [0, 0, 0, 0], .eqAdapt 0 .ca 31 255 3, .rangeReceive 0 .ca [0, 0, 0, 0] 0, .resultExpire 0 0xFFFF,
      .registerWrite 0 0x400AFFFC 0 15, .burstBusError 0 15 65535 0xFFFFFFFF, .programComplete 0 1 true, .cfgWrite q0 1 0 0 [],
      .sessionOpen q0 0 (List.replicate 8 0), .keyLoadPlain q0 0 1 (List.replicate 16 0), .tableWrite q0 8 ([1, 2] ++ List.replicate 34 0),
      .fanTable q0 0 ([3, 2] ++ List.replicate 26 0), .progLoad q0 1 1 (List.replicate 6 0), .stitchWrite q0 0 1 (List.replicate 16 0),
      .memWrite q0 0x20000000 (List.replicate 1016 0), .safeConfigWrite q0 (List.replicate 40 0), .updateBegin q0 (List.replicate 260 0),
      .smCycle 0 0 0 0, .processTick, .needleTake qB 0 0].all fun (i : Instr) => i.wf) = true := by decide +kernel

end Sys2Proof.Tests
end

section
/-! Which order of a merge window stands on a target (R186). `claims` lists the orders on a target in the order of their places, so the
first match of `find?` has the least place and the last entry the greatest; `winner` is a chain of three such choices. -/

namespace Sys2Proof.Proofs.MergeWindow

open Sys2Proof.Machine

/-! ### Choices from a list in the order of its places -/

theorem find?_least_place {c : List (Nat × Bool × Bool)} (hc : c.Pairwise fun x y => x.1 < y.1) {p : Nat × Bool × Bool → Bool}
    {x : Nat × Bool × Bool} (hx : x ∈ c) (hp : p x = true) :
    ∃ y, c.find? p = some y ∧ y ∈ c ∧ p y = true ∧ y.1 ≤ x.1 := by
  obtain ⟨y, hy⟩ := Option.isSome_iff_exists.mp (List.find?_isSome.mpr ⟨x, hx, hp⟩)
  refine ⟨y, hy, List.mem_of_find?_eq_some hy, List.find?_some hy, ?_⟩
  obtain ⟨-, before, after, rfl, hbefore⟩ := List.find?_eq_some_iff_append.mp hy
  obtain hx | hx := List.mem_append.mp hx
  · exact absurd (hbefore x hx) (by simp [hp])
  · obtain rfl | hx := List.mem_cons.mp hx
    · exact le_rfl
    · obtain ⟨-, fromChoice, -⟩ := List.pairwise_append.mp hc
      exact (List.rel_of_pairwise_cons fromChoice hx).le

theorem getLast?_greatest_place {c : List (Nat × Bool × Bool)} (hc : c.Pairwise fun x y => x.1 < y.1) {x : Nat × Bool × Bool}
    (hx : x ∈ c) : ∃ y, c.getLast? = some y ∧ y ∈ c ∧ x.1 ≤ y.1 := by
  obtain ⟨y, hy⟩ := Option.isSome_iff_exists.mp (List.getLast?_isSome.mpr (List.ne_nil_of_mem hx))
  refine ⟨y, hy, List.mem_of_getLast? hy, ?_⟩
  obtain ⟨before, rfl⟩ := List.getLast?_eq_some_iff.mp hy
  obtain hx | hx := List.mem_append.mp hx
  · exact (hc.rel_of_mem_append hx (List.mem_singleton_self y)).le
  · rw [List.mem_singleton.mp hx]

/-! ### What `claims` and `winner` are -/

/-- The orders on a target are listed in the order in which they were received. -/
theorem claims_ascending (l : List Placed) (t : Target) : (claims l t).Pairwise fun x y => x.1 < y.1 := by
  have places : l.zipIdx.Pairwise fun x y => x.2 < y.2 := by
    rw [← List.pairwise_map (f := Prod.snd) (R := (· < ·)), List.zipIdx_map_snd]
    exact List.pairwise_lt_range'
  refine places.filterMap _ fun x y hxy a ha b hb => ?_
  obtain ⟨_, -, rfl⟩ := Option.map_eq_some_iff.mp ha
  obtain ⟨_, -, rfl⟩ := Option.map_eq_some_iff.mp hb
  exact hxy

/-- R186: the first safe-direction order of the holder, else the first safe-direction order, else the last order of all. -/
theorem winner_eq (l : List Placed) (t : Target) :
    winner l t = ((((claims l t).find? fun x => x.2.1 && x.2.2).or ((claims l t).find? fun x => x.2.1)).or
      (claims l t).getLast?).map fun x => x.1 := by
  have fromHolder : ((claims l t).filter fun x => x.2.1).find? (fun x => x.2.2) = (claims l t).find? fun x => x.2.1 && x.2.2 := by
    simp [List.find?_filter]
  unfold winner
  simp only [fromHolder, ← List.head?_filter (p := fun x : Nat × Bool × Bool => x.2.1)]
  cases (claims l t).find? fun x => x.2.1 && x.2.2 with
  | some x => rfl
  | none => cases (claims l t).filter fun x => x.2.1 <;> rfl

/-! ### The three choices -/

theorem winner_of_safe_fromHolder {l : List Placed} {t : Target} {i : Nat} (hi : (i, true, true) ∈ claims l t) :
    ∃ w, winner l t = some w ∧ (w, true, true) ∈ claims l t ∧ w ≤ i := by
  obtain ⟨⟨w, safe, holder⟩, hfind, hmem, hp, hle⟩ :=
    find?_least_place (claims_ascending l t) (p := fun x => x.2.1 && x.2.2) hi rfl
  obtain ⟨rfl, rfl⟩ : safe = true ∧ holder = true := by simpa using hp
  exact ⟨w, by simp [winner_eq, hfind], hmem, hle⟩

theorem winner_of_safe {l : List Placed} {t : Target} {i : Nat} (hi : (i, true, false) ∈ claims l t)
    (hnone : ∀ j, (j, true, true) ∉ claims l t) :
    ∃ w, winner l t = some w ∧ (w, true, false) ∈ claims l t ∧ w ≤ i := by
  have noneFromHolder : ((claims l t).find? fun x => x.2.1 && x.2.2) = none := by
    simpa using hnone
  obtain ⟨⟨w, safe, holder⟩, hfind, hmem, rfl, hle⟩ := find?_least_place (claims_ascending l t) (p := fun x => x.2.1) hi rfl
  cases holder with
  | true => exact absurd hmem (hnone w)
  | false => exact ⟨w, by simp [winner_eq, noneFromHolder, hfind], hmem, hle⟩

theorem winner_of_no_safe {l : List Placed} {t : Target} {i : Nat} {h : Bool} (hi : (i, false, h) ∈ claims l t)
    (hnone : ∀ j k, (j, true, k) ∉ claims l t) :
    ∃ w k, winner l t = some w ∧ (w, false, k) ∈ claims l t ∧ i ≤ w := by
  have noneFromHolder : ((claims l t).find? fun x => x.2.1 && x.2.2) = none := by
    simpa using fun j => hnone j true
  have noneSafe : ((claims l t).find? fun x => x.2.1) = none := by
    simpa using hnone
  obtain ⟨⟨w, safe, k⟩, hlast, hmem, hle⟩ := getLast?_greatest_place (claims_ascending l t) hi
  cases safe with
  | true => exact absurd hmem (hnone w k)
  | false => exact ⟨w, k, by simp [winner_eq, noneFromHolder, noneSafe, hlast], hmem, hle⟩

theorem winner_of_no_claims {l : List Placed} {t : Target} (h : claims l t = []) : winner l t = none := by
  simp [winner_eq, h]

/-- Settles O16: each clause is one of the three choices that `winner` makes in turn, or none where no order names the target. -/
theorem mergeWinner : Obligations.MergeWinner := by
  unfold Obligations.MergeWinner
  intro l t
  exact ⟨fun _ => winner_of_safe_fromHolder, fun _ => winner_of_safe, fun _ _ => winner_of_no_safe, winner_of_no_claims⟩

end Sys2Proof.Proofs.MergeWindow
end

section
/-! Linearisation between breakpoints and beyond them (R301, R302). `roundDiv` is the nearest integer with halves away from zero. The
search of `interp` skips every breakpoint before one at or below X, so it comes down to the two breakpoints around X or to the last one. -/

namespace Sys2Proof.Proofs.Interpolation

open Sys2Proof.Machine

/-! ### Rounding -/

/-- `v` is the quotient `num / d` rounded to the nearest integer, halves away from zero (R301). -/
def Nearest (v num d : Int) : Prop :=
  2 * (v * d - num).natAbs ≤ d.natAbs ∧ (2 * (v * d - num).natAbs = d.natAbs → num.natAbs < (v * d).natAbs)

theorem Nearest.neg {v num d : Int} (h : Nearest v num d) : Nearest (-v) (-num) d := by
  unfold Nearest at *
  rw [Int.neg_mul]
  omega

theorem roundDiv_neg_of_pos {a : Int} (ha : 0 < a) (d : Nat) : roundDiv (-a) d = -roundDiv a d := by
  rw [roundDiv, if_pos (by omega), neg_neg, roundDiv, if_neg (by omega)]

theorem roundDiv_nearest_of_nonneg {a : Int} (ha : 0 ≤ a) {d : Nat} (hd : 0 < d) : Nearest (roundDiv a d) a d := by
  have pos : 0 < ((2 * d : Nat) : Int) := by omega
  have below : roundDiv a d * (2 * d : Nat) ≤ 2 * a + d := by
    rw [roundDiv, if_neg (by omega)]
    exact Int.ediv_mul_le _ pos.ne'
  have above : 2 * a + d < (roundDiv a d + 1) * (2 * d : Nat) := by
    rw [roundDiv, if_neg (by omega)]
    exact Int.lt_ediv_add_one_mul_self _ pos
  have twice : roundDiv a d * (2 * d : Nat) = 2 * (roundDiv a d * d) := by push_cast; ring
  unfold Nearest
  rw [Int.add_mul, twice] at above
  rw [twice] at below
  omega

theorem roundDiv_nearest (a : Int) {d : Nat} (hd : 0 < d) : Nearest (roundDiv a d) a d := by
  obtain ha | ha := le_or_gt 0 a
  · exact roundDiv_nearest_of_nonneg ha hd
  · rw [← neg_neg a, roundDiv_neg_of_pos (by omega) d]
    exact (roundDiv_nearest_of_nonneg (by omega) hd).neg

theorem roundDiv_mul_self (k : Int) {d : Nat} (hd : 0 < d) : roundDiv (k * d) d = k := by
  obtain ⟨close, -⟩ := roundDiv_nearest (k * d) hd
  rw [← Int.sub_mul, Int.natAbs_mul, Int.natAbs_natCast, ← Nat.mul_assoc] at close
  have : 2 * (roundDiv (k * d) d - k).natAbs ≤ 1 := Nat.le_of_mul_le_mul_right (by omega) hd
  omega

/-! ### A value on the line through two breakpoints -/

theorem lerp_nearest {a b : Int × Int} (x : Int) (h : a.1 < b.1) :
    Nearest (lerp a b x) (a.2 * (b.1 - a.1) + (x - a.1) * (b.2 - a.2)) (b.1 - a.1) := by
  have near := roundDiv_nearest (a.2 * (b.1 - a.1) + (x - a.1) * (b.2 - a.2)) (d := (b.1 - a.1).toNat) (by omega)
  rwa [Int.toNat_of_nonneg (by omega)] at near

/-- Where the line passes through an integer, the rounding leaves it as it is. -/
theorem lerp_eq_of_exact {a b : Int × Int} {x y : Int} (h : a.1 < b.1)
    (whole : a.2 * (b.1 - a.1) + (x - a.1) * (b.2 - a.2) = y * (b.1 - a.1)) : lerp a b x = y := by
  have rounded := roundDiv_mul_self y (d := (b.1 - a.1).toNat) (by omega)
  rwa [Int.toNat_of_nonneg (by omega), ← whole] at rounded

theorem lerp_left {a b : Int × Int} (h : a.1 < b.1) : lerp a b a.1 = a.2 :=
  lerp_eq_of_exact h (by ring)

theorem lerp_right {a b : Int × Int} (h : a.1 < b.1) : lerp a b b.1 = b.2 :=
  lerp_eq_of_exact h (by ring)

/-! ### The search -/

theorem risesX_pairwise {pts : List (Int × Int)} (h : risesX pts = true) : pts.Pairwise fun p q => p.1 < q.1 := by
  refine List.isChain_iff_pairwise.mp ?_
  induction pts with
  | nil => exact .nil
  | cons a r ih =>
    cases r with
    | nil => exact .singleton a
    | cons b r =>
      obtain ⟨hab, hr⟩ : a.1 < b.1 ∧ risesX (b :: r) = true := by simpa [risesX] using h
      exact .cons_cons hab (ih hr)

theorem interpFrom_append {pre post : List (Int × Int)} {a : Int × Int} {x : Int}
    (rises : (pre ++ a :: post).Pairwise fun p q => p.1 < q.1) (hx : a.1 ≤ x) :
    interpFrom (pre ++ a :: post) x = interpFrom (a :: post) x := by
  induction pre with
  | nil => rfl
  | cons c pre ih =>
    have rest := ih rises.of_cons
    cases pre with
    | nil => exact if_neg (by omega)
    | cons e pre =>
      have hea : e.1 < a.1 := List.rel_of_pairwise_cons rises.of_cons (by simp)
      have skip : interpFrom (c :: e :: (pre ++ a :: post)) x = interpFrom (e :: (pre ++ a :: post)) x := if_neg (by omega)
      exact skip.trans rest

theorem interp_append {pre post : List (Int × Int)} {a : Int × Int} {x : Int}
    (rises : (pre ++ a :: post).Pairwise fun p q => p.1 < q.1) (hx : a.1 ≤ x) :
    interp (pre ++ a :: post) x = interpFrom (a :: post) x := by
  rw [← interpFrom_append rises hx]
  cases pre with
  | nil => exact if_neg (by omega)
  | cons c pre =>
    have hca : c.1 < a.1 := List.rel_of_pairwise_cons rises (by simp)
    exact if_neg (by omega)

theorem interpFrom_head {b : Int × Int} {post : List (Int × Int)} (rises : (b :: post).Pairwise fun p q => p.1 < q.1) :
    interpFrom (b :: post) b.1 = (b.2, false) := by
  cases post with
  | nil => simp [interpFrom]
  | cons c post =>
    have hbc : b.1 < c.1 := List.rel_of_pairwise_cons rises (by simp)
    rw [interpFrom, if_pos hbc, lerp_left hbc]

/-- At the right breakpoint the search goes on to the segment that begins there, which gives the same value. -/
theorem interpFrom_segment {a b : Int × Int} {post : List (Int × Int)} {x : Int}
    (rises : (a :: b :: post).Pairwise fun p q => p.1 < q.1) (hx : x ≤ b.1) :
    interpFrom (a :: b :: post) x = (lerp a b x, false) := by
  have hab : a.1 < b.1 := List.rel_of_pairwise_cons rises (by simp)
  rw [interpFrom]
  obtain hx | rfl := hx.lt_or_eq
  · rw [if_pos hx]
  · rw [if_neg (lt_irrefl _), interpFrom_head rises.of_cons, lerp_right hab]

/-! ### Between breakpoints, below the first and above the last -/

theorem interp_between {pre post : List (Int × Int)} {a b : Int × Int} {x : Int} (rises : risesX (pre ++ a :: b :: post) = true)
    (hax : a.1 ≤ x) (hxb : x ≤ b.1) : a.1 < b.1 ∧ interp (pre ++ a :: b :: post) x = (lerp a b x, false) := by
  have rises := risesX_pairwise rises
  obtain ⟨-, segment, -⟩ := List.pairwise_append.mp rises
  exact ⟨List.rel_of_pairwise_cons segment (by simp), (interp_append rises hax).trans (interpFrom_segment segment hxb)⟩

theorem interp_below {a : Int × Int} {post : List (Int × Int)} {x : Int} (hx : x < a.1) : interp (a :: post) x = (a.2, true) :=
  if_pos hx

theorem interp_above {pre : List (Int × Int)} {b : Int × Int} {x : Int} (rises : risesX (pre ++ [b]) = true) (hx : b.1 < x) :
    interp (pre ++ [b]) x = (b.2, true) := by
  rw [interp_append (risesX_pairwise rises) hx.le, interpFrom, decide_eq_true hx]

/-- Settles O27: between two neighbouring breakpoints the search gives the rounded value of their line; beyond the ends it clamps. -/
theorem interpolationExact : Obligations.InterpolationExact := by
  unfold Obligations.InterpolationExact
  intro pts x rises
  refine ⟨?_, ?_, ?_⟩
  · rintro pre a b post rfl hax hxb
    obtain ⟨hab, value⟩ := interp_between rises hax hxb
    rw [value]
    exact ⟨rfl, lerp_nearest x hab⟩
  · rintro a post rfl hx
    exact interp_below hx
  · rintro pre b rfl hx
    exact interp_above rises hx

end Sys2Proof.Proofs.Interpolation
end

section
/-! Every command answers a next state that shares with its start each part which `touches` does not name. -/

namespace Sys2Proof.Proofs.Commands

open Sys2Proof.Machine

/-- The frame of every command, assembled from the frames that `Laws/TouchCommands` gives command by command. -/
theorem exec_touches (i : Instr) (s : State) : ∃ u, exec i s = .next u ∧ Only (touches i) s u := by
  cases i with
  | vsLogicPowerUp dt => exact execVsLogicPowerUp_only dt s
  | sporeSample dt high => exact execSporeSample_only dt high s
  | smStart dt selfOk => exact execSmStart_only dt selfOk s
  | ringReady dt lockA lockB => exact execRingReady_only dt lockA lockB s
  | ctrlRunning dt => exact execCtrlRunning_only dt s
  | vsLogicPowerDown dt => exact execVsLogicPowerDown_only dt s
  | vsLogicRecoverInPowerDown dt => exact execVsLogicRecoverInPowerDown_only dt s
  | vsPowerUndervoltage dt => exact execVsPowerUndervoltage_only dt s
  | vsPowerOvervoltage dt => exact execVsPowerOvervoltage_only dt s
  | vsPowerRestored dt => exact execVsPowerRestored_only dt s
  | pdOnTimeout dt pd => exact execPdOnTimeout_only dt pd s
  | domainOffAfterRelease dt pd => exact execDomainOffAfterRelease_only dt pd s
  | clkFault dt => exact execClkFault_only dt s
  | fullReset dt => exact execFullReset_only dt s
  | avsAdjust dt up => exact execAvsAdjust_only dt up s
  | mossShutdown dt => exact execMossShutdown_only dt s
  | wakeSymbolRx dt port => exact execWakeSymbolRx_only dt port s
  | di00Wake dt rising => exact execDi00Wake_only dt rising s
  | svcWake dt => exact execSvcWake_only dt s
  | controlTick meas => exact execControlTick_only meas s
  | tickCommit dt => exact execTickCommit_only dt s
  | coreWatchdogFail dt => exact execCoreWatchdogFail_only dt s
  | stbyWriteDropped dt => exact execStbyWriteDropped_only dt s
  | processTick => exact execProcessTick_only s
  | snapshotPublish => exact execSnapshotPublish_only s
  | markReceive dt port mark cyc => exact execMarkReceive_only dt port mark cyc s
  | markSourceTimeout dt => exact execMarkSourceTimeout_only dt s
  | markHoldover dt => exact execMarkHoldover_only dt s
  | ctSaturate dt => exact execCtSaturate_only dt s
  | frameReceive dt lane body hop ending => exact execFrameReceive_only dt lane body hop ending s
  | replySend dt lane => exact execReplySend_only dt lane s
  | keptFrameRelease dt port => exact execKeptFrameRelease_only dt port s
  | linkIdSend dt port => exact execLinkIdSend_only dt port s
  | linkIdReceive dt port bytes => exact execLinkIdReceive_only dt port bytes s
  | eqAdapt dt port best eye pe => exact execEqAdapt_only dt port best eye pe s
  | marginLowDetect dt port => exact execMarginLowDetect_only dt port s
  | rangeRequestSend dt port => exact execRangeRequestSend_only dt port s
  | rangeReceive dt port bytes elapsed => exact execRangeReceive_only dt port bytes elapsed s
  | lossOfLock dt port cause ns n => exact execLossOfLock_only dt port cause ns n s
  | relock dt port => exact execRelock_only dt port s
  | turnaroundExit dt port => exact execTurnaroundExit_only dt port s
  | rateSearchSwitch dt port => exact execRateSearchSwitch_only dt port s
  | ringRateSwitch dt => exact execRingRateSwitch_only dt s
  | wakeSymbolSend dt port => exact execWakeSymbolSend_only dt port s
  | wakeSeen dt port => exact execWakeSeen_only dt port s
  | ringStatus q => exact execRingStatus_only q s
  | castOn q base mode => exact execCastOn_only q base mode s
  | addrAssign q serial addr pin => exact execAddrAssign_only q serial addr pin s
  | addrPin q pin => exact execAddrPin_only q pin s
  | bindOff q unpin => exact execBindOff_only q unpin s
  | ringRate q rate bidx => exact execRingRate_only q rate bidx s
  | wakeSend q portN => exact execWakeSend_only q portN s
  | sweepResume q bidx => exact execSweepResume_only q bidx s
  | sweep q bidx => exact execSweep_only q bidx s
  | needleTake q flags timeout => exact execNeedleTake_only q flags timeout s
  | needleGiveRelease q => exact execNeedleGiveRelease_only q s
  | needleGiveLichen q => exact execNeedleGiveLichen_only q s
  | pollResult q ticket => exact execPollResult_only q ticket s
  | resultExpire dt ticket => exact execResultExpire_only dt ticket s
  | mossEnter q => exact execMossEnter_only q s
  | identify q => exact execIdentify_only q s
  | statusRead q => exact execStatusRead_only q s
  | reset q kind => exact execReset_only q kind s
  | hostTimeoutExpire => exact execHostTimeoutExpire_only s
  | cfgRead q source cls index => exact execCfgRead_only q source cls index s
  | cfgWrite q cls pad index item => exact execCfgWrite_only q cls pad index item s
  | cfgSave q mode => exact execCfgSave_only q mode s
  | cfgSaveDone dt readOk => exact execCfgSaveDone_only dt readOk s
  | sessionOpen q slot nonceH => exact execSessionOpen_only q slot nonceH s
  | sessionClose q => exact execSessionClose_only q s
  | keyLoadPlain q slot keyver key => exact execKeyLoadPlain_only q slot keyver key s
  | keyLoadWrapped q slot keyver wrapped => exact execKeyLoadWrapped_only q slot keyver wrapped s
  | keyLoadErase q slot keyver => exact execKeyLoadErase_only q slot keyver s
  | sessionStatus q => exact execSessionStatus_only q s
  | pendingSessionExpire dt sender => exact execPendingSessionExpire_only dt sender s
  | scanStart dt group => exact execScanStart_only dt group s
  | checkSlotEnd dt group zero ref => exact execCheckSlotEnd_only dt group zero ref s
  | conversionEnd dt ch raw clamp => exact execConversionEnd_only dt ch raw clamp s
  | cjSampleEnd dt pairN a b => exact execCjSampleEnd_only dt pairN a b s
  | ovdTrip dt ch positive => exact execOvdTrip_only dt ch positive s
  | ovdClear dt ch => exact execOvdClear_only dt ch s
  | chConfig q item => exact execChConfig_only q item s
  | chStatus q chN count => exact execChStatus_only q chN count s
  | scanConfig q group mode period => exact execScanConfig_only q group mode period s
  | tableRead q table => exact execTableRead_only q table s
  | tableWrite q table image => exact execTableWrite_only q table image s
  | tableErase q table => exact execTableErase_only q table s
  | readResults q bidx chN count => exact execReadResults_only q bidx chN count s
  | readResultsFull q bidx chN count => exact execReadResultsFull_only q bidx chN count s
  | loopConfig q item => exact execLoopConfig_only q item s
  | loopSetSet q lo current => exact execLoopSetSet_only q lo current s
  | loopSetClose q lo current => exact execLoopSetClose_only q lo current s
  | loopSetResume q lo current => exact execLoopSetResume_only q lo current s
  | loopStatus q lo count => exact execLoopStatus_only q lo count s
  | loopOpenDetect dt lo => exact execLoopOpenDetect_only dt lo s
  | loopShortDetect dt lo => exact execLoopShortDetect_only dt lo s
  | loopDevDetect dt lo => exact execLoopDevDetect_only dt lo s
  | probeCycleStart dt => exact execProbeCycleStart_only dt s
  | probeMeasureEnd dt cL gL cM gM cH gH guardBad => exact execProbeMeasureEnd_only dt cL gL cM gM cH gH guardBad s
  | probeReadSnapshot q bidx portN count => exact execProbeReadSnapshot_only q bidx portN count s
  | probeReadConfig q portN count => exact execProbeReadConfig_only q portN count s
  | probeReadCrop q cslot => exact execProbeReadCrop_only q cslot s
  | probeConfigPort q portN en tch crop c0 => exact execProbeConfigPort_only q portN en tch crop c0 s
  | probeConfigCrop q cslot image => exact execProbeConfigCrop_only q cslot image s
  | probeConfigCropErase q cslot => exact execProbeConfigCropErase_only q cslot s
  | probeConfigCycle q period startOfs => exact execProbeConfigCycle_only q period startOfs s
  | probeCalAir q portN => exact execProbeCalAir_only q portN s
  | probeCalSample q portN mOven mRec calgen => exact execProbeCalSample_only q portN mOven mRec calgen s
  | probeCalApply q portN => exact execProbeCalApply_only q portN s
  | probeCalReset q portN => exact execProbeCalReset_only q portN s
  | probeCalDiscard q portN => exact execProbeCalDiscard_only q portN s
  | drvCmdOn q chN arg mask => exact execDrvCmdOn_only q chN arg mask s
  | drvCmdPulse q chN arg mask => exact execDrvCmdPulse_only q chN arg mask s
  | drvCmdRelease q chN arg mask => exact execDrvCmdRelease_only q chN arg mask s
  | drvCmdSetI q chN arg mask => exact execDrvCmdSetI_only q chN arg mask s
  | drvCmdLatchA q chN arg mask => exact execDrvCmdLatchA_only q chN arg mask s
  | drvCmdLatchB q chN arg mask => exact execDrvCmdLatchB_only q chN arg mask s
  | drvCmdReleaseMask q chN arg mask => exact execDrvCmdReleaseMask_only q chN arg mask s
  | drvProfile q item => exact execDrvProfile_only q item s
  | drvStatus q chN count => exact execDrvStatus_only q chN count s
  | drvEnergy q chN count => exact execDrvEnergy_only q chN count s
  | drvPair q chN => exact execDrvPair_only q chN s
  | drvUnpair q chN => exact execDrvUnpair_only q chN s
  | drvBudget q budget => exact execDrvBudget_only q budget s
  | risePeakReached dt ch points vRes => exact execRisePeakReached_only dt ch points vRes s
  | tBoostMaxExpire dt ch iHs iLs points vRes => exact execTBoostMaxExpire_only dt ch iHs iLs points vRes s
  | dwellEnd dt ch held energy => exact execDwellEnd_only dt ch held energy s
  | decayEnd dt ch => exact execDecayEnd_only dt ch s
  | pulseEnd dt ch => exact execPulseEnd_only dt ch s
  | tHoldMaxExpire dt ch => exact execTHoldMaxExpire_only dt ch s
  | releaseEnd dt ch x => exact execReleaseEnd_only dt ch x s
  | pairReverseRise dt ch => exact execPairReverseRise_only dt ch s
  | reservoirCharged dt ch vRes => exact execReservoirCharged_only dt ch vRes s
  | boostOrderReview dt => exact execBoostOrderReview_only dt s
  | offStateSample dt ch vDh vDl => exact execOffStateSample_only dt ch vDh vDl s
  | drvShortSupDetect dt ch x => exact execDrvShortSupDetect_only dt ch x s
  | drvShortLoadDetect dt ch x => exact execDrvShortLoadDetect_only dt ch x s
  | drvShortGndDetect dt ch x => exact execDrvShortGndDetect_only dt ch x s
  | drvOpenDetect dt ch ma ns full => exact execDrvOpenDetect_only dt ch ma ns full s
  | boostWaitReady dt ch vRes => exact execBoostWaitReady_only dt ch vRes s
  | tBoostWaitExpire dt ch => exact execTBoostWaitExpire_only dt ch s
  | drvOvertemp dt ch tj => exact execDrvOvertemp_only dt ch tj s
  | drvOvertempRecover dt ch tj => exact execDrvOvertempRecover_only dt ch tj s
  | legConflictDetect dt ch => exact execLegConflictDetect_only dt ch s
  | drvRetryTimer dt ch => exact execDrvRetryTimer_only dt ch s
  | drvRetryRestore dt ch => exact execDrvRetryRestore_only dt ch s
  | drvDiagConfig q chN offEn retryMode retryMax retryT pfLimit => exact execDrvDiagConfig_only q chN offEn retryMode retryMax retryT pfLimit s
  | drvDiagDirect q chN sw dur => exact execDrvDiagDirect_only q chN sw dur s
  | directDriveEnd dt ch peak => exact execDirectDriveEnd_only dt ch peak s
  | drvFaultClear q mask flags => exact execDrvFaultClear_only q mask flags s
  | fanTargetForm dt => exact execFanTargetForm_only dt s
  | fanSpinUpEnd dt ch => exact execFanSpinUpEnd_only dt ch s
  | fanStallDetect dt ch => exact execFanStallDetect_only dt ch s
  | fanRetryTimer dt ch => exact execFanRetryTimer_only dt ch s
  | fanRetryRestore dt ch => exact execFanRetryRestore_only dt ch s
  | fanElectricalFault dt ch what => exact execFanElectricalFault_only dt ch what s
  | fanOvertempRecover dt ch tj => exact execFanOvertempRecover_only dt ch tj s
  | fanFailoverExit dt group => exact execFanFailoverExit_only dt group s
  | airOkUpdate dt => exact execAirOkUpdate_only dt s
  | shootBlockDetect dt ch => exact execShootBlockDetect_only dt ch s
  | fanCmdSet q chN arg mask => exact execFanCmdSet_only q chN arg mask s
  | fanCmdFailover q chN arg mask => exact execFanCmdFailover_only q chN arg mask s
  | fanCmdResume q chN arg mask => exact execFanCmdResume_only q chN arg mask s
  | fanConfig q item => exact execFanConfig_only q item s
  | fanTable q tnum image => exact execFanTable_only q tnum image s
  | fanGroup q group members nAir foDuty foHold pad => exact execFanGroup_only q group members nAir foDuty foHold pad s
  | fanStatus q chN count => exact execFanStatus_only q chN count s
  | fanRetry q mask flags => exact execFanRetry_only q mask flags s
  | progLoad q prog count items => exact execProgLoad_only q prog count items s
  | progStartStart q => exact execProgStartStart_only q s
  | progStartResume q => exact execProgStartResume_only q s
  | progStopOrderly q => exact execProgStopOrderly_only q s
  | progStopHold q => exact execProgStopHold_only q s
  | progStopAbort q => exact execProgStopAbort_only q s
  | progStatusSummary q => exact execProgStatusSummary_only q s
  | progStatusParcels q first count => exact execProgStatusParcels_only q first count s
  | progSet q count items => exact execProgSet_only q count items s
  | dischargeStroke dt => exact execDischargeStroke_only dt s
  | parcelStore dt => exact execParcelStore_only dt s
  | aerationDecision dt => exact execAerationDecision_only dt s
  | convCmdStart q arg => exact execConvCmdStart_only q arg s
  | convCmdStopUpstream q arg => exact execConvCmdStopUpstream_only q arg s
  | convCmdStopNow q arg => exact execConvCmdStopNow_only q arg s
  | convCmdReset q arg => exact execConvCmdReset_only q arg s
  | convConfigStage q item => exact execConvConfigStage_only q item s
  | convConfigLine q item => exact execConvConfigLine_only q item s
  | stageStartDelay dt stage => exact execStageStartDelay_only dt stage s
  | stageClearDelay dt stage => exact execStageClearDelay_only dt stage s
  | stageProveTimeout dt stage => exact execStageProveTimeout_only dt stage s
  | diFilterChange dt di level ns => exact execDiFilterChange_only dt di level ns s
  | stitchWrite q first count entries => exact execStitchWrite_only q first count entries s
  | stitchClear q first count => exact execStitchClear_only q first count s
  | stitchStatus q first count => exact execStitchStatus_only q first count s
  | stitchExecute dt => exact execStitchExecute_only dt s
  | energyRead q => exact execEnergyRead_only q s
  | energyReadRestart q => exact execEnergyReadRestart_only q s
  | lichenConfig q item => exact execLichenConfig_only q item s
  | lichenHeatExpire dt => exact execLichenHeatExpire_only dt s
  | thermSample dt t => exact execThermSample_only dt t s
  | ts7PeriodTimer dt => exact execTs7PeriodTimer_only dt s
  | ts7SampleEnd dt t => exact execTs7SampleEnd_only dt t s
  | ts7Stale dt => exact execTs7Stale_only dt s
  | thermalShutdown dt => exact execThermalShutdown_only dt s
  | shutdownExit dt => exact execShutdownExit_only dt s
  | thermRead q flags => exact execThermRead_only q flags s
  | thermReadSample q flags => exact execThermReadSample_only q flags s
  | thermConfig q tStart ts7Period pad => exact execThermConfig_only q tStart ts7Period pad s
  | smCycle dt levels hpA hpB => exact execSmCycle_only dt levels hpA hpB s
  | testOutputPulse dt ofB own other => exact execTestOutputPulse_only dt ofB own other s
  | siDiscrepancy dt input => exact execSiDiscrepancy_only dt input s
  | hpTestPulse dt ofB v => exact execHpTestPulse_only dt ofB v s
  | hpOpenDetect dt ofB ua ns => exact execHpOpenDetect_only dt ofB ua ns s
  | airflowLoss dt => exact execAirflowLoss_only dt s
  | airOkDisagree dt group => exact execAirOkDisagree_only dt group s
  | flameOffTimeout dt => exact execFlameOffTimeout_only dt s
  | flameProveTimeout dt => exact execFlameProveTimeout_only dt s
  | smLockstepMismatch dt => exact execSmLockstepMismatch_only dt s
  | smEccError dt => exact execSmEccError_only dt s
  | smWatchdogMiss dt ns => exact execSmWatchdogMiss_only dt ns s
  | hpBEnableStatic dt => exact execHpBEnableStatic_only dt s
  | scrcRecheck dt good => exact execScrcRecheck_only dt good s
  | safeStatus q => exact execSafeStatus_only q s
  | permitRequest q => exact execPermitRequest_only q s
  | permitDrop q => exact execPermitDrop_only q s
  | safeConfigWrite q image => exact execSafeConfigWrite_only q image s
  | safeConfigConfirm q scrc => exact execSafeConfigConfirm_only q scrc s
  | safeConfigExpire dt => exact execSafeConfigExpire_only dt s
  | safeConfigRead q which => exact execSafeConfigRead_only q which s
  | proofTestPermit q => exact execProofTestPermit_only q s
  | proofTestRelease q => exact execProofTestRelease_only q s
  | proofTestReport q => exact execProofTestReport_only q s
  | proofTestDone dt pass fstep detail => exact execProofTestDone_only dt pass fstep detail s
  | safeReset q mask => exact execSafeReset_only q mask s
  | ptAgeDay dt => exact execPtAgeDay_only dt s
  | testOpen q flags timeout => exact execTestOpen_only q flags timeout s
  | inject q injId tgt arg dur => exact execInject_only q injId tgt arg dur s
  | injectClear q slot => exact execInjectClear_only q slot s
  | testClose q => exact execTestClose_only q s
  | injectExpire dt slot => exact execInjectExpire_only dt slot s
  | testTimeout dt => exact execTestTimeout_only dt s
  | flagClear q addr mask => exact execFlagClear_only q addr mask s
  | logRead q first count => exact execLogRead_only q first count s
  | logInfo q => exact execLogInfo_only q s
  | countersRead q => exact execCountersRead_only q s
  | logEntryWrite dt torn => exact execLogEntryWrite_only dt torn s
  | memRead q addr len => exact execMemRead_only q addr len s
  | memWrite q addr bytes => exact execMemWrite_only q addr bytes s
  | registerWrite dt addr value strobes => exact execRegisterWrite_only dt addr value strobes s
  | rbRdWrite dt rb value => exact execRbRdWrite_only dt rb value s
  | ctLoRead dt => exact execCtLoRead_only dt s
  | scConfigDescriptor q slot desc => exact execScConfigDescriptor_only q slot desc s
  | scConfigTimer q tmr period phase => exact execScConfigTimer_only q tmr period phase s
  | scConfigRing q rb base size hi lo => exact execScConfigRing_only q rb base size hi lo s
  | scConfigChannel q chN first => exact execScConfigChannel_only q chN first s
  | scStartArm q chN => exact execScStartArm_only q chN s
  | scStartRunNow q chN => exact execScStartRunNow_only q chN s
  | scStartResume q chN => exact execScStartResume_only q chN s
  | scStartRestart q chN => exact execScStartRestart_only q chN s
  | scStopChainEnd q chN => exact execScStopChainEnd_only q chN s
  | scStopBurstEnd q chN => exact execScStopBurstEnd_only q chN s
  | scStatus q chN count => exact execScStatus_only q chN count s
  | streamTimerFire dt tmr => exact execStreamTimerFire_only dt tmr s
  | descriptorDone dt ch => exact execDescriptorDone_only dt ch s
  | burstBusError dt ch offset addr => exact execBurstBusError_only dt ch offset addr s
  | burstRetry dt ch => exact execBurstRetry_only dt ch s
  | snapDeadline dt ch => exact execSnapDeadline_only dt ch s
  | updateBegin q payload => exact execUpdateBegin_only q payload s
  | updateBeginChecked dt => exact execUpdateBeginChecked_only dt s
  | flashEraseDone dt blankOk => exact execFlashEraseDone_only dt blankOk s
  | updateBlock q payload => exact execUpdateBlock_only q payload s
  | programComplete dt words readOk => exact execProgramComplete_only dt words readOk s
  | updateVerify q tid => exact execUpdateVerify_only q tid s
  | verifyDone dt => exact execVerifyDone_only dt s
  | updateCommit q tid => exact execUpdateCommit_only q tid s
  | updateAbort q tid => exact execUpdateAbort_only q tid s
  | updateStatus q => exact execUpdateStatus_only q s
  | handoverBootDone dt accepted pages => exact execHandoverBootDone_only dt accepted pages s
  | handoverBootTimeout dt => exact execHandoverBootTimeout_only dt s
  | catchupTimeout dt => exact execCatchupTimeout_only dt s
  | selfCheckReport dt pass => exact execSelfCheckReport_only dt pass s
  | trialWindowEnd dt => exact execTrialWindowEnd_only dt s
  | smRestartDone dt testOk => exact execSmRestartDone_only dt testOk s
  | portReload dt => exact execPortReload_only dt s
  | portLockTimeout dt => exact execPortLockTimeout_only dt s
  | imageInfo q => exact execImageInfo_only q s
  | handoverStatus q => exact execHandoverStatus_only q s
  | sporeEnter q key => exact execSporeEnter_only q key s
  | tachEdge dt ch => exact execTachEdge_only dt ch s
  | domainOnReached dt pd => exact execDomainOnReached_only dt pd s
  | sramEccError dt => exact execSramEccError_only dt s
  | estopPathOpen dt => exact execEstopPathOpen_only dt s

end Sys2Proof.Proofs.Commands
end

section
/-! Where the heat permit can come on (R573, R636). A cycle of SM removes for its findings first and grants last, and it grants only where
`missing` is 0; every other command keeps a permit that is not on as it is, or sets it to a state that is not on either. -/

namespace Sys2Proof.Proofs.PermitSource

open Sys2Proof.Machine Sys2Proof.Proofs.Commands

/-! ### What a cycle of SM does before its grant -/

theorem siCycle_permit (s : State) (i : Fin 4) (a b : Bool) : PermitKept s (s.siCycle i a b) := by
  have h : ∀ (f : Safe → Safe), (∀ x, (f x).permit = x.permit) → PermitKept s (s.mSafe f) :=
    fun f hf => State.mSafe_permit _ _ (fun x e => hf x ▸ e) PermitKept.rfl
  unfold State.siCycle
  exact PermitKept.ite (State.siEnter_permit _ _ (h _ fun _ => rfl)) (h _ fun _ => rfl)

theorem airCycle_permit (s : State) : PermitKept s s.airCycle := id

theorem hpSample_permit (s : State) (a b : Nat) : PermitKept s (s.hpSample a b) := by
  unfold State.hpSample
  refine PermitKept.ite id (PermitKept.ite ?_ id)
  exact State.detected_permit _ _ _ _ (State.safetyFinding_permit _ _ _ _ id)

theorem heatMapInject_permit (s : State) : PermitKept s s.heatMapInject :=
  PermitKept.each PermitKept.rfl fun _ _ => PermitKept.ite (State.safetyFinding_permit _ _ _ _ PermitKept.rfl) PermitKept.rfl

theorem relInject_permit (s : State) : PermitKept s s.relInject :=
  PermitKept.each PermitKept.rfl fun _ _ =>
    PermitKept.ite (State.detected_permit _ _ _ _ (State.setLatch_permit _ _ _ _ PermitKept.rfl)) PermitKept.rfl

theorem onCycle_permit (s : State) : PermitKept s s.onCycle := by
  have removes : ∀ r k, PermitKept s (s.removePermit r k false) := fun r k => State.removePermit_permit _ _ _ _ PermitKept.rfl
  unfold State.onCycle
  exact PermitKept.ite PermitKept.rfl (PermitKept.ite (removes _ _) (PermitKept.ite (removes _ _) (PermitKept.ite (removes _ _) id)))

/-! ### What the grant asks for and what it leaves -/

theorem pack_bit_eq_zero {b : Bool} {r : List (Nat × Nat)} : pack ((1, bit b) :: r) = 0 ↔ b = false ∧ pack r = 0 := by
  cases b <;> simp [pack, bit]

/-- The conditions of Table 15.6 that O58 names: heat is enabled, no latch is set, CTRL asks for heat and runs, lichen mode does not hold
the needle, and no test session is open. -/
def HeatAllowed (s : State) : Prop :=
  s.safe.cfg.heatEn = true ∧ s.safe.anyLatch = false ∧ s.safe.ctrlReq = true ∧ s.frm.holder ≠ .lichen ∧ s.pow.stage = .running ∧
    s.inj.isOpen = false

theorem heatAllowed_of_missing_eq_zero {s : State} (off : s.safe.permit ≠ .on) (m : s.missing = 0) : HeatAllowed s := by
  have hp : s.permitOn = false := beq_false_of_ne off
  simp only [State.missing, hp, Bool.false_eq_true, if_false, pack_bit_eq_zero] at m
  obtain ⟨heat, latch, -, req, lichen, -, -, -, -, -, -, test, ctrl, -⟩ := m
  simp only [State.lichenHolds, State.ctrlRuns, Bool.or_eq_false_iff, Bool.not_eq_false', beq_iff_eq, beq_eq_false_iff_ne]
    at heat req lichen test ctrl
  exact ⟨heat, latch, req, lichen, ctrl.1, test.1⟩

/-- The grant itself writes none of the fields that these conditions read. -/
theorem HeatAllowed.grant {s : State} (h : HeatAllowed s) : HeatAllowed s.grant := h

/-- A cycle ends in a grant where a permit was armed and nothing missing at its end, or it turns no permit on. -/
theorem smCycle_grants_or_keeps (s : State) (levels : BitVec 8) (a b : Nat) :
    (∃ u : State, s.smCycle levels a b = u.grant ∧ u.safe.permit = .armed ∧ u.missing = 0) ∨ PermitKept s (s.smCycle levels a b) := by
  unfold State.smCycle
  extract_lets timed sampled aired judged asked
  have hTimed : PermitKept s timed := PermitKept.ite PermitKept.rfl id
  have hSampled : PermitKept s sampled := PermitKept.each hTimed fun u i => siCycle_permit u i _ _
  have hAired : PermitKept s aired := State.estopFollow_permit _ ((State.mSafe_permit _ _ (fun _ on => on) hSampled).trans (airCycle_permit _))
  have hJudged : PermitKept s judged :=
    (((hAired.trans (hpSample_permit _ a b)).trans (heatMapInject_permit _)).trans (relInject_permit _)).trans (onCycle_permit _)
  have hAsked : PermitKept s asked := PermitKept.ite (State.proofAbort_permit _ hJudged) hJudged
  split
  case isTrue h =>
    simp only [Bool.and_eq_true, beq_iff_eq] at h
    obtain ⟨⟨armed, nothing⟩, -⟩ := h
    exact .inl ⟨asked, rfl, armed, nothing⟩
  case isFalse => exact .inr hAsked

theorem smCycle_turnsOn {s : State} {levels : BitVec 8} {a b : Nat} (off : s.safe.permit ≠ .on)
    (on : (s.smCycle levels a b).safe.permit = .on) : HeatAllowed (s.smCycle levels a b) := by
  obtain ⟨u, grants, armed, nothing⟩ | keeps := smCycle_grants_or_keeps s levels a b
  · rw [grants]
    exact (heatAllowed_of_missing_eq_zero (armed ▸ Permit.noConfusion) nothing).grant
  · exact absurd (keeps on) off

/-- SM has to be up for its cycle to do anything. -/
theorem execSmCycle_turnsOn {dt : Nat} {levels : BitVec 8} {a b : Nat} {s t : State} (next : execSmCycle dt levels a b s = .next t)
    (off : s.safe.permit ≠ .on) (on : t.safe.permit = .on) : s.pow.smUp = true ∧ HeatAllowed t := by
  obtain rfl := Host.Outcome.next.inj next
  split at on
  case isTrue up => rw [if_pos up]; exact ⟨up, smCycle_turnsOn off on⟩
  case isFalse => exact absurd on off

/-! ### Every other command -/

/-- A command that does not touch SM's part keeps the permit. -/
theorem exec_permit_of_untouched {i : Instr} (s : State) (h : (touches i).contains .safe = false) :
    ∃ u, exec i s = .next u ∧ PermitKept s u := by
  obtain ⟨u, next, only⟩ := exec_touches i s
  exact ⟨u, next, PermitKept.skip only (by simpa using h) PermitKept.rfl⟩

/-- The named cases are the commands that touch SM's part. -/
theorem exec_permit (i : Instr) (s : State) (noCycle : ∀ dt levels a b, i ≠ .smCycle dt levels a b) :
    ∃ u, exec i s = .next u ∧ PermitKept s u := by
  cases i with
  | smCycle dt levels a b => exact absurd rfl (noCycle dt levels a b)
  | vsLogicPowerUp dt => exact execVsLogicPowerUp_permit dt s
  | smStart dt selfOk => exact execSmStart_permit dt selfOk s
  | vsLogicPowerDown dt => exact execVsLogicPowerDown_permit dt s
  | vsLogicRecoverInPowerDown dt => exact execVsLogicRecoverInPowerDown_permit dt s
  | vsPowerUndervoltage dt => exact execVsPowerUndervoltage_permit dt s
  | vsPowerOvervoltage dt => exact execVsPowerOvervoltage_permit dt s
  | clkFault dt => exact execClkFault_permit dt s
  | fullReset dt => exact execFullReset_permit dt s
  | mossShutdown dt => exact execMossShutdown_permit dt s
  | wakeSymbolRx dt port => exact execWakeSymbolRx_permit dt port s
  | di00Wake dt rising => exact execDi00Wake_permit dt rising s
  | svcWake dt => exact execSvcWake_permit dt s
  | controlTick meas => exact execControlTick_permit meas s
  | coreWatchdogFail dt => exact execCoreWatchdogFail_permit dt s
  | processTick => exact execProcessTick_permit s
  | frameReceive dt lane body hop ending => exact execFrameReceive_permit dt lane body hop ending s
  | needleTake q flags timeout => exact execNeedleTake_permit q flags timeout s
  | needleGiveRelease q => exact execNeedleGiveRelease_permit q s
  | needleGiveLichen q => exact execNeedleGiveLichen_permit q s
  | hostTimeoutExpire => exact execHostTimeoutExpire_permit s
  | checkSlotEnd dt group zero ref => exact execCheckSlotEnd_permit dt group zero ref s
  | conversionEnd dt ch raw clamp => exact execConversionEnd_permit dt ch raw clamp s
  | offStateSample dt ch vDh vDl => exact execOffStateSample_permit dt ch vDh vDl s
  | drvShortSupDetect dt ch x => exact execDrvShortSupDetect_permit dt ch x s
  | drvShortLoadDetect dt ch x => exact execDrvShortLoadDetect_permit dt ch x s
  | drvShortGndDetect dt ch x => exact execDrvShortGndDetect_permit dt ch x s
  | lichenHeatExpire dt => exact execLichenHeatExpire_permit dt s
  | thermSample dt t => exact execThermSample_permit dt t s
  | thermalShutdown dt => exact execThermalShutdown_permit dt s
  | testOutputPulse dt ofB own other => exact execTestOutputPulse_permit dt ofB own other s
  | siDiscrepancy dt input => exact execSiDiscrepancy_permit dt input s
  | hpTestPulse dt ofB v => exact execHpTestPulse_permit dt ofB v s
  | hpOpenDetect dt ofB ua ns => exact execHpOpenDetect_permit dt ofB ua ns s
  | airflowLoss dt => exact execAirflowLoss_permit dt s
  | airOkDisagree dt group => exact execAirOkDisagree_permit dt group s
  | flameOffTimeout dt => exact execFlameOffTimeout_permit dt s
  | flameProveTimeout dt => exact execFlameProveTimeout_permit dt s
  | smLockstepMismatch dt => exact execSmLockstepMismatch_permit dt s
  | smEccError dt => exact execSmEccError_permit dt s
  | smWatchdogMiss dt ns => exact execSmWatchdogMiss_permit dt ns s
  | hpBEnableStatic dt => exact execHpBEnableStatic_permit dt s
  | scrcRecheck dt good => exact execScrcRecheck_permit dt good s
  | permitRequest q => exact execPermitRequest_permit q s
  | permitDrop q => exact execPermitDrop_permit q s
  | safeConfigWrite q image => exact execSafeConfigWrite_permit q image s
  | safeConfigConfirm q scrc => exact execSafeConfigConfirm_permit q scrc s
  | safeConfigExpire dt => exact execSafeConfigExpire_permit dt s
  | proofTestPermit q => exact execProofTestPermit_permit q s
  | proofTestRelease q => exact execProofTestRelease_permit q s
  | proofTestReport q => exact execProofTestReport_permit q s
  | proofTestDone dt pass fstep detail => exact execProofTestDone_permit dt pass fstep detail s
  | safeReset q mask => exact execSafeReset_permit q mask s
  | ptAgeDay dt => exact execPtAgeDay_permit dt s
  | smRestartDone dt testOk => exact execSmRestartDone_permit dt testOk s
  | _ => exact exec_permit_of_untouched s rfl

theorem step_of_pending {c : Instr} {rest : List Instr} {s : State} (h : s.pending = c :: rest) : step s = exec c { s with pending := rest } := by
  rw [step, h]

/-- Settles O58: a command but SM's cycle turns no permit on, and a cycle turns it on only by a grant, which asks that nothing is missing. -/
theorem permitOnlyFromSm : Obligations.PermitOnlyFromSm := by
  unfold Obligations.PermitOnlyFromSm
  intro c rest s t front next off on
  rw [step_of_pending front] at next
  by_cases cycle : ∃ dt levels a b, c = .smCycle dt levels a b
  · obtain ⟨dt, levels, a, b, rfl⟩ := cycle
    exact ⟨⟨dt, levels, a, b, rfl⟩, execSmCycle_turnsOn (s := { s with pending := rest }) next off on⟩
  · push Not at cycle
    obtain ⟨u, next', keeps⟩ := exec_permit c { s with pending := rest } cycle
    obtain rfl := Host.Outcome.next.inj (next'.symm.trans next)
    exact absurd (keeps on) off

end Sys2Proof.Proofs.PermitSource
end
